-- ==== Sys2Proof/Word.lean ====
section
/-! DEFINITION. Words, bytes and the sparse maps that the state is made of. -/

namespace Sys2Proof

/-- A register or bus word: all registers are 32 bits wide (chapter 00, "Registers"). -/
abbrev Word := BitVec 32

/-- One byte of a buffer, a flit or a record. -/
abbrev Byte := BitVec 8

/-- A sparse table: pairs of a number and an entry, numbers strictly rising, no entry equal to what an
unlisted number reads as (`Machine/Bits.lean`: `mget`, `mset`). -/
abbrev SMap (α : Type) := List (Nat × α)

end Sys2Proof
end

