-- ==== Sys2Proof/Syntax.lean ====
section
/-! DEFINITION. The commands of the block and their operands. -/

namespace Sys2Proof

/-- Who sends a register access or a request (R53, R286). -/
inductive Who where
  /-- Physical function `n` of the host port (initiator 4). -/
  | pf (n : Nat)
  /-- The supervisor (initiator 0). -/
  | supervisor
  /-- The configuration loader (initiator 1). -/
  | loader
  /-- The scrubber (initiator 2). -/
  | scrubber
  /-- The preflight controller (initiator 3). -/
  | preflight
  /-- The interrupt controller, for a message write of a target of the given world (initiator 5, R341). -/
  | intc (secure : Bool)
  /-- An operation of a Bridle action, for the track whose mark fired (initiator 6). -/
  | bridle (track : Nat)
  /-- Spool channel `ch` (initiator 7 + engine). -/
  | spool (ch : Nat)
  /-- Tether port `p`, with the world attribute that the request carries (initiator 11 + p). -/
  | tether (p : Nat) (secure : Bool)
  /-- Fabric initiator port, by its initiator number 26 to 89. -/
  | fabric (init : Nat)
  /-- A packet of initiator `init` whose world its NS bit has fixed (R291): a doorbell that a field of page `page` rings, or a packet that
  has entered through a Tether port (page 0). -/
  | packet (init page : Nat) (secure : Bool)
  deriving DecidableEq, Repr

/-- A register access: its sender and the byte enables it carries (R43). For a write, `same` is what the hardware has done to the
register in the write's own cycle (R11): the W1C bits that it has set and, in a counter's bits, the number of events counted. -/
structure Access where
  who : Who
  be : BitVec 4 := 15
  same : Word := 0
  deriving DecidableEq, Repr

/-- A copy (0 to 2) of a clock triad at one crossing (R31). -/
structure TriadBond where
  crossing : Nat
  copy : Nat
  deriving DecidableEq, Repr

/-- A vertical bond group: column, crossing, class code of R21 and index within the class (R24). -/
structure GroupId where
  column : Nat
  crossing : Nat
  cls : Nat
  index : Nat
  deriving DecidableEq, Repr

/-- An edge of a clock at one instant. -/
inductive ClkEdge where
  | none | rise | fall
  deriving DecidableEq, Repr

/-- The clock of a control set (R72): the panel clock, or local clock input L0 or L1 of the cluster. -/
inductive ClkSel where
  | panel | l0 | l1
  deriving DecidableEq, Repr

/-- A control set of a cluster (R72): its clock and the clock's inversion, what its CE and SR carry, and SR_MODE. -/
structure ControlSet where
  clk : ClkSel := .panel
  inv : Bool := false
  ce : Bool := true
  sr : Bool := false
  async : Bool := false
  deriving DecidableEq, Repr

/-- How the plane sets up a flip-flop (R71, R72): its D source (0 O6, 1 O5A or O5B, 2 S, 3 BX or BY), whether it uses control set 1,
and SR_VALUE. -/
structure FlopIn where
  src : Nat := 0
  set1 : Bool := false
  srValue : Bool := false
  deriving DecidableEq, Repr

/-- A logic element: its mask and mode, its inputs (R67 to R69), and its two flip-flops (R71). -/
structure LeIn where
  mask : BitVec 64
  fractured : Bool := false
  carry : Bool := false
  i : BitVec 6 := 0
  bx : Bool := false
  by_ : Bool := false
  ff0 : FlopIn := {}
  ff1 : FlopIn := {}
  deriving DecidableEq, Repr

/-- CI of the first LE of a cluster (R69): a routing input or a constant where a chain begins, or CO of the cluster before it. -/
inductive CarryIn where
  | source (b : Bool)
  | chain
  deriving DecidableEq, Repr

/-- Where a local clock comes from (R76): the panel's own wires, an Edge or Span wire of panel `q`, or riser `r`. -/
inductive ClockFrom where
  | inside
  | panel (q : Nat)
  | riser (r : Nat)
  deriving DecidableEq, Repr

/-- A cluster at one instant (R64, R72, R76): its control sets, the edges at its local clock inputs and where these come from, its CI, and
its LEs from the first on. -/
structure ClusterIn where
  set0 : ControlSet := {}
  set1 : ControlSet := {}
  l0 : ClkEdge := .none
  l1 : ClkEdge := .none
  carry : CarryIn := .source false
  les : List LeIn
  l0From : ClockFrom := .inside
  l1From : ClockFrom := .inside
  deriving DecidableEq, Repr

/-- Slice modes (R87). -/
inductive SliceMode where
  | int | dual | quad | fp32
  deriving DecidableEq, Repr

/-- CASC_SEL of slice 0 (R95). -/
inductive CascSel where
  | none | west | east | riser14 | riser15
  deriving DecidableEq, Repr

/-- A multiply-accumulate slice at an edge: what the plane sets (R87, R90, R95) and what its inputs carry (R86, R88, R89, R92). -/
structure SliceIn where
  mode : SliceMode
  mrSigned : Bool := false
  signedMc : Bool := false
  signedMr : Bool := false
  sat : Bool := false
  cascSel : CascSel := .none
  mc : BitVec 32 := 0
  mr : BitVec 32 := 0
  ad : BitVec 32 := 0
  pa : BitVec 27 := 0
  enIn : Bool := false
  enPd : Bool := false
  enAc : Bool := false
  accOp : Nat := 7
  preSel : Nat := 0
  flagClr : Bool := false
  deriving DecidableEq, Repr

/-- The write port of a pocket RAM at an edge of its clock (R79, R81): its width, word address, data and byte enables. -/
structure PramWrite where
  width : Nat
  addr : Nat
  data : BitVec 64
  be : Nat := 255
  /-- The port is clocked by a local clock, which comes from there. -/
  loc : Bool := false
  from_ : ClockFrom := .inside
  deriving DecidableEq, Repr

/-- The read port of a pocket RAM at an edge of its clock (R79, R81): its width and word address, whether the plane enables checking, and
whether the output register is selected. -/
structure PramRead where
  width : Nat
  addr : Nat
  check : Bool := false
  outReg : Bool := false
  loc : Bool := false
  from_ : ClockFrom := .inside
  deriving DecidableEq, Repr

/-- What the fabric presents to one resource of a panel at one instant. The plane's configuration bits are not given a layout by the spec
(R132), so the logic's values arrive with the edge. -/
inductive CellEdge where
  /-- Cluster `k`. -/
  | cluster (k : Nat) (x : ClusterIn)
  /-- Slice `k`. -/
  | slice (k : Nat) (x : SliceIn)
  /-- The register file of context-local words (R84), that of quarter `q` in quarter mode: the write port, and the two read ports. -/
  | words (q : Nat) (wr : Option (Nat × BitVec 32)) (rd0 rd1 : Option Nat)
  /-- Pocket RAM `m` (R79, R80): its ports, and whether they run on different clocks and meet within the collision window. -/
  | pram (m : Nat) (wr : Option PramWrite) (rd : Option PramRead) (meet : Bool)
  deriving DecidableEq, Repr

/-- What a panel receives at one instant: the edge of its panel clock, what each resource receives, and CPR of its interrupt target port
where that has changed (R345). -/
structure PanelStep where
  panel : Nat
  clk : ClkEdge := .rise
  cells : List CellEdge := []
  cpr : Option Nat := none
  deriving DecidableEq, Repr

/-- One instant at a panel, as for `PanelStep`, and at the other panels that step together with it. -/
structure FabricStep where
  clk : ClkEdge := .rise
  cells : List CellEdge := []
  cpr : Option Nat := none
  others : List PanelStep := []
  deriving DecidableEq, Repr

/-- An edge of the panel clock at one panel at which a plane is switched or a context is swapped: the instants at the panel since it last
stepped, what its resources and the other panels receive at the edge, and whether a local clock edge that is not listed fell inside the gate
of R78 beside it. -/
structure PanelEdge where
  panel : Nat
  before : List FabricStep := []
  cells : List CellEdge := []
  lclk : Bool := false
  cpr : Option Nat := none
  others : List PanelStep := []
  deriving DecidableEq, Repr

/-- Bits upset in the stored copies of a row of the context store (R158): its slot, its row, and the inverted cells of copy
A and of copy B. -/
structure RowUpset where
  slot : Nat
  row : Nat
  a : BitVec 2048 := 0
  b : BitVec 2048 := 0
  deriving DecidableEq, Repr

/-- The quarters of a panel whose incoming rows, and those whose outgoing rows, waited for the other panel (R168). -/
structure SwapWaits where
  load : Nat
  save : Nat
  deriving DecidableEq, Repr

/-- A save of the unsaved outgoing rows of panel `p`; those of the quarters `waited` waited for the other panel (R168). -/
structure SavePass where
  p : Nat
  waited : Nat
  deriving DecidableEq, Repr

/-- A POSITION word (R191): whether its kind is the reserved TKIND = 3 in place of 0, and its TPOS. -/
structure PosWord where
  reserved : Bool
  pos : BitVec 64
  deriving DecidableEq, Repr

/-- How the test of a context-store row ends (R275): passed, failed, or without a result because the row was saved to. -/
inductive RowTest where
  | passed | failed | saved
  deriving DecidableEq, Repr

/-- A request for a device state (R471) and what the clocks of the panels do in the edges that come before root 337 closes. -/
structure HoldReq where
  a : Access
  edges : List PanelEdge
  deriving DecidableEq, Repr

/-- An eye measured by the monitor or on the data path (R363): width in 1/64 UI and heights in mV. -/
structure Eye where
  width : BitVec 6 := 0
  h0 : BitVec 8 := 0
  h1 : BitVec 8 := 0
  h2 : BitVec 8 := 0
  deriving DecidableEq, Repr

/-- What a PCI Express link has trained to (R341, R371): its RATE code, the lanes whose receive direction is precoded, and the taps that the
partner has requested; the lanes whose transmit direction is precoded; and for each lane the eyes that the partner's presets 0 to 10 gave
in equalisation phase 2. -/
structure PcieRate where
  rate : Nat
  precode : BitVec 16
  ffe : List Word
  txPrecode : BitVec 16 := 0
  eyes : List (List Eye) := []
  deriving DecidableEq, Repr

/-- What is wrong with a bank line when it is read: its number 8,192 b + l, the bits of its 528-bit codeword that have inverted
in the cells since the last access (R254), and how many reads of it in a row fail on the path (R28, R266). -/
structure LineFault where
  line : Nat
  flips : BitVec 528 := 0
  path : Nat := 0
  deriving DecidableEq, Repr

/-- The request that a bank serves: the oldest waiting request of the bank port of panel `p` (R256), or a rigging or host
access of `size` bytes at a BAR2 address (R253). -/
inductive BankReq where
  | port (p : Nat)
  | rig (who : Who) (addr size : Nat)
  deriving DecidableEq, Repr


/-- The straps (R468). -/
structure Straps where
  compatMode : Bool := false
  xaSel : Nat := 0
  xbSel : Nat := 0
  devId : Nat := 0
  bootSrc : Nat := 0
  pcieW : Nat := 0
  jtagExt : Bool := false
  deriving DecidableEq, Repr

/-- What a target that the packet reaches answers where it lies outside the device or in user logic: status code (R293) and read bytes;
and, where it is a register segment, what the hardware does in the write's own cycle to each word that is written (R11). -/
structure ExtResp where
  code : Nat := 0
  data : List Byte := []
  same : List Word := []
  deriving DecidableEq, Repr

/-- What an engine does with accesses of a channel (R314, R315, R322): it issues them, or takes their answers. -/
inductive EngAct where
  | issue | take
  deriving DecidableEq, Repr

/-- A flit of packet `packet` that a node forwards: the first of the `place`-th buffer that holds flits of it, its header's buffer
being number 0 (R294, R296). -/
structure FlitRef where
  packet : Nat
  place : Nat := 0
  deriving DecidableEq, Repr

/-- What CHECK shows of a header flit (R298): no error, a single-bit error, an uncorrectable one. -/
inductive HdrCheck where
  | good | corrected | bad
  deriving DecidableEq, Repr

/-- Where a request goes (R288): host space, the address space of the array, or a fabric target port, whose window the image places
(log entry 18). -/
inductive RigDest where
  | host (addr : Nat)
  | array (addr : Nat)
  | port (target addr : Nat)
  deriving DecidableEq, Repr


/-- The commands of the block: one constructor per row of spec/opcode_table.json, in the table's order, those with operands first. -/
inductive Instr where
  /-- REGISTER_WRITE (R7). A write to a register that has no row of its own, range-checked and applied or rejected whole. -/
  | registerWrite (a : Access) (addr : Nat) (v : Word)
  /-- PAGE_RESET (R48). A write of the PAGE_RESET key starts a function reset of the page's block and sets BUSY. -/
  | pageReset (a : Access) (pg : Nat)
  /-- PAGE_RESET_DONE (R48). A function reset completes within 100 µs and BUSY clears. -/
  | pageResetDone (pg : Nat)
  /-- EXPERT_UNLOCK (R50). A write of 0x0000_E0E0 to PAGE_EXPERT unlocks the expert registers. -/
  | expertUnlock (a : Access) (pg : Nat)
  /-- EXPERT_LOCK (R50). A write of 0 to PAGE_EXPERT locks the expert registers. -/
  | expertLock (a : Access) (pg : Nat)
  /-- PAGE_WORLD_WRITE (R46). A write to PAGE_WORLD sets SECURE and then LOCK, under the RWL rule. -/
  | pageWorldWrite (a : Access) (pg : Nat) (v : Word)
  /-- LEGACY_CHANGE (R63). A write changes PAGE_COMPAT.LEGACY of INTC 0 or a Spool engine, and counters or formats change with it. -/
  | legacyChange (a : Access) (pg : Nat) (legacy : Bool)
  /-- PART_RESET (R60). A keyed PART_RESET write starts the reset of partition n. -/
  | partReset (a : Access) (v : Word)
  /-- FUNCTION_LEVEL_RESET (R470). A PCI Express FLR of PF n resets partition n and the function state. -/
  | functionLevelReset (n : Nat)
  /-- PART_RESET_DONE (R60). A partition reset completes within 100 µs and its BUSY bit clears. -/
  | partResetDone (n : Nat)
  /-- PARITY_MISMATCH (R25). The check spare of a bond group shows a parity mismatch; the counter and event are set and a probe is scheduled. -/
  | parityMismatch (g : GroupId)
  /-- GROUP_PROBE (R26). A triggered or background probe checks each signal of a bond group against spares. -/
  | groupProbe (g : GroupId) (misses : List (Nat × Nat))
  /-- CLOCK_COPY_FAILED (R31). A triad copy that disagrees for 8 edges is declared failed. -/
  | clockCopyFailed (c : Nat) (triad : Nat) (copy : TriadBond)
  /-- BOND_CENSUS (R33). After P or C, the census applies the fuse map, tests every bond and triad, and sets STACK_CENSUS. -/
  | bondCensus (found : List (GroupId × Nat)) (copies : List (Nat × Nat × TriadBond))
  /-- SUPV_REROUTE (R303). The supervisor routes around a dead mast crossing by a route-epoch change within 200 µs. -/
  | supvReroute (edits : List (Nat × Nat × Nat))
  /-- PRAM_HOST_READ (R83). A read of PRAM_HOST_DATA returns a checked pocket RAM word while CLK_RUN = 0. -/
  | pramHostRead (a : Access) (p : Nat)
  /-- PRAM_HOST_WRITE (R83). A write of PRAM_HOST_DATA stores a pocket RAM word with check bits while CLK_RUN = 0. -/
  | pramHostWrite (a : Access) (p : Nat) (v : Word)
  /-- RISER_CONFLICT (R119). Both ends drive a riser for 0.20 ns or more; the riser cell turns both drivers off and holds the riser. -/
  | riserConflict (c r durPs : Nat) (v : Bool)
  /-- RISER_RELEASE (R120). A write of 1 to a RISER_HELD bit releases that held riser. -/
  | riserRelease (a : Access) (c w : Nat) (v : Word)
  /-- RISER_CONFLICT_CLEAR (R120). A write of 1 to RISER_CONFLICT.FLAG releases every held riser of the column and clears the conflict record. -/
  | riserConflictClear (a : Access) (c : Nat)
  /-- PLANE_REQ (R142). A panel's fabric plane-request port issues a switch or prefetch for a panel group. -/
  | planeReq (p group plane : Nat) (prefetch defer : Bool)
  /-- PLANE_CMD (R150). A write to PANEL_PLANE_CMD issues a switch or prefetch for a panel group. -/
  | planeCmd (a : Access) (p : Nat) (v : Word)
  /-- PLANE_FILL_DONE (R136). A fill of 144 Spar cycles ends and the shadow becomes READY or FAILED. -/
  | planeFillDone (p : Nat) (mis1 mis2 : List Nat)
  /-- PLANE_SWITCH (R140). At the switching edge, the active and shadow banks of every ready member exchange roles. -/
  | planeSwitch (forced : Bool) (id : Nat) (edges : List PanelEdge)
  /-- SWITCH_DEFER_TIMEOUT (R144). A pending switch not applied within DEFER_LIMIT µs is discarded and counted in PLANE_SKIP. -/
  | switchDeferTimeout (g : Nat)
  /-- SCRUB_PASS (R147). Every SCRUB_PERIOD, the scrubber reads every valid Spar frame and checks its signature. -/
  | scrubPass (upsets : List (Nat × BitVec 4608 × Bool)) (ms : Nat)
  /-- FRAME_REPAIR_DONE (R149). A frame repair completes, is logged, and restarts any fill still pending on the slot. -/
  | frameRepairDone (f : Nat)
  /-- REPAIR_TIMEOUT (R149). A repair not done within SCRUB_REPAIR_TIMEOUT leaves the frame bad and is counted. -/
  | repairTimeout (f : Nat)
  /-- SAIL_READBACK (R148). Once per millisecond, a panel's active and shadow banks are read back and compared. -/
  | sailReadback (p : Nat) (upsets : List (Bool × Nat))
  /-- CTX_PORT_REQ (R166). A panel's fabric context port issues a swap request. -/
  | ctxPortReq (p qmask : Nat) (ring : Bool) (index : Nat) (defer : Bool)
  /-- CTX_CMD (R164). A write to PANEL_CTX_CMD issues a swap request. -/
  | ctxCmd (a : Access) (p : Nat) (v : Word)
  /-- SWAP_ACCEPT (R165). A swap request is accepted at its Ballast acceptance edge. -/
  | swapAccept (p : Nat) (sel : List Nat)
  /-- CONTEXT_LOAD (R167). Incoming rows climb the row path into the shadow cells. -/
  | contextLoad (p : Nat) (upsets : List RowUpset) (parity : List Nat) (waited : SwapWaits)
  /-- SWAP_EDGE (R167). At the swap edge, the live and shadow cells of the selected quarters exchange. -/
  | swapEdge (p m : Nat) (edge : PanelEdge)
  /-- CONTEXT_SAVE (R167). Outgoing rows descend the row path into both copies of the outgoing slot. -/
  | contextSave (pass : SavePass)
  /-- SWAP_DEFER_TIMEOUT (R175). A held deferrable swap not accepted within DEFER_LIMIT is discarded and counted in CTX_SKIP_CNT. -/
  | swapDeferTimeout (p : Nat)
  /-- CTX_ACC_READ (R179). A CTX_ACC_CMD READ starts reading a stored row into the row buffer. -/
  | ctxAccRead (a : Access) (c : Nat) (v : Word)
  /-- CTX_ACC_WRITE (R179). A CTX_ACC_CMD WRITE starts storing the row buffer to both copies of a row. -/
  | ctxAccWrite (a : Access) (c : Nat) (v : Word)
  /-- CTX_ACC_DONE (R179). A context-store command ends in a free Ballast cycle and reports its RESULT. -/
  | ctxAccDone (c : Nat) (upsets : List RowUpset)
  /-- CTX_BUF_DATA_WRITE (R41). A write to CTX_BUF_DATA writes a row-buffer word under the holder rule. -/
  | ctxBufDataWrite (a : Access) (c : Nat) (v : Word)
  /-- CTX_BUF_DATA_READ (R41). A read of CTX_BUF_DATA returns a row-buffer word to the holder and advances WORD under AUTOINC. -/
  | ctxBufDataRead (a : Access) (c : Nat)
  /-- CTX_SPLIT_WRITE (R156). A write to CTX_SPLIT re-divides the column's slots and resets NEXT. -/
  | ctxSplitWrite (a : Access) (c : Nat) (v : Word)
  /-- TRACK_ENABLE (R186). Setting TRK_CTRL.ENABLE starts a track in ACQUIRE or RUN. -/
  | trackEnable (a : Access) (k : Nat)
  /-- TRACK_DISABLE (R201). Clearing TRK_CTRL.ENABLE puts the track in DISABLED. -/
  | trackDisable (a : Access) (k : Nat)
  /-- TRACK_RESTART (R201). A RESTART write takes a track from FAULT to ACQUIRE. -/
  | trackRestart (a : Access) (k : Nat)
  /-- FORCE_FAULT (R199). A FORCE_FAULT write puts the track in FAULT with cause SOFTWARE. -/
  | forceFault (a : Access) (k : Nat)
  /-- TRACK_PRESET (R206). A PRESET write sets the position to TRK_PRESET and refills the comparators. -/
  | trackPreset (a : Access) (k : Nat)
  /-- QUAD_EDGE (R187). A filtered A or B change, which leaves the filtered levels at `A` and `B` and occurred `ago` ns before, is decoded
  and counted as a QUAD sample. -/
  | quadEdge (k : Nat) (A B : Bool) (ago : Nat)
  /-- PULSE_EDGE (R187). An active pulse edge, `ago` ns before, with PIN_B at `B`, counts ±1 on a PULSE_DIR track. -/
  | pulseEdge (k : Nat) (B : Bool) (ago : Nat)
  /-- PERIOD_EDGE (R190). An active zero-crossing edge, `ago` ns before, places a PERIOD track at TRK_REF. -/
  | periodEdge (k ago : Nat)
  /-- Z_EDGE (R189). A rising Z edge latches, checks or homes a QUAD track. -/
  | zEdge (k : Nat)
  /-- TRACK_POSITION_WORD (R191). A POSITION word on a fabric track port samples a FABRIC track; one of the reserved kind TKIND = 3
  every track discards. -/
  | trackPositionWord (p k : Nat) (val : PosWord)
  /-- TIME_STEP_WORD (R193). A TIME_STEP word on a fabric track port steps a TIME track. -/
  | timeStepWord (p k : Nat) (val : BitVec 64)
  /-- TIME_RATE_WORD (R193). A TIME_RATE word on a fabric track port sets a TIME track's rate. -/
  | timeRateWord (p k : Nat) (val : BitVec 64)
  /-- TIME_STEP_WRITE (R193). A write to TRK_TIME_STEP_HI adds its offset to a TIME track. -/
  | timeStepWrite (a : Access) (k : Nat) (v : Word)
  /-- TRACK_PORT_READ (R191). A track port read returns position, velocity and state at panel edge t + 2. -/
  | trackPortRead (p k : Nat)
  /-- KEEP_ALIVE (R188). A decoder with no edge sends a keep-alive every 1 µs to feed the coast timer. -/
  | keepAlive (k : Nat)
  /-- COAST_EXPIRY (R198). No accepted sample or keep-alive for COAST µs puts the track in FAULT. -/
  | coastExpiry (k : Nat)
  /-- STALE_EXPIRY (R198). No position change for STALE µs sets the velocity to 0 and the track STILL. -/
  | staleExpiry (k : Nat)
  /-- RANGE_OVERFLOW (R181). A linear estimate leaves its range, saturates and faults with cause RANGE. -/
  | rangeOverflow (k : Nat)
  /-- TRACK_SNAPSHOT (R183). A read of TRK_POS_LO captures a coherent snapshot of position, velocity and time. -/
  | trackSnapshot (a : Access) (k : Nat)
  /-- BRIDLE_NS_CAPTURE (R205). A read of BRIDLE_NS_LO captures BRIDLE_NS_HI. -/
  | bridleNsCapture (a : Access)
  /-- Z_LATCH_CAPTURE (R206). A read of TRK_Z_LATCH_LO captures TRK_Z_LATCH_HI. -/
  | zLatchCapture (a : Access) (k : Nat)
  /-- STAGED_PAIR_WRITE (R183). A write to an _HI register applies the staged _LO word and the pair together. -/
  | stagedPairWrite (a : Access) (k off : Nat) (v : Word)
  /-- SAVE_TRACKS (R205). A SAVE_TRACKS write commits the TRACKS record from the current track pages. -/
  | saveTracks (a : Access)
  /-- ERASE_TRACKS (R205). An ERASE_TRACKS write erases the TRACKS record. -/
  | eraseTracks (a : Access)
  /-- MARK_STAGE (R210). A write to words 1–6 of a mark entry is staged for the writing initiator. -/
  | markStage (a : Access) (i w : Nat) (v : Word)
  /-- MARK_COMMIT (R210). A write to word 0 commits a mark entry from the staged words, or is rejected. -/
  | markCommit (a : Access) (i : Nat) (v : Word)
  /-- ACTION_STAGE (R217). A write to words 1–15 of an action entry is staged for the writing initiator. -/
  | actionStage (a : Access) (e w : Nat) (v : Word)
  /-- ACTION_COMMIT (R217). A write to word 0 commits an action entry after slot checks. -/
  | actionCommit (a : Access) (e : Nat) (v : Word)
  /-- MARK_RANGE_WRITE (R230). A write to BRIDLE_MARK_RANGE sets a track's mark range after checks. -/
  | markRangeWrite (a : Access) (k : Nat) (v : Word)
  /-- MARK_CROSSING (R211). The estimate crosses an armed mark, which fires and enters the action queue. -/
  | markCrossing (k m : Nat)
  /-- PREDICTIVE_COMMIT (R225). A predictive mark commits when the time to its position falls within LEAD. -/
  | predictiveCommit (k m : Nat)
  /-- PREDICT_LOCK (R226). The predicted instant of a committed mark locks and its PIN edge is placed. -/
  | predictLock (k m : Nat)
  /-- COMPARATOR_REFILL (R214). The sequencer loads the next mark into an emptied comparator or refills them from the estimate. -/
  | comparatorRefill (k : Nat)
  /-- PIN_EDGE (R220). A scheduled edge reaches its instant and drives a precision pin. -/
  | pinEdge (n : Nat)
  /-- STAGE_DATA_WRITE (R221). A write to BRIDLE_STAGE_DATA acts as a STAGE operation. -/
  | stageDataWrite (a : Access) (v : Word)
  /-- STAGE_PORT_READ (R221). A stage port read returns a stage register and its sequence at edge t + 2. -/
  | stagePortRead (p reg : Nat)
  /-- GOV_ALIGN (R233). A write of 1 to GOV_CTRL.ALIGN starts a new stagger window. -/
  | govAlign (a : Access) (mode : Bool)
  /-- TEMP_CONVERSION (R237). Every 20 µs the column sensors are converted and WARN, HOT and release are judged. -/
  | tempConversion (readings : List (Nat × Int × Int × Int × Int))
  /-- FORCED_SWITCH (R239). The governor issues a pinned switch of the hotter panel to its COOL plane. -/
  | forcedSwitch (c : Nat)
  /-- GOV_RESUME (R240). A write of 1 to GOV_CTRL.RESUME wakes the Sails after a trip. -/
  | govResume (a : Access) (mode : Bool)
  /-- PREFETCH_DEFER_TIMEOUT (R242). A held prefetch not admitted within DEFER_LIMIT is abandoned and counted. -/
  | prefetchDeferTimeout (p : Nat)
  /-- BANK_PORT_REQ (R256). A panel's bank port issues a read or write to its bank. -/
  | bankPortReq (p : Nat) (we : Bool) (addr size tag : Nat) (wdata : List Byte)
  /-- BANK_PORT_RESPONSE (R257). A bank port response is presented with its tag and code. -/
  | bankPortResponse (p : Nat)
  /-- BANK_READ (R266). A bank read is checked, refetched or repaired from the mirror, or poisoned. -/
  | bankRead (q : BankReq) (faults : List LineFault)
  /-- BANK_WRITE (R265). A bank write is stored, by read-modify-write when narrow. -/
  | bankWrite (q : BankReq) (data : List Byte) (faults : List LineFault)
  /-- MIRROR_REPAIR_WRITE (R266). A bad line is rewritten from its twin copy at the next idle cycle. -/
  | mirrorRepairWrite (b line : Nat)
  /-- BANK_HANDOVER (R261). A write to BANK_HANDOVER starts moving a bank to a new owner. -/
  | bankHandover (a : Access) (v : Word)
  /-- RETIRE_PAGE (R273). A BANK_RETIRE write retires one 64 KiB page of a bank. -/
  | retirePage (a : Access) (b page : Nat)
  /-- RETIRE_BANK (R273). A BANK_RETIRE write with WHOLE = 1 retires a whole bank. -/
  | retireBank (a : Access) (b : Nat)
  /-- MIRROR_CTRL_WRITE (R271). A write to BANK_MIRROR_CTRL changes a twin's mirror mode, partner or pages. -/
  | mirrorCtrlWrite (a : Access) (v : Word)
  /-- MIRROR_SYNC_DONE (R270). The copy of a newly mirrored page completes and its SYNCED bit sets. -/
  | mirrorSyncDone (grp page : Nat)
  /-- BANK_BLOCK_TEST (R275). Every BANK_TEST_PERIOD, the next 4 KiB block of a bank is saved and March-tested. -/
  | bankBlockTest (b : Nat)
  /-- BANK_TEST_DONE (R275). A block test ends, its lines are written back and any failure is logged. -/
  | bankTestDone (b : Nat) (fail : Option Nat)
  /-- CTX_STORE_TEST (R275). Every BANK_CTX_TEST_PERIOD, one context-store row is tested in free cycles. -/
  | ctxStoreTest (c : Nat) (res : RowTest)
  /-- BANK_INIT_DONE (R276). A bank's initialisation completes and the bank becomes READY. -/
  | bankInitDone (b : Nat)
  /-- RIG_REQUEST (R299). An initiator interface decodes, splits and injects a request with a tag. -/
  | rigRequest (who : Who) (dest : RigDest) (write : Bool) (size : Nat) (data : List Byte)
  /-- RIG_HOP (R295). A node forwards a packet header along its route and writes the next LA_PORT, or a flit that follows one. -/
  | rigHop (flit : FlitRef) (hdr : HdrCheck) (bad : Bool) (answer : ExtResp)
  /-- RIG_RESPONSE (R299). A response reaches its initiator and releases its tag, or is discarded as late. -/
  | rigResponse (i : Nat) (bad : Bool)
  /-- RIG_TIMEOUT (R299). A request unanswered for RIG_INIT_TIMEOUT µs completes with TIMEOUT and its tag is quarantined. -/
  | rigTimeout (init tag : Nat)
  /-- TAG_QUARANTINE_END (R299). A quarantined tag returns to the pool with GEN advanced. -/
  | tagQuarantineEnd (init tag : Nat)
  /-- RIG_MSG (R297). A posted URGENT MSG is injected once a token is available. -/
  | rigMsg (init : Nat)
  /-- ROUTE_TABLE_WRITE (R302). A write to an inactive route-table entry is checked and stored. -/
  | routeTableWrite (a : Access) (node : Nat) (v : Word)
  /-- EPOCH_FLIP (R302). A write of 1 to RIG_EPOCH.FLIP makes the other table current. -/
  | epochFlip (a : Access)
  /-- NODE_DISABLE (R303). A RIGN_CTRL.DISABLE write starts draining a node. -/
  | nodeDisable (a : Access) (node : Nat)
  /-- LINK_DISABLE (R303). A RIGN_LINK.DISABLE write starts draining a link. -/
  | linkDisable (a : Access) (node : Nat) (v : Word)
  /-- NODE_DRAINED (R303). A draining node or link has forwarded its old-epoch flits and turns OFF. -/
  | nodeDrained (node : Nat) (port : Option Nat)
  /-- DOMAIN_DRAIN (R304). A Sail power domain enters DRAINING and the border refuses new traffic. -/
  | domainDrain (g : Nat)
  /-- DRAIN_TIMEOUT (R304). Requests unanswered after RIG_DRAIN_TIMEOUT are abandoned and recorded. -/
  | drainTimeout (g : Nat)
  /-- DOMAIN_CLAMP (R304). The isolation clamps close and the domain reads OFF. -/
  | domainClamp (g : Nat)
  /-- DOMAIN_POWER_UP (R306). A domain powers up, its tables are reloaded and its clamps open. -/
  | domainPowerUp (g : Nat)
  /-- RIG_BYTES_CAPTURE (R309). A read of RIG_ST_BYTES_LO captures the HI word. -/
  | rigBytesCapture (a : Access)
  /-- CHANNEL_ENABLE (R313). Setting CH_CTRL.ENABLE starts a channel on its ring. -/
  | channelEnable (a : Access) (ch : Nat) (v : Word)
  /-- CHANNEL_DISABLE (R327). Clearing CH_CTRL.ENABLE disables an idle or waiting channel. -/
  | channelDisable (a : Access) (ch : Nat)
  /-- CH_KICK (R316). A KICK command makes a FREE channel read the descriptor at HEAD. -/
  | chKick (a : Access) (ch : Nat)
  /-- CH_RESUME (R326). A RESUME command retries a halted channel's failing transactions. -/
  | chResume (a : Access) (ch : Nat)
  /-- CH_SKIP (R326). A SKIP command ends the halted descriptor and continues with the next. -/
  | chSkip (a : Access) (ch : Nat)
  /-- CH_ABORT (R326). An ABORT command abandons outstanding work and disables the channel. -/
  | chAbort (a : Access) (ch : Nat)
  /-- CH_STOP (R327). A STOP command disables the channel after its current descriptor. -/
  | chStop (a : Access) (ch : Nat)
  /-- CH_TRIGGER (R317). A trigger releases one prefetched descriptor of a TRIGGERED channel, or is held or discarded. -/
  | chTrigger (a : Access) (ch : Nat)
  /-- DESC_FETCH (R314). The engine reads a descriptor whole and checks OWN. -/
  | descFetch (ch : Nat) (act : EngAct)
  /-- LIST_FETCH (R322). The engine reads up to four scatter or gather list entries. -/
  | listFetch (ch : Nat) (dst : Bool) (act : EngAct)
  /-- DATA_BURST (R323). The engine reads burst `i` of the descriptor, the next one, or writes what has arrived of it to the destination. -/
  | dataBurst (ch : Nat) (write : Bool) (i : Nat)
  /-- WRITE_BACK (R315). The engine writes the status words and word 0 of a completed descriptor and rings CH_DONE_SRC. -/
  | writeBack (ch : Nat) (zero : Bool) (act : EngAct)
  /-- DOORBELL (R335). A doorbell MSG is checked and counts an event of its source. -/
  | doorbell (who : Who) (secure : Bool) (v : Word)
  /-- TGT_CLAIM (R343). A read of TGT_CLAIM claims the best DELIVERED source and returns its count. -/
  | tgtClaim (a : Access) (t : Nat)
  /-- TGT_COMPLETE (R344). A write of TGT_COMPLETE completes an ACTIVE source or counts a spurious completion. -/
  | tgtComplete (a : Access) (t : Nat) (v : Word)
  /-- PORT_CLAIM (R345). A CLAIM on a fabric interrupt target port claims a source, with the result at t + 4. -/
  | portClaim (p cpr : Nat)
  /-- PORT_COMPLETE (R345). A COMPLETE on a fabric interrupt target port completes the source on CMPSRC. -/
  | portComplete (p src cpr : Nat)
  /-- TARGET_DISABLE (R347). Disabling a target or changing its KIND returns its sources to routing. -/
  | targetDisable (a : Access) (t : Nat) (v : Word)
  /-- LANE_ENABLE (R372). Setting LANE_CTRL.ENABLE powers a lane and starts bring-up at DETECT. -/
  | laneEnable (a : Access) (l : Nat) (v : Word)
  /-- LANE_DISABLE (R373). Clearing LANE_CTRL.ENABLE disables a lane within 1 µs. -/
  | laneDisable (a : Access) (l : Nat)
  /-- LANE_RETRAIN (R372). A RETRAIN write resets a lane to DETECT. -/
  | laneRetrain (a : Access) (l : Nat)
  /-- DETECT_PROBE (R368). Every 1 ms in DETECT, the lane tries common-mode receiver detection. -/
  | detectProbe (l : Nat) (found : Bool)
  /-- CDR_LOCK (R368). The CDR locks in TRAIN and the starting values are checked. -/
  | cdrLock (l : Nat) (eye : Eye)
  /-- BIT_LOCK (R368). 10^6 error-free PRBS bits give bit lock in LOCK. -/
  | bitLock (l : Nat)
  /-- FLIT_LOCK (R368). Three valid flits after deskew give flit lock and move the lane to EXCHANGE. -/
  | flitLock (l : Nat)
  /-- STAGE_TIMEOUT (R369). A bring-up stage times out and the lane enters BACKOFF. -/
  | stageTimeout (l : Nat)
  /-- BACKOFF_EXPIRY (R369). The backoff ends and the lane restarts at DETECT. -/
  | backoffExpiry (l : Nat)
  /-- LOCK_LOST (R370). Loss of CDR or flit lock in ACTIVE sends the lane back to TRAIN. -/
  | lockLost (l : Nat)
  /-- FULL_ADAPTATION (R360). Full adaptation completes its sweep and writes the chosen CTLE table value. -/
  | fullAdaptation (l : Nat) (evals : List Eye)
  /-- TRIM_RUN (R361). Every PERIOD_MS in ACTIVE, trim evaluates PEAK and its neighbours and proposes one. -/
  | trimRun (l : Nat) (below at_ above : Eye)
  /-- DATA_PATH_CHECK (R362). After a 22 ms dwell, an applied proposal is checked on the data path and kept or walked back. -/
  | dataPathCheck (l : Nat) (eye : Eye)
  /-- CTLE_STEP (R358). Each millisecond, PEAK and LF_GAIN move one step toward their target. -/
  | ctleStep (l : Nat)
  /-- QUALITY_UPDATE (R363). At the end of a dwell, or at least every 100 ms, the eye and BER figures are updated. -/
  | qualityUpdate (l : Nat) (eye : Eye) (mant : Nat) (exp : BitVec 5)
  /-- PLL_RELOCK (R353). A quad PLL band change re-locks within 20 µs. -/
  | pllRelock (q : Nat)
  /-- CAL_CAPTURE (R366). A CAPTURE command fills the calibration blob from the lane. -/
  | calCapture (a : Access) (l : Nat)
  /-- CAL_LOAD (R366). A LOAD command checks the blob and applies it to the lane. -/
  | calLoad (a : Access) (l : Nat)
  /-- CAL_SAVE (R366). A SAVE command checks the blob and commits it to the retained store. -/
  | calSave (a : Access) (l : Nat)
  /-- CAL_AUTOSAVE (R367). A lasting calibration or partner change captures and saves the blob, at most once per second. -/
  | calAutosave (l : Nat)
  /-- PERST (R529). PERST_N low holds the PCI Express controller and its lanes under function reset. -/
  | perst (low : Bool)
  /-- PORT_ENABLE (R375). Setting TETHER_CTRL.ENABLE enables a port and its lanes. -/
  | portEnable (a : Access) (p : Nat) (v : Word)
  /-- PORT_RETRAIN (R376). A TETHER_CTRL.RETRAIN write restarts the port at full width. -/
  | portRetrain (a : Access) (p : Nat)
  /-- DATA_FLIT (R383). A received DATA flit is checked, accepted in sequence or discarded with a REPLAY. -/
  | dataFlit (p : Nat) (bytes : List Byte)
  /-- NULL_FLIT (R378). A received NULL flit delivers its ACK and credits. -/
  | nullFlit (p : Nat) (bytes : List Byte)
  /-- REPLAY_REQUEST (R383). A received REPLAY makes the sender resend every buffered flit from ACK + 1. -/
  | replayRequest (p : Nat) (bytes : List Byte)
  /-- ACK_TIMEOUT (R384). No ACK progress for ACK_TIMEOUT_US makes the sender replay or the receiver re-request. -/
  | ackTimeout (p : Nat)
  /-- CAP_FLIT (R387). A received CAP record is checked and accepted or refused. -/
  | capFlit (p : Nat) (accepting : Bool) (bytes : List Byte)
  /-- PORT_ACTIVE (R389). A port enters ACTIVE and the supervisor sets the partner's device route entries. -/
  | portActive (p : Nat)
  /-- PORT_DOWN (R386). A port out of ACTIVE for DOWN_US enters DOWN and discards its replay buffer. -/
  | portDown (p : Nat)
  /-- ECHO_SEND (R388). At ACTIVE entry and every 100 µs a port sends an ECHO request. -/
  | echoSend (p sub : Nat)
  /-- ECHO_FLIT (R388). A received ECHO is answered, or its answer updates TETHER_LINK_DELAY. -/
  | echoFlit (p : Nat) (bytes : List Byte) (answer : Bool) (t1 t2 t3 sub : Nat)
  /-- SUBSCRIBE (R391). A SUBSCRIBE message adds or replaces a sync subscription, or is refused. -/
  | subscribe (dev track : BitVec 6) (ns : Bool) (inline : BitVec 128)
  /-- UNSUBSCRIBE (R391). An UNSUBSCRIBE message removes a sync subscription. -/
  | unsubscribe (dev track : BitVec 6)
  /-- SYNC_SEND (R391). At its slot, the subscription owner sends a DATA sync message. -/
  | syncSend (i : Nat)
  /-- SYNC_MESSAGE (R392). A DATA sync message is checked and sets a REMOTE track's estimate. -/
  | syncMessage (track : BitVec 6) (ns : Bool) (inline : BitVec 128) (sub : Nat)
  /-- DOMAIN_SWITCH (R406). A CLK_DOM_SEL write with ARM = 0 starts a stop-switch-restart of a domain. -/
  | domainSwitch (a : Access) (d : Nat) (v : BitVec 8)
  /-- CLK_SWITCH_GO (R406). A CLK_SWITCH_GO write starts every armed domain switch together. -/
  | clkSwitchGo (a : Access)
  /-- SWITCH_DONE (R406). The fifth new-source edge is delivered, DONE sets and LIVE_SRC changes. -/
  | switchDone (d : Nat)
  /-- GATE_OPEN (R409). A CLK_GATE_CMD with ON = 1 opens a gate, or is refused. -/
  | gateOpen (a : Access) (node : BitVec 9)
  /-- GATE_CLOSE (R409). A CLK_GATE_CMD with ON = 0 closes a gate, or is refused. -/
  | gateClose (a : Access) (node : BitVec 9)
  /-- MONITOR_WINDOW (R410). A frequency monitor window ends and each source is judged LOST or OK. -/
  | monitorWindow (counts : List (Nat × Nat))
  /-- PLL_LOCK_LOSS (R410). A PLL lock detector falls and the PLL becomes LOST within 1 µs. -/
  | pllLockLoss (src : Nat)
  /-- FPLL_ENABLE (R403). Setting FPLL_CTRL.ENABLE starts a fabric PLL after range checks. -/
  | fpllEnable (a : Access) (p : Nat) (v : Word)
  /-- FPLL_LOCK (R403). A fabric PLL locks and its outputs start. -/
  | fpllLock (p : Nat)
  /-- VSET_WRITE (R420). A VSET write sets a new regulator target and the output ramps at 1 mV/µs. -/
  | vsetWrite (a : Access) (g : Nat) (v : Word)
  /-- REG_FAULT (R421). A regulator group out of range or at its limit for 100 µs faults. -/
  | regFault (g : Nat)
  /-- REG_RESUME (R421). A write of 1 to PWR_CTRL.REG_RESUME turns the Sail groups on again. -/
  | regResume (a : Access) (showing : Bool)
  /-- RAIL_SAMPLE (R422). Every 10 µs each monitored rail is sampled and compared with its window. -/
  | railSample (mv : List (Nat × Nat))
  /-- PF_RELEASE (R426). A write of 1 to PWR_PF_RELEASE releases the plug groups from their power-fail state. -/
  | pfRelease (a : Access)
  /-- FRAY_UNITS_WRITE (R429). A write to FRAY_UNITS raises a column's wear count and may make odometer bits pending. -/
  | frayUnitsWrite (a : Access) (v : Word)
  /-- LOAD_START (R455). A START command starts a load attempt from SRC. -/
  | loadStart (a : Access)
  /-- LOAD_ABORT (R455). An ABORT command ends the attempt at the next record boundary. -/
  | loadAbort (a : Access)
  /-- HEADER_CHECK (R440). The image header and tag table are read, checked and the signature verified. -/
  | headerCheck (sfdp : Bool) (bytes : List Byte)
  /-- SEGMENT_VERIFY (R441). A segment is decrypted and its GCM tag compared with the tag table. -/
  | segmentVerify (bytes : List Byte)
  /-- COMMIT_EDGE (R453). At edge t + 3 of each panel's clock, slot 0 goes live and the panel leaves park. -/
  | commitEdge (p : Nat)
  /-- LOAD_STREAM_WRITE (R438). A write from the hub's Tether initiator delivers the next flock stream bytes. -/
  | loadStreamWrite (a : Access) (off : Nat) (words : List Word)
  /-- FLOCK_FORWARD (R438). A hub loader forwards each image block to every FLOCK port. -/
  | flockForward (bytes : List Byte) (answers : List (Nat × Nat))
  /-- SOURCE_REPAIR (R459). The loader re-reads a frame from the slot's source for frame repair. -/
  | sourceRepair (f : Nat) (header : List Byte) (segs : List (List Byte))
  /-- KRAM_WRITE (R462). A KRAM_CMD WRITE stores the KRAM_DATA key into a key RAM slot. -/
  | kramWrite (a : Access) (slot : Bool)
  /-- KRAM_ERASE (R462). A KRAM_CMD ERASE clears a key RAM slot. -/
  | kramErase (a : Access) (slot : Bool)
  /-- POWER_GOOD (R463). Power good rises, which is the P reset, and the boot timeline starts. -/
  | powerGood (straps : Straps) (vbat : Bool)
  /-- RESET_N (R467). RESET_N held low for 1 µs makes a C reset at its release. -/
  | resetN (lowNs : Nat)
  /-- COLD_RESET_REQ (R467). RESET_REQ with key 0x5A04 makes a C reset. -/
  | coldResetReq (a : Access)
  /-- WARM_RESET_REQ (R467). RESET_REQ with key 0x5A03 starts a warm restart. -/
  | warmResetReq (a : Access)
  /-- DEV_RUN_REQ (R471). A DEV_STATE request for RUN leaves HOLD or wakes from PARK. -/
  | devRunReq (a : Access)
  /-- DEV_HOLD_REQ (R471). A DEV_STATE request for HOLD closes root 337. -/
  | devHoldReq (req : HoldReq)
  /-- DEV_PARK_REQ (R471). A DEV_STATE request for PARK saves contexts and turns the Sails off. -/
  | devParkReq (req : HoldReq)
  /-- RS_READ (R477). An RS_CMD READ copies a retained-store record into RS_BUF. -/
  | rsRead (a : Access)
  /-- RS_COMMIT (R475). An RS_CMD COMMIT starts writing a USER record to its other buffer. -/
  | rsCommit (a : Access)
  /-- RS_ERASE (R475). An RS_CMD ERASE invalidates both buffers of a record. -/
  | rsErase (a : Access)
  /-- RS_ZEROISE (R476). A keyed write of RS_ZEROISE zeroes the retained store and key RAM. -/
  | rsZeroise (a : Access) (v : Word)
  /-- PF_START (R484). A PF_CMD START requests one preflight slice of a panel. -/
  | pfStart (a : Access) (p : BitVec 10)
  /-- PF_ABORT (R485). A PF_CMD ABORT aborts the panel's running slice, which restores the panel. -/
  | pfAbort (a : Access) (p : BitVec 10)
  /-- SLICE_START (R481). A slice checks its preconditions, holds the borders, saves the context and loads the test plane. -/
  | sliceStart (p : Nat)
  /-- SLICE_END (R490). The scan ends, the MISR is compared, the panel is restored and the result is recorded. -/
  | sliceEnd (p : Nat) (misr : BitVec 64)
  /-- PIN_INPUT (R493). A field input changes level at its synchroniser. -/
  | pinInput (n : Nat) (level : Bool)
  /-- GLITCH_FILTER_PASS (R493). An input holds a new level for GLITCH_NS samples and the filter output changes. -/
  | glitchFilterPass (n : Nat)
  /-- DEBOUNCE_EXPIRY (R493). The filtered level holds for DEBOUNCE_US and the debounced level changes. -/
  | debounceExpiry (n : Nat)
  /-- TRIP_CLEAR (R498). A write of 1 to FIO_TRIP.CLEAR releases the trip latch. -/
  | tripClear (a : Access)
  /-- PG_REPLUG (R499). A write of g to FIO_PG_REPLUG clears HELD of a present group. -/
  | pgReplug (a : Access) (g : BitVec 5)
  /-- PG_ENABLE (R499). Enabling a plug group starts it present or lost. -/
  | pgEnable (a : Access) (g : Nat) (v : Word)
  /-- PIN_CFG_WRITE (R495). A FIO_PIN_CFG write sets pin settings, with checks on any change of OWNER. -/
  | pinCfgWrite (a : Access) (n : Nat) (v : Word)
  /-- FIO_OUT_WRITE (R506). A write to FIO_OUT sets OUT of the REGISTER-owned pins of the bank. -/
  | fioOutWrite (a : Access) (b : Nat) (hi : Bool) (v : Word)
  /-- MADC_CONVERSION (R503). The monitor ADC converts the next enabled channel and checks its window. -/
  | madcConversion (code : BitVec 12)
  /-- JTAG_SAMPLE_PRELOAD (R504). The SAMPLE/PRELOAD instruction captures and loads the boundary register. -/
  | jtagSamplePreload (load : BitVec 1872)
  /-- JTAG_EXTEST (R504). The EXTEST instruction drives the pins from the boundary register when JTAG_EXT was high. -/
  | jtagExtest (load : BitVec 1872)
  /-- PCIE_LINK_UP (R341). The PCI Express data link layer becomes active after training, and target 100 stops answering host-space requests with NO_ROUTE. -/
  | pcieLinkUp (width : Nat) (rate : PcieRate)
  /-- SUPERVISOR_RUNNING (R464). The supervisor is running from ROM on HFOSC, by 5 ms after power good or after a W, and the IDENT, SUPV_MBOX, WORLD, RESET and READY pages read READY. -/
  | supervisorRunning (routes : List (Nat × Nat × Nat))
  /-- REG_RAMP_DONE (R420). A regulator group's output reaches its set point, at boot, after a VSET change or at wake, and its STATE goes from RAMPING to ON. -/
  | regRampDone (g : Nat)
  /-- GROUNDING (R34). At the next edge, the panel, bank or column served by an exhausted group or a lost triad is grounded. -/
  | grounding
  /-- FUSE_BURN (R29). The supervisor burns a pending fuse-map entry while VFUSE is in range. -/
  | fuseBurn
  /-- BRIDLE_START (R203). At 20 ms after power good the Bridle starts counting. -/
  | bridleStart
  /-- ACTION_DISPATCH (R222). The dispatcher takes the queue head and issues its four operation slots. -/
  | actionDispatch
  /-- STAGGER_WINDOW_BOUNDARY (R233). A stagger window ends; counts and ownership move on and held work is admitted. -/
  | staggerWindowBoundary
  /-- THERMAL_TRIP (R240). A sensor at 125 °C turns off the Sail regulators and parks the Sails without saving. -/
  | thermalTrip
  /-- HANDOVER_TIMEOUT (R261). Old-owner accesses not complete 1 µs after a handover write end with ABORT. -/
  | handoverTimeout
  /-- BANK_HANDOVER_DONE (R261). The owner changes, held accesses are served and BUSY clears. -/
  | bankHandoverDone
  /-- BACKGROUND_INIT (R276). After the census, background initialisation starts writing zero lines to every bank. -/
  | backgroundInit
  /-- EPOCH_DONE (R302). The last old-epoch flit leaves the nodes and OLD_BUSY clears. -/
  | epochDone
  /-- INTC_ROUND (R340). A routing round delivers the best PENDING source to an eligible target. -/
  | intcRound
  /-- BLOB_RESTORE (R367). At 26 ms the supervisor applies each valid stored lane blob and port entry. -/
  | blobRestore
  /-- PCIE_LINK_RESET (R372). A PCI Express link reset or retrain resets the lanes it owns. -/
  | pcieLinkReset
  /-- XA_STABLE (R402). XA becomes stable and the system PLLs take it as reference. -/
  | xaStable
  /-- XA_TIMEOUT (R402). XA is not stable within 20 ms and the system PLLs are referenced to HFOSC. -/
  | xaTimeout
  /-- SYS_PLL_LOCK (R402). The system PLLs lock and the system domains switch to their defaults. -/
  | sysPllLock
  /-- PF_WARN (R424). VIN_IVR below the threshold for 1 µs raises PF_WARN and sends plug groups to their power-fail state. -/
  | pfWarn
  /-- PF_CLEAR (R426). VIN_IVR above the threshold plus hysteresis for 1 ms clears PF_WARN. -/
  | pfClear
  /-- ODO_BURN (R430). A pending odometer bit is burnt. -/
  | odoBurn
  /-- SET_ADDR (R444). A SET_ADDR record sets the current frame address. -/
  | setAddr
  /-- LITERAL (R444). A LITERAL record writes COUNT coded frames from the current address. -/
  | literal
  /-- DICT_DEFINE (R444). A DICT_DEFINE record stores one frame in a dictionary slot. -/
  | dictDefine
  /-- DICT_WRITE (R444). A DICT_WRITE record writes a dictionary frame to N addresses. -/
  | dictWrite
  /-- CONTEXT_SEED (R447). A CONTEXT_SEED record writes seeded quarters into a slot or fallback. -/
  | contextSeed
  /-- REGION (R448). A REGION record defines, replaces or skips a region. -/
  | region
  /-- COMMIT (R452). A COMMIT record is checked and delivered to the region's panels, or refused. -/
  | commit
  /-- END (R444). An END record completes the attempt and the loader reads DONE. -/
  | endRecord
  /-- LOAD_BACKOFF_EXPIRY (R455). The load backoff ends and the next attempt starts. -/
  | loadBackoffExpiry
  /-- LOAD_IDLE_TIMEOUT (R454). No byte from the source for LOAD_IDLE_TIMEOUT ends the attempt. -/
  | loadIdleTimeout
  /-- POWER_GOOD_FALL (R463). Brown-out or a VKEEL fault removes power good and turns the regulators off. -/
  | powerGoodFall
  /-- WATCHDOG_EXPIRY (R467). The supervisor watchdog expires and makes a W reset. -/
  | watchdogExpiry
  /-- WARM_RESTART_DONE (R469). The supervisor returns the device to RUN by 20 ms after a W. -/
  | warmRestartDone
  /-- PARK_ENTRY_DONE (R471). Entry to PARK completes and STATE reads PARK. -/
  | parkEntryDone
  /-- WAKE_DONE (R471). The Sails finish waking from PARK and the device is in RUN. -/
  | wakeDone
  /-- RS_COMMIT_DONE (R475). A retained-store commit writes its CRC word last and completes. -/
  | rsCommitDone
  /-- TAMPER (R476). TAMPER_N low for 10 µs zeroes the retained store and key RAM and sets TAMPERED. -/
  | tamper
  /-- SWEEP_START (R484). Every PF_SWEEP_PERIOD in AUTO mode a sweep begins at panel 0. -/
  | sweepStart
  /-- JTAG_BYPASS (R504). The BYPASS instruction selects the bypass register. -/
  | jtagBypass
  /-- JTAG_IDCODE (R504). The IDCODE instruction reads 0x05A2_4E1B. -/
  | jtagIdcode
  /-- JTAG_HIGHZ (R504). The HIGHZ instruction floats every field pin when JTAG_EXT was high. -/
  | jtagHighz
  /-- PCIE_TRAIN_READY (R464). At 30 ms the PCI Express controller becomes ready to train, its page reads READY and READY_SUM.PCIE_TRAIN sets. -/
  | pcieTrainReady
  /-- BOOT_ATTEMPT (R461). After the census of a P or C reset, the loader starts a boot attempt from the strapped source and the LOAD page reads READY. -/
  | bootAttempt
  /-- RS_ERASE_DONE (R475). A retained-store erase completes within 20 µs, with both buffers of the record invalid, and the requester's busy indication clears. -/
  | rsEraseDone
  deriving DecidableEq, Repr

end Sys2Proof
end

