-- ==== Sys2Proof/Machine/Bits.lean ====
section
/-! DEFINITION. Bit fields of words, sparse maps, and the shape of a register field and of a register-table row. -/

namespace Sys2Proof.Machine

/-- Entry `k` of a sparse map; an unlisted number reads as `d k`. -/
def mget {α : Type} (d : Nat → α) : SMap α → Nat → α
  | [], k => d k
  | (k', v) :: t, k => if k = k' then v else if k < k' then d k else mget d t k

/-- Drop the entries numbered `k` and below from the front. -/
def mdrop {α : Type} : SMap α → Nat → SMap α
  | [], _ => []
  | (k', v) :: t, k => if k' ≤ k then mdrop t k else (k', v) :: t

/-- Write entry `k`, keeping the numbers rising and listing no entry that an unlisted number reads as. -/
def mset {α : Type} [DecidableEq α] (d : Nat → α) : SMap α → Nat → α → SMap α
  | [], k, v => if v = d k then [] else [(k, v)]
  | (k', v') :: t, k, v =>
    if k < k' then (if v = d k then (k', v') :: t else (k, v) :: (k', v') :: t)
    else if k = k' then (if v = d k then mdrop t k else (k, v) :: mdrop t k)
    else (k', v') :: mset d t k v

/-- Apply `f` to every listed entry, dropping those that become what an unlisted number reads as. -/
def mmap {α : Type} [DecidableEq α] (d : Nat → α) (f : Nat → α → α) : SMap α → SMap α
  | [] => []
  | (k, v) :: t => if f k v = d k then mmap d f t else (k, f k v) :: mmap d f t

/-- Keep the listed entries whose number satisfies `p`. -/
def mkeep {α : Type} (p : Nat → Bool) (m : SMap α) : SMap α := m.filter (fun e => p e.1)

/-- Entry `k` of a table of entries that may be absent. -/
def lget {α : Type} (m : SMap α) (k : Nat) : Option α := (m.find? (fun e => e.1 == k)).map (·.2)

/-- Put entry `k`, keeping the numbers rising. -/
def lset {α : Type} (m : SMap α) (k : Nat) (v : α) : SMap α :=
  m.filter (fun e => e.1 < k) ++ (k, v) :: m.filter (fun e => k < e.1)

/-- Drop entry `k`. -/
def ldel {α : Type} (m : SMap α) (k : Nat) : SMap α := m.filter (fun e => e.1 != k)

/-- Bits `[lo + len - 1 : lo]` of a word, as a number. -/
def getF (w : Word) (lo len : Nat) : Nat := w.toNat / 2 ^ lo % 2 ^ len

/-- The word with ones in bits `[lo + len - 1 : lo]` and zeros elsewhere. -/
def maskF (lo len : Nat) : Word := BitVec.ofNat 32 ((2 ^ len - 1) * 2 ^ lo)

/-- The word with bits `[lo + len - 1 : lo]` replaced by `v` (modulo the field's width). -/
def setF (w : Word) (lo len v : Nat) : Word :=
  (w &&& ~~~ maskF lo len) ||| BitVec.ofNat 32 (v % 2 ^ len * 2 ^ lo)

/-- Bit `i` of a number. -/
def bitOf (n i : Nat) : Bool := n / 2 ^ i % 2 == 1

/-- 1 for true and 0 for false. -/
def bnat (b : Bool) : Nat := if b then 1 else 0

/-- Addition that stops at `max` (R12). -/
def satAdd (max a b : Nat) : Nat := if a + b < max then a + b else max

/-- The two's-complement reading of the low `w` bits of a number. -/
def sint (w n : Nat) : Int := if n % 2 ^ w < 2 ^ (w - 1) then (n % 2 ^ w : Nat) else (n % 2 ^ w : Nat) - (2 ^ w : Nat)

/-- The low `w` bits of an integer. -/
def unsint (w : Nat) (i : Int) : Nat := (i % (2 ^ w : Nat)).toNat

/-- `n` bytes of a number, lowest byte first. -/
def bytesLE : Nat → Nat → List Byte
  | 0, _ => []
  | n + 1, v => BitVec.ofNat 8 (v % 256) :: bytesLE n (v / 256)

/-- The number that bytes spell, lowest byte first. -/
def natLE : List Byte → Nat
  | [] => 0
  | b :: t => b.toNat + 256 * natLE t

/-- The number that bytes spell, highest byte first. -/
def natBE (bs : List Byte) : Nat := natLE bs.reverse

/-- Access codes of a register field (R4). -/
inductive Acc where
  | rw | ro | wo | w1c | w1s | rwl
  deriving DecidableEq, Repr

/-- A register field: page offset of its register (of entry 0 of an array), stride of the array, lowest bit, width. -/
structure Fld where
  off : Nat
  stride : Nat
  lo : Nat
  len : Nat
  deriving DecidableEq, Repr

/-- The field of entry `i` of an array of registers. -/
def Fld.at (f : Fld) (i : Nat) : Fld := { f with off := f.off + i * f.stride }

/-- The `i`-th field of an array of equal fields that lie side by side in one register. -/
def Fld.lane (f : Fld) (i : Nat) : Fld := { f with lo := f.lo + i * f.len }

/-- Reset classes as a mask (R5): P 1, C 2, W 4, F 8. -/
def clP : Nat := 1
def clPC : Nat := 3
def clPCW : Nat := 7
def clPCF : Nat := 11
def clPCWF : Nat := 15

/-- One row of a register table. -/
structure FieldRow where
  fld : Fld
  count : Nat
  acc : Acc
  rst : Nat
  clr : Nat
  rng : List (Nat × Nat)
  deriving DecidableEq, Repr

/-- The row covers the register at page offset `off`. -/
def FieldRow.covers (r : FieldRow) (off : Nat) : Bool :=
  r.fld.off ≤ off && (off - r.fld.off) % r.fld.stride == 0 && (off - r.fld.off) / r.fld.stride < r.count

end Sys2Proof.Machine
end

