-- ==== Sys2Proof/Machine/Crc.lean ====
section
/-! DEFINITION. The checksums of the spec: CRC-32C (R133), CRC-32 (R158) and the 16-bit CRC of a bank line (R254). -/

namespace Sys2Proof.Machine

open Sys2Proof

/-- `n` steps of a reflected CRC register. -/
def crcShiftR (poly : Nat) : Nat → Nat → Nat
  | 0, c => c
  | n + 1, c => crcShiftR poly n (if c % 2 = 1 then Nat.xor (c / 2) poly else c / 2)

/-- A reflected 32-bit CRC, initial value and final XOR of all ones. -/
def crcReflected (poly : Nat) (bs : List Byte) : Nat :=
  Nat.xor (bs.foldl (fun c b => crcShiftR poly 8 (Nat.xor c b.toNat)) 0xFFFFFFFF) 0xFFFFFFFF

/-- CRC-32C, polynomial 0x1EDC_6F41 (R133). -/
def crc32c (bs : List Byte) : Nat := crcReflected 0x82F63B78 bs

/-- CRC-32, polynomial 0x04C1_1DB7 (R158). -/
def crc32 (bs : List Byte) : Nat := crcReflected 0xEDB88320 bs

/-- `n` steps of a 16-bit CRC register that takes its bits highest first. -/
def crcShiftL16 (poly : Nat) : Nat → Nat → Nat
  | 0, c => c
  | n + 1, c => crcShiftL16 poly n (if c / 0x8000 % 2 = 1 then Nat.xor (c * 2 % 0x10000) poly else c * 2 % 0x10000)

/-- The CRC of R254: polynomial 0x8BB7, initial value 0, not reflected. -/
def crc16 (bs : List Byte) : Nat := bs.foldl (fun c b => crcShiftL16 0x8BB7 8 (Nat.xor c (b.toNat * 256))) 0

/-- CRC-64 of R380: polynomial 0x42F0_E1EB_A9EA_3693 reflected, initial value and final exclusive or all ones. -/
def crc64 (bs : List Byte) : Nat :=
  let poly := 0xC96C5795D7870F42
  Nat.xor (bs.foldl (fun c b => crcShiftR poly 8 (Nat.xor c b.toNat)) (2 ^ 64 - 1)) (2 ^ 64 - 1)

/-! ### The Reed–Solomon code of R381 -/

/-- Multiplication by α in GF(2^8) with field polynomial x^8 + x^4 + x^3 + x^2 + 1. -/
def gfAlpha (x : Nat) : Nat := if 128 ≤ x then Nat.xor (2 * x) 0x11D else 2 * x

/-- Multiplication, `n` bits of `b` from the lowest. -/
def gfMul : Nat → Nat → Nat → Nat
  | 0, _, _ => 0
  | n + 1, a, b => Nat.xor (if b % 2 = 1 then a else 0) (gfMul n (gfAlpha a) (b / 2))

/-- The values of a codeword at α^0 and α^1, its first symbol being the coefficient of the highest power (log entry 22). -/
def rsSyndromes (cs : List Nat) : Nat × Nat := cs.foldl (fun s c => (Nat.xor s.1 c, Nat.xor (gfAlpha s.2) c)) (0, 0)

/-- The two parity symbols of 126 data symbols. -/
def rsParity (ds : List Nat) : List Nat :=
  let s := rsSyndromes (ds ++ [0, 0])
  let p0 := gfMul 8 (Nat.xor s.1 s.2) 0xF4
  [p0, Nat.xor s.1 p0]

/-- The symbol in error, from the last one, and whether the decoder finds one: the first `j` with s0 α^j = s1. -/
def rsLocate : Nat → Nat → Nat → Nat → Option Nat
  | 0, _, _, _ => none
  | n + 1, j, s0, s1 => if s0 = s1 then some j else rsLocate n (j + 1) (gfAlpha s0) s1

/-- Decode one codeword: the corrected symbols and how many were corrected; none where it is uncorrectable. -/
def rsDecode (cs : List Nat) : Option (List Nat × Nat) :=
  let s := rsSyndromes cs
  if s = (0, 0) then some (cs, 0)
  else if s.1 = 0 ∨ s.2 = 0 then none
  else match rsLocate cs.length 0 s.1 s.2 with
    | some j => some (cs.modify (cs.length - 1 - j) (Nat.xor · s.1), 1)
    | none => none

end Sys2Proof.Machine
end

