-- ==== Sys2Proof/Config.lean ====
section
/-! DEFINITION. What the spec leaves open: free values, which no definition and no proof can evaluate, and the
cryptographic functions, which the spec names and does not restate. -/

namespace Sys2Proof

/-- A value that the spec leaves open: the `n`-th word taken (`State.freeCtr` counts them). Log entry 2. -/
opaque Config.freeNat : Nat → Nat

/-- The SECDED code of CHECK over the 256 bits of DATA (R290, R294). The spec names the code and does not give it. Log entry 2. -/
opaque Config.secded : BitVec 256 → BitVec 10

/-- SHA-384 (R440): 48 bytes of digest. The spec names the function and does not restate it. Log entry 3. -/
opaque Config.sha384 : List Byte → List Byte

/-- SHA-256 (R462, KEY_HASH). Log entry 3. -/
opaque Config.sha256 : List Byte → List Byte

/-- ECDSA P-384 verification (R440): public key, message, signature. Log entry 3. -/
opaque Config.ecdsaVerify : List Byte → List Byte → List Byte → Bool

/-- AES-256-GCM decryption (R441): key, nonce, additional data, ciphertext; the plaintext and the tag. Log entry 3. -/
opaque Config.gcmOpen : List Byte → List Byte → List Byte → List Byte → List Byte × List Byte

/-- HMAC-SHA-384 (R441): key and message. Log entry 3. -/
opaque Config.hmac384 : List Byte → List Byte → List Byte

/-- A plane, given by its 128 frames, has riser group 14 or 15 in cascade mode (R96, R112); the layout of the bit is not given (R132). Log
entry 62. -/
opaque Config.cascades : List (BitVec 4608) → Nat → Bool

/-- A plane, given by its 128 frames, has the driver of a riser in mode GATED rather than DRIVE (R113), where its mask has it drive. Log
entry 62. -/
opaque Config.gated : List (BitVec 4608) → Nat → Bool

/-- Level and output enable that the CONTROL slots give a pin at an instant (R495, R496): values of the user's logic. Log entry 2. -/
opaque Config.slotValue : Nat → Nat → BitVec 2

/-- Where the PRBS31 generator of a lane starts (R368): the spec gives no seed. Log entry 2. -/
opaque Config.prbsSeed : Nat → BitVec 31

/-- The 128-bit marker of a lane in a stage (R368), whose layout is not given. Log entry 2. -/
opaque Config.marker : Nat → Nat → BitVec 128

/-- The presets of the PCI Express standard at a RATE below 32 GT/s (R365): taps, PEAK and LF_GAIN. The spec gives none. Log entry 2. -/
opaque Config.pciePreset : Nat → BitVec 30 × Fin 41 × Fin 13

/-- The number of the device that holds the host port of the array (R348, R390). Log entry 26. -/
opaque Config.hostDevice : Nat

/-- The 240 payload bytes of an ECHO flit (R388): whether it is an answer, T1, T2 and T3. The layout is not given. Log entry 24. -/
opaque Config.echoPayload : Bool → Nat → Nat → Nat → BitVec 1920

end Sys2Proof
end

