-- ==== Sys2Proof/Machine/Fields.lean ====
section
/-! DEFINITION. The fields of the registers, one definition per row of the spec's register tables, named
REGISTER.FIELD as the spec names them: page offset, stride of an array, lowest bit, width. -/

namespace Sys2Proof.Machine

/-! Fields of the table "Stack registers" (spec/01_stack.md). -/

def STACK_CENSUS.STATE : Fld := ⟨0x040, 4, 0, 2⟩
def STACK_CENSUS.NEW_REPAIRS : Fld := ⟨0x040, 4, 4, 12⟩
def STACK_FUSEMAP.USED : Fld := ⟨0x044, 4, 0, 13⟩
def STACK_FUSEMAP.VFUSE_OK : Fld := ⟨0x044, 4, 16, 1⟩
def STACK_FUSEMAP.PENDING : Fld := ⟨0x044, 4, 20, 12⟩
def STACK_EVENT.REPAIR : Fld := ⟨0x048, 4, 0, 1⟩
def STACK_EVENT.EXHAUSTED : Fld := ⟨0x048, 4, 1, 1⟩
def STACK_EVENT.CLOCK_DEGRADED : Fld := ⟨0x048, 4, 2, 1⟩
def STACK_EVENT.CLOCK_LOST : Fld := ⟨0x048, 4, 3, 1⟩
def STACK_EVENT.FUSE_FULL : Fld := ⟨0x048, 4, 4, 1⟩
def STACK_EVENT.PARITY : Fld := ⟨0x048, 4, 5, 1⟩
def STACK_EVENT_MASK.MASK : Fld := ⟨0x04C, 4, 0, 6⟩
def STACK_EVENT_SRC.SOURCE : Fld := ⟨0x050, 4, 0, 12⟩
def STACK_PARITY_CNT.COUNT : Fld := ⟨0x054, 4, 0, 16⟩
def STACK_DEADMAP_INDEX.INDEX : Fld := ⟨0x060, 4, 0, 10⟩
def STACK_DEADMAP_DATA.ENTRY : Fld := ⟨0x064, 4, 0, 32⟩
def STACK_DEADMAP_COUNT.COUNT : Fld := ⟨0x068, 4, 0, 11⟩

/-! Fields of R46 (spec/02_host_view.md). -/

def PAGE_ID.TYPE : Fld := ⟨0x000, 4, 16, 16⟩
def PAGE_ID.INSTANCE : Fld := ⟨0x000, 4, 0, 16⟩
def PAGE_VER.MAJOR : Fld := ⟨0x004, 4, 24, 8⟩
def PAGE_VER.MINOR : Fld := ⟨0x004, 4, 16, 8⟩
def PAGE_VER.COMPAT_LEVEL : Fld := ⟨0x004, 4, 0, 16⟩
def PAGE_CAPS.EXPERT : Fld := ⟨0x008, 4, 0, 1⟩
def PAGE_CAPS.LEGACY_OK : Fld := ⟨0x008, 4, 1, 1⟩
def PAGE_CAPS.WORLD_SET : Fld := ⟨0x008, 4, 2, 1⟩
def PAGE_CAPS.RESETTABLE : Fld := ⟨0x008, 4, 3, 1⟩
def PAGE_CAPS.PF_VISIBLE : Fld := ⟨0x008, 4, 4, 1⟩
def PAGE_CAPS.BLOCK : Fld := ⟨0x008, 4, 16, 16⟩
def PAGE_READY.STATE : Fld := ⟨0x00C, 4, 0, 2⟩
def PAGE_READY.REASON : Fld := ⟨0x00C, 4, 8, 8⟩
def PAGE_RESET.KEY : Fld := ⟨0x010, 4, 0, 32⟩
def PAGE_RESET.BUSY : Fld := ⟨0x010, 4, 0, 1⟩
def PAGE_COMPAT.LEGACY : Fld := ⟨0x014, 4, 0, 1⟩
def PAGE_WORLD.SECURE : Fld := ⟨0x018, 4, 0, 1⟩
def PAGE_WORLD.LOCK : Fld := ⟨0x018, 4, 1, 1⟩
def PAGE_ERRSUM.REJECT : Fld := ⟨0x01C, 4, 0, 1⟩
def PAGE_ERRSUM.TIMEOUT : Fld := ⟨0x01C, 4, 1, 1⟩
def PAGE_ERRSUM.WORLD : Fld := ⟨0x01C, 4, 2, 1⟩
def PAGE_ERRSUM.INTERNAL : Fld := ⟨0x01C, 4, 3, 1⟩
def PAGE_REJCNT.COUNT : Fld := ⟨0x020, 4, 0, 16⟩
def PAGE_EXPERT.KEY : Fld := ⟨0x024, 4, 0, 32⟩
def PAGE_EXPERT.UNLOCKED : Fld := ⟨0x024, 4, 0, 1⟩

/-! Fields of R56 (spec/02_host_view.md). -/

def WORLD_PF.PF0 : Fld := ⟨0x040, 4, 0, 1⟩
def WORLD_PF.SECURE : Fld := ⟨0x040, 4, 1, 7⟩
def WORLD_TETHER_TRUST.TRUSTED : Fld := ⟨0x044, 4, 0, 8⟩
def WORLD_LOG_COUNT.COUNT : Fld := ⟨0x048, 4, 0, 16⟩
def WORLD_LOG_HEAD.HEAD : Fld := ⟨0x04C, 4, 0, 4⟩
def WORLD_BANK.SECURE : Fld := ⟨0x080, 4, 0, 32⟩
def WORLD_CTX.SECURE : Fld := ⟨0x0D0, 4, 0, 32⟩
def WIN_BASE_LO.BASE : Fld := ⟨0x200, 16, 12, 20⟩
def WIN_BASE_HI.BASE : Fld := ⟨0x204, 16, 0, 32⟩
def WIN_SIZE.LOG2 : Fld := ⟨0x208, 16, 0, 7⟩
def WIN_CTRL.ENABLE : Fld := ⟨0x20C, 16, 0, 1⟩
def WIN_CTRL.SECURE : Fld := ⟨0x20C, 16, 1, 1⟩
def WORLD_LOG.WORD : Fld := ⟨0x300, 4, 0, 32⟩

/-! Fields of R103 (spec/03_panels.md). -/

def PANEL_INFO.COLUMN : Fld := ⟨0x040, 4, 0, 9⟩
def PANEL_INFO.SAIL : Fld := ⟨0x040, 4, 9, 1⟩
def PANEL_INFO.X : Fld := ⟨0x040, 4, 16, 4⟩
def PANEL_INFO.Y : Fld := ⟨0x040, 4, 24, 5⟩
def PANEL_STATUS.CLK_RUN : Fld := ⟨0x044, 4, 0, 1⟩
def PANEL_STATUS.QUARTER : Fld := ⟨0x044, 4, 1, 1⟩
def PANEL_STATUS.COMMITTED : Fld := ⟨0x044, 4, 2, 1⟩
def PANEL_EVENT.LCLK_DROP : Fld := ⟨0x048, 4, 0, 1⟩
def PANEL_EVENT.PRAM_CORR : Fld := ⟨0x048, 4, 1, 1⟩
def PANEL_EVENT.PRAM_UNCORR : Fld := ⟨0x048, 4, 2, 1⟩
def PANEL_EVENT_MASK.MASK : Fld := ⟨0x04C, 4, 0, 3⟩
def PANEL_EVENT_SRC.SOURCE : Fld := ⟨0x050, 4, 0, 12⟩
def PANEL_LCLK_DROP_CNT.COUNT : Fld := ⟨0x054, 4, 0, 16⟩
def PRAM_ERR_CNT.CORR : Fld := ⟨0x058, 4, 0, 16⟩
def PRAM_ERR_CNT.UNCORR : Fld := ⟨0x058, 4, 16, 16⟩
def PRAM_ERR_LAST.WORD : Fld := ⟨0x05C, 4, 0, 10⟩
def PRAM_ERR_LAST.RAM : Fld := ⟨0x05C, 4, 12, 2⟩
def PRAM_ERR_LAST.UNCORR : Fld := ⟨0x05C, 4, 30, 1⟩
def PRAM_ERR_LAST.VALID : Fld := ⟨0x05C, 4, 31, 1⟩
def PRAM_HOST_ADDR.WORD : Fld := ⟨0x080, 4, 0, 10⟩
def PRAM_HOST_ADDR.RAM : Fld := ⟨0x080, 4, 12, 2⟩
def PRAM_HOST_ADDR.AUTOINC : Fld := ⟨0x080, 4, 16, 1⟩
def PRAM_HOST_DATA.DATA : Fld := ⟨0x084, 4, 0, 32⟩

/-! Fields of R104 (spec/03_panels.md). -/

def PRAM_ERR_INJECT.ARM : Fld := ⟨0x400, 4, 0, 1⟩
def PRAM_ERR_INJECT.DOUBLE : Fld := ⟨0x400, 4, 1, 1⟩
def PRAM_ERR_INJECT.RAM : Fld := ⟨0x400, 4, 12, 2⟩
def PRAM_ERR_INJECT.BIT0 : Fld := ⟨0x400, 4, 16, 6⟩
def PRAM_ERR_INJECT.BIT1 : Fld := ⟨0x400, 4, 24, 6⟩

/-! Fields of R122 (spec/04_routing.md). -/

def RISER_CONFLICT.FLAG : Fld := ⟨0x040, 4, 0, 1⟩
def RISER_CONFLICT.MULTI : Fld := ⟨0x040, 4, 1, 1⟩
def RISER_CONFLICT.INDEX : Fld := ⟨0x040, 4, 16, 10⟩
def RISER_CONFLICT_CNT.COUNT : Fld := ⟨0x044, 4, 0, 16⟩
def RISER_CONFLICT_SRC.SOURCE : Fld := ⟨0x048, 4, 0, 12⟩
def RISER_CONFLICT_STAMP.STAMP : Fld := ⟨0x04C, 4, 0, 32⟩
def RISER_QUERY_INDEX.INDEX : Fld := ⟨0x050, 4, 0, 10⟩
def RISER_QUERY.VALUE : Fld := ⟨0x054, 4, 0, 8⟩
def RISER_HELD.HELD : Fld := ⟨0x080, 4, 0, 32⟩

/-! Fields of R150 (spec/05_planes.md). -/

def PANEL_PLANE_STATE.ACTIVE : Fld := ⟨0x100, 4, 0, 3⟩
def PANEL_PLANE_STATE.SHADOW : Fld := ⟨0x100, 4, 4, 3⟩
def PANEL_PLANE_STATE.SHADOW_STATE : Fld := ⟨0x100, 4, 8, 2⟩
def PANEL_PLANE_STATE.PENDING : Fld := ⟨0x100, 4, 12, 1⟩
def PANEL_PLANE_STATE.PENDING_FORCED : Fld := ⟨0x100, 4, 13, 1⟩
def PANEL_PLANE_STATE.PENDING_PLANE : Fld := ⟨0x100, 4, 16, 3⟩
def PANEL_PLANE_STATE.PENDING_GROUP : Fld := ⟨0x100, 4, 24, 8⟩
def PANEL_PLANE_CTRL.LATE_POLICY : Fld := ⟨0x104, 4, 0, 1⟩
def PANEL_PLANE_CTRL.DEFER_LIMIT : Fld := ⟨0x104, 4, 8, 8⟩
def PANEL_PLANE_CTRL.COOL_PLANE : Fld := ⟨0x104, 4, 16, 3⟩
def PANEL_PLANE_CTRL.COOL_VALID : Fld := ⟨0x104, 4, 19, 1⟩
def PANEL_PLANE_CMD.GROUP : Fld := ⟨0x108, 4, 0, 8⟩
def PANEL_PLANE_CMD.PLANE : Fld := ⟨0x108, 4, 8, 3⟩
def PANEL_PLANE_CMD.PREFETCH : Fld := ⟨0x108, 4, 12, 1⟩
def PANEL_PLANE_CMD.DEFER : Fld := ⟨0x108, 4, 13, 1⟩
def PANEL_PLANE_EVENT.LATE : Fld := ⟨0x10C, 4, 0, 1⟩
def PANEL_PLANE_EVENT.SKIP : Fld := ⟨0x10C, 4, 1, 1⟩
def PANEL_PLANE_EVENT.COLLIDE : Fld := ⟨0x10C, 4, 2, 1⟩
def PANEL_PLANE_EVENT.INVALID : Fld := ⟨0x10C, 4, 3, 1⟩
def PANEL_PLANE_EVENT.FILL_FAIL : Fld := ⟨0x10C, 4, 4, 1⟩
def PANEL_PLANE_EVENT.GOV_DEFER : Fld := ⟨0x10C, 4, 5, 1⟩
def PANEL_PLANE_EVENT.PF_DROP : Fld := ⟨0x10C, 4, 6, 1⟩
def PANEL_PLANE_EVENT_MASK.MASK : Fld := ⟨0x110, 4, 0, 7⟩
def PANEL_PLANE_EVENT_SRC.SOURCE : Fld := ⟨0x114, 4, 0, 12⟩
def PLANE_LATE.COUNT : Fld := ⟨0x118, 4, 0, 16⟩
def PLANE_SKIP.COUNT : Fld := ⟨0x11C, 4, 0, 16⟩
def PLANE_COLLIDE.COUNT : Fld := ⟨0x120, 4, 0, 16⟩
def PLANE_INVALID.COUNT : Fld := ⟨0x124, 4, 0, 16⟩
def PLANE_GOV_DEFER.COUNT : Fld := ⟨0x128, 4, 0, 16⟩
def PLANE_PF_DROP.COUNT : Fld := ⟨0x12C, 4, 0, 16⟩
def PLANE_SWITCH_CNT.COUNT : Fld := ⟨0x130, 4, 0, 32⟩
def PANEL_PLANE_SLOT.VALID : Fld := ⟨0x140, 4, 0, 1⟩
def PANEL_PLANE_SLOT.QUARTER : Fld := ⟨0x140, 4, 1, 1⟩
def PANEL_PLANE_SLOT.HEAT : Fld := ⟨0x140, 4, 2, 2⟩
def PANEL_PLANE_SLOT.BAD : Fld := ⟨0x140, 4, 4, 1⟩
def PANEL_GROUP.MEMBER : Fld := ⟨0x160, 4, 0, 32⟩

/-! Fields of R151 (spec/05_planes.md). -/

def SPAR_SIG_INDEX.FRAME : Fld := ⟨0x100, 4, 0, 20⟩
def SPAR_SIG.SIGNATURE : Fld := ⟨0x104, 4, 0, 32⟩
def SPAR_FRAME_STATE.BAD : Fld := ⟨0x108, 4, 0, 1⟩
def SPAR_FRAME_STATE.REPAIRING : Fld := ⟨0x108, 4, 1, 1⟩
def SPAR_BAD_COUNT.COUNT : Fld := ⟨0x10C, 4, 0, 12⟩

/-! Fields of R152 (spec/05_planes.md). -/

def SCRUB_CTRL.REPAIR : Fld := ⟨0x040, 4, 0, 1⟩
def SCRUB_PERIOD.MS : Fld := ⟨0x044, 4, 0, 14⟩
def SCRUB_REPAIR_TIMEOUT.MS : Fld := ⟨0x048, 4, 0, 16⟩
def SCRUB_LAST_PASS.MS : Fld := ⟨0x04C, 4, 0, 16⟩
def SCRUB_PASSES.COUNT : Fld := ⟨0x050, 4, 0, 32⟩
def SCRUB_EVENT.SPAR_UPSET : Fld := ⟨0x054, 4, 0, 1⟩
def SCRUB_EVENT.SAIL_UPSET : Fld := ⟨0x054, 4, 1, 1⟩
def SCRUB_EVENT.REPAIRED : Fld := ⟨0x054, 4, 2, 1⟩
def SCRUB_EVENT.UNREPAIRED : Fld := ⟨0x054, 4, 3, 1⟩
def SCRUB_EVENT.OVERRUN : Fld := ⟨0x054, 4, 4, 1⟩
def SCRUB_EVENT_MASK.MASK : Fld := ⟨0x058, 4, 0, 5⟩
def SCRUB_EVENT_SRC.SOURCE : Fld := ⟨0x05C, 4, 0, 12⟩
def SPAR_UPSET_CNT.COUNT : Fld := ⟨0x060, 4, 0, 16⟩
def SAIL_UPSET_CNT.COUNT : Fld := ⟨0x064, 4, 0, 16⟩
def REPAIR_FAIL_CNT.COUNT : Fld := ⟨0x068, 4, 0, 16⟩
def UPSET_LOG_HEAD.HEAD : Fld := ⟨0x06C, 4, 0, 5⟩
def UPSET_LOG.WORD : Fld := ⟨0x100, 4, 0, 32⟩

/-! Fields of R177 (spec/06_contexts.md). -/

def PANEL_CTX_LIVE.LIVE_Q0 : Fld := ⟨0x200, 4, 0, 8⟩
def PANEL_CTX_LIVE.LIVE_Q1 : Fld := ⟨0x200, 4, 8, 8⟩
def PANEL_CTX_LIVE.LIVE_Q2 : Fld := ⟨0x200, 4, 16, 8⟩
def PANEL_CTX_LIVE.LIVE_Q3 : Fld := ⟨0x200, 4, 24, 8⟩
def PANEL_CTX_STATUS.SHARE : Fld := ⟨0x204, 4, 0, 9⟩
def PANEL_CTX_STATUS.BUSY : Fld := ⟨0x204, 4, 16, 4⟩
def PANEL_CTX_STATUS.PENDING : Fld := ⟨0x204, 4, 20, 4⟩
def PANEL_CTX_STATUS.SAVING : Fld := ⟨0x204, 4, 24, 4⟩
def PANEL_CTX_CMD.INDEX : Fld := ⟨0x208, 4, 0, 8⟩
def PANEL_CTX_CMD.RING : Fld := ⟨0x208, 4, 8, 1⟩
def PANEL_CTX_CMD.DEFER : Fld := ⟨0x208, 4, 9, 1⟩
def PANEL_CTX_CMD.QMASK : Fld := ⟨0x208, 4, 12, 4⟩
def PANEL_CTX_CTRL.DEFER_LIMIT : Fld := ⟨0x20C, 4, 0, 8⟩
def PANEL_CTX_EVENT.LOST : Fld := ⟨0x210, 4, 0, 1⟩
def PANEL_CTX_EVENT.REPAIRED : Fld := ⟨0x210, 4, 1, 1⟩
def PANEL_CTX_EVENT.COLLIDE : Fld := ⟨0x210, 4, 2, 1⟩
def PANEL_CTX_EVENT.INVALID : Fld := ⟨0x210, 4, 3, 1⟩
def PANEL_CTX_EVENT.GOV_DEFER : Fld := ⟨0x210, 4, 4, 1⟩
def PANEL_CTX_EVENT.SKIP : Fld := ⟨0x210, 4, 5, 1⟩
def PANEL_CTX_EVENT_MASK.MASK : Fld := ⟨0x214, 4, 0, 6⟩
def PANEL_CTX_EVENT_SRC.SOURCE : Fld := ⟨0x218, 4, 0, 12⟩
def CTX_WAIT_CNT.COUNT : Fld := ⟨0x21C, 4, 0, 16⟩
def CTX_REPAIR_CNT.COUNT : Fld := ⟨0x220, 4, 0, 16⟩
def CTX_LOST_CNT.COUNT : Fld := ⟨0x224, 4, 0, 16⟩
def CTX_COLLIDE_CNT.COUNT : Fld := ⟨0x228, 4, 0, 16⟩
def CTX_INVALID_CNT.COUNT : Fld := ⟨0x22C, 4, 0, 16⟩
def CTX_GOV_DEFER_CNT.COUNT : Fld := ⟨0x230, 4, 0, 16⟩
def CTX_SKIP_CNT.COUNT : Fld := ⟨0x234, 4, 0, 16⟩
def CTX_SWAP_CNT.COUNT : Fld := ⟨0x238, 4, 0, 32⟩
def CTX_LOST_LAST.INDEX : Fld := ⟨0x23C, 4, 0, 8⟩
def CTX_LOST_LAST.QUARTER : Fld := ⟨0x23C, 4, 8, 2⟩
def CTX_LOST_LAST.FULL : Fld := ⟨0x23C, 4, 12, 1⟩
def CTX_LOST_LAST.VALID : Fld := ⟨0x23C, 4, 31, 1⟩

/-! Fields of R178 (spec/06_contexts.md). -/

def CTX_SPLIT.LOWER : Fld := ⟨0x300, 4, 0, 9⟩
def CTX_ACC_CMD.SLOT : Fld := ⟨0x304, 4, 0, 8⟩
def CTX_ACC_CMD.ROW : Fld := ⟨0x304, 4, 8, 3⟩
def CTX_ACC_CMD.TARGET : Fld := ⟨0x304, 4, 12, 2⟩
def CTX_ACC_CMD.OP : Fld := ⟨0x304, 4, 16, 2⟩
def CTX_ACC_STATUS.BUSY : Fld := ⟨0x308, 4, 0, 1⟩
def CTX_ACC_STATUS.RESULT : Fld := ⟨0x308, 4, 4, 4⟩
def CTX_BUF_INDEX.WORD : Fld := ⟨0x30C, 4, 0, 6⟩
def CTX_BUF_INDEX.AUTOINC : Fld := ⟨0x30C, 4, 8, 1⟩
def CTX_BUF_DATA.DATA : Fld := ⟨0x310, 4, 0, 32⟩
def CTX_RING_INDEX.SLOT : Fld := ⟨0x314, 4, 0, 8⟩
def CTX_RING_DATA.NEXT : Fld := ⟨0x318, 4, 0, 8⟩
def CTX_SLOT_INDEX.SLOT : Fld := ⟨0x31C, 4, 0, 8⟩
def CTX_SLOT_STATE.VALID : Fld := ⟨0x320, 4, 0, 4⟩
def CTX_SLOT_STATE.LIVE : Fld := ⟨0x320, 4, 4, 4⟩
def CTX_SLOT_STATE.MOVING : Fld := ⟨0x320, 4, 8, 1⟩
def CTX_SLOT_STATE.PANEL : Fld := ⟨0x320, 4, 9, 1⟩
def CTX_LOST_MAP.LOST : Fld := ⟨0x340, 4, 0, 32⟩

/-! Fields of R205 (spec/07_bridle_tracks.md). -/

def BRIDLE_CTRL.KEEP_ON_WARM : Fld := ⟨0x040, 4, 0, 1⟩
def BRIDLE_CTRL.SAVE_TRACKS : Fld := ⟨0x040, 4, 4, 1⟩
def BRIDLE_CTRL.ERASE_TRACKS : Fld := ⟨0x040, 4, 5, 1⟩
def BRIDLE_STATUS.COUNTING : Fld := ⟨0x044, 4, 0, 1⟩
def BRIDLE_STATUS.RESTORED : Fld := ⟨0x044, 4, 1, 1⟩
def BRIDLE_STATUS.RESTORE_BAD : Fld := ⟨0x044, 4, 2, 1⟩
def BRIDLE_STATUS.SAVE_BUSY : Fld := ⟨0x044, 4, 3, 1⟩
def BRIDLE_STATUS.SAVE_RESULT : Fld := ⟨0x044, 4, 4, 2⟩
def BRIDLE_FAULT_MAP_LO.FAULT : Fld := ⟨0x048, 4, 0, 32⟩
def BRIDLE_FAULT_MAP_HI.FAULT : Fld := ⟨0x04C, 4, 0, 32⟩
def BRIDLE_NS_LO.NS : Fld := ⟨0x050, 4, 0, 32⟩
def BRIDLE_NS_HI.NS : Fld := ⟨0x054, 4, 0, 32⟩

/-! Fields of R206 (spec/07_bridle_tracks.md). -/

def TRK_CTRL.ENABLE : Fld := ⟨0x040, 4, 0, 1⟩
def TRK_CTRL.RESTART : Fld := ⟨0x040, 4, 1, 1⟩
def TRK_CTRL.FORCE_FAULT : Fld := ⟨0x040, 4, 2, 1⟩
def TRK_CTRL.PRESET : Fld := ⟨0x040, 4, 3, 1⟩
def TRK_SRC.KIND : Fld := ⟨0x044, 4, 0, 3⟩
def TRK_SRC.INVERT_DIR : Fld := ⟨0x044, 4, 3, 1⟩
def TRK_SRC.EDGE : Fld := ⟨0x044, 4, 4, 1⟩
def TRK_SRC.Z_MODE : Fld := ⟨0x044, 4, 5, 2⟩
def TRK_SRC.Z_QUAL : Fld := ⟨0x044, 4, 7, 1⟩
def TRK_SRC.PIN_A : Fld := ⟨0x044, 4, 8, 8⟩
def TRK_SRC.PIN_B : Fld := ⟨0x044, 4, 16, 8⟩
def TRK_SRC.PIN_Z : Fld := ⟨0x044, 4, 24, 8⟩
def TRK_SRC2.PANEL : Fld := ⟨0x048, 4, 0, 10⟩
def TRK_SRC2.PORT_EN : Fld := ⟨0x048, 4, 12, 1⟩
def TRK_SRC2.REMOTE_TRACK : Fld := ⟨0x048, 4, 16, 6⟩
def TRK_SRC2.REMOTE_DEV : Fld := ⟨0x048, 4, 24, 6⟩
def TRK_MOD_LO.M : Fld := ⟨0x04C, 4, 0, 32⟩
def TRK_MOD_HI.M : Fld := ⟨0x050, 4, 0, 9⟩
def TRK_OBS.BW_HZ : Fld := ⟨0x054, 4, 0, 20⟩
def TRK_STEPMAX.COUNTS : Fld := ⟨0x058, 4, 0, 32⟩
def TRK_VMAX.RATE : Fld := ⟨0x05C, 4, 0, 32⟩
def TRK_LIMITS.REJECT_LIMIT : Fld := ⟨0x060, 4, 0, 8⟩
def TRK_COAST.US : Fld := ⟨0x064, 4, 0, 22⟩
def TRK_STALE.US : Fld := ⟨0x068, 4, 0, 22⟩
def TRK_FAULT_ACT.ACTION : Fld := ⟨0x06C, 4, 0, 12⟩
def TRK_FAULT_ACT.ENABLE : Fld := ⟨0x06C, 4, 15, 1⟩
def TRK_REF_LO.POS : Fld := ⟨0x070, 4, 0, 32⟩
def TRK_REF_HI.POS : Fld := ⟨0x074, 4, 0, 32⟩
def TRK_ZTOL.COUNTS : Fld := ⟨0x078, 4, 0, 16⟩
def TRK_PRESET_LO.POS : Fld := ⟨0x080, 4, 0, 32⟩
def TRK_PRESET_HI.POS : Fld := ⟨0x084, 4, 0, 32⟩
def TRK_TIME_RATE.RATE : Fld := ⟨0x088, 4, 0, 32⟩
def TRK_TIME_STEP_LO.OFFSET : Fld := ⟨0x08C, 4, 0, 32⟩
def TRK_TIME_STEP_HI.OFFSET : Fld := ⟨0x090, 4, 0, 32⟩
def TRK_STATUS.STATE : Fld := ⟨0x0A0, 4, 0, 2⟩
def TRK_STATUS.STILL : Fld := ⟨0x0A0, 4, 2, 1⟩
def TRK_STATUS.HOMED : Fld := ⟨0x0A0, 4, 3, 1⟩
def TRK_STATUS.DIR : Fld := ⟨0x0A0, 4, 4, 1⟩
def TRK_STATUS.CAUSE : Fld := ⟨0x0A0, 4, 8, 4⟩
def TRK_STATUS.CONSEC : Fld := ⟨0x0A0, 4, 16, 8⟩
def TRK_POS_LO.POS : Fld := ⟨0x0A4, 4, 0, 32⟩
def TRK_POS_HI.POS : Fld := ⟨0x0A8, 4, 0, 32⟩
def TRK_VEL_LO.VEL : Fld := ⟨0x0AC, 4, 0, 32⟩
def TRK_VEL_HI.VEL : Fld := ⟨0x0B0, 4, 0, 32⟩
def TRK_SNAP_NS.NS : Fld := ⟨0x0B4, 4, 0, 32⟩
def TRK_RAW_POS.COUNT : Fld := ⟨0x0B8, 4, 0, 32⟩
def TRK_Z_LATCH_LO.POS : Fld := ⟨0x0BC, 4, 0, 32⟩
def TRK_Z_LATCH_HI.POS : Fld := ⟨0x0C0, 4, 0, 32⟩
def TRK_EVENT.FAULT : Fld := ⟨0x0C4, 4, 0, 1⟩
def TRK_EVENT.REJECT : Fld := ⟨0x0C4, 4, 1, 1⟩
def TRK_EVENT.STILL : Fld := ⟨0x0C4, 4, 2, 1⟩
def TRK_EVENT.Z_MISMATCH : Fld := ⟨0x0C4, 4, 3, 1⟩
def TRK_EVENT.PORT_DROP : Fld := ⟨0x0C4, 4, 4, 1⟩
def TRK_EVENT_MASK.MASK : Fld := ⟨0x0C8, 4, 0, 5⟩
def TRK_EVENT_SRC.SOURCE : Fld := ⟨0x0CC, 4, 0, 12⟩
def TRK_REJECT_CNT.COUNT : Fld := ⟨0x0D0, 4, 0, 16⟩
def TRK_QUAD_ERR_CNT.COUNT : Fld := ⟨0x0D4, 4, 0, 16⟩
def TRK_PORT_DROP_CNT.COUNT : Fld := ⟨0x0D8, 4, 0, 16⟩
def TRK_FAULT_CNT.COUNT : Fld := ⟨0x0DC, 4, 0, 16⟩
def TRK_ZMIS_CNT.COUNT : Fld := ⟨0x0E0, 4, 0, 16⟩
def TRK_SAMPLE_DT.NS : Fld := ⟨0x0E4, 4, 0, 32⟩

/-! Fields of R207 (spec/07_bridle_tracks.md). -/

def TRK_OBS_DAMP.ZETA : Fld := ⟨0x400, 4, 0, 10⟩

/-! Fields of R230 (spec/08_bridle_marks.md). -/

def BRIDLE_QUEUE.DEPTH : Fld := ⟨0x080, 4, 0, 9⟩
def BRIDLE_QUEUE_PEAK.PEAK : Fld := ⟨0x084, 4, 0, 9⟩
def BRIDLE_LATE_CNT.COUNT : Fld := ⟨0x088, 4, 0, 32⟩
def BRIDLE_MISS_CNT.COUNT : Fld := ⟨0x08C, 4, 0, 32⟩
def BRIDLE_PRED_CANCEL_CNT.COUNT : Fld := ⟨0x090, 4, 0, 16⟩
def BRIDLE_OP_DROP_CNT.COUNT : Fld := ⟨0x094, 4, 0, 16⟩
def BRIDLE_ACT_CNT.COUNT : Fld := ⟨0x098, 4, 0, 32⟩
def BRIDLE_MEVENT.LATE : Fld := ⟨0x09C, 4, 0, 1⟩
def BRIDLE_MEVENT.MISS : Fld := ⟨0x09C, 4, 1, 1⟩
def BRIDLE_MEVENT.MISS_OVERWRITE : Fld := ⟨0x09C, 4, 2, 1⟩
def BRIDLE_MEVENT.PRED_CANCEL : Fld := ⟨0x09C, 4, 3, 1⟩
def BRIDLE_MEVENT.OP_DROP : Fld := ⟨0x09C, 4, 4, 1⟩
def BRIDLE_MEVENT_MASK.MASK : Fld := ⟨0x0A0, 4, 0, 5⟩
def BRIDLE_MEVENT_SRC.SOURCE : Fld := ⟨0x0A4, 4, 0, 12⟩
def BRIDLE_MISS_HEAD.HEAD : Fld := ⟨0x0A8, 4, 0, 6⟩
def BRIDLE_STAGE_INDEX.REG : Fld := ⟨0x0B0, 4, 0, 8⟩
def BRIDLE_STAGE_DATA.VALUE : Fld := ⟨0x0B4, 4, 0, 32⟩
def BRIDLE_ARMED_SEL.TRACK : Fld := ⟨0x0C0, 4, 0, 6⟩
def BRIDLE_ARMED.MARK : Fld := ⟨0x0C4, 4, 0, 14⟩
def BRIDLE_ARMED.VALID : Fld := ⟨0x0C4, 4, 31, 1⟩
def BRIDLE_MARK_RANGE.BASE : Fld := ⟨0x100, 4, 0, 14⟩
def BRIDLE_MARK_RANGE.COUNT : Fld := ⟨0x100, 4, 16, 15⟩
def BRIDLE_MISS_LOG.WORD : Fld := ⟨0x200, 4, 0, 32⟩

/-! Fields of R244 (spec/09_stagger_and_bounds.md). -/

def GOV_CTRL.MODE : Fld := ⟨0x200, 4, 0, 1⟩
def GOV_CTRL.ALIGN : Fld := ⟨0x200, 4, 4, 1⟩
def GOV_CTRL.RESUME : Fld := ⟨0x200, 4, 8, 1⟩
def GOV_WINDOW.US : Fld := ⟨0x204, 4, 0, 10⟩
def GOV_TEMP_LIMITS.WARN : Fld := ⟨0x208, 4, 0, 8⟩
def GOV_TEMP_LIMITS.HOT : Fld := ⟨0x208, 4, 8, 8⟩
def GOV_TEMP_LIMITS.HOT_HYST : Fld := ⟨0x208, 4, 16, 4⟩
def GOV_STATUS.HELD : Fld := ⟨0x20C, 4, 0, 9⟩
def GOV_STATUS.TRIPPED : Fld := ⟨0x20C, 4, 16, 1⟩
def GOV_EVENT.WARN : Fld := ⟨0x210, 4, 0, 1⟩
def GOV_EVENT.HOT : Fld := ⟨0x210, 4, 1, 1⟩
def GOV_EVENT.TRIP : Fld := ⟨0x210, 4, 2, 1⟩
def GOV_EVENT.STAGGER_VIOLATION : Fld := ⟨0x210, 4, 3, 1⟩
def GOV_EVENT.SWAP_OVER : Fld := ⟨0x210, 4, 4, 1⟩
def GOV_EVENT.PF_OVER : Fld := ⟨0x210, 4, 5, 1⟩
def GOV_EVENT.HOT_RELEASE : Fld := ⟨0x210, 4, 6, 1⟩
def GOV_EVENT.SENSOR_FAIL : Fld := ⟨0x210, 4, 7, 1⟩
def GOV_EVENT_MASK.MASK : Fld := ⟨0x214, 4, 0, 8⟩
def GOV_EVENT_SRC.SOURCE : Fld := ⟨0x218, 4, 0, 12⟩
def GOV_STAGGER_CNT.COUNT : Fld := ⟨0x21C, 4, 0, 16⟩
def GOV_STAGGER_LAST.COLUMN : Fld := ⟨0x220, 4, 0, 9⟩
def GOV_STAGGER_LAST.VALID : Fld := ⟨0x220, 4, 31, 1⟩
def GOV_SWAP_ROWS.ROWS : Fld := ⟨0x224, 4, 0, 28⟩
def GOV_FILLS.FILLS : Fld := ⟨0x228, 4, 0, 23⟩
def GOV_SWAP_OVER_CNT.COUNT : Fld := ⟨0x22C, 4, 0, 16⟩
def GOV_PF_OVER_CNT.COUNT : Fld := ⟨0x230, 4, 0, 16⟩
def GOV_TEMP_SEL.COLUMN : Fld := ⟨0x240, 4, 0, 9⟩
def GOV_TEMP_DATA.BALLAST : Fld := ⟨0x244, 4, 0, 8⟩
def GOV_TEMP_DATA.LOWER : Fld := ⟨0x244, 4, 8, 8⟩
def GOV_TEMP_DATA.SPAR : Fld := ⟨0x244, 4, 16, 8⟩
def GOV_TEMP_DATA.UPPER : Fld := ⟨0x244, 4, 24, 8⟩
def GOV_TMAX.TEMP : Fld := ⟨0x248, 4, 0, 8⟩
def GOV_TMAX.COLUMN : Fld := ⟨0x248, 4, 16, 9⟩
def GOV_HELD_MAP.HELD : Fld := ⟨0x280, 4, 0, 32⟩

/-! Fields of R279 (spec/10_scratchpad.md). -/

def BANK_HANDOVER.BANK : Fld := ⟨0x040, 4, 0, 10⟩
def BANK_HANDOVER.KIND : Fld := ⟨0x040, 4, 12, 2⟩
def BANK_HANDOVER.PART : Fld := ⟨0x040, 4, 16, 3⟩
def BANK_HANDOVER.ENGINE : Fld := ⟨0x040, 4, 20, 2⟩
def BANK_HANDOVER_STATUS.BUSY : Fld := ⟨0x044, 4, 0, 1⟩
def BANK_HANDOVER_STATUS.ABORTED : Fld := ⟨0x044, 4, 8, 8⟩
def BANK_HANDOVER_STATUS.BANK : Fld := ⟨0x044, 4, 16, 10⟩
def BANK_OWNER_INDEX.BANK : Fld := ⟨0x048, 4, 0, 10⟩
def BANK_OWNER.KIND : Fld := ⟨0x04C, 4, 0, 2⟩
def BANK_OWNER.PART : Fld := ⟨0x04C, 4, 4, 3⟩
def BANK_OWNER.ENGINE : Fld := ⟨0x04C, 4, 8, 2⟩
def BANK_RETIRE.BANK : Fld := ⟨0x050, 4, 0, 10⟩
def BANK_RETIRE.WHOLE : Fld := ⟨0x050, 4, 12, 1⟩
def BANK_RETIRE.PAGE : Fld := ⟨0x050, 4, 16, 3⟩
def BANK_MIRROR_SEL.GROUP : Fld := ⟨0x054, 4, 0, 6⟩
def BANK_MIRROR_CTRL.PARTNER : Fld := ⟨0x058, 4, 0, 4⟩
def BANK_MIRROR_CTRL.PAGES : Fld := ⟨0x058, 4, 8, 8⟩
def BANK_MIRROR_CTRL.ENABLE : Fld := ⟨0x058, 4, 16, 1⟩
def BANK_MIRROR_CTRL.SYNCED : Fld := ⟨0x058, 4, 24, 8⟩
def BANK_TEST_PERIOD.MS : Fld := ⟨0x05C, 4, 0, 16⟩
def BANK_CTX_TEST_PERIOD.MS : Fld := ⟨0x060, 4, 0, 16⟩
def BANK_LOG_WINDOW.MS : Fld := ⟨0x064, 4, 0, 16⟩
def BANK_LOG_GROUP.GROUP : Fld := ⟨0x068, 4, 0, 6⟩
def BANK_LOG_HEAD.HEAD : Fld := ⟨0x06C, 4, 0, 6⟩
def BANK_EVENT.CANDIDATE : Fld := ⟨0x070, 4, 0, 1⟩
def BANK_EVENT.POISON : Fld := ⟨0x070, 4, 1, 1⟩
def BANK_EVENT.HANDOVER_ABORT : Fld := ⟨0x070, 4, 2, 1⟩
def BANK_EVENT.MIRROR_LOST : Fld := ⟨0x070, 4, 3, 1⟩
def BANK_EVENT_MASK.MASK : Fld := ⟨0x074, 4, 0, 4⟩
def BANK_EVENT_SRC.SOURCE : Fld := ⟨0x078, 4, 0, 12⟩
def BANK_CAND.LINE : Fld := ⟨0x07C, 4, 0, 13⟩
def BANK_CAND.BANK : Fld := ⟨0x07C, 4, 16, 10⟩
def BANK_CAND.VALID : Fld := ⟨0x07C, 4, 31, 1⟩
def BANK_TEST_EXCL.EXCL : Fld := ⟨0x080, 4, 0, 32⟩
def BANK_LOG.WORD : Fld := ⟨0x100, 4, 0, 32⟩

/-! Fields of R281 (spec/10_scratchpad.md). -/

def BANK_STATUS.STATE : Fld := ⟨0x040, 32, 0, 2⟩
def BANK_STATUS.TWIN : Fld := ⟨0x040, 32, 2, 1⟩
def BANK_STATUS.MODE : Fld := ⟨0x040, 32, 4, 2⟩
def BANK_STATUS.REASON : Fld := ⟨0x040, 32, 8, 8⟩
def BANK_STATUS.RETIRED : Fld := ⟨0x040, 32, 16, 8⟩
def BANK_STATUS.OWNER_KIND : Fld := ⟨0x040, 32, 24, 2⟩
def BANK_STATUS.OWNER_PART : Fld := ⟨0x040, 32, 28, 3⟩
def BANK_CNT_TRANSIENT.COUNT : Fld := ⟨0x044, 32, 0, 16⟩
def BANK_CNT_REPAIRED.COUNT : Fld := ⟨0x048, 32, 0, 16⟩
def BANK_CNT_POISON.COUNT : Fld := ⟨0x04C, 32, 0, 16⟩
def BANK_CNT_OWNER.COUNT : Fld := ⟨0x050, 32, 0, 16⟩

/-! Fields of R282 (spec/10_scratchpad.md). -/

def BANK_ERR_INJECT.ARM : Fld := ⟨0x400, 4, 0, 1⟩
def BANK_ERR_INJECT.BANK : Fld := ⟨0x400, 4, 4, 1⟩
def BANK_ERR_INJECT.MODE : Fld := ⟨0x400, 4, 5, 1⟩
def BANK_ERR_INJECT.LINE : Fld := ⟨0x400, 4, 8, 13⟩
def BANK_ERR_INJECT.BIT : Fld := ⟨0x400, 4, 22, 10⟩

/-! Fields of R309 (spec/11_rigging.md). -/

def RIG_EPOCH.CURRENT : Fld := ⟨0x040, 4, 0, 1⟩
def RIG_EPOCH.FLIP : Fld := ⟨0x040, 4, 1, 1⟩
def RIG_EPOCH.OLD_BUSY : Fld := ⟨0x040, 4, 2, 1⟩
def RIG_WEIGHT.RESPONSE : Fld := ⟨0x044, 4, 0, 4⟩
def RIG_WEIGHT.REQUEST : Fld := ⟨0x044, 4, 4, 4⟩
def RIG_WEIGHT.BULK : Fld := ⟨0x044, 4, 8, 4⟩
def RIG_DRAIN_TIMEOUT.US : Fld := ⟨0x048, 4, 0, 8⟩
def RIG_INIT_SEL.INIT : Fld := ⟨0x04C, 4, 0, 7⟩
def RIG_INIT_TIMEOUT.US : Fld := ⟨0x050, 4, 0, 16⟩
def RIG_ST_BYTES_LO.BYTES : Fld := ⟨0x054, 4, 0, 32⟩
def RIG_ST_BYTES_HI.BYTES : Fld := ⟨0x058, 4, 0, 32⟩
def RIG_ST_TRANS.COUNT : Fld := ⟨0x05C, 4, 0, 32⟩
def RIG_ST_STALL.CYCLES : Fld := ⟨0x060, 4, 0, 32⟩
def RIG_ST_TOKSTALL.CYCLES : Fld := ⟨0x064, 4, 0, 32⟩
def RIG_ST_TIMEOUT.COUNT : Fld := ⟨0x068, 4, 0, 32⟩
def RIG_ST_LATE_RESP.COUNT : Fld := ⟨0x06C, 4, 0, 32⟩
def RIG_ST_POISON.COUNT : Fld := ⟨0x070, 4, 0, 32⟩
def RIG_ST_LAT.MIN : Fld := ⟨0x074, 4, 0, 16⟩
def RIG_ST_LAT.MAX : Fld := ⟨0x074, 4, 16, 16⟩
def RIG_ST_TAGS.BUSY : Fld := ⟨0x078, 4, 0, 7⟩
def RIG_ST_HIST.COUNT : Fld := ⟨0x080, 4, 0, 32⟩
def RIG_EVENT.TIMEOUT : Fld := ⟨0x0C0, 4, 0, 1⟩
def RIG_EVENT.HDR_UNCORR : Fld := ⟨0x0C0, 4, 1, 1⟩
def RIG_EVENT.NO_ROUTE : Fld := ⟨0x0C0, 4, 2, 1⟩
def RIG_EVENT.DRAIN_ABANDON : Fld := ⟨0x0C0, 4, 3, 1⟩
def RIG_EVENT.EPOCH_DONE : Fld := ⟨0x0C0, 4, 4, 1⟩
def RIG_EVENT_MASK.MASK : Fld := ⟨0x0C4, 4, 0, 5⟩
def RIG_EVENT_SRC.SOURCE : Fld := ⟨0x0C8, 4, 0, 12⟩
def RIG_DOMAIN.STATE : Fld := ⟨0x100, 4, 0, 3⟩
def RIG_DOMAIN.ABANDONED : Fld := ⟨0x100, 4, 16, 16⟩

/-! Fields of R310 (spec/11_rigging.md). -/

def RIGN_INFO.KIND : Fld := ⟨0x040, 4, 0, 2⟩
def RIGN_INFO.MAST : Fld := ⟨0x040, 4, 8, 4⟩
def RIGN_INFO.U : Fld := ⟨0x040, 4, 16, 4⟩
def RIGN_INFO.V : Fld := ⟨0x040, 4, 20, 3⟩
def RIGN_CTRL.DISABLE : Fld := ⟨0x044, 4, 0, 1⟩
def RIGN_LINK.DISABLE : Fld := ⟨0x048, 4, 0, 6⟩
def RIGN_LINK.DEAD : Fld := ⟨0x048, 4, 8, 6⟩
def RIGN_STATE.STATE : Fld := ⟨0x04C, 4, 0, 2⟩
def RIGN_STATE.OLD_FLITS : Fld := ⟨0x04C, 4, 8, 8⟩
def RIGN_TBL_INDEX.ENTRY : Fld := ⟨0x050, 4, 0, 8⟩
def RIGN_TBL_INDEX.TABLE : Fld := ⟨0x050, 4, 8, 1⟩
def RIGN_TBL_DATA.ENTRY : Fld := ⟨0x054, 4, 0, 6⟩
def RIGN_HDR_CORR.COUNT : Fld := ⟨0x060, 4, 0, 16⟩
def RIGN_HDR_UNCORR.COUNT : Fld := ⟨0x064, 4, 0, 16⟩
def RIGN_NO_ROUTE.COUNT : Fld := ⟨0x068, 4, 0, 16⟩
def RIGN_URGENT_DROP.COUNT : Fld := ⟨0x06C, 4, 0, 16⟩

/-! Fields of R330 (spec/12_spool.md). -/

def ENG_CTRL.ARB : Fld := ⟨0x040, 4, 0, 1⟩
def ENG_STATUS.ACTIVE : Fld := ⟨0x044, 4, 0, 16⟩
def ENG_STATUS.HALTED : Fld := ⟨0x044, 4, 16, 16⟩
def ENG_BURSTS.READS : Fld := ⟨0x048, 4, 0, 7⟩
def ENG_CUR.CHANNEL : Fld := ⟨0x04C, 4, 0, 4⟩
def ENG_CUR.VALID : Fld := ⟨0x04C, 4, 7, 1⟩

/-! Fields of R331 (spec/12_spool.md). -/

def SPOOL_HALT_MAP_LO.HALT : Fld := ⟨0x040, 4, 0, 32⟩
def SPOOL_HALT_MAP_HI.HALT : Fld := ⟨0x044, 4, 0, 32⟩

/-! Fields of R332 (spec/12_spool.md). -/

def CH_CTRL.ENABLE : Fld := ⟨0x040, 4, 0, 1⟩
def CH_CTRL.RING_HOST : Fld := ⟨0x040, 4, 1, 1⟩
def CH_CTRL.TRIG_MODE : Fld := ⟨0x040, 4, 2, 1⟩
def CH_CTRL.PRIO : Fld := ⟨0x040, 4, 4, 3⟩
def CH_CTRL.BURST : Fld := ⟨0x040, 4, 8, 4⟩
def CH_PART.PART : Fld := ⟨0x044, 4, 0, 3⟩
def CH_RING_BASE_LO.BASE : Fld := ⟨0x048, 4, 5, 27⟩
def CH_RING_BASE_HI.BASE : Fld := ⟨0x04C, 4, 0, 32⟩
def CH_RING_SIZE.SIZE : Fld := ⟨0x050, 4, 0, 17⟩
def CH_HEAD.INDEX : Fld := ⟨0x054, 4, 0, 16⟩
def CH_CMD.CMD : Fld := ⟨0x058, 4, 0, 3⟩
def CH_STATUS.STATE : Fld := ⟨0x05C, 4, 0, 3⟩
def CH_STATUS.KICK_PENDING : Fld := ⟨0x05C, 4, 8, 1⟩
def CH_STATUS.STOP_PENDING : Fld := ⟨0x05C, 4, 9, 1⟩
def CH_STATUS.TRIG_PENDING : Fld := ⟨0x05C, 4, 16, 8⟩
def CH_EVENT.DONE : Fld := ⟨0x060, 4, 0, 1⟩
def CH_EVENT.HALT : Fld := ⟨0x060, 4, 1, 1⟩
def CH_EVENT.TRIG_EMPTY : Fld := ⟨0x060, 4, 2, 1⟩
def CH_EVENT.TRIG_OVF : Fld := ⟨0x060, 4, 3, 1⟩
def CH_EVENT.LATE_START : Fld := ⟨0x060, 4, 4, 1⟩
def CH_EVENT.BAD_DESC : Fld := ⟨0x060, 4, 5, 1⟩
def CH_EVENT_MASK.MASK : Fld := ⟨0x064, 4, 0, 6⟩
def CH_EVENT_SRC.SOURCE : Fld := ⟨0x068, 4, 0, 12⟩
def CH_DONE_SRC.SOURCE : Fld := ⟨0x06C, 4, 0, 12⟩
def CH_ERR_INFO.CODE : Fld := ⟨0x070, 4, 0, 4⟩
def CH_ERR_INFO.DIR : Fld := ⟨0x070, 4, 4, 1⟩
def CH_ERR_INFO.PHASE : Fld := ⟨0x070, 4, 5, 2⟩
def CH_ERR_INFO.HOST : Fld := ⟨0x070, 4, 7, 1⟩
def CH_ERR_INFO.MULTI : Fld := ⟨0x070, 4, 8, 1⟩
def CH_ERR_INFO.DESC : Fld := ⟨0x070, 4, 16, 16⟩
def CH_ERR_ADDR_LO.ADDR : Fld := ⟨0x074, 4, 0, 32⟩
def CH_ERR_ADDR_HI.ADDR : Fld := ⟨0x078, 4, 0, 32⟩
def CH_DESC_CNT.COUNT : Fld := ⟨0x07C, 4, 0, 32⟩
def CH_TRIG_EMPTY_CNT.COUNT : Fld := ⟨0x080, 4, 0, 16⟩
def CH_TRIG_OVF_CNT.COUNT : Fld := ⟨0x084, 4, 0, 16⟩
def CH_LATE_CNT.COUNT : Fld := ⟨0x088, 4, 0, 16⟩
def CH_BAD_CNT.COUNT : Fld := ⟨0x08C, 4, 0, 16⟩

/-! Fields of R350 (spec/13_interrupts.md). -/

def INTC_DOORBELL_S.SOURCE : Fld := ⟨0x040, 4, 0, 32⟩
def INTC_GLOBAL.DELIVER : Fld := ⟨0x044, 4, 0, 1⟩
def INTC_DB_REJ_ZERO.COUNT : Fld := ⟨0x048, 4, 0, 16⟩
def INTC_DB_REJ_RANGE.COUNT : Fld := ⟨0x04C, 4, 0, 16⟩
def INTC_DB_REJ_WORLD.COUNT : Fld := ⟨0x050, 4, 0, 16⟩
def INTC_SPURIOUS_COMPLETE.COUNT : Fld := ⟨0x054, 4, 0, 16⟩
def INTC_DB_RESET_CNT.COUNT : Fld := ⟨0x058, 4, 0, 16⟩
def INTC_DB_CNT.COUNT : Fld := ⟨0x05C, 4, 0, 32⟩
def INTC_EVENT.DB_REJECT : Fld := ⟨0x060, 4, 0, 1⟩
def INTC_EVENT.SPURIOUS : Fld := ⟨0x060, 4, 1, 1⟩
def INTC_EVENT.OVF : Fld := ⟨0x060, 4, 2, 1⟩
def INTC_EVENT.MSG_ERR : Fld := ⟨0x060, 4, 3, 1⟩
def INTC_EVENT_MASK.MASK : Fld := ⟨0x064, 4, 0, 4⟩
def INTC_EVENT_SRC.SOURCE : Fld := ⟨0x068, 4, 0, 12⟩

/-! Fields of R351 (spec/13_interrupts.md). -/

def INTC_DOORBELL_NS.SOURCE : Fld := ⟨0x040, 4, 0, 32⟩
def INTC_SRC_SEL.SOURCE : Fld := ⟨0x044, 4, 0, 12⟩
def SRC_CFG.ENABLE : Fld := ⟨0x048, 4, 0, 1⟩
def SRC_CFG.MODE : Fld := ⟨0x048, 4, 1, 1⟩
def SRC_CFG.PRIO : Fld := ⟨0x048, 4, 4, 4⟩
def SRC_CFG.SECURE : Fld := ⟨0x048, 4, 8, 1⟩
def SRC_CFG.PART : Fld := ⟨0x048, 4, 12, 3⟩
def SRC_TMASK.MASK : Fld := ⟨0x04C, 4, 0, 32⟩
def SRC_STATE.STATE : Fld := ⟨0x050, 4, 0, 2⟩
def SRC_STATE.COUNT : Fld := ⟨0x050, 4, 8, 8⟩
def SRC_STATE.TARGET : Fld := ⟨0x050, 4, 16, 5⟩
def SRC_STATE.OVF : Fld := ⟨0x050, 4, 24, 1⟩
def INTC_PEND.PEND : Fld := ⟨0x100, 4, 0, 32⟩

/-! Fields of R352 (spec/13_interrupts.md). -/

def TGT_CTRL.ENABLE : Fld := ⟨0x040, 48, 0, 1⟩
def TGT_CTRL.KIND : Fld := ⟨0x040, 48, 1, 1⟩
def TGT_CTRL.SECURE : Fld := ⟨0x040, 48, 2, 1⟩
def TGT_CTRL.PART : Fld := ⟨0x040, 48, 4, 3⟩
def TGT_CTRL.PANEL : Fld := ⟨0x040, 48, 16, 10⟩
def TGT_ADDR_LO.ADDR : Fld := ⟨0x044, 48, 2, 30⟩
def TGT_ADDR_HI.ADDR : Fld := ⟨0x048, 48, 0, 32⟩
def TGT_DATA.DATA : Fld := ⟨0x04C, 48, 0, 32⟩
def TGT_CPR.CPR : Fld := ⟨0x050, 48, 0, 4⟩
def TGT_CLAIM.VALUE : Fld := ⟨0x054, 48, 0, 32⟩
def TGT_COMPLETE.SOURCE : Fld := ⟨0x058, 48, 0, 12⟩
def TGT_STATUS.DELIVERED : Fld := ⟨0x05C, 48, 0, 13⟩
def TGT_STATUS.ACTIVE : Fld := ⟨0x05C, 48, 16, 13⟩
def TGT_MSG_CNT.COUNT : Fld := ⟨0x060, 48, 0, 32⟩
def TGT_MSG_ERR_CNT.COUNT : Fld := ⟨0x064, 48, 0, 16⟩

/-! Fields of R374 (spec/14_lanes.md). -/

def LANE_CTRL.ENABLE : Fld := ⟨0x040, 4, 0, 1⟩
def LANE_CTRL.RATE : Fld := ⟨0x040, 4, 1, 3⟩
def LANE_CTRL.PRECODE : Fld := ⟨0x040, 4, 4, 1⟩
def LANE_CTRL.TX_INVERT : Fld := ⟨0x040, 4, 5, 1⟩
def LANE_CTRL.RX_INVERT : Fld := ⟨0x040, 4, 6, 1⟩
def LANE_CTRL.RETRAIN : Fld := ⟨0x040, 4, 7, 1⟩
def LANE_CTRL.OWNER : Fld := ⟨0x040, 4, 8, 2⟩
def LANE_STATUS.POWER : Fld := ⟨0x044, 4, 0, 1⟩
def LANE_STATUS.STAGE : Fld := ⟨0x044, 4, 4, 3⟩
def LANE_STATUS.CDR_LOCK : Fld := ⟨0x044, 4, 8, 1⟩
def LANE_STATUS.PRECODE_LIVE : Fld := ⟨0x044, 4, 9, 1⟩
def LANE_STATUS.START : Fld := ⟨0x044, 4, 12, 2⟩
def LANE_STATUS.TRIM_MOVING : Fld := ⟨0x044, 4, 16, 1⟩
def LANE_PLL.BAND : Fld := ⟨0x048, 4, 0, 2⟩
def LANE_PLL.LOCKED : Fld := ⟨0x048, 4, 4, 1⟩
def LANE_PLL.REF : Fld := ⟨0x048, 4, 8, 1⟩
def LANE_TX_FFE.PRE2 : Fld := ⟨0x050, 4, 0, 6⟩
def LANE_TX_FFE.PRE1 : Fld := ⟨0x050, 4, 6, 6⟩
def LANE_TX_FFE.MAIN : Fld := ⟨0x050, 4, 12, 6⟩
def LANE_TX_FFE.POST1 : Fld := ⟨0x050, 4, 18, 6⟩
def LANE_TX_FFE.POST2 : Fld := ⟨0x050, 4, 24, 6⟩
def LANE_TX_FFE_LIVE.FFE : Fld := ⟨0x054, 4, 0, 30⟩
def LANE_RX_CTLE.PEAK : Fld := ⟨0x058, 4, 0, 6⟩
def LANE_RX_CTLE.LF_GAIN : Fld := ⟨0x058, 4, 8, 4⟩
def LANE_RX_CTLE.TRIM_EN : Fld := ⟨0x058, 4, 16, 1⟩
def LANE_RX_CTLE.TABLE_VALID : Fld := ⟨0x058, 4, 31, 1⟩
def LANE_RX_LIVE.PEAK : Fld := ⟨0x05C, 4, 0, 6⟩
def LANE_RX_LIVE.TARGET : Fld := ⟨0x05C, 4, 8, 6⟩
def LANE_RX_LIVE.LF_GAIN : Fld := ⟨0x05C, 4, 16, 4⟩
def LANE_EYE.WIDTH : Fld := ⟨0x060, 4, 0, 6⟩
def LANE_EYE.H0 : Fld := ⟨0x060, 4, 8, 8⟩
def LANE_EYE.H1 : Fld := ⟨0x060, 4, 16, 8⟩
def LANE_EYE.H2 : Fld := ⟨0x060, 4, 24, 8⟩
def LANE_BER.EXP : Fld := ⟨0x064, 4, 0, 5⟩
def LANE_BER.MANT : Fld := ⟨0x064, 4, 8, 4⟩
def LANE_CAL_LIMITS.EYE_W_MIN : Fld := ⟨0x068, 4, 0, 6⟩
def LANE_CAL_LIMITS.EYE_H_MIN : Fld := ⟨0x068, 4, 8, 8⟩
def LANE_TRIM.PERIOD_MS : Fld := ⟨0x06C, 4, 0, 16⟩
def LANE_EVENT.CAL_REJECTED : Fld := ⟨0x070, 4, 0, 1⟩
def LANE_EVENT.LOCK_LOST : Fld := ⟨0x070, 4, 1, 1⟩
def LANE_EVENT.STAGE_TIMEOUT : Fld := ⟨0x070, 4, 2, 1⟩
def LANE_EVENT.BLOB_BAD : Fld := ⟨0x070, 4, 3, 1⟩
def LANE_EVENT.ACTIVE_REACHED : Fld := ⟨0x070, 4, 4, 1⟩
def LANE_EVENT_MASK.MASK : Fld := ⟨0x074, 4, 0, 5⟩
def LANE_EVENT_SRC.SOURCE : Fld := ⟨0x078, 4, 0, 12⟩
def LANE_RETRY_CNT.COUNT : Fld := ⟨0x07C, 4, 0, 16⟩
def LANE_LOCK_LOST_CNT.COUNT : Fld := ⟨0x080, 4, 0, 16⟩
def LANE_CAL_REJ_CNT.COUNT : Fld := ⟨0x084, 4, 0, 16⟩
def LANE_TIMEOUTS.DETECT_MS : Fld := ⟨0x088, 4, 0, 8⟩
def LANE_TIMEOUTS.TRAIN_MS : Fld := ⟨0x088, 4, 8, 8⟩
def LANE_TIMEOUTS.LOCK_MS : Fld := ⟨0x088, 4, 16, 8⟩
def LANE_TIMEOUTS.EXCH_MS : Fld := ⟨0x088, 4, 24, 8⟩
def LANE_BACKOFF.MS : Fld := ⟨0x08C, 4, 0, 10⟩
def LANE_CAL_AUTOSAVE.ENABLE : Fld := ⟨0x090, 4, 0, 1⟩
def LANE_CAL_CMD.OP : Fld := ⟨0x094, 4, 0, 2⟩
def LANE_CAL_RESULT.RESULT : Fld := ⟨0x098, 4, 0, 4⟩
def LANE_PCIE_PRESETS.ENABLE : Fld := ⟨0x09C, 4, 0, 11⟩
def LANE_CAL_BLOB.WORD : Fld := ⟨0x0C0, 4, 0, 32⟩

/-! Fields of R398 (spec/15_tether.md). -/

def TETHER_CTRL.ENABLE : Fld := ⟨0x040, 4, 0, 1⟩
def TETHER_CTRL.LANES : Fld := ⟨0x040, 4, 1, 2⟩
def TETHER_CTRL.BASE_LANE : Fld := ⟨0x040, 4, 4, 6⟩
def TETHER_CTRL.RATE : Fld := ⟨0x040, 4, 12, 2⟩
def TETHER_CTRL.RETRAIN : Fld := ⟨0x040, 4, 16, 1⟩
def TETHER_CTRL.UPLINK : Fld := ⟨0x040, 4, 17, 1⟩
def TETHER_CTRL.FLOCK : Fld := ⟨0x040, 4, 18, 1⟩
def TETHER_STATUS.STATE : Fld := ⟨0x044, 4, 0, 3⟩
def TETHER_STATUS.WIDTH : Fld := ⟨0x044, 4, 4, 2⟩
def TETHER_STATUS.PARTNER_DEV : Fld := ⟨0x044, 4, 8, 6⟩
def TETHER_STATUS.PARTNER_PORT : Fld := ⟨0x044, 4, 16, 3⟩
def TETHER_STATUS.PARTNER_VALID : Fld := ⟨0x044, 4, 19, 1⟩
def TETHER_STATUS.EXCH_REASON : Fld := ⟨0x044, 4, 24, 4⟩
def TETHER_TIMERS.ACK_TIMEOUT_US : Fld := ⟨0x048, 4, 0, 8⟩
def TETHER_TIMERS.DOWN_US : Fld := ⟨0x048, 4, 8, 16⟩
def TETHER_TIMERS.REPLAY_LIMIT : Fld := ⟨0x048, 4, 24, 8⟩
def TETHER_LINK_DELAY.DELAY : Fld := ⟨0x04C, 4, 0, 20⟩
def TETHER_LINK_DELAY.VALID : Fld := ⟨0x04C, 4, 31, 1⟩
def TETHER_TX_SEQ.NEXT : Fld := ⟨0x050, 4, 0, 12⟩
def TETHER_TX_SEQ.ACKED : Fld := ⟨0x050, 4, 16, 12⟩
def TETHER_RX_SEQ.EXPECT : Fld := ⟨0x054, 4, 0, 12⟩
def TETHER_REPLAY_FILL.FLITS : Fld := ⟨0x058, 4, 0, 8⟩
def TETHER_EVENT.REPLAY : Fld := ⟨0x05C, 4, 0, 1⟩
def TETHER_EVENT.RETRAIN : Fld := ⟨0x05C, 4, 1, 1⟩
def TETHER_EVENT.DOWN : Fld := ⟨0x05C, 4, 2, 1⟩
def TETHER_EVENT.EXCH_FAIL : Fld := ⟨0x05C, 4, 3, 1⟩
def TETHER_EVENT.NARROW : Fld := ⟨0x05C, 4, 4, 1⟩
def TETHER_EVENT.CREDIT_ERR : Fld := ⟨0x05C, 4, 5, 1⟩
def TETHER_EVENT_MASK.MASK : Fld := ⟨0x060, 4, 0, 6⟩
def TETHER_EVENT_SRC.SOURCE : Fld := ⟨0x064, 4, 0, 12⟩
def TETHER_FEC_CORR_CNT.COUNT : Fld := ⟨0x068, 4, 0, 32⟩
def TETHER_CRC_ERR_CNT.COUNT : Fld := ⟨0x06C, 4, 0, 16⟩
def TETHER_REPLAY_CNT.COUNT : Fld := ⟨0x070, 4, 0, 16⟩
def TETHER_RETRAIN_CNT.COUNT : Fld := ⟨0x074, 4, 0, 16⟩
def TETHER_DOWN_DROP_CNT.COUNT : Fld := ⟨0x078, 4, 0, 16⟩
def TETHER_TX_FLITS.COUNT : Fld := ⟨0x07C, 4, 0, 32⟩
def TETHER_RX_FLITS.COUNT : Fld := ⟨0x080, 4, 0, 32⟩

/-! Fields of R399 (spec/15_tether.md). -/

def TETHER_ARRAY.DEVNUM : Fld := ⟨0x100, 4, 0, 6⟩
def TETHER_ARRAY_ID_LO.ID : Fld := ⟨0x104, 4, 0, 32⟩
def TETHER_ARRAY_ID_HI.ID : Fld := ⟨0x108, 4, 0, 32⟩
def TETHER_SYNC.SUBS : Fld := ⟨0x10C, 4, 0, 5⟩
def TETHER_SYNC.REFUSED : Fld := ⟨0x10C, 4, 16, 16⟩

/-! Fields of R415 (spec/16_clocks.md). -/

def CLK_STATUS.XA_OK : Fld := ⟨0x040, 4, 0, 1⟩
def CLK_STATUS.XB_OK : Fld := ⟨0x040, 4, 1, 1⟩
def CLK_STATUS.SYSA_LOCK : Fld := ⟨0x040, 4, 2, 1⟩
def CLK_STATUS.SYSB_LOCK : Fld := ⟨0x040, 4, 3, 1⟩
def CLK_STATUS.SYS_REF : Fld := ⟨0x040, 4, 4, 1⟩
def CLK_STATUS.XA_SEL : Fld := ⟨0x040, 4, 8, 3⟩
def CLK_STATUS.XB_SEL : Fld := ⟨0x040, 4, 12, 2⟩
def CLK_STATUS.FAILOVER_ANY : Fld := ⟨0x040, 4, 16, 1⟩
def CLK_EVENT.LOST : Fld := ⟨0x044, 4, 0, 1⟩
def CLK_EVENT.FAILOVER : Fld := ⟨0x044, 4, 1, 1⟩
def CLK_EVENT.REFUSED : Fld := ⟨0x044, 4, 2, 1⟩
def CLK_EVENT.FAB_STOP : Fld := ⟨0x044, 4, 3, 1⟩
def CLK_EVENT.RESTORED : Fld := ⟨0x044, 4, 4, 1⟩
def CLK_EVENT_MASK.MASK : Fld := ⟨0x048, 4, 0, 5⟩
def CLK_EVENT_SRC.SOURCE : Fld := ⟨0x04C, 4, 0, 12⟩
def CLK_MON_LIMIT.PCT : Fld := ⟨0x050, 4, 0, 6⟩
def CLK_MON_LIMIT.WINDOW_US : Fld := ⟨0x050, 4, 8, 8⟩
def CLK_LOST_MAP.SYS : Fld := ⟨0x054, 4, 0, 6⟩
def CLK_LOST_MAP.FPLL : Fld := ⟨0x054, 4, 8, 24⟩
def CLK_XB_KHZ.KHZ : Fld := ⟨0x058, 4, 0, 16⟩
def CLK_REFUSE_CNT.COUNT : Fld := ⟨0x05C, 4, 0, 16⟩
def CLK_FAILOVER_CNT.COUNT : Fld := ⟨0x060, 4, 0, 16⟩
def CLK_SWITCH_GO.GO : Fld := ⟨0x064, 4, 0, 1⟩

/-! Fields of R416 (spec/16_clocks.md). -/

def CLK_GATE_CMD.NODE : Fld := ⟨0x040, 4, 0, 9⟩
def CLK_GATE_CMD.ON : Fld := ⟨0x040, 4, 12, 1⟩
def CLK_GATE_RESULT.RESULT : Fld := ⟨0x044, 4, 0, 2⟩
def CLK_GATE_RESULT.NODE : Fld := ⟨0x044, 4, 8, 9⟩
def CLK_GATE_SEL.NODE : Fld := ⟨0x048, 4, 0, 9⟩
def CLK_GATE_STATE.ON : Fld := ⟨0x04C, 4, 0, 1⟩
def CLK_GATE_STATE.NOGATE : Fld := ⟨0x04C, 4, 1, 1⟩
def CLK_GATE_STATE.CHILDREN_ON : Fld := ⟨0x04C, 4, 8, 8⟩

/-! Fields of R417 (spec/16_clocks.md). -/

def FPLL_CTRL.ENABLE : Fld := ⟨0x100, 16, 0, 1⟩
def FPLL_CTRL.REF : Fld := ⟨0x100, 16, 1, 2⟩
def FPLL_CTRL.R : Fld := ⟨0x100, 16, 4, 4⟩
def FPLL_CTRL.N : Fld := ⟨0x100, 16, 8, 8⟩
def FPLL_FRAC.FRAC : Fld := ⟨0x104, 16, 0, 16⟩
def FPLL_DIV.D0 : Fld := ⟨0x108, 16, 0, 8⟩
def FPLL_DIV.D1 : Fld := ⟨0x108, 16, 8, 8⟩
def FPLL_DIV.D2 : Fld := ⟨0x108, 16, 16, 8⟩
def FPLL_DIV.D3 : Fld := ⟨0x108, 16, 24, 8⟩
def FPLL_STATUS.LOCKED : Fld := ⟨0x10C, 16, 0, 1⟩
def FPLL_STATUS.VCO_KHZ : Fld := ⟨0x10C, 16, 8, 24⟩

/-! Fields of R418 (spec/16_clocks.md). -/

def CLK_DOM_SEL.SRC : Fld := ⟨0x100, 8, 0, 8⟩
def CLK_DOM_SEL.ARM : Fld := ⟨0x100, 8, 8, 1⟩
def CLK_DOM_SWITCH.DONE : Fld := ⟨0x104, 8, 0, 1⟩
def CLK_DOM_SWITCH.FAILOVER : Fld := ⟨0x104, 8, 1, 1⟩
def CLK_DOM_SWITCH.STOPPED : Fld := ⟨0x104, 8, 2, 1⟩
def CLK_DOM_SWITCH.LIVE_SRC : Fld := ⟨0x104, 8, 8, 8⟩
def CLK_DOM_SWITCH.DEFAULT_SRC : Fld := ⟨0x104, 8, 16, 8⟩

/-! Fields of R432 (spec/17_power_and_wear.md). -/

def PWR_STATUS.PF_WARN : Fld := ⟨0x040, 4, 0, 1⟩
def PWR_STATUS.PF_HELD : Fld := ⟨0x040, 4, 1, 1⟩
def PWR_STATUS.REG_FAULT : Fld := ⟨0x040, 4, 2, 1⟩
def PWR_EVENT.PF_WARN : Fld := ⟨0x044, 4, 0, 1⟩
def PWR_EVENT.PF_CLEAR : Fld := ⟨0x044, 4, 1, 1⟩
def PWR_EVENT.RAIL_UV : Fld := ⟨0x044, 4, 2, 1⟩
def PWR_EVENT.RAIL_OV : Fld := ⟨0x044, 4, 3, 1⟩
def PWR_EVENT.REG_FAULT : Fld := ⟨0x044, 4, 4, 1⟩
def PWR_EVENT_MASK.MASK : Fld := ⟨0x048, 4, 0, 5⟩
def PWR_EVENT_SRC.SOURCE : Fld := ⟨0x04C, 4, 0, 12⟩
def PWR_PF_CTRL.LEVEL : Fld := ⟨0x050, 4, 0, 5⟩
def PWR_PF_CTRL.HYST : Fld := ⟨0x050, 4, 8, 4⟩
def PWR_PF_CTRL.AUTO_RELEASE : Fld := ⟨0x050, 4, 16, 1⟩
def PWR_PF_SRC.SOURCE : Fld := ⟨0x054, 4, 0, 12⟩
def PWR_PF_RELEASE.RELEASE : Fld := ⟨0x058, 4, 0, 1⟩
def PWR_PF_CNT.COUNT : Fld := ⟨0x05C, 4, 0, 16⟩
def PWR_CTRL.REG_RESUME : Fld := ⟨0x060, 4, 0, 1⟩
def PWR_REG.VSET : Fld := ⟨0x100, 4, 0, 6⟩
def PWR_REG.VMIN : Fld := ⟨0x100, 4, 8, 6⟩
def PWR_REG.STATE : Fld := ⟨0x100, 4, 16, 2⟩
def PWR_REG.LIMITING : Fld := ⟨0x100, 4, 18, 1⟩
def PWR_REG_I.AMPS : Fld := ⟨0x140, 4, 0, 10⟩

/-! Fields of R433 (spec/17_power_and_wear.md). -/

def PWRMON_SEL.INDEX : Fld := ⟨0x040, 4, 0, 6⟩
def PWRMON_DATA.MV : Fld := ⟨0x044, 4, 0, 13⟩
def PWRMON_DATA.UV : Fld := ⟨0x044, 4, 16, 1⟩
def PWRMON_DATA.OV : Fld := ⟨0x044, 4, 17, 1⟩
def PWRMON_LIMIT.UV_PCT : Fld := ⟨0x048, 4, 0, 4⟩
def PWRMON_LIMIT.OV_PCT : Fld := ⟨0x048, 4, 8, 4⟩
def PWRMON_UV_MAP_LO.UV : Fld := ⟨0x050, 4, 0, 32⟩
def PWRMON_UV_MAP_HI.UV : Fld := ⟨0x054, 4, 0, 3⟩
def PWRMON_OV_MAP_LO.OV : Fld := ⟨0x058, 4, 0, 32⟩
def PWRMON_OV_MAP_HI.OV : Fld := ⟨0x05C, 4, 0, 3⟩

/-! Fields of R434 (spec/17_power_and_wear.md). -/

def FRAY_SEL.COLUMN : Fld := ⟨0x040, 4, 0, 9⟩
def FRAY_UNITS.UNITS : Fld := ⟨0x044, 4, 0, 32⟩
def FRAY_BINS_LO.BIN1 : Fld := ⟨0x048, 4, 0, 16⟩
def FRAY_BINS_LO.BIN2 : Fld := ⟨0x048, 4, 16, 16⟩
def FRAY_BINS_HI.BIN3 : Fld := ⟨0x04C, 4, 0, 16⟩
def FRAY_BINS_HI.BIN4 : Fld := ⟨0x04C, 4, 16, 16⟩
def FRAY_TRACK.TURN : Fld := ⟨0x050, 4, 0, 8⟩
def FRAY_TRACK.DIR : Fld := ⟨0x050, 4, 8, 2⟩
def FRAY_TRACK.PAUSED : Fld := ⟨0x050, 4, 10, 1⟩
def FRAY_WORST.COLUMN : Fld := ⟨0x060, 4, 0, 9⟩
def FRAY_WORST_UNITS.UNITS : Fld := ⟨0x064, 4, 0, 32⟩
def FRAY_ODO.BITS : Fld := ⟨0x068, 4, 0, 11⟩
def FRAY_ODO.PENDING : Fld := ⟨0x068, 4, 16, 8⟩
def FRAY_ODO.FULL : Fld := ⟨0x068, 4, 24, 1⟩
def FRAY_WARN.KUNITS : Fld := ⟨0x06C, 4, 0, 12⟩
def FRAY_EVENT.ODO_BURN : Fld := ⟨0x070, 4, 0, 1⟩
def FRAY_EVENT.WARN : Fld := ⟨0x070, 4, 1, 1⟩
def FRAY_EVENT.LIMIT : Fld := ⟨0x070, 4, 2, 1⟩
def FRAY_EVENT.ODO_FULL : Fld := ⟨0x070, 4, 3, 1⟩
def FRAY_EVENT_MASK.MASK : Fld := ⟨0x074, 4, 0, 4⟩
def FRAY_EVENT_SRC.SOURCE : Fld := ⟨0x078, 4, 0, 12⟩

/-! Fields of R462 (spec/18_loading.md). -/

def LOAD_CTRL.SRC : Fld := ⟨0x040, 4, 0, 2⟩
def LOAD_CTRL.HUB_PORT : Fld := ⟨0x040, 4, 4, 3⟩
def LOAD_CTRL.FLASH_FALLBACK : Fld := ⟨0x040, 4, 8, 1⟩
def LOAD_CMD.OP : Fld := ⟨0x044, 4, 0, 2⟩
def LOAD_STATUS.STATE : Fld := ⟨0x048, 4, 0, 3⟩
def LOAD_STATUS.SLOT : Fld := ⟨0x048, 4, 4, 2⟩
def LOAD_STATUS.RESULT : Fld := ⟨0x048, 4, 8, 5⟩
def LOAD_STATUS.REFUSED : Fld := ⟨0x048, 4, 16, 1⟩
def LOAD_ATTEMPTS.COUNT : Fld := ⟨0x04C, 4, 0, 32⟩
def LOAD_IDLE_TIMEOUT.MS : Fld := ⟨0x050, 4, 0, 16⟩
def LOAD_BACKOFF.MS : Fld := ⟨0x054, 4, 0, 11⟩
def LOAD_HOST_BASE_LO.BASE : Fld := ⟨0x058, 4, 12, 20⟩
def LOAD_HOST_BASE_HI.BASE : Fld := ⟨0x05C, 4, 0, 32⟩
def LOAD_HOST_LEN.BYTES : Fld := ⟨0x060, 4, 0, 32⟩
def LOAD_EVENT.DONE : Fld := ⟨0x064, 4, 0, 1⟩
def LOAD_EVENT.FAIL : Fld := ⟨0x064, 4, 1, 1⟩
def LOAD_EVENT.COMMIT : Fld := ⟨0x064, 4, 2, 1⟩
def LOAD_EVENT.COMMIT_REFUSED : Fld := ⟨0x064, 4, 3, 1⟩
def LOAD_EVENT_MASK.MASK : Fld := ⟨0x068, 4, 0, 4⟩
def LOAD_EVENT_SRC.SOURCE : Fld := ⟨0x06C, 4, 0, 12⟩
def LOAD_PROGRESS.APPLIED : Fld := ⟨0x070, 4, 0, 16⟩
def LOAD_PROGRESS.SEGS : Fld := ⟨0x070, 4, 16, 16⟩
def LOAD_IMAGE_VERSION.VERSION : Fld := ⟨0x074, 4, 0, 32⟩
def LOAD_REFUSE.REGION : Fld := ⟨0x078, 4, 0, 6⟩
def LOAD_REFUSE.REASON : Fld := ⟨0x078, 4, 8, 4⟩
def LOAD_REFUSE.VALID : Fld := ⟨0x078, 4, 31, 1⟩
def LOAD_SLOT_BASE.BASE : Fld := ⟨0x080, 4, 16, 16⟩
def LOAD_POLICY.FUSE_OK : Fld := ⟨0x090, 4, 0, 1⟩
def LOAD_POLICY.KRAM0_OK : Fld := ⟨0x090, 4, 1, 1⟩
def LOAD_POLICY.KRAM1_OK : Fld := ⟨0x090, 4, 2, 1⟩
def LOAD_POLICY.ROLLED_ONLY : Fld := ⟨0x090, 4, 3, 1⟩
def LOAD_POLICY.KEY_HASH_SET : Fld := ⟨0x090, 4, 4, 1⟩
def KRAM_DATA.KEY : Fld := ⟨0x0A0, 4, 0, 32⟩
def KRAM_CMD.SLOT : Fld := ⟨0x0C0, 4, 0, 1⟩
def KRAM_CMD.OP : Fld := ⟨0x0C0, 4, 4, 2⟩
def KRAM_STATUS.VALID : Fld := ⟨0x0C4, 4, 0, 2⟩
def KRAM_STATUS.NO_VBAT : Fld := ⟨0x0C4, 4, 4, 1⟩
def LOAD_STREAM.DATA : Fld := ⟨0x200, 4, 0, 32⟩

/-! Fields of R466 (spec/19_startup_and_reset.md). -/

def READY_SUM.SUPV : Fld := ⟨0x040, 4, 0, 1⟩
def READY_SUM.CLOCKS : Fld := ⟨0x040, 4, 1, 1⟩
def READY_SUM.REGULATORS : Fld := ⟨0x040, 4, 2, 1⟩
def READY_SUM.BRIDLE : Fld := ⟨0x040, 4, 3, 1⟩
def READY_SUM.CENSUS : Fld := ⟨0x040, 4, 4, 1⟩
def READY_SUM.BANKS : Fld := ⟨0x040, 4, 5, 1⟩
def READY_SUM.PCIE_TRAIN : Fld := ⟨0x040, 4, 6, 1⟩
def READY_SUM.TETHER : Fld := ⟨0x040, 4, 7, 1⟩
def READY_SUM.LOAD_STARTED : Fld := ⟨0x040, 4, 8, 1⟩
def READY_SUM.PLANE0 : Fld := ⟨0x040, 4, 9, 1⟩
def READY_SUM.PLANES : Fld := ⟨0x040, 4, 10, 1⟩
def READY_SUM.FULL : Fld := ⟨0x040, 4, 15, 1⟩
def READY_COUNTS.NOT_READY : Fld := ⟨0x044, 4, 0, 10⟩
def READY_COUNTS.DEGRADED : Fld := ⟨0x044, 4, 10, 10⟩
def READY_COUNTS.FAILED : Fld := ⟨0x044, 4, 20, 10⟩
def READY_FIRST.OFFSET : Fld := ⟨0x048, 4, 0, 32⟩
def READY_STAMP.US : Fld := ⟨0x080, 4, 0, 32⟩

/-! Fields of R477 (spec/19_startup_and_reset.md). -/

def RESET_REQ.KEY : Fld := ⟨0x044, 4, 16, 16⟩
def RESET_CAUSE.CLASS : Fld := ⟨0x048, 4, 0, 2⟩
def RESET_CAUSE.SRC : Fld := ⟨0x048, 4, 4, 3⟩
def RESET_CAUSE.PF_SEEN : Fld := ⟨0x048, 4, 8, 1⟩
def RESET_CAUSE.WARM_CNT : Fld := ⟨0x048, 4, 16, 16⟩
def DEV_STATE.STATE : Fld := ⟨0x04C, 4, 0, 3⟩
def DEV_STATE.CAUSE : Fld := ⟨0x04C, 4, 4, 2⟩
def DEV_STATE.REQ : Fld := ⟨0x04C, 4, 8, 3⟩
def RS_SEL.ID : Fld := ⟨0x060, 4, 0, 8⟩
def RS_CMD.OP : Fld := ⟨0x064, 4, 0, 2⟩
def RS_LEN.BYTES : Fld := ⟨0x068, 4, 0, 10⟩
def RS_STATUS.BUSY : Fld := ⟨0x06C, 4, 0, 1⟩
def RS_STATUS.RESULT : Fld := ⟨0x06C, 4, 4, 4⟩
def RS_STATUS.NO_VBAT : Fld := ⟨0x06C, 4, 8, 1⟩
def RS_STATUS.TAMPERED : Fld := ⟨0x06C, 4, 9, 1⟩
def RS_GEN.GEN : Fld := ⟨0x070, 4, 0, 32⟩
def RS_RLEN.BYTES : Fld := ⟨0x074, 4, 0, 13⟩
def RS_ZEROISE.KEY : Fld := ⟨0x078, 4, 0, 32⟩
def RS_BUF.DATA : Fld := ⟨0x200, 4, 0, 32⟩

/-! Fields of R487 (spec/20_preflight.md). -/

def PF_CTRL.MODE : Fld := ⟨0x040, 4, 0, 2⟩
def PF_CTRL.CONCURRENT : Fld := ⟨0x040, 4, 4, 4⟩
def PF_CMD.PANEL : Fld := ⟨0x044, 4, 0, 10⟩
def PF_CMD.OP : Fld := ⟨0x044, 4, 12, 2⟩
def PF_STATUS.RUNNING : Fld := ⟨0x048, 4, 0, 4⟩
def PF_STATUS.SWEEPING : Fld := ⟨0x048, 4, 8, 1⟩
def PF_STATUS.NEXT : Fld := ⟨0x048, 4, 16, 10⟩
def PF_SWEEP_PERIOD.S : Fld := ⟨0x04C, 4, 0, 16⟩
def PF_EVENT.FAIL : Fld := ⟨0x050, 4, 0, 1⟩
def PF_EVENT.REFUSED : Fld := ⟨0x050, 4, 1, 1⟩
def PF_EVENT.ABORTED : Fld := ⟨0x050, 4, 2, 1⟩
def PF_EVENT.SWEEP_DONE : Fld := ⟨0x050, 4, 3, 1⟩
def PF_EVENT.SWEEP_OVERRUN : Fld := ⟨0x050, 4, 4, 1⟩
def PF_EVENT_MASK.MASK : Fld := ⟨0x054, 4, 0, 5⟩
def PF_EVENT_SRC.SOURCE : Fld := ⟨0x058, 4, 0, 12⟩
def PF_PASS_CNT.COUNT : Fld := ⟨0x05C, 4, 0, 32⟩
def PF_FAIL_CNT.COUNT : Fld := ⟨0x060, 4, 0, 16⟩
def PF_REFUSE_CNT.COUNT : Fld := ⟨0x064, 4, 0, 16⟩
def PF_ABORT_CNT.COUNT : Fld := ⟨0x068, 4, 0, 16⟩
def PF_IDLE.IDLE : Fld := ⟨0x080, 4, 0, 32⟩
def PF_WINDOW.OPEN : Fld := ⟨0x100, 4, 0, 32⟩
def PF_RES_SEL.PANEL : Fld := ⟨0x140, 4, 0, 10⟩
def PF_RESULT.VALUE : Fld := ⟨0x144, 4, 0, 32⟩
def PF_RESULT_COV.STUCK : Fld := ⟨0x148, 4, 0, 10⟩
def PF_RESULT_COV.TRANS : Fld := ⟨0x148, 4, 16, 10⟩
def PF_RESULT_STAMP.US : Fld := ⟨0x14C, 4, 0, 32⟩
def PF_MISR_LO.MISR : Fld := ⟨0x150, 4, 0, 32⟩
def PF_MISR_HI.MISR : Fld := ⟨0x154, 4, 0, 32⟩
def PF_FAIL_MAP.FAIL : Fld := ⟨0x180, 4, 0, 32⟩

/-! Fields of R506 (spec/21_field_io.md). -/

def FIO_BANK_CTRL.VCCIO : Fld := ⟨0x040, 4, 0, 3⟩
def FIO_BANK_CTRL.PARK : Fld := ⟨0x040, 4, 4, 2⟩
def FIO_IN_LO.IN : Fld := ⟨0x048, 4, 0, 32⟩
def FIO_IN_HI.IN : Fld := ⟨0x04C, 4, 0, 16⟩
def FIO_VALID_LO.VALID : Fld := ⟨0x050, 4, 0, 32⟩
def FIO_VALID_HI.VALID : Fld := ⟨0x054, 4, 0, 16⟩
def FIO_OUT_LO.OUT : Fld := ⟨0x058, 4, 0, 32⟩
def FIO_OUT_HI.OUT : Fld := ⟨0x05C, 4, 0, 16⟩
def FIO_PIN_CFG.OWNER : Fld := ⟨0x100, 8, 0, 2⟩
def FIO_PIN_CFG.OUT : Fld := ⟨0x100, 8, 2, 1⟩
def FIO_PIN_CFG.OE : Fld := ⟨0x100, 8, 3, 1⟩
def FIO_PIN_CFG.PULL : Fld := ⟨0x100, 8, 4, 2⟩
def FIO_PIN_CFG.DRIVE : Fld := ⟨0x100, 8, 6, 2⟩
def FIO_PIN_CFG.FAST : Fld := ⟨0x100, 8, 8, 1⟩
def FIO_PIN_CFG.INVERT : Fld := ⟨0x100, 8, 9, 1⟩
def FIO_PIN_CFG.DIFF : Fld := ⟨0x100, 8, 10, 1⟩
def FIO_PIN_CFG.TRIP_IN : Fld := ⟨0x100, 8, 11, 1⟩
def FIO_PIN_CFG.UNPLUG : Fld := ⟨0x100, 8, 12, 2⟩
def FIO_PIN_CFG.PFAIL : Fld := ⟨0x100, 8, 14, 2⟩
def FIO_PIN_CFG.TRIP_STATE : Fld := ⟨0x100, 8, 16, 2⟩
def FIO_PIN_CFG.PGROUP : Fld := ⟨0x100, 8, 18, 5⟩
def FIO_PIN_CFG.PG_MEMBER : Fld := ⟨0x100, 8, 23, 1⟩
def FIO_PIN_FILT.GLITCH_NS : Fld := ⟨0x104, 8, 0, 8⟩
def FIO_PIN_FILT.DEBOUNCE_US : Fld := ⟨0x104, 8, 16, 16⟩

/-! Fields of R507 (spec/21_field_io.md). -/

def FIO_TRIP.LATCHED : Fld := ⟨0x040, 4, 0, 1⟩
def FIO_TRIP.CLEAR : Fld := ⟨0x040, 4, 1, 1⟩
def FIO_TRIP_CNT.COUNT : Fld := ⟨0x044, 4, 0, 16⟩
def FIO_TRIP_SRC.SOURCE : Fld := ⟨0x048, 4, 0, 12⟩
def FIO_PG_EVENT.LOST : Fld := ⟨0x04C, 4, 0, 32⟩
def FIO_PG_EVENT_SRC.SOURCE : Fld := ⟨0x050, 4, 0, 12⟩
def FIO_PG_REPLUG.GROUP : Fld := ⟨0x054, 4, 0, 5⟩
def FIO_PG_CTRL.ENABLE : Fld := ⟨0x080, 8, 0, 1⟩
def FIO_PG_CTRL.PRES_LEVEL : Fld := ⟨0x080, 8, 1, 1⟩
def FIO_PG_CTRL.AUTO_REPLUG : Fld := ⟨0x080, 8, 2, 1⟩
def FIO_PG_CTRL.INV_LEVEL : Fld := ⟨0x080, 8, 3, 1⟩
def FIO_PG_CTRL.PRES_PIN : Fld := ⟨0x080, 8, 16, 10⟩
def FIO_PG_STATUS.PRESENT : Fld := ⟨0x084, 8, 0, 1⟩
def FIO_PG_STATUS.HELD : Fld := ⟨0x084, 8, 1, 1⟩
def FIO_PG_STATUS.LOSS_CNT : Fld := ⟨0x084, 8, 16, 16⟩
def MADC_CTRL.ENABLE : Fld := ⟨0x200, 4, 0, 16⟩
def MADC_CTRL.BANK : Fld := ⟨0x200, 4, 16, 4⟩
def MADC_DATA.CODE : Fld := ⟨0x240, 4, 0, 12⟩
def MADC_DATA.VALID : Fld := ⟨0x240, 4, 31, 1⟩
def MADC_WIN.LO : Fld := ⟨0x280, 4, 0, 12⟩
def MADC_WIN.HI : Fld := ⟨0x280, 4, 16, 12⟩
def MADC_EVENT.OUT : Fld := ⟨0x2C0, 4, 0, 16⟩
def MADC_EVENT_SRC.SOURCE : Fld := ⟨0x2C4, 4, 0, 12⟩

/-! Fields of R533 (spec/23_package_ordering.md). -/

def IDENT_DEVICE.CODE : Fld := ⟨0x040, 4, 0, 32⟩
def IDENT_GRADE.SPEED : Fld := ⟨0x044, 4, 0, 4⟩
def IDENT_GRADE.TEMP : Fld := ⟨0x044, 4, 4, 1⟩
def IDENT_GRADE.PACKAGE : Fld := ⟨0x044, 4, 8, 8⟩
def IDENT_DIE_VER.MINOR : Fld := ⟨0x048, 4, 0, 8⟩
def IDENT_DIE_VER.MAJOR : Fld := ⟨0x048, 4, 8, 8⟩
def IDENT_SERIAL_LO.SERIAL : Fld := ⟨0x04C, 4, 0, 32⟩
def IDENT_SERIAL_HI.SERIAL : Fld := ⟨0x050, 4, 0, 32⟩
def IDENT_JTAG.IDCODE : Fld := ⟨0x054, 4, 0, 32⟩

/-! Fields of R60 (spec/02_host_view.md). -/

def PART_RESET.KEY : Fld := ⟨0x040, 4, 16, 16⟩
def PART_RESET.BUSY : Fld := ⟨0x040, 4, 8, 8⟩
def PART_RESET.PART : Fld := ⟨0x040, 4, 0, 3⟩

/-! Fields of R61 (spec/02_host_view.md). -/

def REGION_MAP.DEFINED : Fld := ⟨0x100, 4, 31, 1⟩
def REGION_MAP.COMMITTED : Fld := ⟨0x100, 4, 30, 1⟩
def REGION_MAP.GROUP : Fld := ⟨0x100, 4, 16, 5⟩
def REGION_MAP.PARTITION : Fld := ⟨0x100, 4, 0, 3⟩

end Sys2Proof.Machine
end

