-- ==== Sys2Proof/Machine/RegTableA.lean ====
section
/-! DEFINITION. Register tables of chapters 01 to 10. Each row: field, array length, access code (R4), reset value,
reset classes that clear it (R5), accepted values (R7; an empty list accepts every value of the field). -/

namespace Sys2Proof.Machine

/-- Register rows of R46. -/
def rowsHeaderA : List FieldRow := [
  ⟨PAGE_ID.TYPE, 1, .ro, 0, 0, []⟩,
  ⟨PAGE_ID.INSTANCE, 1, .ro, 0, 0, []⟩,
  ⟨PAGE_VER.MAJOR, 1, .ro, 1, 0, []⟩,
  ⟨PAGE_VER.MINOR, 1, .ro, 0, 0, []⟩,
  ⟨PAGE_VER.COMPAT_LEVEL, 1, .ro, 0, 0, []⟩,
  ⟨PAGE_CAPS.EXPERT, 1, .ro, 0, 0, []⟩,
  ⟨PAGE_CAPS.LEGACY_OK, 1, .ro, 0, 0, []⟩,
  ⟨PAGE_CAPS.WORLD_SET, 1, .ro, 0, 0, []⟩,
  ⟨PAGE_CAPS.RESETTABLE, 1, .ro, 0, 0, []⟩,
  ⟨PAGE_CAPS.PF_VISIBLE, 1, .ro, 0, 0, []⟩,
  ⟨PAGE_CAPS.BLOCK, 1, .ro, 0, 0, []⟩,
  ⟨PAGE_READY.STATE, 1, .ro, 0, clPCWF, []⟩,
  ⟨PAGE_READY.REASON, 1, .ro, 1, clPCWF, []⟩,
  ⟨PAGE_RESET.KEY, 1, .wo, 0, 0, []⟩,
  ⟨PAGE_RESET.BUSY, 1, .ro, 0, 0, []⟩,
  ⟨PAGE_COMPAT.LEGACY, 1, .rw, 0, clPCWF, []⟩,
  ⟨PAGE_WORLD.SECURE, 1, .rwl, 1, clPC, []⟩,
  ⟨PAGE_WORLD.LOCK, 1, .w1s, 0, clPC, []⟩,
  ⟨PAGE_ERRSUM.REJECT, 1, .w1c, 0, clPCW, []⟩,
  ⟨PAGE_ERRSUM.TIMEOUT, 1, .w1c, 0, clPCW, []⟩,
  ⟨PAGE_ERRSUM.WORLD, 1, .w1c, 0, clPCW, []⟩,
  ⟨PAGE_ERRSUM.INTERNAL, 1, .w1c, 0, clPCW, []⟩,
  ⟨PAGE_REJCNT.COUNT, 1, .rw, 0, clPCW, [(0, 0)]⟩,
  ⟨PAGE_EXPERT.KEY, 1, .wo, 0, 0, []⟩]

/-- Register rows of R46. -/
def rowsHeaderB : List FieldRow := [
  ⟨PAGE_EXPERT.UNLOCKED, 1, .ro, 0, clPCWF, []⟩]

/-- All register rows of the page kind. -/
def rowsHeader : List FieldRow := rowsHeaderA ++ rowsHeaderB

/-- Register rows of the stack registers. -/
def rowsSparCtl : List FieldRow := [
  ⟨STACK_CENSUS.STATE, 1, .ro, 0, clPC, []⟩,
  ⟨STACK_CENSUS.NEW_REPAIRS, 1, .ro, 0, clPC, []⟩,
  ⟨STACK_FUSEMAP.USED, 1, .ro, 0, 0, []⟩,
  ⟨STACK_FUSEMAP.VFUSE_OK, 1, .ro, 0, clPC, []⟩,
  ⟨STACK_FUSEMAP.PENDING, 1, .ro, 0, clPC, []⟩,
  ⟨STACK_EVENT.REPAIR, 1, .w1c, 0, clPCW, []⟩,
  ⟨STACK_EVENT.EXHAUSTED, 1, .w1c, 0, clPCW, []⟩,
  ⟨STACK_EVENT.CLOCK_DEGRADED, 1, .w1c, 0, clPCW, []⟩,
  ⟨STACK_EVENT.CLOCK_LOST, 1, .w1c, 0, clPCW, []⟩,
  ⟨STACK_EVENT.FUSE_FULL, 1, .w1c, 0, clPCW, []⟩,
  ⟨STACK_EVENT.PARITY, 1, .w1c, 0, clPCW, []⟩,
  ⟨STACK_EVENT_MASK.MASK, 1, .rw, 0x1e, clPCW, []⟩,
  ⟨STACK_EVENT_SRC.SOURCE, 1, .rw, 0, clPCW, []⟩,
  ⟨STACK_PARITY_CNT.COUNT, 1, .rw, 0, clPCW, [(0, 0)]⟩,
  ⟨STACK_DEADMAP_INDEX.INDEX, 1, .rw, 0, clPCW, []⟩,
  ⟨STACK_DEADMAP_DATA.ENTRY, 1, .ro, 0, 0, []⟩,
  ⟨STACK_DEADMAP_COUNT.COUNT, 1, .ro, 0, clPC, []⟩]

/-- Register rows of R56. -/
def rowsWorld : List FieldRow := [
  ⟨WORLD_PF.PF0, 1, .ro, 1, 0, []⟩,
  ⟨WORLD_PF.SECURE, 1, .rwl, 0, clPC, []⟩,
  ⟨WORLD_TETHER_TRUST.TRUSTED, 1, .rwl, 0, clPC, []⟩,
  ⟨WORLD_LOG_COUNT.COUNT, 1, .rw, 0, clPCW, [(0, 0)]⟩,
  ⟨WORLD_LOG_HEAD.HEAD, 1, .ro, 0, clPCW, []⟩,
  ⟨WORLD_BANK.SECURE, 18, .rwl, 0xffffffff, clPC, []⟩,
  ⟨WORLD_CTX.SECURE, 18, .rwl, 0xffffffff, clPC, []⟩,
  ⟨WIN_BASE_LO.BASE, 16, .rwl, 0, clPC, []⟩,
  ⟨WIN_BASE_HI.BASE, 16, .rwl, 0, clPC, []⟩,
  ⟨WIN_SIZE.LOG2, 16, .rwl, 0, clPC, [(0, 0), (12, 64)]⟩,
  ⟨WIN_CTRL.ENABLE, 16, .rwl, 0, clPC, []⟩,
  ⟨WIN_CTRL.SECURE, 16, .rwl, 0, clPC, []⟩,
  ⟨WORLD_LOG.WORD, 64, .ro, 0, clPCW, []⟩]

/-- Register rows of R103, R104. -/
def rowsPanelA : List FieldRow := [
  ⟨PANEL_INFO.COLUMN, 1, .ro, 0, 0, []⟩,
  ⟨PANEL_INFO.SAIL, 1, .ro, 0, 0, []⟩,
  ⟨PANEL_INFO.X, 1, .ro, 0, 0, []⟩,
  ⟨PANEL_INFO.Y, 1, .ro, 0, 0, []⟩,
  ⟨PANEL_STATUS.CLK_RUN, 1, .ro, 0, 0, []⟩,
  ⟨PANEL_STATUS.QUARTER, 1, .ro, 0, 0, []⟩,
  ⟨PANEL_STATUS.COMMITTED, 1, .ro, 0, 0, []⟩,
  ⟨PANEL_EVENT.LCLK_DROP, 1, .w1c, 0, clPCWF, []⟩,
  ⟨PANEL_EVENT.PRAM_CORR, 1, .w1c, 0, clPCWF, []⟩,
  ⟨PANEL_EVENT.PRAM_UNCORR, 1, .w1c, 0, clPCWF, []⟩,
  ⟨PANEL_EVENT_MASK.MASK, 1, .rw, 6, clPCWF, []⟩,
  ⟨PANEL_EVENT_SRC.SOURCE, 1, .rw, 0, clPCWF, []⟩,
  ⟨PANEL_LCLK_DROP_CNT.COUNT, 1, .rw, 0, clPCWF, [(0, 0)]⟩,
  ⟨PRAM_ERR_CNT.CORR, 1, .rw, 0, clPCWF, [(0, 0)]⟩,
  ⟨PRAM_ERR_CNT.UNCORR, 1, .rw, 0, clPCWF, [(0, 0)]⟩,
  ⟨PRAM_ERR_LAST.WORD, 1, .ro, 0, clPCWF, []⟩,
  ⟨PRAM_ERR_LAST.RAM, 1, .ro, 0, clPCWF, []⟩,
  ⟨PRAM_ERR_LAST.UNCORR, 1, .ro, 0, clPCWF, []⟩,
  ⟨PRAM_ERR_LAST.VALID, 1, .ro, 0, clPCWF, []⟩,
  ⟨PRAM_HOST_ADDR.WORD, 1, .rw, 0, clPCWF, []⟩,
  ⟨PRAM_HOST_ADDR.RAM, 1, .rw, 0, clPCWF, []⟩,
  ⟨PRAM_HOST_ADDR.AUTOINC, 1, .rw, 0, clPCWF, []⟩,
  ⟨PRAM_HOST_DATA.DATA, 1, .rw, 0, 0, []⟩,
  ⟨PRAM_ERR_INJECT.ARM, 1, .rw, 0, clPCWF, []⟩]

/-- Register rows of R104, R150. -/
def rowsPanelB : List FieldRow := [
  ⟨PRAM_ERR_INJECT.DOUBLE, 1, .rw, 0, clPCWF, []⟩,
  ⟨PRAM_ERR_INJECT.RAM, 1, .rw, 0, clPCWF, []⟩,
  ⟨PRAM_ERR_INJECT.BIT0, 1, .rw, 0, clPCWF, [(0, 38)]⟩,
  ⟨PRAM_ERR_INJECT.BIT1, 1, .rw, 0, clPCWF, [(0, 38)]⟩,
  ⟨PANEL_PLANE_STATE.ACTIVE, 1, .ro, 0, 0, []⟩,
  ⟨PANEL_PLANE_STATE.SHADOW, 1, .ro, 0, 0, []⟩,
  ⟨PANEL_PLANE_STATE.SHADOW_STATE, 1, .ro, 0, 0, []⟩,
  ⟨PANEL_PLANE_STATE.PENDING, 1, .ro, 0, 0, []⟩,
  ⟨PANEL_PLANE_STATE.PENDING_FORCED, 1, .ro, 0, 0, []⟩,
  ⟨PANEL_PLANE_STATE.PENDING_PLANE, 1, .ro, 0, 0, []⟩,
  ⟨PANEL_PLANE_STATE.PENDING_GROUP, 1, .ro, 0, 0, []⟩,
  ⟨PANEL_PLANE_CTRL.LATE_POLICY, 1, .rw, 0, clPCWF, []⟩,
  ⟨PANEL_PLANE_CTRL.DEFER_LIMIT, 1, .rw, 0xa, clPCWF, [(1, 255)]⟩,
  ⟨PANEL_PLANE_CTRL.COOL_PLANE, 1, .rw, 0, clPCWF, []⟩,
  ⟨PANEL_PLANE_CTRL.COOL_VALID, 1, .rw, 0, clPCWF, []⟩,
  ⟨PANEL_PLANE_CMD.GROUP, 1, .wo, 0, 0, []⟩,
  ⟨PANEL_PLANE_CMD.PLANE, 1, .wo, 0, 0, []⟩,
  ⟨PANEL_PLANE_CMD.PREFETCH, 1, .wo, 0, 0, []⟩,
  ⟨PANEL_PLANE_CMD.DEFER, 1, .wo, 0, 0, []⟩,
  ⟨PANEL_PLANE_EVENT.LATE, 1, .w1c, 0, clPCWF, []⟩,
  ⟨PANEL_PLANE_EVENT.SKIP, 1, .w1c, 0, clPCWF, []⟩,
  ⟨PANEL_PLANE_EVENT.COLLIDE, 1, .w1c, 0, clPCWF, []⟩,
  ⟨PANEL_PLANE_EVENT.INVALID, 1, .w1c, 0, clPCWF, []⟩,
  ⟨PANEL_PLANE_EVENT.FILL_FAIL, 1, .w1c, 0, clPCWF, []⟩]

/-- Register rows of R150, R177. -/
def rowsPanelC : List FieldRow := [
  ⟨PANEL_PLANE_EVENT.GOV_DEFER, 1, .w1c, 0, clPCWF, []⟩,
  ⟨PANEL_PLANE_EVENT.PF_DROP, 1, .w1c, 0, clPCWF, []⟩,
  ⟨PANEL_PLANE_EVENT_MASK.MASK, 1, .rw, 0x1e, clPCWF, []⟩,
  ⟨PANEL_PLANE_EVENT_SRC.SOURCE, 1, .rw, 0, clPCWF, []⟩,
  ⟨PLANE_LATE.COUNT, 1, .rw, 0, clPCWF, [(0, 0)]⟩,
  ⟨PLANE_SKIP.COUNT, 1, .rw, 0, clPCWF, [(0, 0)]⟩,
  ⟨PLANE_COLLIDE.COUNT, 1, .rw, 0, clPCWF, [(0, 0)]⟩,
  ⟨PLANE_INVALID.COUNT, 1, .rw, 0, clPCWF, [(0, 0)]⟩,
  ⟨PLANE_GOV_DEFER.COUNT, 1, .rw, 0, clPCWF, [(0, 0)]⟩,
  ⟨PLANE_PF_DROP.COUNT, 1, .rw, 0, clPCWF, [(0, 0)]⟩,
  ⟨PLANE_SWITCH_CNT.COUNT, 1, .rw, 0, clPCWF, [(0, 0)]⟩,
  ⟨PANEL_PLANE_SLOT.VALID, 8, .ro, 0, clPC, []⟩,
  ⟨PANEL_PLANE_SLOT.QUARTER, 8, .ro, 0, clPC, []⟩,
  ⟨PANEL_PLANE_SLOT.HEAT, 8, .ro, 0, clPC, []⟩,
  ⟨PANEL_PLANE_SLOT.BAD, 8, .ro, 0, clPC, []⟩,
  ⟨PANEL_GROUP.MEMBER, 8, .ro, 0, clPC, []⟩,
  ⟨PANEL_CTX_LIVE.LIVE_Q0, 1, .ro, 0, 0, []⟩,
  ⟨PANEL_CTX_LIVE.LIVE_Q1, 1, .ro, 0, 0, []⟩,
  ⟨PANEL_CTX_LIVE.LIVE_Q2, 1, .ro, 0, 0, []⟩,
  ⟨PANEL_CTX_LIVE.LIVE_Q3, 1, .ro, 0, 0, []⟩,
  ⟨PANEL_CTX_STATUS.SHARE, 1, .ro, 0x80, 0, []⟩,
  ⟨PANEL_CTX_STATUS.BUSY, 1, .ro, 0, 0, []⟩,
  ⟨PANEL_CTX_STATUS.PENDING, 1, .ro, 0, 0, []⟩,
  ⟨PANEL_CTX_STATUS.SAVING, 1, .ro, 0, 0, []⟩]

/-- Register rows of R177. -/
def rowsPanelD : List FieldRow := [
  ⟨PANEL_CTX_CMD.INDEX, 1, .wo, 0, 0, []⟩,
  ⟨PANEL_CTX_CMD.RING, 1, .wo, 0, 0, []⟩,
  ⟨PANEL_CTX_CMD.DEFER, 1, .wo, 0, 0, []⟩,
  ⟨PANEL_CTX_CMD.QMASK, 1, .wo, 0, 0, []⟩,
  ⟨PANEL_CTX_CTRL.DEFER_LIMIT, 1, .rw, 0xa, clPCWF, [(1, 255)]⟩,
  ⟨PANEL_CTX_EVENT.LOST, 1, .w1c, 0, clPCWF, []⟩,
  ⟨PANEL_CTX_EVENT.REPAIRED, 1, .w1c, 0, clPCWF, []⟩,
  ⟨PANEL_CTX_EVENT.COLLIDE, 1, .w1c, 0, clPCWF, []⟩,
  ⟨PANEL_CTX_EVENT.INVALID, 1, .w1c, 0, clPCWF, []⟩,
  ⟨PANEL_CTX_EVENT.GOV_DEFER, 1, .w1c, 0, clPCWF, []⟩,
  ⟨PANEL_CTX_EVENT.SKIP, 1, .w1c, 0, clPCWF, []⟩,
  ⟨PANEL_CTX_EVENT_MASK.MASK, 1, .rw, 0x29, clPCWF, []⟩,
  ⟨PANEL_CTX_EVENT_SRC.SOURCE, 1, .rw, 0, clPCWF, []⟩,
  ⟨CTX_WAIT_CNT.COUNT, 1, .rw, 0, clPCWF, [(0, 0)]⟩,
  ⟨CTX_REPAIR_CNT.COUNT, 1, .rw, 0, clPCWF, [(0, 0)]⟩,
  ⟨CTX_LOST_CNT.COUNT, 1, .rw, 0, clPCWF, [(0, 0)]⟩,
  ⟨CTX_COLLIDE_CNT.COUNT, 1, .rw, 0, clPCWF, [(0, 0)]⟩,
  ⟨CTX_INVALID_CNT.COUNT, 1, .rw, 0, clPCWF, [(0, 0)]⟩,
  ⟨CTX_GOV_DEFER_CNT.COUNT, 1, .rw, 0, clPCWF, [(0, 0)]⟩,
  ⟨CTX_SKIP_CNT.COUNT, 1, .rw, 0, clPCWF, [(0, 0)]⟩,
  ⟨CTX_SWAP_CNT.COUNT, 1, .rw, 0, clPCWF, [(0, 0)]⟩,
  ⟨CTX_LOST_LAST.INDEX, 1, .ro, 0, clPCWF, []⟩,
  ⟨CTX_LOST_LAST.QUARTER, 1, .ro, 0, clPCWF, []⟩,
  ⟨CTX_LOST_LAST.FULL, 1, .ro, 0, clPCWF, []⟩]

/-- Register rows of R177. -/
def rowsPanelE : List FieldRow := [
  ⟨CTX_LOST_LAST.VALID, 1, .ro, 0, clPCWF, []⟩]

/-- All register rows of the page kind. DESIGN CHOICE: offsets 0x300 to 0x3FF, where R101 places fabric port registers, have none in any
chapter, and are reserved. -/
def rowsPanel : List FieldRow := rowsPanelA ++ rowsPanelB ++ rowsPanelC ++ rowsPanelD ++ rowsPanelE

/-- Register rows of R122, R151. -/
def rowsSparBlk : List FieldRow := [
  ⟨RISER_CONFLICT.FLAG, 1, .w1c, 0, clPCWF, []⟩,
  ⟨RISER_CONFLICT.MULTI, 1, .ro, 0, clPCWF, []⟩,
  ⟨RISER_CONFLICT.INDEX, 1, .ro, 0, clPCWF, []⟩,
  ⟨RISER_CONFLICT_CNT.COUNT, 1, .rw, 0, clPCWF, [(0, 0)]⟩,
  ⟨RISER_CONFLICT_SRC.SOURCE, 1, .rw, 0, clPCWF, []⟩,
  ⟨RISER_CONFLICT_STAMP.STAMP, 1, .ro, 0, clPCWF, []⟩,
  ⟨RISER_QUERY_INDEX.INDEX, 1, .rw, 0, clPCWF, []⟩,
  ⟨RISER_QUERY.VALUE, 1, .ro, 0, 0, []⟩,
  ⟨RISER_HELD.HELD, 32, .w1c, 0, clPCWF, []⟩,
  ⟨SPAR_SIG_INDEX.FRAME, 1, .rw, 0, clPCWF, []⟩,
  ⟨SPAR_SIG.SIGNATURE, 1, .ro, 0, 0, []⟩,
  ⟨SPAR_FRAME_STATE.BAD, 1, .ro, 0, 0, []⟩,
  ⟨SPAR_FRAME_STATE.REPAIRING, 1, .ro, 0, 0, []⟩,
  ⟨SPAR_BAD_COUNT.COUNT, 1, .ro, 0, clPC, []⟩]

/-- Register rows of R152. -/
def rowsScrub : List FieldRow := [
  ⟨SCRUB_CTRL.REPAIR, 1, .rw, 1, clPC, []⟩,
  ⟨SCRUB_PERIOD.MS, 1, .rw, 0x64, clPC, [(30, 10000)]⟩,
  ⟨SCRUB_REPAIR_TIMEOUT.MS, 1, .rw, 0x3e8, clPC, [(1, 60000)]⟩,
  ⟨SCRUB_LAST_PASS.MS, 1, .ro, 0, clPC, []⟩,
  ⟨SCRUB_PASSES.COUNT, 1, .ro, 0, clPC, []⟩,
  ⟨SCRUB_EVENT.SPAR_UPSET, 1, .w1c, 0, clPCW, []⟩,
  ⟨SCRUB_EVENT.SAIL_UPSET, 1, .w1c, 0, clPCW, []⟩,
  ⟨SCRUB_EVENT.REPAIRED, 1, .w1c, 0, clPCW, []⟩,
  ⟨SCRUB_EVENT.UNREPAIRED, 1, .w1c, 0, clPCW, []⟩,
  ⟨SCRUB_EVENT.OVERRUN, 1, .w1c, 0, clPCW, []⟩,
  ⟨SCRUB_EVENT_MASK.MASK, 1, .rw, 0x18, clPCW, []⟩,
  ⟨SCRUB_EVENT_SRC.SOURCE, 1, .rw, 0, clPCW, []⟩,
  ⟨SPAR_UPSET_CNT.COUNT, 1, .rw, 0, clPCW, [(0, 0)]⟩,
  ⟨SAIL_UPSET_CNT.COUNT, 1, .rw, 0, clPCW, [(0, 0)]⟩,
  ⟨REPAIR_FAIL_CNT.COUNT, 1, .rw, 0, clPCW, [(0, 0)]⟩,
  ⟨UPSET_LOG_HEAD.HEAD, 1, .ro, 0, clPCW, []⟩,
  ⟨UPSET_LOG.WORD, 64, .ro, 0, clPCW, []⟩]

/-- Register rows of R178, R281. -/
def rowsTileA : List FieldRow := [
  ⟨CTX_SPLIT.LOWER, 1, .rw, 0x80, clPC, [(0, 256)]⟩,
  ⟨CTX_ACC_CMD.SLOT, 1, .wo, 0, 0, []⟩,
  ⟨CTX_ACC_CMD.ROW, 1, .wo, 0, 0, []⟩,
  ⟨CTX_ACC_CMD.TARGET, 1, .wo, 0, 0, []⟩,
  ⟨CTX_ACC_CMD.OP, 1, .wo, 0, 0, []⟩,
  ⟨CTX_ACC_STATUS.BUSY, 1, .ro, 0, clPC, []⟩,
  ⟨CTX_ACC_STATUS.RESULT, 1, .ro, 0, clPC, []⟩,
  ⟨CTX_BUF_INDEX.WORD, 1, .rw, 0, clPCWF, []⟩,
  ⟨CTX_BUF_INDEX.AUTOINC, 1, .rw, 0, clPCWF, []⟩,
  ⟨CTX_BUF_DATA.DATA, 1, .rw, 0, clPCWF, []⟩,
  ⟨CTX_RING_INDEX.SLOT, 1, .rw, 0, clPCWF, []⟩,
  ⟨CTX_RING_DATA.NEXT, 1, .rw, 0, clPC, []⟩,
  ⟨CTX_SLOT_INDEX.SLOT, 1, .rw, 0, clPCWF, []⟩,
  ⟨CTX_SLOT_STATE.VALID, 1, .ro, 0, 0, []⟩,
  ⟨CTX_SLOT_STATE.LIVE, 1, .ro, 0, 0, []⟩,
  ⟨CTX_SLOT_STATE.MOVING, 1, .ro, 0, 0, []⟩,
  ⟨CTX_SLOT_STATE.PANEL, 1, .ro, 0, 0, []⟩,
  ⟨CTX_LOST_MAP.LOST, 8, .w1c, 0, clPC, []⟩,
  ⟨BANK_STATUS.STATE, 2, .ro, 0, 0, []⟩,
  ⟨BANK_STATUS.TWIN, 2, .ro, 0, 0, []⟩,
  ⟨BANK_STATUS.MODE, 2, .ro, 0, 0, []⟩,
  ⟨BANK_STATUS.REASON, 2, .ro, 5, 0, []⟩,
  ⟨BANK_STATUS.RETIRED, 2, .ro, 0, 0, []⟩,
  ⟨BANK_STATUS.OWNER_KIND, 2, .ro, 2, 0, []⟩]

/-- Register rows of R281, R282. -/
def rowsTileB : List FieldRow := [
  ⟨BANK_STATUS.OWNER_PART, 2, .ro, 0, 0, []⟩,
  ⟨BANK_CNT_TRANSIENT.COUNT, 2, .rw, 0, clPCWF, [(0, 0)]⟩,
  ⟨BANK_CNT_REPAIRED.COUNT, 2, .rw, 0, clPCWF, [(0, 0)]⟩,
  ⟨BANK_CNT_POISON.COUNT, 2, .rw, 0, clPCWF, [(0, 0)]⟩,
  ⟨BANK_CNT_OWNER.COUNT, 2, .rw, 0, clPCWF, [(0, 0)]⟩,
  ⟨BANK_ERR_INJECT.ARM, 1, .rw, 0, clPCWF, []⟩,
  ⟨BANK_ERR_INJECT.BANK, 1, .rw, 0, clPCWF, []⟩,
  ⟨BANK_ERR_INJECT.MODE, 1, .rw, 0, clPCWF, []⟩,
  ⟨BANK_ERR_INJECT.LINE, 1, .rw, 0, clPCWF, []⟩,
  ⟨BANK_ERR_INJECT.BIT, 1, .rw, 0, clPCWF, [(0, 527)]⟩]

/-- All register rows of the page kind. -/
def rowsTile : List FieldRow := rowsTileA ++ rowsTileB

/-- Register rows of R205, R230. -/
def rowsBridleA : List FieldRow := [
  ⟨BRIDLE_CTRL.KEEP_ON_WARM, 1, .rw, 1, clPC, []⟩,
  ⟨BRIDLE_CTRL.SAVE_TRACKS, 1, .wo, 0, 0, []⟩,
  ⟨BRIDLE_CTRL.ERASE_TRACKS, 1, .wo, 0, 0, []⟩,
  ⟨BRIDLE_STATUS.COUNTING, 1, .ro, 0, clPC, []⟩,
  ⟨BRIDLE_STATUS.RESTORED, 1, .ro, 0, clPC, []⟩,
  ⟨BRIDLE_STATUS.RESTORE_BAD, 1, .ro, 0, clPC, []⟩,
  ⟨BRIDLE_STATUS.SAVE_BUSY, 1, .ro, 0, clPC, []⟩,
  ⟨BRIDLE_STATUS.SAVE_RESULT, 1, .ro, 0, clPC, []⟩,
  ⟨BRIDLE_FAULT_MAP_LO.FAULT, 1, .ro, 0, 0, []⟩,
  ⟨BRIDLE_FAULT_MAP_HI.FAULT, 1, .ro, 0, 0, []⟩,
  ⟨BRIDLE_NS_LO.NS, 1, .ro, 0, clPC, []⟩,
  ⟨BRIDLE_NS_HI.NS, 1, .ro, 0, clPC, []⟩,
  ⟨BRIDLE_QUEUE.DEPTH, 1, .ro, 0, 0, []⟩,
  ⟨BRIDLE_QUEUE_PEAK.PEAK, 1, .rw, 0, clPCWF, [(0, 0)]⟩,
  ⟨BRIDLE_LATE_CNT.COUNT, 1, .rw, 0, clPCW, [(0, 0)]⟩,
  ⟨BRIDLE_MISS_CNT.COUNT, 1, .rw, 0, clPCW, [(0, 0)]⟩,
  ⟨BRIDLE_PRED_CANCEL_CNT.COUNT, 1, .rw, 0, clPCW, [(0, 0)]⟩,
  ⟨BRIDLE_OP_DROP_CNT.COUNT, 1, .rw, 0, clPCW, [(0, 0)]⟩,
  ⟨BRIDLE_ACT_CNT.COUNT, 1, .rw, 0, clPCW, [(0, 0)]⟩,
  ⟨BRIDLE_MEVENT.LATE, 1, .w1c, 0, clPCW, []⟩,
  ⟨BRIDLE_MEVENT.MISS, 1, .w1c, 0, clPCW, []⟩,
  ⟨BRIDLE_MEVENT.MISS_OVERWRITE, 1, .w1c, 0, clPCW, []⟩,
  ⟨BRIDLE_MEVENT.PRED_CANCEL, 1, .w1c, 0, clPCW, []⟩,
  ⟨BRIDLE_MEVENT.OP_DROP, 1, .w1c, 0, clPCW, []⟩]

/-- Register rows of R230. -/
def rowsBridleB : List FieldRow := [
  ⟨BRIDLE_MEVENT_MASK.MASK, 1, .rw, 0x1e, clPCW, []⟩,
  ⟨BRIDLE_MEVENT_SRC.SOURCE, 1, .rw, 0, clPCW, []⟩,
  ⟨BRIDLE_MISS_HEAD.HEAD, 1, .ro, 0, clPC, []⟩,
  ⟨BRIDLE_STAGE_INDEX.REG, 1, .rw, 0, clPCWF, []⟩,
  ⟨BRIDLE_STAGE_DATA.VALUE, 1, .rw, 0, clPC, []⟩,
  ⟨BRIDLE_ARMED_SEL.TRACK, 1, .rw, 0, clPCWF, []⟩,
  ⟨BRIDLE_ARMED.MARK, 4, .ro, 0, 0, []⟩,
  ⟨BRIDLE_ARMED.VALID, 4, .ro, 0, 0, []⟩,
  ⟨BRIDLE_MARK_RANGE.BASE, 64, .rw, 0, clPC, []⟩,
  ⟨BRIDLE_MARK_RANGE.COUNT, 64, .rw, 0, clPC, [(0, 16384)]⟩,
  ⟨BRIDLE_MISS_LOG.WORD, 128, .ro, 0, clPC, []⟩]

/-- All register rows of the page kind. -/
def rowsBridle : List FieldRow := rowsBridleA ++ rowsBridleB

/-- Register rows of R206. -/
def rowsTrackA : List FieldRow := [
  ⟨TRK_CTRL.ENABLE, 1, .rw, 0, clPCF, []⟩,
  ⟨TRK_CTRL.RESTART, 1, .wo, 0, 0, []⟩,
  ⟨TRK_CTRL.FORCE_FAULT, 1, .wo, 0, 0, []⟩,
  ⟨TRK_CTRL.PRESET, 1, .wo, 0, 0, []⟩,
  ⟨TRK_SRC.KIND, 1, .rw, 0, clPCF, []⟩,
  ⟨TRK_SRC.INVERT_DIR, 1, .rw, 0, clPCF, []⟩,
  ⟨TRK_SRC.EDGE, 1, .rw, 0, clPCF, []⟩,
  ⟨TRK_SRC.Z_MODE, 1, .rw, 0, clPCF, []⟩,
  ⟨TRK_SRC.Z_QUAL, 1, .rw, 0, clPCF, []⟩,
  ⟨TRK_SRC.PIN_A, 1, .rw, 0, clPCF, [(0, 191)]⟩,
  ⟨TRK_SRC.PIN_B, 1, .rw, 0, clPCF, [(0, 191)]⟩,
  ⟨TRK_SRC.PIN_Z, 1, .rw, 0, clPCF, [(0, 191)]⟩,
  ⟨TRK_SRC2.PANEL, 1, .rw, 0, clPCF, [(0, 575)]⟩,
  ⟨TRK_SRC2.PORT_EN, 1, .rw, 0, clPCF, []⟩,
  ⟨TRK_SRC2.REMOTE_TRACK, 1, .rw, 0, clPCF, []⟩,
  ⟨TRK_SRC2.REMOTE_DEV, 1, .rw, 0, clPCF, []⟩,
  ⟨TRK_MOD_LO.M, 1, .rw, 0, clPCF, []⟩,
  ⟨TRK_MOD_HI.M, 1, .rw, 0, clPCF, []⟩,
  ⟨TRK_OBS.BW_HZ, 1, .rw, 0x3e8, clPCF, [(1, 1000000)]⟩,
  ⟨TRK_STEPMAX.COUNTS, 1, .rw, 0x10000, clPCF, [(1, 4294967295)]⟩,
  ⟨TRK_VMAX.RATE, 1, .rw, 0xffffffff, clPCF, [(1, 4294967295)]⟩,
  ⟨TRK_LIMITS.REJECT_LIMIT, 1, .rw, 4, clPCF, [(1, 255)]⟩,
  ⟨TRK_COAST.US, 1, .rw, 0xa, clPCF, [(1, 4000000)]⟩,
  ⟨TRK_STALE.US, 1, .rw, 0x3e8, clPCF, [(1, 4000000)]⟩]

/-- Register rows of R206. -/
def rowsTrackB : List FieldRow := [
  ⟨TRK_FAULT_ACT.ACTION, 1, .rw, 0, clPCF, []⟩,
  ⟨TRK_FAULT_ACT.ENABLE, 1, .rw, 0, clPCF, []⟩,
  ⟨TRK_REF_LO.POS, 1, .rw, 0, clPCF, []⟩,
  ⟨TRK_REF_HI.POS, 1, .rw, 0, clPCF, []⟩,
  ⟨TRK_ZTOL.COUNTS, 1, .rw, 2, clPCF, []⟩,
  ⟨TRK_PRESET_LO.POS, 1, .rw, 0, clPCF, []⟩,
  ⟨TRK_PRESET_HI.POS, 1, .rw, 0, clPCF, []⟩,
  ⟨TRK_TIME_RATE.RATE, 1, .rw, 0, clPCF, []⟩,
  ⟨TRK_TIME_STEP_LO.OFFSET, 1, .rw, 0, clPCF, []⟩,
  ⟨TRK_TIME_STEP_HI.OFFSET, 1, .rw, 0, clPCF, []⟩,
  ⟨TRK_STATUS.STATE, 1, .ro, 0, 0, []⟩,
  ⟨TRK_STATUS.STILL, 1, .ro, 0, 0, []⟩,
  ⟨TRK_STATUS.HOMED, 1, .ro, 0, 0, []⟩,
  ⟨TRK_STATUS.DIR, 1, .ro, 0, 0, []⟩,
  ⟨TRK_STATUS.CAUSE, 1, .ro, 0, 0, []⟩,
  ⟨TRK_STATUS.CONSEC, 1, .ro, 0, 0, []⟩,
  ⟨TRK_POS_LO.POS, 1, .ro, 0, 0, []⟩,
  ⟨TRK_POS_HI.POS, 1, .ro, 0, 0, []⟩,
  ⟨TRK_VEL_LO.VEL, 1, .ro, 0, 0, []⟩,
  ⟨TRK_VEL_HI.VEL, 1, .ro, 0, 0, []⟩,
  ⟨TRK_SNAP_NS.NS, 1, .ro, 0, 0, []⟩,
  ⟨TRK_RAW_POS.COUNT, 1, .ro, 0, clPCF, []⟩,
  ⟨TRK_Z_LATCH_LO.POS, 1, .ro, 0, clPCF, []⟩,
  ⟨TRK_Z_LATCH_HI.POS, 1, .ro, 0, clPCF, []⟩]

/-- Register rows of R206, R207. -/
def rowsTrackC : List FieldRow := [
  ⟨TRK_EVENT.FAULT, 1, .w1c, 0, clPCWF, []⟩,
  ⟨TRK_EVENT.REJECT, 1, .w1c, 0, clPCWF, []⟩,
  ⟨TRK_EVENT.STILL, 1, .w1c, 0, clPCWF, []⟩,
  ⟨TRK_EVENT.Z_MISMATCH, 1, .w1c, 0, clPCWF, []⟩,
  ⟨TRK_EVENT.PORT_DROP, 1, .w1c, 0, clPCWF, []⟩,
  ⟨TRK_EVENT_MASK.MASK, 1, .rw, 9, clPCWF, []⟩,
  ⟨TRK_EVENT_SRC.SOURCE, 1, .rw, 0, clPCWF, []⟩,
  ⟨TRK_REJECT_CNT.COUNT, 1, .rw, 0, clPCWF, [(0, 0)]⟩,
  ⟨TRK_QUAD_ERR_CNT.COUNT, 1, .rw, 0, clPCWF, [(0, 0)]⟩,
  ⟨TRK_PORT_DROP_CNT.COUNT, 1, .rw, 0, clPCWF, [(0, 0)]⟩,
  ⟨TRK_FAULT_CNT.COUNT, 1, .rw, 0, clPCWF, [(0, 0)]⟩,
  ⟨TRK_ZMIS_CNT.COUNT, 1, .rw, 0, clPCWF, [(0, 0)]⟩,
  ⟨TRK_SAMPLE_DT.NS, 1, .ro, 0, clPCF, []⟩,
  ⟨TRK_OBS_DAMP.ZETA, 1, .rw, 0xb5, clPCF, [(64, 256)]⟩]

/-- All register rows of the page kind. -/
def rowsTrack : List FieldRow := rowsTrackA ++ rowsTrackB ++ rowsTrackC

/-- Register rows of R244. -/
def rowsPwrA : List FieldRow := [
  ⟨GOV_CTRL.MODE, 1, .rw, 0, clPCF, []⟩,
  ⟨GOV_CTRL.ALIGN, 1, .wo, 0, 0, []⟩,
  ⟨GOV_CTRL.RESUME, 1, .wo, 0, 0, []⟩,
  ⟨GOV_WINDOW.US, 1, .rw, 0xa, clPCF, [(1, 1000)]⟩,
  ⟨GOV_TEMP_LIMITS.WARN, 1, .rw, 0x5f, clPCF, [(60, 99)]⟩,
  ⟨GOV_TEMP_LIMITS.HOT, 1, .rw, 0x64, clPCF, [(80, 100)]⟩,
  ⟨GOV_TEMP_LIMITS.HOT_HYST, 1, .rw, 5, clPCF, [(1, 15)]⟩,
  ⟨GOV_STATUS.HELD, 1, .ro, 0, clPC, []⟩,
  ⟨GOV_STATUS.TRIPPED, 1, .ro, 0, clPC, []⟩,
  ⟨GOV_EVENT.WARN, 1, .w1c, 0, clPCW, []⟩,
  ⟨GOV_EVENT.HOT, 1, .w1c, 0, clPCW, []⟩,
  ⟨GOV_EVENT.TRIP, 1, .w1c, 0, clPC, []⟩,
  ⟨GOV_EVENT.STAGGER_VIOLATION, 1, .w1c, 0, clPCW, []⟩,
  ⟨GOV_EVENT.SWAP_OVER, 1, .w1c, 0, clPCW, []⟩,
  ⟨GOV_EVENT.PF_OVER, 1, .w1c, 0, clPCW, []⟩,
  ⟨GOV_EVENT.HOT_RELEASE, 1, .w1c, 0, clPCW, []⟩,
  ⟨GOV_EVENT.SENSOR_FAIL, 1, .w1c, 0, clPCW, []⟩,
  ⟨GOV_EVENT_MASK.MASK, 1, .rw, 0xb7, clPCF, []⟩,
  ⟨GOV_EVENT_SRC.SOURCE, 1, .rw, 0, clPCF, []⟩,
  ⟨GOV_STAGGER_CNT.COUNT, 1, .rw, 0, clPCW, [(0, 0)]⟩,
  ⟨GOV_STAGGER_LAST.COLUMN, 1, .ro, 0, clPCW, []⟩,
  ⟨GOV_STAGGER_LAST.VALID, 1, .ro, 0, clPCW, []⟩,
  ⟨GOV_SWAP_ROWS.ROWS, 1, .ro, 0, clPC, []⟩,
  ⟨GOV_FILLS.FILLS, 1, .ro, 0, clPC, []⟩]

/-- Register rows of R244, R432. -/
def rowsPwrB : List FieldRow := [
  ⟨GOV_SWAP_OVER_CNT.COUNT, 1, .rw, 0, clPCW, [(0, 0)]⟩,
  ⟨GOV_PF_OVER_CNT.COUNT, 1, .rw, 0, clPCW, [(0, 0)]⟩,
  ⟨GOV_TEMP_SEL.COLUMN, 1, .rw, 0, clPCF, [(0, 287)]⟩,
  ⟨GOV_TEMP_DATA.BALLAST, 1, .ro, 0, 0, []⟩,
  ⟨GOV_TEMP_DATA.LOWER, 1, .ro, 0, 0, []⟩,
  ⟨GOV_TEMP_DATA.SPAR, 1, .ro, 0, 0, []⟩,
  ⟨GOV_TEMP_DATA.UPPER, 1, .ro, 0, 0, []⟩,
  ⟨GOV_TMAX.TEMP, 1, .ro, 0, 0, []⟩,
  ⟨GOV_TMAX.COLUMN, 1, .ro, 0, 0, []⟩,
  ⟨GOV_HELD_MAP.HELD, 9, .ro, 0, clPC, []⟩,
  ⟨PWR_STATUS.PF_WARN, 1, .ro, 0, 0, []⟩,
  ⟨PWR_STATUS.PF_HELD, 1, .ro, 0, clPC, []⟩,
  ⟨PWR_STATUS.REG_FAULT, 1, .ro, 0, clPC, []⟩,
  ⟨PWR_EVENT.PF_WARN, 1, .w1c, 0, clPCW, []⟩,
  ⟨PWR_EVENT.PF_CLEAR, 1, .w1c, 0, clPCW, []⟩,
  ⟨PWR_EVENT.RAIL_UV, 1, .w1c, 0, clPCW, []⟩,
  ⟨PWR_EVENT.RAIL_OV, 1, .w1c, 0, clPCW, []⟩,
  ⟨PWR_EVENT.REG_FAULT, 1, .w1c, 0, clPCW, []⟩,
  ⟨PWR_EVENT_MASK.MASK, 1, .rw, 0x1e, clPCF, []⟩,
  ⟨PWR_EVENT_SRC.SOURCE, 1, .rw, 0, clPCF, []⟩,
  ⟨PWR_PF_CTRL.LEVEL, 1, .rw, 0x14, clPC, [(12, 24)]⟩,
  ⟨PWR_PF_CTRL.HYST, 1, .rw, 3, clPC, [(1, 10)]⟩,
  ⟨PWR_PF_CTRL.AUTO_RELEASE, 1, .rw, 0, clPC, []⟩,
  ⟨PWR_PF_SRC.SOURCE, 1, .rw, 0, clPC, []⟩]

/-- Register rows of R432. -/
def rowsPwrC : List FieldRow := [
  ⟨PWR_PF_RELEASE.RELEASE, 1, .wo, 0, 0, []⟩,
  ⟨PWR_PF_CNT.COUNT, 1, .rw, 0, clPCW, [(0, 0)]⟩,
  ⟨PWR_CTRL.REG_RESUME, 1, .wo, 0, 0, []⟩,
  ⟨PWR_REG.VSET, 16, .rw, 0, clPC, []⟩,
  ⟨PWR_REG.VMIN, 16, .ro, 0, 0, []⟩,
  ⟨PWR_REG.STATE, 16, .ro, 0, 0, []⟩,
  ⟨PWR_REG.LIMITING, 16, .ro, 0, 0, []⟩,
  ⟨PWR_REG_I.AMPS, 16, .ro, 0, 0, []⟩]

/-- All register rows of the page kind. -/
def rowsPwr : List FieldRow := rowsPwrA ++ rowsPwrB ++ rowsPwrC

/-- Register rows of R279. -/
def rowsBallastA : List FieldRow := [
  ⟨BANK_HANDOVER.BANK, 1, .wo, 0, 0, []⟩,
  ⟨BANK_HANDOVER.KIND, 1, .wo, 0, 0, []⟩,
  ⟨BANK_HANDOVER.PART, 1, .wo, 0, 0, []⟩,
  ⟨BANK_HANDOVER.ENGINE, 1, .wo, 0, 0, []⟩,
  ⟨BANK_HANDOVER_STATUS.BUSY, 1, .ro, 0, clPC, []⟩,
  ⟨BANK_HANDOVER_STATUS.ABORTED, 1, .ro, 0, clPC, []⟩,
  ⟨BANK_HANDOVER_STATUS.BANK, 1, .ro, 0, clPC, []⟩,
  ⟨BANK_OWNER_INDEX.BANK, 1, .rw, 0, clPCWF, [(0, 575)]⟩,
  ⟨BANK_OWNER.KIND, 1, .ro, 2, clPC, []⟩,
  ⟨BANK_OWNER.PART, 1, .ro, 0, clPC, []⟩,
  ⟨BANK_OWNER.ENGINE, 1, .ro, 0, clPC, []⟩,
  ⟨BANK_RETIRE.BANK, 1, .wo, 0, 0, []⟩,
  ⟨BANK_RETIRE.WHOLE, 1, .wo, 0, 0, []⟩,
  ⟨BANK_RETIRE.PAGE, 1, .wo, 0, 0, []⟩,
  ⟨BANK_MIRROR_SEL.GROUP, 1, .rw, 0, clPCWF, [(0, 35)]⟩,
  ⟨BANK_MIRROR_CTRL.PARTNER, 1, .rw, 0, clPC, []⟩,
  ⟨BANK_MIRROR_CTRL.PAGES, 1, .rw, 0, clPC, []⟩,
  ⟨BANK_MIRROR_CTRL.ENABLE, 1, .rw, 0, clPC, []⟩,
  ⟨BANK_MIRROR_CTRL.SYNCED, 1, .ro, 0, clPC, []⟩,
  ⟨BANK_TEST_PERIOD.MS, 1, .rw, 0x3e8, clPC, [(1, 65535)]⟩,
  ⟨BANK_CTX_TEST_PERIOD.MS, 1, .rw, 0x3e8, clPC, [(1, 65535)]⟩,
  ⟨BANK_LOG_WINDOW.MS, 1, .rw, 0x3e8, clPC, [(1, 65535)]⟩,
  ⟨BANK_LOG_GROUP.GROUP, 1, .rw, 0, clPCWF, [(0, 35)]⟩,
  ⟨BANK_LOG_HEAD.HEAD, 1, .ro, 0, clPCW, []⟩]

/-- Register rows of R279. -/
def rowsBallastB : List FieldRow := [
  ⟨BANK_EVENT.CANDIDATE, 1, .w1c, 0, clPCW, []⟩,
  ⟨BANK_EVENT.POISON, 1, .w1c, 0, clPCW, []⟩,
  ⟨BANK_EVENT.HANDOVER_ABORT, 1, .w1c, 0, clPCW, []⟩,
  ⟨BANK_EVENT.MIRROR_LOST, 1, .w1c, 0, clPCW, []⟩,
  ⟨BANK_EVENT_MASK.MASK, 1, .rw, 0xf, clPCW, []⟩,
  ⟨BANK_EVENT_SRC.SOURCE, 1, .rw, 0, clPCW, []⟩,
  ⟨BANK_CAND.LINE, 1, .ro, 0, clPCW, []⟩,
  ⟨BANK_CAND.BANK, 1, .ro, 0, clPCW, []⟩,
  ⟨BANK_CAND.VALID, 1, .ro, 0, clPCW, []⟩,
  ⟨BANK_TEST_EXCL.EXCL, 18, .rw, 0, clPC, []⟩,
  ⟨BANK_LOG.WORD, 128, .ro, 0, clPCW, []⟩]

/-- All register rows of the page kind. -/
def rowsBallast : List FieldRow := rowsBallastA ++ rowsBallastB

end Sys2Proof.Machine
end

