-- ==== Sys2Proof/Machine/RegTableB.lean ====
section
/-! DEFINITION. Register tables of chapters 11 to 23. Each row: field, array length, access code (R4), reset value,
reset classes that clear it (R5), accepted values (R7; an empty list accepts every value of the field). -/

namespace Sys2Proof.Machine

/-- Register rows of R309. -/
def rowsRigHeadA : List FieldRow := [
  ⟨RIG_EPOCH.CURRENT, 1, .ro, 0, clPC, []⟩,
  ⟨RIG_EPOCH.FLIP, 1, .wo, 0, 0, []⟩,
  ⟨RIG_EPOCH.OLD_BUSY, 1, .ro, 0, clPC, []⟩,
  ⟨RIG_WEIGHT.RESPONSE, 1, .rw, 4, clPCF, [(1, 15)]⟩,
  ⟨RIG_WEIGHT.REQUEST, 1, .rw, 2, clPCF, [(1, 15)]⟩,
  ⟨RIG_WEIGHT.BULK, 1, .rw, 1, clPCF, [(1, 15)]⟩,
  ⟨RIG_DRAIN_TIMEOUT.US, 1, .rw, 2, clPCF, [(1, 255)]⟩,
  ⟨RIG_INIT_SEL.INIT, 1, .rw, 0, clPCWF, [(0, 89)]⟩,
  ⟨RIG_INIT_TIMEOUT.US, 1, .rw, 0xa, clPC, [(1, 65535)]⟩,
  ⟨RIG_ST_BYTES_LO.BYTES, 1, .rw, 0, clPCW, [(0, 0)]⟩,
  ⟨RIG_ST_BYTES_HI.BYTES, 1, .rw, 0, clPCW, [(0, 0)]⟩,
  ⟨RIG_ST_TRANS.COUNT, 1, .rw, 0, clPCW, [(0, 0)]⟩,
  ⟨RIG_ST_STALL.CYCLES, 1, .rw, 0, clPCW, [(0, 0)]⟩,
  ⟨RIG_ST_TOKSTALL.CYCLES, 1, .rw, 0, clPCW, [(0, 0)]⟩,
  ⟨RIG_ST_TIMEOUT.COUNT, 1, .rw, 0, clPCW, [(0, 0)]⟩,
  ⟨RIG_ST_LATE_RESP.COUNT, 1, .rw, 0, clPCW, [(0, 0)]⟩,
  ⟨RIG_ST_POISON.COUNT, 1, .rw, 0, clPCW, [(0, 0)]⟩,
  ⟨RIG_ST_LAT.MIN, 1, .rw, 0xffff, clPCW, [(0, 0)]⟩,
  ⟨RIG_ST_LAT.MAX, 1, .rw, 0, clPCW, [(0, 0)]⟩,
  ⟨RIG_ST_TAGS.BUSY, 1, .ro, 0, 0, []⟩,
  ⟨RIG_ST_HIST.COUNT, 8, .rw, 0, clPCW, [(0, 0)]⟩,
  ⟨RIG_EVENT.TIMEOUT, 1, .w1c, 0, clPCW, []⟩,
  ⟨RIG_EVENT.HDR_UNCORR, 1, .w1c, 0, clPCW, []⟩,
  ⟨RIG_EVENT.NO_ROUTE, 1, .w1c, 0, clPCW, []⟩]

/-- Register rows of R309. -/
def rowsRigHeadB : List FieldRow := [
  ⟨RIG_EVENT.DRAIN_ABANDON, 1, .w1c, 0, clPCW, []⟩,
  ⟨RIG_EVENT.EPOCH_DONE, 1, .w1c, 0, clPCW, []⟩,
  ⟨RIG_EVENT_MASK.MASK, 1, .rw, 0xe, clPCW, []⟩,
  ⟨RIG_EVENT_SRC.SOURCE, 1, .rw, 0, clPCW, []⟩,
  ⟨RIG_DOMAIN.STATE.at 4, 12, .ro, 0, 0, []⟩,
  ⟨RIG_DOMAIN.ABANDONED.at 4, 12, .ro, 0, clPC, []⟩]

/-- All register rows of the page kind. -/
def rowsRigHead : List FieldRow := rowsRigHeadA ++ rowsRigHeadB

/-- Register rows of R310. -/
def rowsNode : List FieldRow := [
  ⟨RIGN_INFO.KIND, 1, .ro, 0, 0, []⟩,
  ⟨RIGN_INFO.MAST, 1, .ro, 0, 0, []⟩,
  ⟨RIGN_INFO.U, 1, .ro, 0, 0, []⟩,
  ⟨RIGN_INFO.V, 1, .ro, 0, 0, []⟩,
  ⟨RIGN_CTRL.DISABLE, 1, .rw, 0, clPC, []⟩,
  ⟨RIGN_LINK.DISABLE, 1, .rw, 0, clPC, []⟩,
  ⟨RIGN_LINK.DEAD, 1, .ro, 0, 0, []⟩,
  ⟨RIGN_STATE.STATE, 1, .ro, 0, 0, []⟩,
  ⟨RIGN_STATE.OLD_FLITS, 1, .ro, 0, 0, []⟩,
  ⟨RIGN_TBL_INDEX.ENTRY, 1, .rw, 0, clPCWF, [(0, 191)]⟩,
  ⟨RIGN_TBL_INDEX.TABLE, 1, .rw, 0, clPCWF, []⟩,
  ⟨RIGN_TBL_DATA.ENTRY, 1, .rw, 7, clPC, []⟩,
  ⟨RIGN_HDR_CORR.COUNT, 1, .rw, 0, clPCWF, [(0, 0)]⟩,
  ⟨RIGN_HDR_UNCORR.COUNT, 1, .rw, 0, clPCWF, [(0, 0)]⟩,
  ⟨RIGN_NO_ROUTE.COUNT, 1, .rw, 0, clPCWF, [(0, 0)]⟩,
  ⟨RIGN_URGENT_DROP.COUNT, 1, .rw, 0, clPCWF, [(0, 0)]⟩]

/-- Register rows of R330. -/
def rowsEngine : List FieldRow := [
  ⟨ENG_CTRL.ARB, 1, .rw, 0, clPCWF, []⟩,
  ⟨ENG_STATUS.ACTIVE, 1, .ro, 0, 0, []⟩,
  ⟨ENG_STATUS.HALTED, 1, .ro, 0, 0, []⟩,
  ⟨ENG_BURSTS.READS, 1, .ro, 0, 0, []⟩,
  ⟨ENG_CUR.CHANNEL, 1, .ro, 0, 0, []⟩,
  ⟨ENG_CUR.VALID, 1, .ro, 0, 0, []⟩]

/-- Register rows of R331. -/
def rowsChHead : List FieldRow := [
  ⟨SPOOL_HALT_MAP_LO.HALT, 1, .ro, 0, 0, []⟩,
  ⟨SPOOL_HALT_MAP_HI.HALT, 1, .ro, 0, 0, []⟩]

/-- Register rows of R332. -/
def rowsChannelA : List FieldRow := [
  ⟨CH_CTRL.ENABLE, 1, .rw, 0, clPCWF, []⟩,
  ⟨CH_CTRL.RING_HOST, 1, .rw, 0, clPCWF, []⟩,
  ⟨CH_CTRL.TRIG_MODE, 1, .rw, 0, clPCWF, []⟩,
  ⟨CH_CTRL.PRIO, 1, .rw, 0, clPCWF, []⟩,
  ⟨CH_CTRL.BURST, 1, .rw, 9, clPCWF, [(6, 12)]⟩,
  ⟨CH_PART.PART, 1, .rwl, 0, clPC, []⟩,
  ⟨CH_RING_BASE_LO.BASE, 1, .rw, 0, clPCWF, []⟩,
  ⟨CH_RING_BASE_HI.BASE, 1, .rw, 0, clPCWF, []⟩,
  ⟨CH_RING_SIZE.SIZE, 1, .rw, 2, clPCWF, [(2, 2), (4, 4), (8, 8), (16, 16), (32, 32), (64, 64), (128, 128), (256, 256), (512, 512), (1024, 1024), (2048, 2048), (4096, 4096), (8192, 8192), (16384, 16384), (32768, 32768), (65536, 65536)]⟩,
  ⟨CH_HEAD.INDEX, 1, .rw, 0, clPCWF, []⟩,
  ⟨CH_CMD.CMD, 1, .wo, 0, 0, []⟩,
  ⟨CH_STATUS.STATE, 1, .ro, 0, 0, []⟩,
  ⟨CH_STATUS.KICK_PENDING, 1, .ro, 0, 0, []⟩,
  ⟨CH_STATUS.STOP_PENDING, 1, .ro, 0, 0, []⟩,
  ⟨CH_STATUS.TRIG_PENDING, 1, .ro, 0, 0, []⟩,
  ⟨CH_EVENT.DONE, 1, .w1c, 0, clPCWF, []⟩,
  ⟨CH_EVENT.HALT, 1, .w1c, 0, clPCWF, []⟩,
  ⟨CH_EVENT.TRIG_EMPTY, 1, .w1c, 0, clPCWF, []⟩,
  ⟨CH_EVENT.TRIG_OVF, 1, .w1c, 0, clPCWF, []⟩,
  ⟨CH_EVENT.LATE_START, 1, .w1c, 0, clPCWF, []⟩,
  ⟨CH_EVENT.BAD_DESC, 1, .w1c, 0, clPCWF, []⟩,
  ⟨CH_EVENT_MASK.MASK, 1, .rw, 0x3e, clPCWF, []⟩,
  ⟨CH_EVENT_SRC.SOURCE, 1, .rw, 0, clPCWF, []⟩,
  ⟨CH_DONE_SRC.SOURCE, 1, .rw, 0, clPCWF, []⟩]

/-- Register rows of R332. -/
def rowsChannelB : List FieldRow := [
  ⟨CH_ERR_INFO.CODE, 1, .ro, 0, clPCWF, []⟩,
  ⟨CH_ERR_INFO.DIR, 1, .ro, 0, clPCWF, []⟩,
  ⟨CH_ERR_INFO.PHASE, 1, .ro, 0, clPCWF, []⟩,
  ⟨CH_ERR_INFO.HOST, 1, .ro, 0, clPCWF, []⟩,
  ⟨CH_ERR_INFO.MULTI, 1, .ro, 0, clPCWF, []⟩,
  ⟨CH_ERR_INFO.DESC, 1, .ro, 0, clPCWF, []⟩,
  ⟨CH_ERR_ADDR_LO.ADDR, 1, .ro, 0, clPCWF, []⟩,
  ⟨CH_ERR_ADDR_HI.ADDR, 1, .ro, 0, clPCWF, []⟩,
  ⟨CH_DESC_CNT.COUNT, 1, .rw, 0, clPCWF, [(0, 0)]⟩,
  ⟨CH_TRIG_EMPTY_CNT.COUNT, 1, .rw, 0, clPCWF, [(0, 0)]⟩,
  ⟨CH_TRIG_OVF_CNT.COUNT, 1, .rw, 0, clPCWF, [(0, 0)]⟩,
  ⟨CH_LATE_CNT.COUNT, 1, .rw, 0, clPCWF, [(0, 0)]⟩,
  ⟨CH_BAD_CNT.COUNT, 1, .rw, 0, clPCWF, [(0, 0)]⟩]

/-- All register rows of the page kind. -/
def rowsChannel : List FieldRow := rowsChannelA ++ rowsChannelB

/-- Register rows of R350. -/
def rowsIntc0 : List FieldRow := [
  ⟨INTC_DOORBELL_S.SOURCE, 1, .wo, 0, 0, []⟩,
  ⟨INTC_GLOBAL.DELIVER, 1, .rw, 1, clPCWF, []⟩,
  ⟨INTC_DB_REJ_ZERO.COUNT, 1, .rw, 0, clPCWF, [(0, 0)]⟩,
  ⟨INTC_DB_REJ_RANGE.COUNT, 1, .rw, 0, clPCWF, [(0, 0)]⟩,
  ⟨INTC_DB_REJ_WORLD.COUNT, 1, .rw, 0, clPCWF, [(0, 0)]⟩,
  ⟨INTC_SPURIOUS_COMPLETE.COUNT, 1, .rw, 0, clPCWF, [(0, 0)]⟩,
  ⟨INTC_DB_RESET_CNT.COUNT, 1, .rw, 0, clPCW, [(0, 0)]⟩,
  ⟨INTC_DB_CNT.COUNT, 1, .rw, 0, clPCWF, [(0, 0)]⟩,
  ⟨INTC_EVENT.DB_REJECT, 1, .w1c, 0, clPCWF, []⟩,
  ⟨INTC_EVENT.SPURIOUS, 1, .w1c, 0, clPCWF, []⟩,
  ⟨INTC_EVENT.OVF, 1, .w1c, 0, clPCWF, []⟩,
  ⟨INTC_EVENT.MSG_ERR, 1, .w1c, 0, clPCWF, []⟩,
  ⟨INTC_EVENT_MASK.MASK, 1, .rw, 8, clPCWF, []⟩,
  ⟨INTC_EVENT_SRC.SOURCE, 1, .rw, 0, clPCWF, []⟩]

/-- Register rows of R351. -/
def rowsIntc1 : List FieldRow := [
  ⟨INTC_DOORBELL_NS.SOURCE, 1, .wo, 0, 0, []⟩,
  ⟨INTC_SRC_SEL.SOURCE, 1, .rw, 0, clPCWF, []⟩,
  ⟨SRC_CFG.ENABLE, 1, .rw, 0, clPCWF, []⟩,
  ⟨SRC_CFG.MODE, 1, .rw, 0, clPCWF, []⟩,
  ⟨SRC_CFG.PRIO, 1, .rw, 0, clPCWF, []⟩,
  ⟨SRC_CFG.SECURE, 1, .rw, 1, clPC, []⟩,
  ⟨SRC_CFG.PART, 1, .rw, 0, clPC, []⟩,
  ⟨SRC_TMASK.MASK, 1, .rw, 0, clPCWF, []⟩,
  ⟨SRC_STATE.STATE, 1, .ro, 0, 0, []⟩,
  ⟨SRC_STATE.COUNT, 1, .ro, 0, 0, []⟩,
  ⟨SRC_STATE.TARGET, 1, .ro, 0, 0, []⟩,
  ⟨SRC_STATE.OVF, 1, .w1c, 0, clPCWF, []⟩,
  ⟨INTC_PEND.PEND, 128, .ro, 0, 0, []⟩]

/-- Register rows of R352. -/
def rowsIntcT : List FieldRow := [
  ⟨TGT_CTRL.ENABLE, 16, .rw, 0, clPCWF, []⟩,
  ⟨TGT_CTRL.KIND, 16, .rw, 0, clPCWF, []⟩,
  ⟨TGT_CTRL.SECURE, 16, .rw, 1, clPC, []⟩,
  ⟨TGT_CTRL.PART, 16, .rw, 0, clPC, []⟩,
  ⟨TGT_CTRL.PANEL, 16, .rw, 0, clPCWF, []⟩,
  ⟨TGT_ADDR_LO.ADDR, 16, .rw, 0, clPCWF, []⟩,
  ⟨TGT_ADDR_HI.ADDR, 16, .rw, 0, clPCWF, []⟩,
  ⟨TGT_DATA.DATA, 16, .rw, 0, clPCWF, []⟩,
  ⟨TGT_CPR.CPR, 16, .rw, 0, clPCWF, []⟩,
  ⟨TGT_CLAIM.VALUE, 16, .ro, 0, 0, []⟩,
  ⟨TGT_COMPLETE.SOURCE, 16, .wo, 0, 0, []⟩,
  ⟨TGT_STATUS.DELIVERED, 16, .ro, 0, 0, []⟩,
  ⟨TGT_STATUS.ACTIVE, 16, .ro, 0, 0, []⟩,
  ⟨TGT_MSG_CNT.COUNT, 16, .rw, 0, clPCWF, [(0, 0)]⟩,
  ⟨TGT_MSG_ERR_CNT.COUNT, 16, .rw, 0, clPCWF, [(0, 0)]⟩]

/-- Register rows of R374. -/
def rowsLaneA : List FieldRow := [
  ⟨LANE_CTRL.ENABLE, 1, .rw, 0, clPC, []⟩,
  ⟨LANE_CTRL.RATE, 1, .rw, 0, clPC, []⟩,
  ⟨LANE_CTRL.PRECODE, 1, .rw, 1, clPC, []⟩,
  ⟨LANE_CTRL.TX_INVERT, 1, .rw, 0, clPC, []⟩,
  ⟨LANE_CTRL.RX_INVERT, 1, .rw, 0, clPC, []⟩,
  ⟨LANE_CTRL.RETRAIN, 1, .wo, 0, 0, []⟩,
  ⟨LANE_CTRL.OWNER, 1, .ro, 0, 0, []⟩,
  ⟨LANE_STATUS.POWER, 1, .ro, 0, 0, []⟩,
  ⟨LANE_STATUS.STAGE, 1, .ro, 0, 0, []⟩,
  ⟨LANE_STATUS.CDR_LOCK, 1, .ro, 0, 0, []⟩,
  ⟨LANE_STATUS.PRECODE_LIVE, 1, .ro, 0, 0, []⟩,
  ⟨LANE_STATUS.START, 1, .ro, 0, 0, []⟩,
  ⟨LANE_STATUS.TRIM_MOVING, 1, .ro, 0, 0, []⟩,
  ⟨LANE_PLL.BAND, 1, .ro, 0, 0, []⟩,
  ⟨LANE_PLL.LOCKED, 1, .ro, 0, 0, []⟩,
  ⟨LANE_PLL.REF, 1, .rw, 0, clPC, []⟩,
  ⟨LANE_TX_FFE.PRE2, 1, .rw, 0, clPC, []⟩,
  ⟨LANE_TX_FFE.PRE1, 1, .rw, 0x3c, clPC, []⟩,
  ⟨LANE_TX_FFE.MAIN, 1, .rw, 0x33, clPC, []⟩,
  ⟨LANE_TX_FFE.POST1, 1, .rw, 0x38, clPC, []⟩,
  ⟨LANE_TX_FFE.POST2, 1, .rw, 0, clPC, []⟩,
  ⟨LANE_TX_FFE_LIVE.FFE, 1, .ro, 0, 0, []⟩,
  ⟨LANE_RX_CTLE.PEAK, 1, .rw, 0x10, clPC, [(0, 40)]⟩,
  ⟨LANE_RX_CTLE.LF_GAIN, 1, .rw, 0, clPC, [(0, 12)]⟩]

/-- Register rows of R374. -/
def rowsLaneB : List FieldRow := [
  ⟨LANE_RX_CTLE.TRIM_EN, 1, .rw, 1, clPC, []⟩,
  ⟨LANE_RX_CTLE.TABLE_VALID, 1, .rw, 0, clPC, []⟩,
  ⟨LANE_RX_LIVE.PEAK, 1, .ro, 0, clPC, []⟩,
  ⟨LANE_RX_LIVE.TARGET, 1, .ro, 0, clPC, []⟩,
  ⟨LANE_RX_LIVE.LF_GAIN, 1, .ro, 0, clPC, []⟩,
  ⟨LANE_EYE.WIDTH, 1, .ro, 0, 0, []⟩,
  ⟨LANE_EYE.H0, 1, .ro, 0, 0, []⟩,
  ⟨LANE_EYE.H1, 1, .ro, 0, 0, []⟩,
  ⟨LANE_EYE.H2, 1, .ro, 0, 0, []⟩,
  ⟨LANE_BER.EXP, 1, .ro, 0, 0, []⟩,
  ⟨LANE_BER.MANT, 1, .ro, 0, 0, []⟩,
  ⟨LANE_CAL_LIMITS.EYE_W_MIN, 1, .rw, 0xd, clPC, [(13, 63)]⟩,
  ⟨LANE_CAL_LIMITS.EYE_H_MIN, 1, .rw, 0xf, clPC, [(1, 255)]⟩,
  ⟨LANE_TRIM.PERIOD_MS, 1, .rw, 0x64, clPC, [(100, 65535)]⟩,
  ⟨LANE_EVENT.CAL_REJECTED, 1, .w1c, 0, clPCWF, []⟩,
  ⟨LANE_EVENT.LOCK_LOST, 1, .w1c, 0, clPCWF, []⟩,
  ⟨LANE_EVENT.STAGE_TIMEOUT, 1, .w1c, 0, clPCWF, []⟩,
  ⟨LANE_EVENT.BLOB_BAD, 1, .w1c, 0, clPCWF, []⟩,
  ⟨LANE_EVENT.ACTIVE_REACHED, 1, .w1c, 0, clPCWF, []⟩,
  ⟨LANE_EVENT_MASK.MASK, 1, .rw, 0xe, clPCWF, []⟩,
  ⟨LANE_EVENT_SRC.SOURCE, 1, .rw, 0, clPCWF, []⟩,
  ⟨LANE_RETRY_CNT.COUNT, 1, .rw, 0, clPCWF, [(0, 0)]⟩,
  ⟨LANE_LOCK_LOST_CNT.COUNT, 1, .rw, 0, clPCWF, [(0, 0)]⟩,
  ⟨LANE_CAL_REJ_CNT.COUNT, 1, .rw, 0, clPCWF, [(0, 0)]⟩]

/-- Register rows of R374. -/
def rowsLaneC : List FieldRow := [
  ⟨LANE_TIMEOUTS.DETECT_MS, 1, .rw, 0xa, clPC, [(1, 255)]⟩,
  ⟨LANE_TIMEOUTS.TRAIN_MS, 1, .rw, 0x1e, clPC, [(1, 255)]⟩,
  ⟨LANE_TIMEOUTS.LOCK_MS, 1, .rw, 5, clPC, [(1, 255)]⟩,
  ⟨LANE_TIMEOUTS.EXCH_MS, 1, .rw, 5, clPC, [(1, 255)]⟩,
  ⟨LANE_BACKOFF.MS, 1, .ro, 1, 0, []⟩,
  ⟨LANE_CAL_AUTOSAVE.ENABLE, 1, .rw, 0, clPC, []⟩,
  ⟨LANE_CAL_CMD.OP, 1, .wo, 0, 0, []⟩,
  ⟨LANE_CAL_RESULT.RESULT, 1, .ro, 0, clPC, []⟩,
  ⟨LANE_PCIE_PRESETS.ENABLE, 1, .rw, 0x7ff, clPC, []⟩,
  ⟨LANE_CAL_BLOB.WORD, 16, .rw, 0, clPCWF, []⟩]

/-- All register rows of the page kind. -/
def rowsLane : List FieldRow := rowsLaneA ++ rowsLaneB ++ rowsLaneC

/-- Register rows of R398. -/
def rowsTetherA : List FieldRow := [
  ⟨TETHER_CTRL.ENABLE, 1, .rw, 0, clPC, []⟩,
  ⟨TETHER_CTRL.LANES, 1, .rw, 0, clPC, [(0, 2)]⟩,
  ⟨TETHER_CTRL.BASE_LANE, 1, .rw, 0, clPC, [(0, 31)]⟩,
  ⟨TETHER_CTRL.RATE, 1, .rw, 0, clPC, [(0, 2)]⟩,
  ⟨TETHER_CTRL.RETRAIN, 1, .wo, 0, 0, []⟩,
  ⟨TETHER_CTRL.UPLINK, 1, .rw, 0, clPC, []⟩,
  ⟨TETHER_CTRL.FLOCK, 1, .rw, 0, clPC, []⟩,
  ⟨TETHER_STATUS.STATE, 1, .ro, 0, 0, []⟩,
  ⟨TETHER_STATUS.WIDTH, 1, .ro, 0, 0, []⟩,
  ⟨TETHER_STATUS.PARTNER_DEV, 1, .ro, 0, 0, []⟩,
  ⟨TETHER_STATUS.PARTNER_PORT, 1, .ro, 0, 0, []⟩,
  ⟨TETHER_STATUS.PARTNER_VALID, 1, .ro, 0, clPC, []⟩,
  ⟨TETHER_STATUS.EXCH_REASON, 1, .ro, 0, clPCWF, []⟩,
  ⟨TETHER_TIMERS.ACK_TIMEOUT_US, 1, .rw, 0xa, clPC, [(1, 255)]⟩,
  ⟨TETHER_TIMERS.DOWN_US, 1, .rw, 0x64, clPC, [(1, 65535)]⟩,
  ⟨TETHER_TIMERS.REPLAY_LIMIT, 1, .rw, 8, clPC, [(1, 255)]⟩,
  ⟨TETHER_LINK_DELAY.DELAY, 1, .ro, 0, clPCWF, []⟩,
  ⟨TETHER_LINK_DELAY.VALID, 1, .ro, 0, clPCWF, []⟩,
  ⟨TETHER_TX_SEQ.NEXT, 1, .ro, 0, 0, []⟩,
  ⟨TETHER_TX_SEQ.ACKED, 1, .ro, 0, 0, []⟩,
  ⟨TETHER_RX_SEQ.EXPECT, 1, .ro, 0, 0, []⟩,
  ⟨TETHER_REPLAY_FILL.FLITS, 1, .ro, 0, 0, []⟩,
  ⟨TETHER_EVENT.REPLAY, 1, .w1c, 0, clPCWF, []⟩,
  ⟨TETHER_EVENT.RETRAIN, 1, .w1c, 0, clPCWF, []⟩]

/-- Register rows of R398. -/
def rowsTetherB : List FieldRow := [
  ⟨TETHER_EVENT.DOWN, 1, .w1c, 0, clPCWF, []⟩,
  ⟨TETHER_EVENT.EXCH_FAIL, 1, .w1c, 0, clPCWF, []⟩,
  ⟨TETHER_EVENT.NARROW, 1, .w1c, 0, clPCWF, []⟩,
  ⟨TETHER_EVENT.CREDIT_ERR, 1, .w1c, 0, clPCWF, []⟩,
  ⟨TETHER_EVENT_MASK.MASK, 1, .rw, 0x2e, clPCWF, []⟩,
  ⟨TETHER_EVENT_SRC.SOURCE, 1, .rw, 0, clPCWF, []⟩,
  ⟨TETHER_FEC_CORR_CNT.COUNT, 1, .rw, 0, clPCWF, [(0, 0)]⟩,
  ⟨TETHER_CRC_ERR_CNT.COUNT, 1, .rw, 0, clPCWF, [(0, 0)]⟩,
  ⟨TETHER_REPLAY_CNT.COUNT, 1, .rw, 0, clPCWF, [(0, 0)]⟩,
  ⟨TETHER_RETRAIN_CNT.COUNT, 1, .rw, 0, clPCWF, [(0, 0)]⟩,
  ⟨TETHER_DOWN_DROP_CNT.COUNT, 1, .rw, 0, clPCWF, [(0, 0)]⟩,
  ⟨TETHER_TX_FLITS.COUNT, 1, .rw, 0, clPCWF, [(0, 0)]⟩,
  ⟨TETHER_RX_FLITS.COUNT, 1, .rw, 0, clPCWF, [(0, 0)]⟩]

/-- All register rows of the page kind. -/
def rowsTether : List FieldRow := rowsTetherA ++ rowsTetherB

/-- Register rows of R399. -/
def rowsTether0 : List FieldRow := [
  ⟨TETHER_ARRAY.DEVNUM, 1, .rw, 0, clPC, []⟩,
  ⟨TETHER_ARRAY_ID_LO.ID, 1, .rw, 0, clPC, []⟩,
  ⟨TETHER_ARRAY_ID_HI.ID, 1, .rw, 0, clPC, []⟩,
  ⟨TETHER_SYNC.SUBS, 1, .ro, 0, clPC, []⟩,
  ⟨TETHER_SYNC.REFUSED, 1, .rw, 0, clPCW, [(0, 0)]⟩]

/-- Register rows of R415. -/
def rowsClk0 : List FieldRow := [
  ⟨CLK_STATUS.XA_OK, 1, .ro, 0, 0, []⟩,
  ⟨CLK_STATUS.XB_OK, 1, .ro, 0, 0, []⟩,
  ⟨CLK_STATUS.SYSA_LOCK, 1, .ro, 0, 0, []⟩,
  ⟨CLK_STATUS.SYSB_LOCK, 1, .ro, 0, 0, []⟩,
  ⟨CLK_STATUS.SYS_REF, 1, .ro, 0, clPC, []⟩,
  ⟨CLK_STATUS.XA_SEL, 1, .ro, 0, 0, []⟩,
  ⟨CLK_STATUS.XB_SEL, 1, .ro, 0, 0, []⟩,
  ⟨CLK_STATUS.FAILOVER_ANY, 1, .ro, 0, 0, []⟩,
  ⟨CLK_EVENT.LOST, 1, .w1c, 0, clPCWF, []⟩,
  ⟨CLK_EVENT.FAILOVER, 1, .w1c, 0, clPCWF, []⟩,
  ⟨CLK_EVENT.REFUSED, 1, .w1c, 0, clPCWF, []⟩,
  ⟨CLK_EVENT.FAB_STOP, 1, .w1c, 0, clPCWF, []⟩,
  ⟨CLK_EVENT.RESTORED, 1, .w1c, 0, clPCWF, []⟩,
  ⟨CLK_EVENT_MASK.MASK, 1, .rw, 0xb, clPCWF, []⟩,
  ⟨CLK_EVENT_SRC.SOURCE, 1, .rw, 0, clPCWF, []⟩,
  ⟨CLK_MON_LIMIT.PCT, 1, .rw, 5, clPC, [(1, 50)]⟩,
  ⟨CLK_MON_LIMIT.WINDOW_US, 1, .rw, 0xa, clPC, [(1, 100)]⟩,
  ⟨CLK_LOST_MAP.SYS, 1, .ro, 0, 0, []⟩,
  ⟨CLK_LOST_MAP.FPLL, 1, .ro, 0, 0, []⟩,
  ⟨CLK_XB_KHZ.KHZ, 1, .rw, 0, clPC, [(0, 0), (10000, 50000)]⟩,
  ⟨CLK_REFUSE_CNT.COUNT, 1, .rw, 0, clPCWF, [(0, 0)]⟩,
  ⟨CLK_FAILOVER_CNT.COUNT, 1, .rw, 0, clPCWF, [(0, 0)]⟩,
  ⟨CLK_SWITCH_GO.GO, 1, .wo, 0, 0, []⟩]

/-- Register rows of R416. -/
def rowsClk1 : List FieldRow := [
  ⟨CLK_GATE_CMD.NODE, 1, .wo, 0, 0, []⟩,
  ⟨CLK_GATE_CMD.ON, 1, .wo, 0, 0, []⟩,
  ⟨CLK_GATE_RESULT.RESULT, 1, .ro, 0, clPC, []⟩,
  ⟨CLK_GATE_RESULT.NODE, 1, .ro, 0, clPC, []⟩,
  ⟨CLK_GATE_SEL.NODE, 1, .rw, 0, clPCWF, [(0, 340)]⟩,
  ⟨CLK_GATE_STATE.ON, 1, .ro, 1, clPC, []⟩,
  ⟨CLK_GATE_STATE.NOGATE, 1, .ro, 0, 0, []⟩,
  ⟨CLK_GATE_STATE.CHILDREN_ON, 1, .ro, 0, 0, []⟩]

/-- Register rows of R417. -/
def rowsClkPll : List FieldRow := [
  ⟨FPLL_CTRL.ENABLE, 12, .rw, 0, clPC, []⟩,
  ⟨FPLL_CTRL.REF, 12, .rw, 0, clPC, [(0, 2)]⟩,
  ⟨FPLL_CTRL.R, 12, .rw, 1, clPC, [(1, 8)]⟩,
  ⟨FPLL_CTRL.N, 12, .rw, 0x10, clPC, [(16, 255)]⟩,
  ⟨FPLL_FRAC.FRAC, 12, .rw, 0, clPC, []⟩,
  ⟨FPLL_DIV.D0, 12, .rw, 0, clPC, [(0, 0), (4, 255)]⟩,
  ⟨FPLL_DIV.D1, 12, .rw, 0, clPC, [(0, 0), (4, 255)]⟩,
  ⟨FPLL_DIV.D2, 12, .rw, 0, clPC, [(0, 0), (4, 255)]⟩,
  ⟨FPLL_DIV.D3, 12, .rw, 0, clPC, [(0, 0), (4, 255)]⟩,
  ⟨FPLL_STATUS.LOCKED, 12, .ro, 0, 0, []⟩,
  ⟨FPLL_STATUS.VCO_KHZ, 12, .ro, 0, 0, []⟩]

/-- Register rows of R418. -/
def rowsClkDom : List FieldRow := [
  ⟨CLK_DOM_SEL.SRC, 80, .rw, 0, clPC, []⟩,
  ⟨CLK_DOM_SEL.ARM, 80, .rw, 0, clPC, []⟩,
  ⟨CLK_DOM_SWITCH.DONE, 80, .ro, 1, 0, []⟩,
  ⟨CLK_DOM_SWITCH.FAILOVER, 80, .ro, 0, clPC, []⟩,
  ⟨CLK_DOM_SWITCH.STOPPED, 80, .ro, 0, clPC, []⟩,
  ⟨CLK_DOM_SWITCH.LIVE_SRC, 80, .ro, 0, 0, []⟩,
  ⟨CLK_DOM_SWITCH.DEFAULT_SRC, 80, .ro, 0, 0, []⟩]

/-- Register rows of R433. -/
def rowsPwrMon : List FieldRow := [
  ⟨PWRMON_SEL.INDEX, 1, .rw, 0, clPCWF, [(0, 34)]⟩,
  ⟨PWRMON_DATA.MV, 1, .ro, 0, 0, []⟩,
  ⟨PWRMON_DATA.UV, 1, .ro, 0, 0, []⟩,
  ⟨PWRMON_DATA.OV, 1, .ro, 0, 0, []⟩,
  ⟨PWRMON_LIMIT.UV_PCT, 1, .rw, 5, clPC, [(1, 10)]⟩,
  ⟨PWRMON_LIMIT.OV_PCT, 1, .rw, 5, clPC, [(1, 10)]⟩,
  ⟨PWRMON_UV_MAP_LO.UV, 1, .ro, 0, 0, []⟩,
  ⟨PWRMON_UV_MAP_HI.UV, 1, .ro, 0, 0, []⟩,
  ⟨PWRMON_OV_MAP_LO.OV, 1, .ro, 0, 0, []⟩,
  ⟨PWRMON_OV_MAP_HI.OV, 1, .ro, 0, 0, []⟩]

/-- Register rows of R434. -/
def rowsFray : List FieldRow := [
  ⟨FRAY_SEL.COLUMN, 1, .rw, 0, clPCWF, [(0, 287)]⟩,
  ⟨FRAY_UNITS.UNITS, 1, .rw, 0, clP, []⟩,
  ⟨FRAY_BINS_LO.BIN1, 1, .rw, 0, clP, []⟩,
  ⟨FRAY_BINS_LO.BIN2, 1, .rw, 0, clP, []⟩,
  ⟨FRAY_BINS_HI.BIN3, 1, .rw, 0, clP, []⟩,
  ⟨FRAY_BINS_HI.BIN4, 1, .rw, 0, clP, []⟩,
  ⟨FRAY_TRACK.TURN, 1, .ro, 0, 0, []⟩,
  ⟨FRAY_TRACK.DIR, 1, .ro, 0, 0, []⟩,
  ⟨FRAY_TRACK.PAUSED, 1, .ro, 0, 0, []⟩,
  ⟨FRAY_WORST.COLUMN, 1, .ro, 0, 0, []⟩,
  ⟨FRAY_WORST_UNITS.UNITS, 1, .ro, 0, 0, []⟩,
  ⟨FRAY_ODO.BITS, 1, .ro, 0, 0, []⟩,
  ⟨FRAY_ODO.PENDING, 1, .ro, 0, clP, []⟩,
  ⟨FRAY_ODO.FULL, 1, .ro, 0, 0, []⟩,
  ⟨FRAY_WARN.KUNITS, 1, .rw, 0xe10, clPC, [(1, 4000)]⟩,
  ⟨FRAY_EVENT.ODO_BURN, 1, .w1c, 0, clPCW, []⟩,
  ⟨FRAY_EVENT.WARN, 1, .w1c, 0, clPCW, []⟩,
  ⟨FRAY_EVENT.LIMIT, 1, .w1c, 0, clPCW, []⟩,
  ⟨FRAY_EVENT.ODO_FULL, 1, .w1c, 0, clPCW, []⟩,
  ⟨FRAY_EVENT_MASK.MASK, 1, .rw, 0xe, clPCF, []⟩,
  ⟨FRAY_EVENT_SRC.SOURCE, 1, .rw, 0, clPCF, []⟩]

/-- Register rows of R462. -/
def rowsLoadA : List FieldRow := [
  ⟨LOAD_CTRL.SRC, 1, .rw, 0, clPC, [(0, 2)]⟩,
  ⟨LOAD_CTRL.HUB_PORT, 1, .rw, 0, clPC, []⟩,
  ⟨LOAD_CTRL.FLASH_FALLBACK, 1, .rw, 1, clPC, []⟩,
  ⟨LOAD_CMD.OP, 1, .wo, 0, 0, []⟩,
  ⟨LOAD_STATUS.STATE, 1, .ro, 0, clPC, []⟩,
  ⟨LOAD_STATUS.SLOT, 1, .ro, 0, clPC, []⟩,
  ⟨LOAD_STATUS.RESULT, 1, .ro, 0, clPC, []⟩,
  ⟨LOAD_STATUS.REFUSED, 1, .ro, 0, clPC, []⟩,
  ⟨LOAD_ATTEMPTS.COUNT, 1, .ro, 0, clPC, []⟩,
  ⟨LOAD_IDLE_TIMEOUT.MS, 1, .rw, 0x32, clPC, [(1, 65535)]⟩,
  ⟨LOAD_BACKOFF.MS, 1, .ro, 0xa, clPC, []⟩,
  ⟨LOAD_HOST_BASE_LO.BASE, 1, .rw, 0, clPC, []⟩,
  ⟨LOAD_HOST_BASE_HI.BASE, 1, .rw, 0, clPC, []⟩,
  ⟨LOAD_HOST_LEN.BYTES, 1, .rw, 0, clPC, []⟩,
  ⟨LOAD_EVENT.DONE, 1, .w1c, 0, clPCW, []⟩,
  ⟨LOAD_EVENT.FAIL, 1, .w1c, 0, clPCW, []⟩,
  ⟨LOAD_EVENT.COMMIT, 1, .w1c, 0, clPCW, []⟩,
  ⟨LOAD_EVENT.COMMIT_REFUSED, 1, .w1c, 0, clPCW, []⟩,
  ⟨LOAD_EVENT_MASK.MASK, 1, .rw, 0xa, clPCW, []⟩,
  ⟨LOAD_EVENT_SRC.SOURCE, 1, .rw, 0, clPCW, []⟩,
  ⟨LOAD_PROGRESS.APPLIED, 1, .ro, 0, clPC, []⟩,
  ⟨LOAD_PROGRESS.SEGS, 1, .ro, 0, clPC, []⟩,
  ⟨LOAD_IMAGE_VERSION.VERSION, 1, .ro, 0, clPC, []⟩,
  ⟨LOAD_REFUSE.REGION, 1, .ro, 0, clPC, []⟩]

/-- Register rows of R462. -/
def rowsLoadB : List FieldRow := [
  ⟨LOAD_REFUSE.REASON, 1, .ro, 0, clPC, []⟩,
  ⟨LOAD_REFUSE.VALID, 1, .ro, 0, clPC, []⟩,
  ⟨LOAD_SLOT_BASE.BASE, 3, .rwl, 0, clPC, []⟩,
  ⟨LOAD_POLICY.FUSE_OK, 1, .ro, 0, 0, []⟩,
  ⟨LOAD_POLICY.KRAM0_OK, 1, .ro, 0, 0, []⟩,
  ⟨LOAD_POLICY.KRAM1_OK, 1, .ro, 0, 0, []⟩,
  ⟨LOAD_POLICY.ROLLED_ONLY, 1, .ro, 0, 0, []⟩,
  ⟨LOAD_POLICY.KEY_HASH_SET, 1, .ro, 0, 0, []⟩,
  ⟨KRAM_DATA.KEY, 8, .wo, 0, 0, []⟩,
  ⟨KRAM_CMD.SLOT, 1, .wo, 0, 0, []⟩,
  ⟨KRAM_CMD.OP, 1, .wo, 0, 0, []⟩,
  ⟨KRAM_STATUS.VALID, 1, .ro, 0, 0, []⟩,
  ⟨KRAM_STATUS.NO_VBAT, 1, .ro, 0, 0, []⟩,
  ⟨LOAD_STREAM.DATA, 128, .wo, 0, 0, []⟩]

/-- All register rows of the page kind. -/
def rowsLoad : List FieldRow := rowsLoadA ++ rowsLoadB

/-- Register rows of R466. -/
def rowsReady : List FieldRow := [
  ⟨READY_SUM.SUPV, 1, .ro, 0, clPC, []⟩,
  ⟨READY_SUM.CLOCKS, 1, .ro, 0, clPC, []⟩,
  ⟨READY_SUM.REGULATORS, 1, .ro, 0, clPC, []⟩,
  ⟨READY_SUM.BRIDLE, 1, .ro, 0, clPC, []⟩,
  ⟨READY_SUM.CENSUS, 1, .ro, 0, clPC, []⟩,
  ⟨READY_SUM.BANKS, 1, .ro, 0, clPC, []⟩,
  ⟨READY_SUM.PCIE_TRAIN, 1, .ro, 0, clPC, []⟩,
  ⟨READY_SUM.TETHER, 1, .ro, 0, clPC, []⟩,
  ⟨READY_SUM.LOAD_STARTED, 1, .ro, 0, clPC, []⟩,
  ⟨READY_SUM.PLANE0, 1, .ro, 0, clPC, []⟩,
  ⟨READY_SUM.PLANES, 1, .ro, 0, clPC, []⟩,
  ⟨READY_SUM.FULL, 1, .ro, 0, clPC, []⟩,
  ⟨READY_COUNTS.NOT_READY, 1, .ro, 0, 0, []⟩,
  ⟨READY_COUNTS.DEGRADED, 1, .ro, 0, 0, []⟩,
  ⟨READY_COUNTS.FAILED, 1, .ro, 0, 0, []⟩,
  ⟨READY_FIRST.OFFSET, 1, .ro, 0, 0, []⟩,
  ⟨READY_STAMP.US, 16, .ro, 0, clPC, []⟩]

/-- Register rows of R477, R60, R61. -/
def rowsResetA : List FieldRow := [
  ⟨RESET_REQ.KEY, 1, .wo, 0, 0, []⟩,
  ⟨RESET_CAUSE.CLASS, 1, .ro, 0, 0, []⟩,
  ⟨RESET_CAUSE.SRC, 1, .ro, 0, 0, []⟩,
  ⟨RESET_CAUSE.PF_SEEN, 1, .ro, 0, 0, []⟩,
  ⟨RESET_CAUSE.WARM_CNT, 1, .ro, 0, clPC, []⟩,
  ⟨DEV_STATE.STATE, 1, .ro, 0, 0, []⟩,
  ⟨DEV_STATE.CAUSE, 1, .ro, 0, 0, []⟩,
  ⟨DEV_STATE.REQ, 1, .wo, 0, 0, []⟩,
  ⟨RS_SEL.ID, 1, .rw, 0x50, clPCWF, [(16, 47), (48, 55), (64, 64), (80, 92)]⟩,
  ⟨RS_CMD.OP, 1, .wo, 0, 0, []⟩,
  ⟨RS_LEN.BYTES, 1, .rw, 0x200, clPCWF, [(1, 512)]⟩,
  ⟨RS_STATUS.BUSY, 1, .ro, 0, 0, []⟩,
  ⟨RS_STATUS.RESULT, 1, .ro, 0, clPCWF, []⟩,
  ⟨RS_STATUS.NO_VBAT, 1, .ro, 0, 0, []⟩,
  ⟨RS_STATUS.TAMPERED, 1, .w1c, 0, 0, []⟩,
  ⟨RS_GEN.GEN, 1, .ro, 0, clPCWF, []⟩,
  ⟨RS_RLEN.BYTES, 1, .ro, 0, clPCWF, []⟩,
  ⟨RS_ZEROISE.KEY, 1, .wo, 0, 0, []⟩,
  ⟨RS_BUF.DATA, 128, .rw, 0, clPCWF, []⟩,
  ⟨PART_RESET.KEY, 1, .wo, 0, 0, []⟩,
  ⟨PART_RESET.BUSY, 1, .ro, 0, clPC, []⟩,
  ⟨PART_RESET.PART, 1, .wo, 0, 0, []⟩,
  ⟨REGION_MAP.DEFINED, 64, .ro, 0, clPC, []⟩,
  ⟨REGION_MAP.COMMITTED, 64, .ro, 0, clPC, []⟩]

/-- Register rows of R61. -/
def rowsResetB : List FieldRow := [
  ⟨REGION_MAP.GROUP, 64, .ro, 0, clPC, []⟩,
  ⟨REGION_MAP.PARTITION, 64, .ro, 0, clPC, []⟩]

/-- All register rows of the page kind. -/
def rowsReset : List FieldRow := rowsResetA ++ rowsResetB

/-- Register rows of R487. -/
def rowsPreflightA : List FieldRow := [
  ⟨PF_CTRL.MODE, 1, .rw, 0, clPCWF, [(0, 2)]⟩,
  ⟨PF_CTRL.CONCURRENT, 1, .rw, 1, clPCWF, [(1, 8)]⟩,
  ⟨PF_CMD.PANEL, 1, .wo, 0, 0, []⟩,
  ⟨PF_CMD.OP, 1, .wo, 0, 0, []⟩,
  ⟨PF_STATUS.RUNNING, 1, .ro, 0, 0, []⟩,
  ⟨PF_STATUS.SWEEPING, 1, .ro, 0, 0, []⟩,
  ⟨PF_STATUS.NEXT, 1, .ro, 0, 0, []⟩,
  ⟨PF_SWEEP_PERIOD.S, 1, .rw, 0xe10, clPC, [(1, 65535)]⟩,
  ⟨PF_EVENT.FAIL, 1, .w1c, 0, clPCW, []⟩,
  ⟨PF_EVENT.REFUSED, 1, .w1c, 0, clPCW, []⟩,
  ⟨PF_EVENT.ABORTED, 1, .w1c, 0, clPCW, []⟩,
  ⟨PF_EVENT.SWEEP_DONE, 1, .w1c, 0, clPCW, []⟩,
  ⟨PF_EVENT.SWEEP_OVERRUN, 1, .w1c, 0, clPCW, []⟩,
  ⟨PF_EVENT_MASK.MASK, 1, .rw, 0x15, clPCWF, []⟩,
  ⟨PF_EVENT_SRC.SOURCE, 1, .rw, 0, clPCWF, []⟩,
  ⟨PF_PASS_CNT.COUNT, 1, .rw, 0, clPC, [(0, 0)]⟩,
  ⟨PF_FAIL_CNT.COUNT, 1, .rw, 0, clPC, [(0, 0)]⟩,
  ⟨PF_REFUSE_CNT.COUNT, 1, .rw, 0, clPC, [(0, 0)]⟩,
  ⟨PF_ABORT_CNT.COUNT, 1, .rw, 0, clPC, [(0, 0)]⟩,
  ⟨PF_IDLE.IDLE, 18, .rw, 0, clPC, []⟩,
  ⟨PF_WINDOW.OPEN, 8, .rw, 0, clPCW, []⟩,
  ⟨PF_RES_SEL.PANEL, 1, .rw, 0, clPCWF, [(0, 575)]⟩,
  ⟨PF_RESULT.VALUE, 1, .ro, 0, clPC, []⟩,
  ⟨PF_RESULT_COV.STUCK, 1, .ro, 0, clPC, []⟩]

/-- Register rows of R487. -/
def rowsPreflightB : List FieldRow := [
  ⟨PF_RESULT_COV.TRANS, 1, .ro, 0, clPC, []⟩,
  ⟨PF_RESULT_STAMP.US, 1, .ro, 0, clPC, []⟩,
  ⟨PF_MISR_LO.MISR, 1, .ro, 0, clPC, []⟩,
  ⟨PF_MISR_HI.MISR, 1, .ro, 0, clPC, []⟩,
  ⟨PF_FAIL_MAP.FAIL, 18, .w1c, 0, clPC, []⟩]

/-- All register rows of the page kind. -/
def rowsPreflight : List FieldRow := rowsPreflightA ++ rowsPreflightB

/-- Register rows of R506. -/
def rowsFio : List FieldRow := [
  ⟨FIO_BANK_CTRL.VCCIO, 1, .rw, 0, clPC, [(0, 4)]⟩,
  ⟨FIO_BANK_CTRL.PARK, 1, .rw, 0, clPC, []⟩,
  ⟨FIO_IN_LO.IN, 1, .ro, 0, 0, []⟩,
  ⟨FIO_IN_HI.IN, 1, .ro, 0, 0, []⟩,
  ⟨FIO_VALID_LO.VALID, 1, .ro, 0, 0, []⟩,
  ⟨FIO_VALID_HI.VALID, 1, .ro, 0, 0, []⟩,
  ⟨FIO_OUT_LO.OUT, 1, .rw, 0, clPC, []⟩,
  ⟨FIO_OUT_HI.OUT, 1, .rw, 0, clPC, []⟩,
  ⟨FIO_PIN_CFG.OWNER, 48, .rw, 0, clPC, []⟩,
  ⟨FIO_PIN_CFG.OUT, 48, .rw, 0, clPC, []⟩,
  ⟨FIO_PIN_CFG.OE, 48, .rw, 0, clPC, []⟩,
  ⟨FIO_PIN_CFG.PULL, 48, .rw, 1, clPC, []⟩,
  ⟨FIO_PIN_CFG.DRIVE, 48, .rw, 1, clPC, []⟩,
  ⟨FIO_PIN_CFG.FAST, 48, .rw, 0, clPC, []⟩,
  ⟨FIO_PIN_CFG.INVERT, 48, .rw, 0, clPC, []⟩,
  ⟨FIO_PIN_CFG.DIFF, 48, .rw, 0, clPC, []⟩,
  ⟨FIO_PIN_CFG.TRIP_IN, 48, .rw, 0, clPC, []⟩,
  ⟨FIO_PIN_CFG.UNPLUG, 48, .rw, 0, clPC, []⟩,
  ⟨FIO_PIN_CFG.PFAIL, 48, .rw, 0, clPC, []⟩,
  ⟨FIO_PIN_CFG.TRIP_STATE, 48, .rw, 1, clPC, []⟩,
  ⟨FIO_PIN_CFG.PGROUP, 48, .rw, 0, clPC, []⟩,
  ⟨FIO_PIN_CFG.PG_MEMBER, 48, .rw, 0, clPC, []⟩,
  ⟨FIO_PIN_FILT.GLITCH_NS, 48, .rw, 0x28, clPC, []⟩,
  ⟨FIO_PIN_FILT.DEBOUNCE_US, 48, .rw, 0, clPC, []⟩]

/-- Register rows of R507. -/
def rowsPlug : List FieldRow := [
  ⟨FIO_TRIP.LATCHED, 1, .ro, 0, clPC, []⟩,
  ⟨FIO_TRIP.CLEAR, 1, .wo, 0, 0, []⟩,
  ⟨FIO_TRIP_CNT.COUNT, 1, .rw, 0, clPCWF, [(0, 0)]⟩,
  ⟨FIO_TRIP_SRC.SOURCE, 1, .rw, 0, clPC, []⟩,
  ⟨FIO_PG_EVENT.LOST, 1, .w1c, 0, clPCWF, []⟩,
  ⟨FIO_PG_EVENT_SRC.SOURCE, 1, .rw, 0, clPC, []⟩,
  ⟨FIO_PG_REPLUG.GROUP, 1, .wo, 0, 0, []⟩,
  ⟨FIO_PG_CTRL.ENABLE, 32, .rw, 0, clPC, []⟩,
  ⟨FIO_PG_CTRL.PRES_LEVEL, 32, .rw, 1, clPC, []⟩,
  ⟨FIO_PG_CTRL.AUTO_REPLUG, 32, .rw, 0, clPC, []⟩,
  ⟨FIO_PG_CTRL.INV_LEVEL, 32, .rw, 0, clPC, []⟩,
  ⟨FIO_PG_CTRL.PRES_PIN, 32, .rw, 0, clPC, [(0, 623)]⟩,
  ⟨FIO_PG_STATUS.PRESENT, 32, .ro, 0, 0, []⟩,
  ⟨FIO_PG_STATUS.HELD, 32, .ro, 0, 0, []⟩,
  ⟨FIO_PG_STATUS.LOSS_CNT, 32, .rw, 0, clPCWF, [(0, 0)]⟩,
  ⟨MADC_CTRL.ENABLE, 1, .rw, 0, clPC, []⟩,
  ⟨MADC_CTRL.BANK, 1, .rw, 0, clPC, [(0, 12)]⟩,
  ⟨MADC_DATA.CODE, 16, .ro, 0, 0, []⟩,
  ⟨MADC_DATA.VALID, 16, .ro, 0, clPC, []⟩,
  ⟨MADC_WIN.LO, 16, .rw, 0, clPC, []⟩,
  ⟨MADC_WIN.HI, 16, .rw, 0xfff, clPC, []⟩,
  ⟨MADC_EVENT.OUT, 1, .w1c, 0, clPCWF, []⟩,
  ⟨MADC_EVENT_SRC.SOURCE, 1, .rw, 0, clPC, []⟩]

/-- Register rows of R533. -/
def rowsIdent : List FieldRow := [
  ⟨IDENT_DEVICE.CODE, 1, .ro, 0x5a240001, 0, []⟩,
  ⟨IDENT_GRADE.SPEED, 1, .ro, 0, 0, []⟩,
  ⟨IDENT_GRADE.TEMP, 1, .ro, 0, 0, []⟩,
  ⟨IDENT_GRADE.PACKAGE, 1, .ro, 1, 0, []⟩,
  ⟨IDENT_DIE_VER.MINOR, 1, .ro, 0, 0, []⟩,
  ⟨IDENT_DIE_VER.MAJOR, 1, .ro, 0, 0, []⟩,
  ⟨IDENT_SERIAL_LO.SERIAL, 1, .ro, 0, 0, []⟩,
  ⟨IDENT_SERIAL_HI.SERIAL, 1, .ro, 0, 0, []⟩,
  ⟨IDENT_JTAG.IDCODE, 1, .ro, 0x5a24e1b, 0, []⟩]

end Sys2Proof.Machine
end

