-- ==== Sys2Proof/Machine/Pages.lean ====
section
/-! DEFINITION. The address map (R44, R45): which block owns each 4 KiB page, what its register tables are, what its
PAGE_CAPS reads and what each register reads after reset. A page is named by its number, its BAR0 offset divided by
4,096. Registers that the spec shows once per selected unit have pages of their own above the BAR0 range (0x10000
upward), which no access reaches. -/

namespace Sys2Proof.Machine

open Sys2Proof

/-- The block that owns a page. The last eight are the windows of registers shown through a selector. -/
inductive PageKind where
  | ident | supvMbox | world | reset | ready | clk0 | clk1 | clkPll | clkDom | pwr | pwrMon | fray
  | intc0 | intc1 | intcT | engine | chHead | lane | tether | pcie | bridle | load | scrub | preflight
  | fio | plug | rigHead | ballast | sailHead | sparCtl
  | channel | track | marks | actions | node | tile | panel | sparBlk
  | winSrc | winRig | winFray | winRail | winMirror | winPf | winBankLog
  deriving DecidableEq, Repr

/-! Page numbers (R44, R45). -/

def pgIdent : Nat := 0x0
def pgSupv : Nat := 0x1
def pgWorld : Nat := 0x2
def pgReset : Nat := 0x3
def pgReady : Nat := 0x4
def pgClk (k : Nat) : Nat := 0x8 + k
def pgPwr : Nat := 0x10
def pgPwrMon : Nat := 0x11
def pgFray : Nat := 0x12
def pgIntc (k : Nat) : Nat := 0x20 + k
def pgEngine (e : Nat) : Nat := 0x30 + e
def pgChHead : Nat := 0x34
def pgLane (l : Nat) : Nat := 0x50 + l
def pgTether (p : Nat) : Nat := 0x70 + p
def pgPcie : Nat := 0x80
def pgBridle : Nat := 0x90
def pgLoad : Nat := 0xA0
def pgScrub : Nat := 0xA1
def pgPreflight : Nat := 0xB0
def pgFio (b : Nat) : Nat := 0xC0 + b
def pgPlug : Nat := 0xCD
def pgRig : Nat := 0xD0
def pgBallast : Nat := 0x100
def pgSpar : Nat := 0x400
def pgChannel (ch : Nat) : Nat := 0x1000 + ch
def pgTrack (k : Nat) : Nat := 0x1100 + k
def pgMarks : Nat := 0x1140
def pgActions : Nat := 0x11C0
def pgNode (n : Nat) : Nat := 0x1200 + n
def pgTile (c : Nat) : Nat := 0x1400 + c
def pgPanel (p : Nat) : Nat := if p < 288 then 0x1600 + p else 0x1800 + (p - 288)
def pgSparBlk (c : Nat) : Nat := 0x1A00 + c

/-! Windows of registers shown through a selector: one page per interrupt source, rigging initiator, fray column,
monitored rail, mirror group, preflight panel, bank-log group and clock domain. -/

def pgSrc (n : Nat) : Nat := 0x10000 + n
def pgRigInit (i : Nat) : Nat := 0x11000 + i
def pgFrayCol (c : Nat) : Nat := 0x11100 + c
def pgRail (i : Nat) : Nat := 0x11300 + i
def pgMirror (g : Nat) : Nat := 0x11400 + g
def pgPfPanel (p : Nat) : Nat := 0x11500 + p
def pgBankLog (g : Nat) : Nat := 0x11800 + g

/-- The owner of page `pg` and the instance (R44, R45); `none` where the map assigns nothing. -/
def pageOf (pg : Nat) : Option (PageKind × Nat) :=
  if pg < 0x1000 then
    if pg = 0x0 then some (.ident, 0) else if pg = 0x1 then some (.supvMbox, 0)
    else if pg = 0x2 then some (.world, 0) else if pg = 0x3 then some (.reset, 0)
    else if pg = 0x4 then some (.ready, 0)
    else if pg = 0x8 then some (.clk0, 0) else if pg = 0x9 then some (.clk1, 1)
    else if 0xA ≤ pg ∧ pg < 0xC then some (.clkPll, pg - 0x8)
    else if 0xC ≤ pg ∧ pg < 0x10 then some (.clkDom, pg - 0x8)
    else if pg = 0x10 then some (.pwr, 0) else if pg = 0x11 then some (.pwrMon, 0)
    else if pg = 0x12 then some (.fray, 0)
    else if pg = 0x20 then some (.intc0, 0) else if pg = 0x21 then some (.intc1, 1)
    else if pg = 0x22 ∨ pg = 0x23 then some (.intcT, pg - 0x20)
    else if 0x30 ≤ pg ∧ pg < 0x34 then some (.engine, pg - 0x30)
    else if pg = 0x34 then some (.chHead, 0)
    else if 0x50 ≤ pg ∧ pg < 0x70 then some (.lane, pg - 0x50)
    else if 0x70 ≤ pg ∧ pg < 0x78 then some (.tether, pg - 0x70)
    else if pg = 0x80 then some (.pcie, 0) else if pg = 0x90 then some (.bridle, 0)
    else if pg = 0xA0 then some (.load, 0) else if pg = 0xA1 then some (.scrub, 0)
    else if pg = 0xB0 then some (.preflight, 0)
    else if 0xC0 ≤ pg ∧ pg < 0xCD then some (.fio, pg - 0xC0)
    else if pg = 0xCD then some (.plug, 0) else if pg = 0xD0 then some (.rigHead, 0)
    else if pg = 0x100 then some (.ballast, 0)
    else if pg = 0x200 ∨ pg = 0x300 then some (.sailHead, 0)
    else if pg = 0x400 then some (.sparCtl, 0) else none
  else if pg < 0x10000 then
    if pg < 0x1040 then some (.channel, pg - 0x1000)
    else if 0x1100 ≤ pg ∧ pg < 0x1140 then some (.track, pg - 0x1100)
    else if 0x1140 ≤ pg ∧ pg < 0x11C0 then some (.marks, pg - 0x1140)
    else if 0x11C0 ≤ pg ∧ pg < 0x1200 then some (.actions, pg - 0x11C0)
    else if 0x1200 ≤ pg ∧ pg < 0x1280 then some (.node, pg - 0x1200)
    else if 0x1400 ≤ pg ∧ pg < 0x1520 then some (.tile, pg - 0x1400)
    else if 0x1600 ≤ pg ∧ pg < 0x1720 then some (.panel, pg - 0x1600)
    else if 0x1800 ≤ pg ∧ pg < 0x1920 then some (.panel, 288 + (pg - 0x1800))
    else if 0x1A00 ≤ pg ∧ pg < 0x1B20 then some (.sparBlk, pg - 0x1A00) else none
  else
    if pg < 0x11000 then some (.winSrc, pg - 0x10000)
    else if pg < 0x11100 then some (.winRig, pg - 0x11000)
    else if pg < 0x11300 then some (.winFray, pg - 0x11100)
    else if pg < 0x11400 then some (.winRail, pg - 0x11300)
    else if pg < 0x11500 then some (.winMirror, pg - 0x11400)
    else if pg < 0x11800 then some (.winPf, pg - 0x11500)
    else if pg < 0x11900 then some (.winBankLog, pg - 0x11800) else none

/-- The page is one of BAR0: the map assigns it (R42, step 1). -/
def assigned (pg : Nat) : Bool := pg < 0x10000 && (pageOf pg).isSome

/-- A word of the mark and action windows (R45): any value is stored; the entry formats are checked at commit. -/
def rowsEntryWindow : List FieldRow := [⟨⟨0, 4, 0, 32⟩, 1024, .rw, 0, clPC, []⟩]

/-- Rows of `rs` whose page offset lies from `lo` to below `hi`. -/
def rowsBetween (rs : List FieldRow) (lo hi : Nat) : List FieldRow := rs.filter (fun r => lo ≤ r.fld.off && r.fld.off < hi)

/-- The register rows of a page beyond its header. -/
def rowsOf (k : PageKind) (inst : Nat) : List FieldRow :=
  match k with
  | .ident => rowsIdent
  | .supvMbox => []
  | .world => rowsWorld
  | .reset => rowsReset
  | .ready => rowsReady
  | .clk0 => rowsClk0
  | .clk1 => rowsClk1
  | .clkPll => rowsClkPll
  | .clkDom => rowsClkDom
  | .pwr => rowsPwr
  | .pwrMon => rowsPwrMon
  | .fray => rowsFray
  | .intc0 => rowsIntc0
  | .intc1 => rowsIntc1
  | .intcT => rowsIntcT
  | .engine => rowsEngine
  | .chHead => rowsChHead
  | .lane => rowsLane
  | .tether => if inst = 0 then rowsTether ++ rowsTether0 else rowsTether
  | .pcie => []
  | .bridle => rowsBridle
  | .load => rowsLoad
  | .scrub => rowsScrub
  | .preflight => rowsPreflight
  | .fio => rowsFio
  | .plug => rowsPlug
  | .rigHead => rowsRigHead
  | .ballast => rowsBallast
  | .sailHead => []
  | .sparCtl => rowsSparCtl
  | .channel => rowsChannel
  | .track => rowsTrack
  | .marks => rowsEntryWindow
  | .actions => rowsEntryWindow
  | .node => rowsNode
  | .tile => rowsTile
  | .panel => rowsPanel
  | .sparBlk => rowsSparBlk
  | .winSrc => rowsBetween rowsIntc1 0x48 0x54
  | .winRig => rowsBetween rowsRigHead 0x50 0xB0
  | .winFray => rowsBetween rowsFray 0x44 0x60
  | .winRail => rowsBetween rowsPwrMon 0x44 0x50
  | .winMirror => rowsBetween rowsBallast 0x58 0x5C
  | .winPf => rowsBetween rowsPreflight 0x144 0x158
  | .winBankLog => rowsBetween rowsBallast 0x06C 0x070 ++ rowsBetween rowsBallast 0x100 0x300

/-- The page starts with the common header (R46): all but the mark and action windows and the selector windows. -/
def hasHeader (k : PageKind) : Bool :=
  match k with
  | .marks | .actions | .winSrc | .winRig | .winFray | .winRail | .winMirror | .winPf | .winBankLog => false
  | _ => true

/-- The rows of the register at offset `off` of a page. -/
def rowsAt (k : PageKind) (inst off : Nat) : List FieldRow :=
  if hasHeader k && off < 0x40 then rowsHeader.filter (·.covers off) else (rowsOf k inst).filter (·.covers off)

/-- The word that the rows' reset values make. -/
def rowsReset' (rs : List FieldRow) : Word := rs.foldl (fun w r => setF w r.fld.lo r.fld.len r.rst) 0

/-- PAGE_WORLD.SECURE resets to 0 and stays 0 on the pages of both worlds (R47, R333). -/
def fixedNonSecure (k : PageKind) : Bool :=
  match k with
  | .ident | .ready | .intc1 | .intcT => true
  | _ => false

/-- Source of a clock domain after P and C (R404). The Keel block domains' own defaults are log entry 10. -/
def domDefault (i : Nat) : Nat :=
  if i < 144 then 0x00
  else if i < 180 then 0x11
  else if i < 198 then 0x18
  else if i < 262 then 0xF0
  else if i = 262 then 0x01
  else if i = 263 then 0x10
  else if i = 264 then 0x12
  else if i < 316 then 0x19
  else 0x00

/-- The reset value of the register at BAR0 offset `addr`. Values that come from fuses, straps or stored records are
written by the commands that bring them (POWER_GOOD, BLOB_RESTORE, ...); the value here is the one without them. -/
def regReset (addr : Nat) : Word :=
  match pageOf (addr / 4096) with
  | none => 0
  | some (k, i) =>
    let off := addr % 4096
    if hasHeader k && off == 0x18 then (if fixedNonSecure k then 0 else 1)
    else if k = .sparBlk ∧ off = 0x100 then BitVec.ofNat 32 (i * 1024)
    else if k = .clkDom ∧ 0x100 ≤ off ∧ off < 0x380 then
      let d := domDefault ((i - 4) * 80 + (off - 0x100) / 8)
      if off % 8 = 0 then BitVec.ofNat 32 d else BitVec.ofNat 32 (1 + d * 256 + d * 65536)
    else rowsReset' (rowsAt k i off)

/-- PAGE_CAPS.EXPERT (R50, R102, R206, R534). -/
def capExpert (k : PageKind) : Bool := k = .panel || k = .tile || k = .track

/-- PAGE_CAPS.LEGACY_OK (R62). -/
def capLegacy (k : PageKind) : Bool := k = .intc0 || k = .engine

/-- PAGE_CAPS.WORLD_SET (R47, R333, R534 and the chapters' own PAGE_CAPS). -/
def capWorldSet (k : PageKind) : Bool :=
  match k with
  | .engine | .chHead | .lane | .tether | .bridle | .fio | .plug | .ballast | .sailHead | .channel | .track
  | .tile | .panel => true
  | _ => false

/-- PAGE_CAPS.RESETTABLE (R48): all pages but IDENT, WORLD, RESET and READY. -/
def capResettable (k : PageKind) : Bool :=
  match k with
  | .ident | .world | .reset | .ready => false
  | _ => hasHeader k

/-- PAGE_CAPS.PF_VISIBLE (R41, R102, R332, R333, R534). -/
def capPfVisible (k : PageKind) : Bool :=
  match k with
  | .ident | .ready | .intc1 | .intcT | .channel | .tile | .panel => true
  | _ => false

/-- PAGE_ID.TYPE (R44, R45). -/
def pageType (k : PageKind) : Nat :=
  match k with
  | .ident => 0x0001 | .supvMbox => 0x0002 | .world => 0x0003 | .reset => 0x0004 | .ready => 0x0005
  | .clk0 | .clk1 | .clkPll | .clkDom => 0x0010
  | .pwr => 0x0011 | .pwrMon => 0x0012 | .fray => 0x0013
  | .intc0 | .intc1 | .intcT => 0x0020
  | .engine => 0x0030 | .chHead => 0x0031 | .lane => 0x0050 | .tether => 0x0070 | .pcie => 0x0080
  | .bridle => 0x0090 | .load => 0x00A0 | .scrub => 0x00A1 | .preflight => 0x00B0
  | .fio => 0x00C0 | .plug => 0x00C1 | .rigHead => 0x00D0 | .ballast => 0x0100 | .sailHead => 0x0200
  | .sparCtl => 0x0400 | .channel => 0x0032 | .track => 0x0091 | .node => 0x00D1 | .tile => 0x0101
  | .panel => 0x0201 | .sparBlk => 0x0401
  | _ => 0

/-- The fields of the register that a reset of class `cls` returns to their reset values (R5). -/
def clearWord (cls addr : Nat) (w : Word) : Word :=
  match pageOf (addr / 4096) with
  | none => w
  | some (k, i) =>
    (rowsAt k i (addr % 4096)).foldl
      (fun w r => if r.clr / cls % 2 = 1 then setF w r.fld.lo r.fld.len (getF (regReset addr) r.fld.lo r.fld.len) else w) w

end Sys2Proof.Machine
end

