-- ==== Sys2Proof/Machine/State.lean ====
section
/-! DEFINITION. The state of the block, as plain data: the registers, and everything else the spec gives the device. -/

namespace Sys2Proof.Machine

open Sys2Proof

/-- Reasons a command stops the model with a fault. -/
inductive Fault where
  /-- A command names a unit that the device does not have (a panel above 575, a track above 63, a page that the
  map does not assign, ...), which nothing can send. Raised by the meanings through `guardUnit`. Safe: the model
  stops where the spec describes no such event. Log entry 4. -/
  | noSuchUnit
  deriving DecidableEq, Repr

/-- Reasons a command is refused. -/
inductive Refusal where
  /-- The command has no meaning in this model. Raised by the arms of `Dispatch.lean` only. Safe. -/
  | notModelled (mnemonic : String)
  deriving DecidableEq, Repr

/-- How the last register or memory access of the command ended (R42, R267, R293). -/
inductive BusStatus where
  | none
  /-- Completed. -/
  | ok
  /-- Unsupported Request, or DECODE inside the device (R42 steps 1 and 2). -/
  | ur
  /-- Completer Abort, or WORLD inside the device (R42 step 3). -/
  | ca
  /-- Rejected as in R7. -/
  | rejected
  /-- A response with a rigging status code (R293). -/
  | code (n : Nat)
  deriving DecidableEq, Repr

/-- The completion of the last access. -/
structure Resp where
  status : BusStatus := .none
  data : Nat := 0
  deriving DecidableEq, Repr

/-! ### The stack (chapter 01) -/

/-- Repairs of one bond group: failed bonds (signals 0 to 63, spares 64 to 67) and the spare that carries each moved
signal (R24, R27). -/
structure BondGroup where
  failed : List Nat := []
  moved : List (Nat × Nat) := []
  deriving DecidableEq, Repr

/-- An entry of the fuse map (R29, R31): a repair, an exhausted group or a lost clock triad. -/
inductive FuseEntry where
  | repair (g : GroupId) (signal spare : Nat)
  | exhausted (g : GroupId)
  | triadLost (column triad crossing : Nat)
  deriving DecidableEq, Repr

/-- What waits for its next edge to be grounded (R34). -/
inductive GroundTask where
  | panel (p reason : Nat)
  | bank (b reason : Nat)
  | retire (b : Nat)
  | column (c reason bankReason : Nat)
  deriving DecidableEq, Repr

/-- The vertical bonds (chapter 01). -/
structure Stack where
  /-- Bond groups with a failed bond, by `groupKey`. -/
  groups : SMap BondGroup := []
  /-- Failed copies (a 3-bit mask) of clock triad t of column c at crossing x, at 32 c + 4 t + x (R31). -/
  triads : SMap Nat := []
  /-- The dead-bond map (R38), oldest entry first. -/
  dead : List Word := []
  /-- Groundings that wait for their edge (R34). -/
  toGround : List GroundTask := []
  /-- Fuse-map entries that wait to be burnt (R29). -/
  pendingFuses : List FuseEntry := []
  /-- Bond groups whose probe is due (R25). -/
  probes : List GroupId := []
  deriving DecidableEq, Repr

/-! ### Panels (chapters 03 to 06) -/

/-- A row of a context record (R154). -/
abbrev Row := BitVec 2048

/-- A pocket RAM word (R81): the word written, the bits of its 39-bit codeword that are inverted in the cells, and
CHECK_VALID. -/
structure PramWord where
  data : Word := 0
  flips : BitVec 39 := 0
  check : Bool := true
  deriving DecidableEq, Repr

/-- A deferrable prefetch held by the updraft governor (R241, R242). -/
structure HeldPf where
  slot : Nat
  at_ : Nat
  limit : Nat
  deriving DecidableEq, Repr

/-- The source of a swap request, in the order of R170. -/
inductive SwapSrc where
  | bridle | port | register
  deriving DecidableEq, Repr

/-- A swap request (R162), its source and the instant of the request. -/
structure CtxReq where
  qmask : Nat
  ring : Bool
  index : Nat
  defer : Bool
  src : SwapSrc
  at_ : Nat
  deriving DecidableEq, Repr

/-- An accepted swap of one quarter: the slot of the tile that it loads, the quarters accepted together, whether it is a full
swap and pinned, whether its rows have been loaded, whether the context was LOST (R167, R173), the source of the request (R166), and
whether the swap has been counted in CTX_WAIT_CNT (R168). -/
structure QAcc where
  slot : Nat
  qmask : Nat
  full : Bool
  pinned : Bool
  loaded : Bool := false
  lost : Bool := false
  src : SwapSrc := .register
  waited : Bool := false
  deriving DecidableEq, Repr

/-- A pending swap of one quarter; `held` while the governor holds it (R170, R175). -/
structure QPend where
  req : CtxReq
  held : Bool := false
  deriving DecidableEq, Repr

/-- Outgoing rows of a quarter that are not saved yet: their slot, whether the swap was pinned (R167, R242), the quarters of the swap,
and whether it has been counted in CTX_WAIT_CNT (R168). -/
structure QSave where
  slot : Nat
  pinned : Bool
  qmask : Nat := 0
  waited : Bool := false
  deriving DecidableEq, Repr

/-- The swap state of one quarter: accepted, pending, and its unsaved outgoing rows (R167, R170). -/
structure QSwap where
  acc : Option QAcc := none
  pend : Option QPend := none
  saving : Option QSave := none
  deriving DecidableEq, Repr

/-- Outputs of the fabric ports that last one cycle (R142, R166). -/
structure Pulses where
  switched : Bool := false
  planeRefused : Bool := false
  swapped : Nat := 0
  lost : Nat := 0
  ctxRefused : Bool := false
  trkRefused : Bool := false
  deriving DecidableEq, Repr

/-- The other outputs of the plane-request port and the context port, at the last edge that the panel received (R142, R166, R535):
ACTIVE, SHADOW, SHADOW_READY, LIVE3 to LIVE0 as 32 bits, and BUSY. -/
structure PortOut where
  active : Nat := 0
  shadow : Nat := 0
  ready : Bool := false
  live : Nat := 0
  busy : Nat := 0
  deriving DecidableEq, Repr

/-- A value that a port shows once the panel has received that many edges more (R535). -/
structure DueOut where
  edges : Nat
  value : Nat
  deriving DecidableEq, Repr

/-- The PANEL_CTRL settings of the image (R448): LATE_POLICY, plane DEFER_LIMIT, COOL_PLANE, COOL_VALID, context DEFER_LIMIT. -/
structure PanelImage where
  late : Nat := 0
  defer : Nat := 10
  cool : Nat := 0
  coolValid : Bool := false
  ctxDefer : Nat := 10
  deriving DecidableEq, Repr

/-- The read port of a pocket RAM (R79, R81): the word read at its last edge, the output register, and the outputs ECC_SBE and ECC_DBE
of that read. DESIGN CHOICE: all are 0 at reset, for which the spec gives no value. -/
structure PramOut where
  word : BitVec 64 := 0
  reg : BitVec 64 := 0
  sbe : Bool := false
  dbe : Bool := false
  deriving DecidableEq, Repr

/-- A read port of the register file of context-local words (R84): the word that its registered address names, and the data presented
since the last edge. DESIGN CHOICE: both are 0 at reset, for which the spec gives no value. -/
structure WordPort where
  next : BitVec 32 := 0
  data : BitVec 32 := 0
  deriving DecidableEq, Repr

/-- One panel, beside its registers. -/
structure Panel where
  /-- 0, or the reason code with which the panel was grounded (R35). -/
  grounded : Nat := 0
  /-- The region that contains the panel. -/
  region : Option Nat := none
  /-- The physical cell bank, 0 or 1, that is active (R134). -/
  bank : Nat := 0
  /-- Frames of bank 0 and of bank 1 whose cells are upset (R148). -/
  upset0 : List Nat := []
  upset1 : List Nat := []
  /-- The fill in progress was started by an explicit prefetch (R138). -/
  fillExplicit : Bool := false
  /-- The frame that could not be verified in the fill that left the shadow FAILED (R137). -/
  failFrame : Option Nat := none
  /-- The prefetch held by the governor. -/
  heldPf : Option HeldPf := none
  /-- The state-holding cells and their shadow cells, by row of the record (R155). -/
  cells : SMap Row := []
  shadow : SMap Row := []
  /-- Swap state of quarters 0 to 3. -/
  quarters : SMap QSwap := []
  /-- Swap requests on their way to their acceptance edge (R165). -/
  inbox : List CtxReq := []
  /-- Held by the governor from a forced switch to the release of the column (R239). -/
  govHeld : Bool := false
  /-- The panel clock is gated because the panel has no usable COOL plane (R239). -/
  govGated : Bool := false
  /-- The panel is under preflight test (R481). -/
  underTest : Bool := false
  /-- The border holds of the panel's outbound wires are engaged (R124, R125). -/
  borderHold : Bool := true
  /-- The risers that the panel's planes drove when its border holds engaged (R124). -/
  wires : BitVec 1024 := 0
  /-- CASC_OUT of slice 15 when the border hold towards the west, and towards the east, came to apply (R97, R124, R127). -/
  cascWest : BitVec 64 := 0
  cascEast : BitVec 64 := 0
  /-- The quarters whose local clock inputs stay gated to the next falling edge, and a local clock edge has been suppressed at this switch
  or swap (R78). -/
  gate : Nat := 0
  gateHit : Bool := false
  /-- Pins that the panel drives are in park (R450). -/
  parked : Bool := true
  /-- The panel's plane contents were lost with its supply (R135) and its slot still names what to refill. -/
  cellsLost : Bool := false
  /-- One-cycle outputs as they show now, those that show from the next edge that the panel receives, and the other outputs (R535). -/
  pulses : Pulses := {}
  due : Pulses := {}
  ports : PortOut := {}
  /-- The image's settings for the panel (R448). -/
  image : PanelImage := {}
  /-- Border hold choices other than HOLD_LAST, by 1,024 WIRE + INDEX: 2 FORCE_0, 3 FORCE_1 (R124, R448). -/
  border : SMap Nat := []
  /-- NS of the panel's region: its fabric ports are non-secure (R53, R448). -/
  portsNs : Bool := false
  /-- CSRC, CCOUNT and CVALID of the interrupt target port, laid out as TGT_CLAIM (R343, R345). -/
  claim : Nat := 0
  /-- The claim results, the estimates of the track port, and the values of the stage port that are still to show (R191, R221, R345); and
  what the track port and the stage port show: RPOS + 2^64 RVEL + 2^128 RSTATE, and SDATA + 2^32 SSEQ. -/
  claimDue : List DueOut := []
  trackDue : List DueOut := []
  stageDue : List DueOut := []
  trackOut : Nat := 0
  stageOut : Nat := 0
  /-- The instant of the last edge that the panel received (R535). -/
  edgeAt : Nat := 0
  /-- Its input CPR, and its output IRQ at the last edge that the panel received (R345). -/
  cpr : Nat := 0
  irq : Bool := false
  /-- Pocket RAM words, RAM m word w at 1,024 m + w. -/
  pram : SMap PramWord := []
  /-- The read port of pocket RAM m. -/
  pramOut : SMap PramOut := []
  /-- Read port i of the register file of quarter q at 2 q + i; in full mode the ports are those of quarter 0 (R84). -/
  wordPorts : SMap WordPort := []
  /-- The slices whose EN_AC was 1 at the last panel clock edge (R100), a 16-bit mask. -/
  lastEnAc : Nat := 0
  deriving DecidableEq, Repr

/-- Source of a plane request, in the order of R145. -/
inductive PlaneSrc where
  | governor
  | bridle
  | port (p : Nat)
  | register
  deriving DecidableEq, Repr

/-- What a prefetch found in the shadow of a panel when its fill started: SHADOW, SHADOW_STATE, an explicit fill in progress, a held
prefetch, and upset frames of the bank; and whether the prefetch's fill is pinned. -/
structure FillUndo where
  panel : Nat
  slot : Nat
  state : Nat
  explicit : Bool
  held : Option HeldPf
  upset : List Nat
  pinned : Bool
  deriving DecidableEq, Repr

/-- A switch between its injection edge and its switching edge (R141, R144): for the group `group`, or a forced switch
of panel `panel` alone. `pending` once it was found not ready at its edge; `deferred` once the governor deferred it. A prefetch of the
present instant keeps in `undo` what a request that beats it brings back, and `merged` are the sources of the requests merged into this
one (R145). -/
structure SwitchReq where
  forced : Bool := false
  panel : Nat := 0
  group : Nat := 0
  slot : Nat
  src : PlaneSrc
  at_ : Nat
  pending : Bool := false
  deferred : Bool := false
  prefetch : Bool := false
  undo : List FillUndo := []
  merged : List PlaneSrc := []
  deriving DecidableEq, Repr

/-- A plane request that waits for its injection edge (R407): with DEFER, and the panel of its port or page. -/
structure PlaneWait where
  req : SwitchReq
  defer : Bool
  from_ : Option Nat
  deriving DecidableEq, Repr

/-- A frame of a plane slot in the Spar (R130, R133). -/
structure Frame where
  /-- The frame as the loader wrote it, and its golden signature. -/
  data : BitVec 4608 := 0
  sig : Word := 0
  /-- Cells that an upset has inverted, and a parity error of the signature's cells (R133). -/
  flips : BitVec 4608 := 0
  sigBad : Bool := false
  /-- The frame is marked bad, by the check of the kind of R153. -/
  bad : Bool := false
  kind : Nat := 0
  /-- A good copy has come from the configuration source (R149, R459). -/
  fromSource : Bool := false
  /-- Instant at which a repair that is still in progress began (R149). -/
  repairing : Option Nat := none
  deriving DecidableEq, Repr

/-- One stored copy of a row and its CRC-32 (R158); zero rows carry the CRC of 256 zero bytes. -/
structure RowCopy where
  row : Row := 0
  crc : Word := 0x0D968558
  deriving DecidableEq, Repr

/-- The two copies of a stored row (R158). -/
structure CtxRow where
  a : RowCopy := {}
  b : RowCopy := {}
  deriving DecidableEq, Repr

/-- A context-store command in progress (R178). -/
structure AccCmd where
  slot : Nat
  row : Nat
  target : Nat
  write : Bool
  who : Nat
  deriving DecidableEq, Repr

/-- One stack column, beside its registers. -/
structure Column where
  /-- The context-store command in progress. -/
  accCmd : Option AccCmd := none
  /-- The row buffer's words and its holder (R41). -/
  buf : SMap Word := []
  holder : Option Nat := none
  /-- Riser groups that are disabled (R34), a 16-bit mask. -/
  deadGroups : Nat := 0
  /-- The instant of the last test of a row of the context store (R275). -/
  ctxTestAt : Option Nat := none
  /-- The values of the keepers of the risers that nothing drives (R116). -/
  keeper : BitVec 1024 := 0
  /-- What the risers under a forced border hold carried before it engaged (R124). -/
  before : BitVec 1024 := 0
  /-- A parity mismatch on the column's ROW group of that crossing, at that instant, whose row has not moved yet (R28, R172). -/
  mismatch : Option (Nat × Nat) := none
  /-- The Spar block and the context-store slice are turned off (R34). -/
  off : Bool := false
  deriving DecidableEq, Repr

/-! ### The updraft governor (chapter 09) -/

/-- A column sensor (R237): its last reading in whole °C, whether it has been converted yet, whether it has failed, and the
plausible readings in a row since. -/
structure Sensor where
  last : Int := 0
  seen : Bool := false
  failed : Bool := false
  good : Nat := 0
  deriving DecidableEq, Repr

/-- The governor's view of one column (R238, R239): `first` is 0, or 1 or 2 for the panel forced first; `second` once the
other panel is forced too; `convs` counts the conversions since the first panel started to run its COOL plane; `due` is 0, or
1 or 2 for the panel whose forced switch is still to be issued. -/
structure GovCol where
  warned : Bool := false
  first : Nat := 0
  second : Bool := false
  convs : Nat := 0
  due : Nat := 0
  deriving DecidableEq, Repr

/-- The thermal tracker of one column (R428): the extreme e in °C, whether t0 has been taken, and whether the first half-cycle
after P has been counted. -/
structure FrayCol where
  extreme : Int := 0
  started : Bool := false
  counted : Bool := false
  deriving DecidableEq, Repr

/-- Work that the governor holds (R241), in the order of request: the swap of the quarters `m` of a panel, or its prefetch. -/
inductive HeldWork where
  | swap (p m : Nat)
  | prefetch (p : Nat)
  deriving DecidableEq, Repr

/-- The updraft governor, beside its registers. -/
structure Gov where
  /-- Alignment point and length in force of the stagger windows, and the start of the current one, in Bridle ns. -/
  align : Nat := 0
  len : Nat := 10
  start : Nat := 0
  rows : Nat := 0
  /-- Rows of deferrable swaps admitted in the window and not yet moved. -/
  reserved : Nat := 0
  pinnedRows : Nat := 0
  fills : Nat := 0
  pinnedFills : Nat := 0
  swapOver : Bool := false
  pfOver : Bool := false
  /-- HOT owner of each column in the window: 0 none, 1 the Lower, 2 the Upper Sail panel (R234). -/
  owner : SMap Nat := []
  /-- Columns whose violation is already recorded in the window (R235). -/
  violated : List Nat := []
  sensors : SMap Sensor := []
  cols : SMap GovCol := []
  work : List HeldWork := []
  deriving DecidableEq, Repr

/-! ### What leaves the device, straps and fuses -/

/-- What the device sends to the outside. -/
inductive OutMsg where
  /-- A write to host space: address, data and world of the request (R341). -/
  | hostWrite (addr : Nat) (bytes : List Byte) (secure : Bool)
  /-- A flit of Tether port `port`, 256 bytes, and what each of its lanes sends (R355, R356, R377): lane and levels in order. -/
  | flit (port : Nat) (bytes : List Byte) (lanes : List (Nat × List Int))
  /-- A CAP flit of a Tether port (R387), and whether it reports acceptance, whose place in the record is not given. -/
  | cap (port : Nat) (accepting : Bool) (bytes : List Byte) (lanes : List (Nat × List Int))
  /-- A write of image bytes by the loader to the LOAD_STREAM of the partner on Tether port `port`, from page offset `off` (R438). -/
  | flock (port off : Nat) (bytes : List Byte)
  /-- A lane in TRAIN or LOCK sends its marker and the PRBS31 bits up to the next one (R368): lane, stage, and PRBS31 bits before these. -/
  | training (lane stage run : Nat)
  /-- A PCI Express lane requests a preset of its partner in equalisation phase 2 (R371). -/
  | preset (lane preset : Nat)
  /-- An ECHO flit of a Tether port (R388), the layout of whose stamps is not given: a request with T1, or an answer with T1, T2 and
  T3. -/
  | echo (port : Nat) (answer : Bool) (t1 t2 t3 : Nat) (bytes : List Byte) (lanes : List (Nat × List Int))
  deriving DecidableEq, Repr


/-- The fuses. -/
structure Fuses where
  /-- Speed grade, 2 or 3 (R75). -/
  grade : Nat := 3
  /-- The fuse map (R29): at most 4,096 entries. -/
  map : List FuseEntry := []
  /-- Burnt bits of the wear odometer (R430). -/
  odo : Nat := 0
  /-- Nominal VSET and VMIN of the regulator groups (R420). -/
  vset : SMap Nat := []
  vmin : SMap Nat := []
  /-- LOAD_POLICY (R462), the fuse key when it is programmed, and the hash of the public key (R440). -/
  policy : Nat := 0
  key : Option (List Byte) := none
  keyHash : List Byte := []
  /-- The expected MISR values of the Lower and the Upper Sail (R480). -/
  misr0 : BitVec 64 := 0
  misr1 : BitVec 64 := 0
  /-- BASE of the three flash slots (R462); temperature grade, stack revision and serial number (R533). -/
  slotBase : SMap Nat := []
  temp : Nat := 0
  dieVer : Nat := 0
  serial : Nat := 0
  deriving DecidableEq, Repr

/-- A fabric initiator or target port (R287): the panel that the image assigns it to and the world it gives it (R53). -/
structure FabPort where
  panel : Option Nat := none
  secure : Bool := false
  deriving DecidableEq, Repr

/-! ### Scratchpad banks (chapter 10) -/

/-- A bank port request (R256): write or read, offset, bytes, tag, write bytes; `done` holds the code and the read bytes
once the bank has answered. `kept`: the bank had accepted it before a retirement (R273); `dropped`: it was in flight when its panel was
parked, and its response is discarded (R258). -/
structure PortReq where
  we : Bool
  addr : Nat
  size : Nat
  tag : Nat
  wdata : List Byte
  done : Option (Nat × List Byte) := none
  kept : Bool := false
  dropped : Bool := false
  deriving DecidableEq, Repr

/-- The response that a bank port presents (R256): RWRITE, RTAG, RERR, RDATA. -/
structure PortResp where
  write : Bool
  tag : Nat
  err : Nat
  data : List Byte
  deriving DecidableEq, Repr

/-- How far a bank has let a rigging or host access in: not yet judged; past the checks of R42, which keep their outcome (R54); accepted by
the bank, as number `n` of those that wait at banks, so that it completes (R261, R273); or ended with a code (R261). -/
inductive BankPass where
  | fresh | passed
  | taken (n : Nat)
  | ended (code : Nat)
  deriving DecidableEq, Repr

/-- A rigging or host access that waits at its bank, past the checks of R42: for the end of a handover (R261) or of the test of its
block (R275), or behind one that does. Sender, write, BAR2 address, bytes. -/
structure HeldAccess where
  who : Who
  write : Bool
  addr : Nat
  size : Nat
  data : List Byte := []
  pass : BankPass := .fresh
  deriving DecidableEq, Repr

/-- One scratchpad bank, beside its registers. -/
structure Bank where
  /-- Background initialisation of the bank is complete (R276). -/
  ready : Bool := false
  /-- Owner kind 0 NONE, 1 PORT, 2 PARTITION, 3 SPOOL, and its partition and engine (R260). -/
  kind : Nat := 2
  part : Nat := 0
  engine : Nat := 0
  /-- 0, or the reason code with which the bank was grounded (R36). -/
  grounded : Nat := 0
  /-- Retired pages, an 8-bit mask, and whether the bank is retired whole (R273). -/
  retired : Nat := 0
  whole : Bool := false
  /-- A twin whose partner or mirrored page was lost (R271). -/
  orphan : Bool := false
  /-- The 4 KiB block under background test, and the next one (R275). -/
  testing : Option Nat := none
  nextBlock : Nat := 0
  /-- The instant at which the last block test began, and the accesses that wait for the block (R275). -/
  testAt : Option Nat := none
  held : List HeldAccess := []
  /-- Requests of the bank port in flight, and the response it presents (R256). -/
  port : List PortReq := []
  resp : Option PortResp := none
  deriving DecidableEq, Repr

/-- A handover in progress (R261): the bank, its new owner, the instant of the write, the accesses of the new owner that wait,
and the retirements that wait for its end (R277): pages 0 to 7, 8 for the whole bank. -/
structure Handover where
  bank : Nat
  kind : Nat
  part : Nat
  engine : Nat
  at_ : Nat
  held : List HeldAccess := []
  retire : List Nat := []
  deriving DecidableEq, Repr
/-! ### The field side (chapter 21) -/

/-- What a field output drives (R497): nothing with pulls and keepers off (halted), the weak states, high impedance, a level,
the level of the panel slots that own the pin (R495), or the level and enable that those slots gave when a HOLD began. -/
inductive PinDrive where
  | halted | weakDown | weakUp | hiZ | low | high | fabric | kept
  deriving DecidableEq, Repr

/-- An edge scheduled at a precision pin (R220), at an instant in units of 125 ps of BRIDLE_NS: `op` 0 SET, 1 CLEAR, 2 TOGGLE,
3 the leading edge of a PULSE of `width` units, 4 a trailing edge that returns OUT to `level`. A predictive edge names its
mark until it locks (R226); `issue` is the instant of issue in ns. -/
structure PinEdge where
  at8 : Nat
  op : Nat
  width : Nat := 0
  track : Nat
  level : Bool := false
  pred : Option Nat := none
  issue : Nat := 0
  deriving DecidableEq, Repr

/-- An entry of a PINS item (R496): region, role (0 IN, 1 OUT, 2 OE, 3 BRIDLE), slot and panel. -/
structure PinRole where
  region : Nat
  role : Nat
  slot : Nat
  panel : Nat
  deriving DecidableEq, Repr

/-- One field pin, beside its registers: the level at the synchroniser, after the glitch filter (before inversion) and after the
debouncer, with the instants of the first two (R493); scheduled edges (R220); the entries of defined regions that name it
(R496); and the drives held by HOLD since the trip, the unplugging, the power failure and the slice began (R497). -/
structure Pin where
  sync : Bool := false
  syncAt : Nat := 0
  filt : Bool := false
  filtAt : Nat := 0
  deb : Bool := false
  edges : List PinEdge := []
  roles : List PinRole := []
  holdTrip : PinDrive := .weakDown
  holdUnplug : PinDrive := .weakDown
  holdPfail : PinDrive := .weakDown
  holdTest : PinDrive := .weakDown
  deriving DecidableEq, Repr

/-- JTAG instructions (R504). -/
inductive JtagInstr where
  | bypass | idcode | samplePreload | extest | highz
  deriving DecidableEq, Repr

/-- The boundary-scan port (R504): the instruction in force, the boundary register (cells 3 n, 3 n + 1, 3 n + 2 are input, output
and output enable of pin n) and the data shifted out last. -/
structure Jtag where
  instr : JtagInstr := .idcode
  cells : BitVec 1872 := 0
  out : Nat := 0
  deriving DecidableEq, Repr

/-! ### The Bridle (chapters 07 and 08) -/

/-- The sampled part of a track. Positions are in units of 2^-32 count and run on past the modulus; velocities in units of 2^-32
count per ns. The estimate is `p0` at Bridle cycle `c0` and moves on by `v0`, bounded by R188 around the last counted edge
(`count`, counted at cycle `edge`). `offs` is what PRESET and HOME have added to the raw count; `acq` counts the samples accepted
since ACQUIRE; `hist` holds the last four counted edges and `last` the last accepted sample, each with its cycle; `feed` and
`chg` are the cycles that last fed the coast timer and last changed the measured position. -/
structure TrackCore where
  state : Nat := 0
  c0 : Nat := 0
  p0 : Int := 0
  v0 : Int := 0
  edge : Option Nat := none
  count : Int := 0
  offs : Int := 0
  acq : Nat := 0
  hist : List (Nat × Int) := []
  last : Option (Nat × Int) := none
  feed : Nat := 0
  chg : Nat := 0
  still : Bool := false
  homed : Bool := false
  consec : Nat := 0
  deriving DecidableEq, Repr

/-- What a PRESET in the cycle of a sample returns to (R202): the cycle, the track before the sample, and TRK_EVENT,
TRK_REJECT_CNT, TRK_QUAD_ERR_CNT and TRK_SAMPLE_DT. -/
structure TrackUndo where
  cycle : Nat
  core : TrackCore
  regs : List (Nat × Word)
  deriving DecidableEq, Repr

/-- A fired mark as it goes to the queue (R222): whether it has fired by a predictive commit, and the cycle of that commit where its action has
predictive edges (R225, R226). -/
structure HeldMark where
  mark : Nat
  commit : Bool := false
  pred : Option Nat := none
  deriving DecidableEq, Repr

/-- A track, beside its registers: the sampled part; the 48-bit raw count; the levels of A and B at the decoder; HOME still
armed (R189); CAUSE and the cycle of entry to FAULT; the cycle of the last accepted fabric word (R191); the Z latch; the cycle
of the last correction and the estimate at the end of the cycle before it (R211, R215); the cycle of the last PRESET; what a
PRESET of this cycle undoes; the cycle of its last entry into the action queue, the marks the sequencer holds back (R222), the causes
of a FAULT that is entered at the end of this cycle (R202), and the marks that a jump of this cycle fires, with its direction (R215). -/
structure Track where
  core : TrackCore := {}
  raw : Int := 0
  ab : Nat := 0
  homeArmed : Bool := false
  cause : Nat := 0
  faultAt : Nat := 0
  word : Option Nat := none
  zlatch : Int := 0
  corrAt : Option Nat := none
  corrFrom : Int := 0
  presetAt : Option Nat := none
  undo : Option TrackUndo := none
  lastEnq : Option Nat := none
  heldMarks : List HeldMark := []
  faulting : List Nat := []
  jump : Option (Bool × List Nat) := none
  deriving DecidableEq, Repr

/-- The armed comparators of a track (R214), nearest mark first: forward and reverse. `ready` once the sequencer has filled them
since the track entered RUN, or since a PRESET or HOME (R215, R216); `due` while a refill from the estimate is due, `start` the estimate
that a fill after such an event starts from. -/
structure Comps where
  fwd : List Nat := []
  rev : List Nat := []
  ready : Bool := false
  due : Bool := false
  start : Option Int := none
  deriving DecidableEq, Repr

/-- A committed predictive firing that awaits its lock (R225, R226): its mark, the cycle of the commit, its track, the target position on
the unwrapped estimate, its direction, whether its action has been dispatched, and whether it has been counted late (R223). -/
structure PredFire where
  mark : Nat
  at_ : Nat
  track : Nat
  target : Int
  fwd : Bool
  dispatched : Bool := false
  late : Bool := false
  deriving DecidableEq, Repr

/-- An entry of the action queue (R222): the track, its mark (none for a fault action), the action, the cycle of entry, the
integer position for the miss log, whether the mark has fired by a predictive commit, the cycle of that commit where the action has
predictive edges (R226), and whether the firing is late at its entry (R223). -/
structure QEntry where
  track : Nat
  mark : Option Nat
  action : Nat
  enq : Nat
  pos : Nat
  commit : Bool := false
  pred : Option Nat := none
  late : Bool := false
  deriving DecidableEq, Repr

/-- A sync subscription (R391): the subscriber's device and track, the source track, and whether it came with NS = 1. -/
structure Subscription where
  dev : Nat
  track : Nat
  source : Nat
  ns : Bool := false
  deriving DecidableEq, Repr

/-- The Bridle, beside its registers: comparators by track; STATUS of the marks (R209); staged words of mark and action entries by
initiator and address (R210, R217), and the entry each initiator stages; stage registers as sequence × 2^32 + value (R221);
the action queue; committed predictive firings; the cycle from which the dispatcher is free (R222); the sync subscriptions
0 to 23 (R391); staged low words of _LO and _HI pairs (R183); by how much BRIDLE_NS advanced at the last cycle (R412). -/
structure Bridle where
  comps : SMap Comps := []
  status : SMap Nat := []
  staged : SMap (SMap Word) := []
  stagedEntry : SMap Nat := []
  stage : SMap Nat := []
  queue : List QEntry := []
  preds : List PredFire := []
  free : Nat := 0
  subs : SMap Subscription := []
  lows : SMap Word := []
  step : Nat := 1
  deriving DecidableEq, Repr

/-! ### The rigging (chapter 11) -/

/-- The 272 signals of a link in one direction (R290), and a rigging flit as it stands in a slot of a DATA flit (R379). -/
abbrev Slot := BitVec 272

/-- A packet in the network (R290 to R292), its header at node `node` or last there, its output there already chosen (`la`, R295).
`target` is the target port of a request; `inj` the instant of injection. -/
structure Packet where
  node : Nat
  la : Nat
  dstNode : Nat
  dstPort : Nat
  dstDev : Nat
  srcInit : Nat
  srcDev : Nat
  who : Who
  tag : Nat
  gen : Nat
  /-- 0 RD, 1 WR, 2 RD_RESP, 3 WR_RESP, 4 MSG (R292). -/
  opc : Nat
  epoch : Nat
  ns : Bool
  bytes : Nat
  status : Nat := 0
  addr : Nat
  data : List Byte := []
  target : Nat
  inj : Nat
  /-- A request that waits at its bank (R54, R261). -/
  pass : BankPass := .fresh
  /-- Its last payload flits were lost in a trip and filled by the border node (R305); its block has been reset, and its answer by a
  fabric target is discarded at the port (R307). -/
  spoiled : Bool := false
  orphan : Bool := false
  /-- The link input by which it entered its node, 6 from a local port; the buffers that hold its flits, header first: node, input, flits;
  its place in the order of arrivals (R294, R300); the flits that its destination has taken; and the links that flits of it cross in
  the present nanosecond, by 8 node + port (R303). -/
  inPort : Nat := 6
  trail : List (Nat × Nat × Nat) := []
  arr : Nat := 0
  got : Nat := 0
  crossed : List Nat := []
  /-- The Tether port whose ingress buffer holds its flits until they move on (R382); CHECK of its payload flits, by their number, where it
  came with them or shows an error (R305, R379). -/
  ingress : Option Nat := none
  checks : SMap Nat := []
  deriving DecidableEq, Repr

/-- The arbiter of an output (R296): the place of the round of classes, flits sent in this turn, and by class the input after the one
served last. -/
structure Arb where
  turn : Nat := 0
  sent : Nat := 0
  last : SMap Nat := []
  deriving DecidableEq, Repr

/-- What a transaction of a block of the device is for: a message write of an interrupt target (R341), or access `id` of a Spool
channel (R311). -/
inductive RigNote where
  | message (target : Nat)
  | spool (ch id : Nat)
  deriving DecidableEq, Repr

/-- A tag in use (R299): outstanding since `at_`, or quarantined since then; the device and target of the request, its class
(1 REQUEST, 3 BULK), whether it is a write, its epoch and bytes, what it is for, and whether a drain or a trip has given the request up
(R304, R305). -/
structure RigTag where
  quarantined : Bool := false
  at_ : Nat
  dev : Nat
  target : Nat
  note : Option RigNote := none
  cls : Nat
  write : Bool
  epoch : Nat
  bytes : Nat
  abandoned : Bool := false
  deriving DecidableEq, Repr

/-- A transaction of at most 512 bytes that waits at its initiator interface (R289, R299): its sender, device, target and the target's
own address, and what it is for. -/
structure RigPiece where
  who : Who
  dev : Nat
  target : Nat
  addr : Nat
  write : Bool
  bytes : Nat
  data : List Byte := []
  note : Option RigNote := none
  deriving DecidableEq, Repr

/-- An initiator interface (R297, R299), beside its registers: tags in use, generations, transactions that stall, the instant its
token was last spent, and bytes moved. -/
structure RigInit where
  queue : List RigPiece := []
  tags : List (Nat × RigTag) := []
  gens : SMap Nat := []
  token : Option Nat := none
  bytes : Nat := 0
  deriving DecidableEq, Repr

/-- The rigging, beside its registers: route tables by (2 node + table) 192 + entry, packets in flight, initiator interfaces,
links that still drain by 8 node + port (R303), the instants at which domains began to drain (R304), and posted MSGs that wait for
a token at their initiator interface (R297). -/
structure Rig where
  tables : SMap Nat := []
  packets : List Packet := []
  inits : SMap RigInit := []
  draining : List Nat := []
  drainAt : SMap Nat := []
  msgs : List Packet := []
  /-- Arbiters and the present signals of links, by 8 node + port (R290, R296); arrivals counted so far, and Spool accesses numbered so
  far, the model's own numbers. -/
  arbs : SMap Arb := []
  links : SMap Slot := []
  arrivals : Nat := 0
  ios : Nat := 0
  /-- Buffer slots that are free and whose credits have still to return, oldest first: 8 node + input, and class (R294). -/
  owed : List (Nat × Nat) := []
  /-- Table entries written in the nanosecond `editNs`, with what they held before: node, table, entry, old value (R308). -/
  edits : List (Nat × Nat × Nat × Nat) := []
  editNs : Nat := 0
  deriving DecidableEq, Repr

/-! ### Spool (chapter 12) -/


/-- A list entry (R322), or a contiguous side of a descriptor: address, bytes, host space, and whether a reserved flag is set. -/
structure SgEntry where
  addr : Nat
  len : Nat
  host : Bool
  bad : Bool := false
  deriving DecidableEq, Repr

/-- One access of a channel, of at most 512 bytes (R289, R323, R325): its number, its phase (0 DATA, 1 DESC, 2 LIST, 3 WRITEBACK),
direction, space, address and bytes; the data to be written, or read; for a data read, the space and address that its bytes go to, and
for DATA the burst that it belongs to; whether it is at its interface or beyond (`out`); the status that has answered it; and whether a
SKIP has given it up. -/
structure SpoolIo where
  id : Nat
  phase : Nat
  write : Bool
  host : Bool
  addr : Nat
  bytes : Nat
  data : List Byte := []
  dst : Bool × Nat := (false, 0)
  burst : Nat := 0
  out : Bool := true
  answer : Option Nat := none
  dead : Bool := false
  deriving DecidableEq, Repr

/-- What a channel does next: read a descriptor, wait with it held, move its data, write back words 8 and 9, write back word 0. -/
inductive ChanStage where
  | fetch | held | data | back1 | back0
  deriving DecidableEq, Repr

/-- A Spool channel, beside its registers: its stage; the held descriptor; entries ready to use and the index of the next entry to
read of each list; bytes not yet taken into a burst; its accesses that are not yet done with, in the order of issue; bursts of the descriptor issued so far; bytes
written; the status to write back; the phase in which it halted; the instant of the trigger that released the descriptor, until its first
read; instants of held triggers; a trigger that waits for the re-read of R317. -/
structure Chan where
  stage : ChanStage := .fetch
  desc : List Word := []
  src : List SgEntry := []
  dst : List SgEntry := []
  srcNext : Nat := 0
  dstNext : Nat := 0
  left : Nat := 0
  io : List SpoolIo := []
  burst : Nat := 0
  done : Nat := 0
  status : Nat := 0
  halted : Nat := 0
  started : Option Nat := none
  trigs : List Nat := []
  reread : Option Nat := none
  deriving DecidableEq, Repr


/-! ### The retained store (chapter 19) -/

/-- A buffer of a record (R474): its four header words, its payload, and for TRACKS what the payload stands for: track page
registers and filter settings, by track and BAR0 offset (log entry 20). -/
structure RsBuf where
  w0 : Word := 0
  w1 : Word := 0
  w2 : Word := 0
  w3 : Word := 0
  data : List Byte := []
  saved : List (Nat × Nat × Word) := []
  deriving DecidableEq, Repr

/-- Who asked for a commit or an erase (R475). -/
inductive RsWho where
  | host
  | lane (l : Nat)
  | port (p : Nat)
  | tracks
  /-- The autosave of a lane whose ENABLE is cleared (R367): nothing is reported. -/
  | silent
  deriving DecidableEq, Repr

/-- A commit or an erase that is in progress or waits for its turn (R475). -/
structure RsJob where
  id : Nat
  who : RsWho
  erase : Bool
  data : List Byte := []
  saved : List (Nat × Nat × Word) := []
  deriving DecidableEq, Repr

/-! ### Serial lanes (chapter 14) -/

/-- LANE_TX_FFE and LANE_RX_CTLE of a lane. -/
structure LaneRegs where
  ffe : Word := 0
  ctle : Word := 0
  deriving DecidableEq, Repr

/-- What a blob applied to a lane gives as starting values (R359, R366): PEAK, LF_GAIN and the partner, when it names one; the registers
that it set, and what they held before any blob. -/
structure LaneBlob where
  peak : Nat
  lf : Nat
  partner : Option (Nat × Nat)
  own : LaneRegs := {}
  old : LaneRegs := {}
  deriving DecidableEq, Repr

/-- A proposal that is being checked or walked to (R362): the values it replaces; PEAK and LF_GAIN that wait for the check before
application; and for a blob the registers and the blob in force before it. -/
structure LaneProp where
  peak : Nat
  lf : Nat
  next : Option (Nat × Nat) := none
  undo : Option (LaneRegs × Option LaneBlob) := none
  deriving DecidableEq, Repr

/-- A lane, beside its registers: the instant of entry to its stage; the applied blob; whether a board table has been written since
the last P or C (R359); the LF_GAIN being walked to; the proposal in progress; the values that trim leaves out and for how many
more runs (R361); the instants of the last CTLE step and of the end of the last walk; bit lock and flit lock; the values in use
have passed in TRAIN; full adaptation is in use in this TRAIN, and its result has passed its checks; stage timeouts in a row; the capture sequence number (R365); a
change waits to be saved, and the instant of the last autosave (R367); the instant up to which trim runs have begun or been skipped
(R361); the instants of the FEC-corrected symbols of the last second (R363); the transmit direction is precoded, as a PCI Express
controller has it, and the last symbols that the decoder and the precoder hold (R356); bits sent since entry to TRAIN (R368); and the
preset last requested from a PCI Express partner (R371). -/
structure Lane where
  since : Nat := 0
  blob : Option LaneBlob := none
  board : Bool := false
  lfTarget : Nat := 0
  prop : Option LaneProp := none
  avoid : List (Nat × Nat) := []
  stepAt : Nat := 0
  walkDone : Nat := 0
  bitLock : Bool := false
  flitLock : Bool := false
  trained : Bool := false
  adapting : Bool := false
  adapted : Bool := false
  consec : Nat := 0
  captures : Nat := 0
  saveDue : Bool := false
  savedAt : Option Nat := none
  trimAt : Nat := 0
  corrected : List Nat := []
  txPrecode : Bool := false
  run : Nat := 0
  preset : Option Nat := none
  rxSym : Nat := 0
  txSym : Nat := 0
  deriving DecidableEq, Repr

/-! ### Tether ports (chapter 15) -/

/-- A buffered DATA flit (R383): its sequence number, its slots, and those of them that take a departure stamp (R393). -/
structure TetherFlit where
  seq : Nat
  slots : List Slot
  stamped : List Nat := []
  deriving DecidableEq, Repr

/-- A Tether port, beside its registers: lanes of the port in use and offered, as masks by port lane (R376); the replay buffer,
oldest first; credits held and ingress slots in use, by class; a REPLAY
has been sent and awaits its flit, since `replayAt` (R383); the last ACK progress and the replays since (R384); the instant of
leaving ACTIVE (R386); the partner's acceptance and the port's own of the partner's record (R387); the partner before a restart
(R385); the last eight delays (R388); slots of
packets whose tails have not come; EXPECT of the partner's last accepted record; the last exchange found no common lanes (R376); this
exchange has met a refusal, and an accepting CAP has been sent in it (R387); flits that still fill their places on the lanes (R376,
R378); the instant of the last ECHO request (R388). `used` counts the ingress slots taken and not yet returned as credits. -/
structure Port where
  lanesOn : Nat := 0
  offered : Nat := 0
  buf : List TetherFlit := []
  credits : SMap Nat := []
  used : SMap Nat := []
  replayAt : Option Nat := none
  ackAt : Nat := 0
  replays : Nat := 0
  left : Option Nat := none
  peerAccepts : Bool := false
  accepts : Bool := false
  before : Option (Nat × Nat) := none
  hostward : Bool := false
  delays : List Nat := []
  partial_ : List Slot := []
  capExpect : Nat := 0
  widthFail : Bool := false
  refused : Bool := false
  sentAccept : Bool := false
  busy : Nat := 0
  echoAt : Option Nat := none
  deriving DecidableEq, Repr


/-! ### Power, preflight and loading (chapters 17, 18 and 20) -/

/-- A regulator group's output (R420): its value in mV at an instant, from which it moves towards the set point. -/
structure Ramp where
  mv : Nat := 0
  at_ : Nat := 0
  deriving DecidableEq, Repr

/-- A slice in progress (R481): the instant of step 2, whether the shadow bank was READY before step 4, and whether the sweep started
it. -/
structure PfSlice where
  at_ : Nat
  ready : Bool
  auto : Bool
  deriving DecidableEq, Repr

/-- The preflight controller, beside its registers: slices by panel; START commands that wait; panels with a result in the sweep; the
instant of the sweep's start; whether the next sweep has fallen due (R484). -/
structure Preflight where
  running : SMap PfSlice := []
  starts : List Nat := []
  finished : List Nat := []
  sweepAt : Option Nat := none
  overdue : Bool := false
  deriving DecidableEq, Repr

/-- What the loader keeps of an image header (R439): MODE ROLLED, KSRC, SEG_COUNT, SEG_SIZE, LAST_LEN, NONCE, PLANE_MASK, PANEL_MASK
and the tag table. -/
structure ImgHeader where
  rolled : Bool
  ksrc : Nat
  segs : Nat
  size : Nat
  last : Nat
  nonce : List Byte
  planes : Nat
  panels : BitVec 576
  tags : List (List Byte)
  deriving DecidableEq, Repr

/-- Where a slot's frames come from (R459): SRC, flash slot or host base, the image digest, the first and last segments; and the
frames written to it in this attempt (R446). -/
structure SlotOrigin where
  src : Nat := 0
  base : Nat := 0
  digest : List Byte := []
  first : Nat := 0
  last : Nat := 0
  frames : BitVec 128 := 0
  deriving DecidableEq, Repr

/-- The configuration loader, beside its registers: the digest of the last attempt (R456); the header, source, flash slot of the
attempt, and the flash slot of the next; the segment whose records are being applied and its plaintext still to be applied; whether
END has come; the current frame address and the dictionary (R444); the stream bytes received (R438); regions defined, to be committed and committed by the attempt, and those whose CLOCKS item was not written (R447 to R452);
whether an attempt has failed since the last P or C (R457); the instant of the last byte or of the start of the backoff, and its length
in ms; bytes forwarded, and Tether ports to which forwarding has stopped (R438); pieces of the image that a FLASH or HOST source has given,
with their offsets (R395); panels whose commit edge is due (R453); slot origins by
8 panel + slot; digests under which regions were committed. -/
structure Loader where
  digest : Option (List Byte) := none
  hdr : Option ImgHeader := none
  src : Nat := 0
  flash : Nat := 0
  nextFlash : Nat := 0
  seg : Nat := 0
  buf : List Byte := []
  ended : Bool := false
  addr : Option Nat := none
  dict : SMap (BitVec 4608) := []
  stream : List Byte := []
  defined : List Nat := []
  parked : List Nat := []
  noClock : List Nat := []
  failed : Bool := false
  since : Nat := 0
  wait : Nat := 0
  forwarded : Nat := 0
  noForward : List Nat := []
  blocks : List (Nat × List Byte) := []
  edges : List Nat := []
  origins : SMap SlotOrigin := []
  regDigests : SMap (List Byte) := []
  deriving DecidableEq, Repr


/-- The whole state of the block. -/
structure State where
  /-- The commands that wait, first in first out. -/
  pending : List Instr := []
  /-- Nanoseconds since power good rose, or since the release of the last cold reset (R464). -/
  ns : Nat := 0
  /-- Power good is high (R463). -/
  powerGood : Bool := true
  /-- The registers: 32-bit words by BAR0 offset; an unlisted register holds its reset value. Registers that the spec shows once per selected unit (a rail, a source, a column) stand at the numbers of `Machine/Ops.lean` above the BAR0 range. -/
  regs : SMap Word := []
  /-- The model's own counter of free values taken (log entry 2); not a state of the spec. -/
  freeCtr : Nat := 0
  /-- Completion of the last access (the model's own record of what the sender sees). -/
  resp : Resp := {}
  /-- What the device sent to the outside, latest last (the model's own record). -/
  out : List OutMsg := []
  /-- The straps, sampled at P (R468). -/
  straps : Straps := {}
  /-- The fuses. -/
  fuses : Fuses := {}
  /-- Violations since the last P, C or W reset (R58, SEQ). -/
  worldSeq : Nat := 0
  /-- The bond groups, triads and dead-bond map. -/
  stack : Stack := {}
  /-- The 576 panels. -/
  panels : SMap Panel := []
  /-- Plane switches on their way to their edge, in the order of injection. -/
  switches : List SwitchReq := []
  /-- Frames of the Spar, by frame address (R131). -/
  frames : SMap Frame := []
  /-- The 288 columns. -/
  columns : SMap Column := []
  /-- Context rows: row r of slot i of column c at 8 (260 c + i) + r; slots 256 and 257 are the fallbacks, 258 the hold context (R158 to R161). -/
  ctx : SMap CtxRow := []
  /-- Quarter-states of slot i of column c, a 4-bit mask, at 260 c + i (R157). -/
  ctxValid : SMap Nat := []
  /-- NEXT entries that differ from the default of R163, plus one, at 260 c + i. -/
  ctxNext : SMap Nat := []
  /-- The updraft governor. -/
  gov : Gov := {}
  /-- The thermal trackers of the 288 columns (R428). -/
  fray : SMap FrayCol := []
  /-- BRIDLE_NS: nanoseconds that the Bridle has counted (R203, R205). -/
  bridleNs : Nat := 0
  /-- INTC_SRC_SEL, per initiator and function (R351). -/
  srcSel : SMap Nat := []
  /-- PRIO of a source when it was DELIVERED (R339). -/
  gotPrio : SMap Nat := []
  /-- Target last chosen for a source, plus one; 0 for none (R340). -/
  lastTgt : SMap Nat := []
  /-- The data link layer of the PCI Express link is active (R341). -/
  linkUp : Bool := false
  /-- Fabric ports, by initiator number 26 to 89; target port t is assigned as entry 100 + t. -/
  fabPorts : SMap FabPort := []
  /-- Warm restart (R469): 0 none, 1 until the supervisor runs again, 2 until the device returns to RUN. -/
  warm : Nat := 0
  /-- Accepted writes of RESET_REQ that have not acted yet (R467): whether C, and the instant. -/
  resets : List (Bool × Nat) := []
  /-- The 576 scratchpad banks. -/
  banks : SMap Bank := []
  /-- Scratchpad bytes by BAR2 offset, addresses rising; an unlisted byte reads 0 (R276). -/
  mem : List Host.Cell := []
  /-- Lines whose stored CRC differs from the CRC of their stored bytes (R254), by line number 8,192 b + l: the exclusive or of the two. -/
  crcDiff : SMap (BitVec 16) := []
  /-- Background initialisation of the banks has started (R276). -/
  initRunning : Bool := false
  /-- Accesses that have waited at banks, which numbers them (R255). -/
  heldCtr : Nat := 0
  /-- The handover in progress. -/
  handover : Option Handover := none
  /-- Mirror repair writes that wait for an idle cycle: bank and line (R266). -/
  repairs : List (Nat × Nat) := []
  /-- The context-store row of each column to test next, 8 slot + row (R275). -/
  ctxTestNext : SMap Nat := []
  /-- Closed gates of the gating tree, by node: 1 closed (R408, R409). -/
  gatesClosed : SMap Nat := []
  /-- Root 337 was closed before the device entered HOLD (R409). -/
  root337Was : Bool := false
  /-- Leaves whose gates a lost source has closed (R411), by domain: 1. -/
  lossGates : SMap Nat := []
  /-- Old-source edges that panels (by panel) and the Bridle (576) still receive in the stop step of a source change (R406). -/
  oldEdges : SMap Nat := []
  /-- Domains that one CLK_SWITCH_GO takes from one code to one other, and so to one first new edge (R406). -/
  goSets : List (List Nat) := []
  /-- Plane requests that wait for an edge of their panels' clock, which is changing its source, to be injected at (R407). -/
  planeWait : List PlaneWait := []
  /-- Plane requests injected at the present instant, for the meetings of R145. -/
  planeNow : List SwitchReq := []
  /-- Windows in a row within the limits of a LOST source, by its bit of CLK_LOST_MAP (R410). -/
  monGood : SMap Nat := []
  /-- The 624 field pins (chapter 21). -/
  pins : SMap Pin := []
  /-- The ZY12 load failure holds (R458). -/
  halted : Bool := false
  /-- The boundary-scan port (R504). -/
  jtag : Jtag := {}
  /-- The channel that the monitor ADC converts next (R503). -/
  madcNext : Nat := 0
  /-- The 64 tracks. -/
  tracks : SMap Track := []
  /-- Marks, actions, the queue, stage registers and subscriptions. -/
  bridle : Bridle := {}
  /-- A region has committed since the last P or C (R200). -/
  firstCommit : Bool := false
  /-- The rigging network. -/
  rig : Rig := {}
  /-- The 64 Spool channels. -/
  chans : SMap Chan := []
  /-- The channel of each Spool engine served last, plus one (R324). -/
  engLast : SMap Nat := []
  /-- The retained store: buffer b of record i at 2 i + b (R473). -/
  store : SMap RsBuf := []
  /-- Commits and erases, the one in progress first (R475). -/
  jobs : List RsJob := []
  /-- The instant at which the commit or erase in progress started. -/
  jobAt : Nat := 0
  /-- The stored lane blobs and port entries have been applied since the last P or C (R367). -/
  restored : Bool := false
  /-- VBAT is present (R475). -/
  vbat : Bool := true
  /-- The 32 serial lanes. -/
  lanes : SMap Lane := []
  /-- The 8 Tether ports. -/
  ports : SMap Port := []
  /-- Key RAM (R462): the eight words of each slot that holds a key. -/
  kram : SMap (List Word) := []
  /-- Outputs of the regulator groups (R420). -/
  ramps : SMap Ramp := []
  /-- The preflight controller. -/
  pf : Preflight := {}
  /-- The configuration loader. -/
  load : Loader := {}
  /-- PERST_N is low (R529). -/
  perstLow : Bool := false
  /-- Panel and channel pages under reset of partition n (R60). -/
  partPages : SMap (List Nat) := []
  deriving DecidableEq, Repr

/-- The device right after power good has risen (a P reset): every register at its reset value, nothing listed in any
memory, no command waiting. The straps and fuses are those of log entry 6. -/
def State.reset : State := {}

end Sys2Proof.Machine
end

