-- ==== Sys2Proof/Machine/Topology.lean ====
section
/-! DEFINITION. The rigging's topology: operations and classes, nodes, ports, initiators, targets and addresses (R283 to R292). -/

namespace Sys2Proof.Machine

open Sys2Proof

/-! ### Operations and classes (R292) -/

def opRd : Nat := 0
def opWr : Nat := 1
def opRdResp : Nat := 2
def opWrResp : Nat := 3
def opMsg : Nat := 4

/-- The class of an operation: 0 URGENT, 1 REQUEST, 2 RESPONSE, 3 BULK. -/
def classOf (opc bytes : Nat) : Nat :=
  if opc = opMsg then 0 else if opc = opRd then 1 else if opc = opWr then (if bytes ≤ 64 then 1 else 3) else 2

/-! ### Ports -/

/-- The output port that leads back. -/
def backPort (port : Nat) : Nat :=
  match port with
  | 0 => 2
  | 1 => 3
  | 2 => 0
  | 3 => 1
  | 4 => 5
  | _ => 4

/-! ### Nodes and ports (R283 to R287) -/

/-- The node at the foot of mast `m`. -/
def mastFoot (m : Nat) : Nat := 16 * (if m / 4 < 2 then m / 4 else m / 4 + 1) + 4 * (m % 4) + 2

/-- The mast whose foot is spine node `n`. -/
def footMast (n : Nat) : Option Nat := (List.range 16).find? (fun m => mastFoot m == n)

/-- RIGN_INFO.KIND: 0 spine, 1 Lower Sail, 2 Spar, 3 Upper Sail. -/
def nodeKind (n : Nat) : Nat := if n < 80 then 0 else 1 + (n - 80) % 3

/-- The mast of a mast node. -/
def nodeMast (n : Nat) : Nat := (n - 80) / 3

/-- The node behind output port `port` of node `n` (R284, R285); none where the node lacks the port. -/
def nodeNext (n port : Nat) : Option Nat :=
  if n < 80 then
    let u := n % 16
    let v := n / 16
    match port with
    | 0 => if v < 4 then some (n + 16) else none
    | 1 => if u < 15 then some (n + 1) else none
    | 2 => if 0 < v then some (n - 16) else none
    | 3 => if 0 < u then some (n - 1) else none
    | 4 => (footMast n).map (fun m => 80 + 3 * m)
    | _ => none
  else
    let m := nodeMast n
    let spar := nodeKind n == 2
    match port with
    | 0 => if spar && m / 4 < 3 then some (n + 12) else none
    | 1 => if spar && m % 4 < 3 then some (n + 3) else none
    | 2 => if spar && 0 < m / 4 then some (n - 12) else none
    | 3 => if spar && 0 < m % 4 then some (n - 3) else none
    | 4 => if nodeKind n = 3 then none else some (n + 1)
    | 5 => if nodeKind n = 1 then some (mastFoot m) else some (n - 1)
    | _ => none

/-- The node has the port: LOCAL on spine, Lower and Upper Sail nodes, NONE everywhere. -/
def hasPort (n port : Nat) : Bool :=
  match port with
  | 7 => true
  | 6 => nodeKind n != 2
  | p => (nodeNext n p).isSome

/-- The quadrant of a mast (R287). -/
def mastQuad (m : Nat) : Nat := 2 * (m / 8) + m % 4 / 2

/-- The `k`-th mast of a quadrant, in ascending order. -/
def quadMast (q k : Nat) : Nat := 8 * (q / 2) + 2 * (q % 2) + 4 * (k / 2) + k % 2

/-- Node and local port of fabric port number `x` = 16 q + 8 s + n. -/
def fabricPlace (x base : Nat) : Nat × Nat := (80 + 3 * quadMast (x / 16) (x % 8 / 2) + 2 * (x % 16 / 8), base + x % 2)

/-- Node and local port of an initiator (R286). -/
def initPlace (i : Nat) : Nat × Nat := if i < 26 then (32 + i / 2, i % 2) else fabricPlace (i - 26) 0

/-- The spine row that serves column row `y` (R283). -/
def rowOfY (y : Nat) : Nat := if y < 4 then 0 else if y < 8 then 1 else if y < 10 then 2 else if y < 14 then 3 else 4

/-- The first column row of a spine row's band. -/
def firstY (v : Nat) : Nat :=
  match v with
  | 0 => 0
  | 1 => 4
  | 2 => 8
  | 3 => 10
  | _ => 14

/-- Node and local port of a target (R286). -/
def targetPlace (t : Nat) : Nat × Nat :=
  if t < 36 then
    let y := t / 2
    let v := rowOfY y
    (16 * v + 8 * (t % 2) + 3, if v = 2 then 6 + (y - 8) else y - firstY v)
  else if t < 100 then fabricPlace (t - 36) 2
  else (32 + (t - 100) / 4, 2 + (t - 100) % 4)

/-- The initiator serves the Sail and the panel it is assigned to; the regulator group of its node (R287, R304). -/
def nodeDomain (n : Nat) : Option Nat := if n < 80 then none else some (4 * nodeKind n + mastQuad (nodeMast n))

/-! ### Addresses (R288) -/

/-- The target and the target's own address of offset `off` in a device's window (R40, R286, R288); none where it is unassigned. -/
def decodeLocal (off : Nat) : Option (Nat × Nat) :=
  if off < 0x01000000 then some (110, off)
  else if off < 0x04000000 then
    let t := 111 + (off - 0x01000000) / 0x40000
    if t < 156 then some (t, off) else none
  else
    let a := off - 0x04000000
    if a < 576 * 0x80000 then some (a / 0x800000, a) else none


end Sys2Proof.Machine
end

