-- ==== Sys2Proof/Machine/Ops.lean ====
section
/-! DEFINITION. The named operations over the state: registers and their fields, free values, access checks (R41 to
R55), world violations, doorbells (R335, R338), and the gate that every register write passes. -/

namespace Sys2Proof.Machine

open Sys2Proof

/-! ### Registers -/

/-- The register at BAR0 offset `addr`. -/
def State.reg (s : State) (addr : Nat) : Word := mget regReset s.regs addr

/-- The state with that register holding `w`. -/
def State.setReg (s : State) (addr : Nat) (w : Word) : State := { s with regs := mset regReset s.regs addr w }

/-- The value of a register field of page `pg`. -/
def State.rd (s : State) (pg : Nat) (f : Fld) : Nat := getF (s.reg (pg * 4096 + f.off)) f.lo f.len

/-- The state with that field holding `v`. -/
def State.wr (s : State) (pg : Nat) (f : Fld) (v : Nat) : State :=
  s.setReg (pg * 4096 + f.off) (setF (s.reg (pg * 4096 + f.off)) f.lo f.len v)

/-- The field reads 1. -/
def State.on (s : State) (pg : Nat) (f : Fld) : Bool := s.rd pg f == 1

/-- Add `n` to a counter field, saturating at the field's maximum (R12). -/
def State.add (s : State) (pg : Nat) (f : Fld) (n : Nat) : State := s.wr pg f (satAdd (2 ^ f.len - 1) (s.rd pg f) n)

/-- Count one. -/
def State.inc (s : State) (pg : Nat) (f : Fld) : State := s.add pg f 1

/-- Return the fields of a set of pages that a reset class clears to their reset values (R5). -/
def State.clearClass (s : State) (cls : Nat) (pages : Nat → Bool) : State :=
  { s with regs := mmap regReset (fun a w => if pages (a / 4096) then clearWord cls a w else w) s.regs }

/-- Take one free value of `w` bits: a value that the spec leaves open. -/
def State.free (s : State) (w : Nat) : Nat × State :=
  (Config.freeNat s.freeCtr % 2 ^ w, { s with freeCtr := s.freeCtr + 1 })

/-- Microseconds since power good, modulo 2^32. -/
def State.stamp (s : State) : Nat := s.ns / 1000 % 2 ^ 32

/-- The completion that the sender of the access sees. -/
def State.respond (s : State) (st : BusStatus) (data : Nat) : State := { s with resp := ⟨st, data⟩ }

/-- Set bit `b` of READY_SUM, with the instant at which it first came (R464, R466). -/
def State.reachStage (s : State) (b : Fld) : State :=
  if s.on pgReady b then s else (s.wr pgReady b 1).wr pgReady (READY_STAMP.US.at b.lo) s.stamp

/-! ### Initiators and worlds -/

/-- The rigging initiator number of a sender (R286). -/
def whoInit : Who → Nat
  | .pf _ => 4
  | .supervisor => 0
  | .loader => 1
  | .scrubber => 2
  | .preflight => 3
  | .intc _ => 5
  | .bridle _ => 6
  | .spool ch => 7 + ch / 16
  | .tether p _ => 11 + p
  | .fabric i => i
  | .packet i _ _ => i

/-- The number that tells the register windows of R351 and the holder of R41 apart: the initiator, and the function
within initiator 4. -/
def whoKey : Who → Nat
  | .pf n => 1000 + n
  | w => whoInit w

/-- The world of a sender (R53). -/
def State.whoSecure (s : State) : Who → Bool
  | .pf n => n == 0 || bitOf (s.rd pgWorld WORLD_PF.SECURE) (n - 1)
  | .supervisor | .loader | .scrubber | .preflight => true
  | .intc sec => sec
  | .bridle k => s.on (pgTrack k) PAGE_WORLD.SECURE
  | .spool ch => s.on (pgChannel ch) PAGE_WORLD.SECURE
  | .tether p sec => sec && bitOf (s.rd pgWorld WORLD_TETHER_TRUST.TRUSTED) p
  | .fabric i => (mget (fun _ => ({} : FabPort)) s.fabPorts i).secure
  | .packet _ _ sec => sec

/-- The page whose header governs page `pg`: the Bridle control page for the mark and action windows (R45, R55), the
page itself otherwise. -/
def headerPage (pg : Nat) : Nat := if 0x1140 ≤ pg ∧ pg < 0x1200 then pgBridle else pg

/-- PAGE_WORLD.SECURE that governs the page (R51). -/
def State.pageSecure (s : State) (pg : Nat) : Bool := s.on (headerPage pg) PAGE_WORLD.SECURE

/-- The entry of a sparse map of plain numbers; unlisted entries read 0. -/
def nget (m : SMap Nat) (k : Nat) : Nat := mget (fun _ => 0) m k

def nset (m : SMap Nat) (k v : Nat) : SMap Nat := mset (fun _ => 0) m k v

/-- Word 0 of a WORLD_LOG entry (R58). -/
def worldLogWord0 (write ns : Bool) (kind init seq : Nat) : Word :=
  BitVec.ofNat 32 (2 ^ 31 + bnat write * 2 ^ 30 + bnat ns * 2 ^ 29 + kind % 16 * 2 ^ 24 + init % 128 * 2 ^ 16 + seq % 65536)

/-- The page of the block of initiator `i` (R46, R286, R299): for a fabric port the page of its panel. Initiators 19 and 24 serve
blocks of several pages, and 90 and 91 name no rigging initiator (R58). -/
def State.initPage (s : State) (i : Nat) : Option Nat :=
  if i = 0 then some pgSupv else if i = 1 then some pgLoad else if i = 2 then some pgScrub else if i = 3 then some pgPreflight
  else if i = 4 then some pgPcie else if i = 5 then some (pgIntc 0) else if i = 6 then some pgBridle
  else if i < 11 then some (pgEngine (i - 7)) else if i < 19 then some (pgTether (i - 11))
  else if i = 20 ∨ i = 21 then some pgPwr else if i = 22 then some pgSpar else if i = 23 then some (pgClk 0)
  else if i = 25 then some pgScrub
  else if 26 ≤ i ∧ i < 90 then (mget (fun _ => ({} : FabPort)) s.fabPorts i).panel.map pgPanel
  else none

/-- The log half of a world violation (R46, R55, R58): an entry at HEAD, which advances modulo 16, the count, and
PAGE_ERRSUM.WORLD of the block whose initiator made the access. -/
def State.logViolation (s : State) (write ns : Bool) (kind init lo hi : Nat) : State :=
  let e := s.rd pgWorld WORLD_LOG_HEAD.HEAD
  let base := pgWorld * 4096 + WORLD_LOG.WORD.off + 16 * e
  let s := ((s.setReg base (worldLogWord0 write ns kind init s.worldSeq)).setReg (base + 4) (BitVec.ofNat 32 lo)).setReg
    (base + 8) (BitVec.ofNat 32 hi)
  let s := s.setReg (base + 12) (BitVec.ofNat 32 s.stamp)
  let s := s.wr pgWorld WORLD_LOG_HEAD.HEAD ((e + 1) % 16)
  let s := s.inc pgWorld WORLD_LOG_COUNT.COUNT
  let s := match s.initPage init with | some pg => s.wr pg PAGE_ERRSUM.WORLD 1 | none => s
  { s with worldSeq := s.worldSeq + 1 }

/-- A world violation of an access to page `pg` (R55): logged, and PAGE_ERRSUM.WORLD set in the target page. -/
def State.violatePage (s : State) (a : Who) (write : Bool) (pg off : Nat) : State :=
  let kind := if headerPage pg = pg then 0 else 4
  (s.logViolation write (!s.whoSecure a) kind (whoInit a) (pg * 4096 + off) 0).wr (headerPage pg) PAGE_ERRSUM.WORLD 1

/-- A world violation of a target without a page of its own (R55): KIND 1 bank, 2 context region, 3 host window. -/
def State.violateOther (s : State) (a : Who) (write : Bool) (kind lo hi : Nat) : State :=
  (s.logViolation write (!s.whoSecure a) kind (whoInit a) lo hi).wr pgWorld PAGE_ERRSUM.WORLD 1

/-! ### Host windows (R56, R57) -/

/-- The world of a host address: that of the lowest-numbered enabled window that holds it; secure outside every window. -/
def State.hostSecure (s : State) (addr : Nat) : Bool :=
  match (List.range 16).find? (fun w =>
    let b := s.rd pgWorld (WIN_BASE_LO.BASE.at w) * 4096 + s.rd pgWorld (WIN_BASE_HI.BASE.at w) * 2 ^ 32
    s.on pgWorld (WIN_CTRL.ENABLE.at w) && s.rd pgWorld (WIN_SIZE.LOG2.at w) != 0 && b ≤ addr && addr < b + 2 ^ s.rd pgWorld (WIN_SIZE.LOG2.at w)) with
  | some w => s.on pgWorld (WIN_CTRL.SECURE.at w)
  | none => true

/-! ### Doorbells -/

/-- The controller is under function reset (R349). -/
def State.intcBusy (s : State) : Bool := s.on (pgIntc 0) PAGE_RESET.BUSY

/-- COUNT's maximum (R338, R62). -/
def State.srcMax (s : State) : Nat := if s.on (pgIntc 0) PAGE_COMPAT.LEGACY then 15 else 255

/-- SRC_STATE.STATE codes (R337). -/
def srcIdle : Nat := 0
def srcPending : Nat := 1
def srcDelivered : Nat := 2
def srcActive : Nat := 3

/-- The event half of R338: COUNT grows, and an IDLE source becomes PENDING. -/
def State.countEvent (s : State) (src : Nat) : State :=
  let s1 := if s.rd (pgSrc src) SRC_STATE.COUNT < s.srcMax then s.inc (pgSrc src) SRC_STATE.COUNT
            else s.wr (pgSrc src) SRC_STATE.OVF 1
  if s1.rd (pgSrc src) SRC_STATE.STATE = srcIdle then s1.wr (pgSrc src) SRC_STATE.STATE srcPending else s1

/-- The outcome of the checks of R335 on a doorbell value: a discard at step 1, 2 or 3, or an event of the source. -/
inductive DoorbellOutcome where
  | zero | range | world | event
  deriving DecidableEq, Repr

/-- The checks of R335, in order: the doorbell's world, the writer's world and the value. -/
def State.doorbellCheck (s : State) (dbSecure writerSecure : Bool) (v : Nat) : DoorbellOutcome :=
  if v = 0 then .zero
  else if 4096 ≤ v then .range
  else if (dbSecure && !writerSecure) || dbSecure != s.on (pgSrc v) SRC_CFG.SECURE then .world
  else .event

/-- ADDR of the Bridle sync port (R392). -/
def syncPort : Nat := 0x00090FF0

/-! ### Doorbells as MSGs (R292, R297) -/

/-- A MSG is posted at initiator `init` for target `t` of device `dev` (R292, R297): it waits at the interface for a token. -/
def State.postMsg (s : State) (who : Who) (init dev t addr tag gen : Nat) (ns : Bool) (data : List Byte) : State :=
  let pl := targetPlace t
  let m : Packet := { node := (initPlace init).1, la := 7, dstNode := pl.1, dstPort := pl.2, dstDev := dev, srcInit := init,
                      srcDev := s.rd (pgTether 0) TETHER_ARRAY.DEVNUM, who := who, tag := tag, gen := gen, opc := 4, epoch := s.rd pgRig RIG_EPOCH.CURRENT,
                      ns := ns, bytes := data.length, addr := addr, data := data, target := t, inj := s.ns }
  let same (q : Packet) : Bool := q.addr == syncPort && addr == syncPort && q.gen == 0 && gen == 0 && q.dstDev == dev && q.tag == tag
  { s with rig := { s.rig with msgs := if s.rig.msgs.any same then s.rig.msgs.map (fun q => if same q then m else q) else s.rig.msgs ++ [m] } }

/-- A doorbell of the given world with value `v` is posted at initiator `init` (R292, R336); `pg` is the page whose field rings. -/
def State.postDoorbell (s : State) (init pg : Nat) (secure : Bool) (v : Nat) : State :=
  s.postMsg (.packet init pg secure) init (s.rd (pgTether 0) TETHER_ARRAY.DEVNUM) 109
    ((if secure then pgIntc 0 else pgIntc 1) * 4096 + 0x40) 0 0 (!secure) (bytesLE 4 v)

/-- An event bit of the controller itself: when it rises and its mask bit is 1, initiator 5 rings INTC_EVENT_SRC (R336, R344). -/
def State.intcEvent (s : State) (bit : Fld) : State :=
  if s.on (pgIntc 0) bit then s
  else
    let s := s.wr (pgIntc 0) bit 1
    let src := s.rd (pgIntc 0) INTC_EVENT_SRC.SOURCE
    if bitOf (s.rd (pgIntc 0) INTC_EVENT_MASK.MASK) bit.lo && src != 0 then s.postDoorbell 5 (pgIntc 0) true src else s

/-- A doorbell reaches the controller (R335, R349): `db` is the doorbell's world, `ws` the writer's. `hi` is the address of the ringing
page for INITIATOR 91, and its page for the blocks of several pages, whose PAGE_ERRSUM.WORLD a violation sets (R46). -/
def State.takeDoorbell (s : State) (db ws : Bool) (v init hi : Nat) : State :=
  if s.intcBusy then s.inc (pgIntc 0) INTC_DB_RESET_CNT.COUNT
  else match s.doorbellCheck db ws v with
    | .zero => (s.inc (pgIntc 0) INTC_DB_REJ_ZERO.COUNT).intcEvent INTC_EVENT.DB_REJECT
    | .range => (s.inc (pgIntc 0) INTC_DB_REJ_RANGE.COUNT).intcEvent INTC_EVENT.DB_REJECT
    | .world =>
      let pg := if db then pgIntc 0 else pgIntc 1
      let s := (s.inc (pgIntc 0) INTC_DB_REJ_WORLD.COUNT).logViolation true (!ws) 0 init (pg * 4096 + 0x40) (if init = 91 then hi else 0)
      let s := if init = 19 ∨ init = 24 then s.wr hi PAGE_ERRSUM.WORLD 1 else s
      (s.wr pg PAGE_ERRSUM.WORLD 1).intcEvent INTC_EVENT.DB_REJECT
    | .event =>
      let full := s.rd (pgSrc v) SRC_STATE.COUNT ≥ s.srcMax
      let s := (s.countEvent v).inc (pgIntc 0) INTC_DB_CNT.COUNT
      if full then s.intcEvent INTC_EVENT.OVF else s

/-- INITIATOR of a doorbell rung by a register field of page `pg` (R58). -/
def pageInitiator (pg : Nat) : Nat :=
  match pageOf pg with
  | some (.supvMbox, _) => 0
  | some (.load, _) => 1
  | some (.preflight, _) => 3
  | some (.pcie, _) => 4
  | some (.intc0, _) | some (.intc1, _) | some (.intcT, _) => 5
  | some (.bridle, _) | some (.track, _) => 6
  | some (.engine, e) => 7 + e
  | some (.channel, ch) => 7 + ch / 16
  | some (.tether, p) => 11 + p
  | some (.fio, _) | some (.plug, _) => 19
  | some (.pwr, _) | some (.pwrMon, _) | some (.fray, _) => 20
  | some (.sparCtl, _) | some (.sparBlk, _) => 22
  | some (.clk0, _) | some (.clk1, _) | some (.clkPll, _) | some (.clkDom, _) => 23
  | some (.lane, _) => 24
  | some (.scrub, _) => 25
  | _ => 91

/-- A register field of page `pg` that names source `v` rings (R336): the page's world chooses the doorbell; 0 rings nothing. The
doorbell travels as MSG from the block's initiator (R292); that of a block without one reaches the controller at once (DESIGN CHOICE: R58
gives no interface from which it travels; log entry 69). -/
def State.ringFrom (s : State) (pg v init : Nat) : State :=
  if v = 0 then s
  else if init = 91 then s.takeDoorbell (s.pageSecure pg) (s.pageSecure pg) v init (pg * 4096)
  else s.postDoorbell init pg (s.pageSecure pg) v

/-- Set an event bit of page `pg`; when it rises and its mask bit is 1, ring the event source. Log entry 8. -/
def State.raise (s : State) (pg : Nat) (ev mask src : Fld) : State :=
  if s.on pg ev then s
  else
    let s := s.wr pg ev 1
    if bitOf (s.rd pg mask) (ev.lo - mask.lo) then
      s.ringFrom pg (s.rd pg src) (if pg = pgPwr ∧ 0x200 ≤ ev.off then 21 else pageInitiator pg)
    else s

/-- INTC_EVENT bits raised by the controller itself (R341, R344). -/
def State.raiseIntc (s : State) (bit : Fld) : State :=
  s.raise (pgIntc 0) bit INTC_EVENT_MASK.MASK INTC_EVENT_SRC.SOURCE

/-! ### Panels, regions and banks as the access checks see them -/

def zeroPanel : Panel := {}
def zeroColumn : Column := {}

def State.panel (s : State) (p : Nat) : Panel := mget (fun _ => zeroPanel) s.panels p
def State.setPanel (s : State) (p : Nat) (x : Panel) : State := { s with panels := mset (fun _ => zeroPanel) s.panels p x }
def State.column (s : State) (c : Nat) : Column := mget (fun _ => zeroColumn) s.columns c
def State.setColumn (s : State) (c : Nat) (x : Column) : State :=
  { s with columns := mset (fun _ => zeroColumn) s.columns c x }

/-- REGION_MAP[r] fields. -/
def State.regionCommitted (s : State) (r : Nat) : Bool := s.on pgReset (REGION_MAP.COMMITTED.at r)
def State.regionDefined (s : State) (r : Nat) : Bool := s.on pgReset (REGION_MAP.DEFINED.at r)
def State.regionPart (s : State) (r : Nat) : Nat := s.rd pgReset (REGION_MAP.PARTITION.at r)

/-- Every defined region is committed, with no commit edge to come (R466). -/
def State.allCommitted (s : State) : Bool :=
  s.load.edges.isEmpty && (List.range 64).all (fun r => !s.regionDefined r || s.regionCommitted r)

/-- The panel's region is committed, and the panel has had its commit edge (R453). -/
def State.committed (s : State) (p : Nat) : Bool :=
  match (s.panel p).region with
  | some r => s.regionCommitted r && !s.load.edges.contains p
  | none => false

/-- The partition of the panel's region; a panel in no region belongs to partition 0 (R59). -/
def State.panelPart (s : State) (p : Nat) : Nat :=
  match (s.panel p).region with
  | some r => s.regionPart r
  | none => 0

/-- The panel lies in a region of partition `n` (R41). -/
def State.panelInPart (s : State) (p n : Nat) : Bool :=
  match (s.panel p).region with
  | some r => s.regionPart r == n
  | none => false

def zeroBank : Bank := {}
def State.bank (s : State) (b : Nat) : Bank := mget (fun _ => zeroBank) s.banks b
def State.setBank (s : State) (b : Nat) (x : Bank) : State := { s with banks := mset (fun _ => zeroBank) s.banks b x }

/-- The panel on the bank's side (R256): bank A serves the Lower Sail panel of its column, bank B the Upper. -/
def bankPanel (b : Nat) : Nat := if b % 2 = 0 then b / 2 else 288 + b / 2

/-- The partition of a bank (R260). -/
def State.bankPart (s : State) (b : Nat) : Nat :=
  match (s.bank b).kind with
  | 1 => s.panelPart (bankPanel b)
  | 2 | 3 => (s.bank b).part
  | _ => 0

/-! ### The checks of an access (R42) -/

/-- Step 2: function PF `n` sees page `pg` (R41). -/
def State.pfSees (s : State) (n pg : Nat) : Bool :=
  match pageOf pg with
  | some (.ident, _) | some (.ready, _) | some (.intc1, _) | some (.intcT, _) => true
  | some (.panel, p) => s.panelInPart p n
  | some (.tile, c) =>
    s.bankPart (2 * c) == n || s.bankPart (2 * c + 1) == n || s.panelInPart c n || s.panelInPart (288 + c) n
  | some (.channel, ch) => s.rd (pgChannel ch) CH_PART.PART == n
  | _ => false

def State.visible (s : State) (w : Who) (pg : Nat) : Bool :=
  match w with
  | .pf 0 => true
  | .pf n => s.pfSees n pg
  | _ => true

/-- Step 3: the world of the sender admits the page (R51). -/
def State.worldAdmits (s : State) (w : Who) (pg : Nat) : Bool := s.whoSecure w || !s.pageSecure pg

/-- Offset of the Bridle sync port in the Bridle control page (R392). -/
def syncPortOff : Nat := 0xFF0

/-- The registers that step 3 passes over (R46, R52): PAGE_ID to PAGE_READY for reads, LOAD_STREAM for writes, and the Bridle sync
port. -/
def worldExempt (write : Bool) (pg off : Nat) : Bool :=
  (!write && headerPage pg == pg && off < 0x10) || (write && pg == pgLoad && 0x200 ≤ off && off < 0x400) ||
  (pg == pgBridle && off == syncPortOff)

/-- The page is still initialising after a reset: NOT_READY with reason 0x01 (R464, R465). Log entry 9 says which point
of the timeline each page that R464 does not name waits for. -/
def State.initialising (s : State) (pg : Nat) : Bool :=
  let keel := s.warm == 1
  let stage (b : Fld) : Bool := !s.on pgReady b
  match pageOf (headerPage pg) with
  | some (.ident, _) | some (.supvMbox, _) | some (.world, _) | some (.reset, _) | some (.ready, _) => keel || stage READY_SUM.SUPV
  | some (.clk0, _) | some (.clk1, _) | some (.clkPll, _) | some (.clkDom, _) => keel || stage READY_SUM.CLOCKS
  | some (.pwr, _) | some (.pwrMon, _) | some (.fray, _) => keel || stage READY_SUM.REGULATORS
  | some (.bridle, _) | some (.track, _) => keel || stage READY_SUM.BRIDLE
  | some (.sparCtl, _) | some (.sparBlk, _) => stage READY_SUM.CENSUS
  | some (.panel, _) | some (.sailHead, _) | some (.scrub, _) | some (.preflight, _) => stage READY_SUM.CENSUS
  | some (.ballast, _) => stage READY_SUM.BANKS
  | some (.tile, _) => stage READY_SUM.CENSUS
  | some (.pcie, _) => keel || stage READY_SUM.PCIE_TRAIN
  | some (.load, _) => keel || stage READY_SUM.LOAD_STARTED
  | some (.lane, _) | some (.tether, _) => keel || stage READY_SUM.CENSUS
  | some _ => keel || stage READY_SUM.CLOCKS
  | none => true

/-- The bits of a register that some field covers; the rest are reserved (R8). -/
def usedBits (rs : List FieldRow) : Word := rs.foldl (fun w r => w ||| maskF r.fld.lo r.fld.len) 0

/-- A value lies in one of the ranges; an empty list accepts everything. -/
def inRanges (rng : List (Nat × Nat)) (v : Nat) : Bool := rng.isEmpty || rng.any (fun r => r.1 ≤ v && v ≤ r.2)

/-- The field ranges, the reserved bits and the RWL lock accept value `v` over `old` (R4, R7, R8). -/
def valueAccepted (rs : List FieldRow) (lock : Bool) (old v : Word) : Bool :=
  (v &&& ~~~ usedBits rs) == 0 &&
  rs.all (fun r =>
    match r.acc with
    | .rw => inRanges r.rng (getF v r.fld.lo r.fld.len)
    | .rwl => inRanges r.rng (getF v r.fld.lo r.fld.len) && (!lock || getF v r.fld.lo r.fld.len == getF old r.fld.lo r.fld.len)
    | _ => true)

/-- What an accepted write leaves in the register (R4). -/
def applyWrite (rs : List FieldRow) (old v : Word) : Word :=
  rs.foldl (fun w r =>
    let o := getF old r.fld.lo r.fld.len
    let n := getF v r.fld.lo r.fld.len
    match r.acc with
    | .rw | .rwl => setF w r.fld.lo r.fld.len n
    | .w1c => setF w r.fld.lo r.fld.len (o - (o &&& n))
    | .w1s => setF w r.fld.lo r.fld.len (o ||| n)
    | .ro | .wo => w) old

/-- R11, for a register that held `old` before the write and holds `w` after it: W1C bits that the hardware set in the write's cycle stay
set, and a counter written to 0 reads the events of that cycle. -/
def keepSame (rs : List FieldRow) (old same w : Word) : Word :=
  rs.foldl (fun w r =>
    let x := getF same r.fld.lo r.fld.len
    let o := getF old r.fld.lo r.fld.len
    match r.acc with
    | .w1c => setF w r.fld.lo r.fld.len (getF w r.fld.lo r.fld.len ||| (o &&& x))
    | .rw => if r.rng = [(0, 0)] then setF w r.fld.lo r.fld.len (min o x) else w
    | _ => w) w

/-- What the checks of R42 decide. -/
inductive Gate where
  | ur | ca | reject | pass
  deriving DecidableEq, Repr

/-- Steps 1 to 3 of R42, for a read or a write. -/
def State.reachGate (s : State) (w : Who) (write : Bool) (pg off : Nat) : Gate :=
  if !assigned pg then .ur
  else if !s.visible w pg then .ur
  else if worldExempt write pg off then .pass
  else if !s.worldAdmits w pg then .ca
  else .pass

/-- The page accepts writes at that offset now: not IDENT or READY (R47), not under function reset (R48) or
initialising (R465), not locked expert registers (R50); without expert registers the offsets from 0x400 up are reserved. -/
def State.pageAccepts (s : State) (pg off : Nat) : Bool :=
  match pageOf pg with
  | some (.ident, _) | some (.ready, _) => false
  | some (k, _) =>
    let h := headerPage pg
    (off < 0x40 && hasHeader k || (!s.on h PAGE_RESET.BUSY && !s.initialising pg)) &&
    (off < 0x400 || !capExpert k || s.on h PAGE_EXPERT.UNLOCKED)
  | none => false

/-- The four checks of R42 on a register write of value `v`. -/
def State.writeGate (s : State) (a : Access) (pg off : Nat) (v : Word) : Gate :=
  match s.reachGate a.who true pg off with
  | .pass =>
    match pageOf pg with
    | some (k, i) =>
      if a.be = 15 ∧ s.pageAccepts pg off = true ∧
         valueAccepted (rowsAt k i off) (s.on (headerPage pg) PAGE_WORLD.LOCK) (s.reg (pg * 4096 + off)) v = true
      then .pass else .reject
    | none => .ur
  | g => g

/-- R7: a rejection leaves the register, sets PAGE_ERRSUM.REJECT and counts in PAGE_REJCNT. -/
def State.rejectWrite (s : State) (pg : Nat) : State :=
  ((s.wr (headerPage pg) PAGE_ERRSUM.REJECT 1).inc (headerPage pg) PAGE_REJCNT.COUNT).respond .rejected 0

/-- The source that the writer has selected (R351). -/
def State.selOf (s : State) (w : Who) : Nat := nget s.srcSel (whoKey w)

/-- The page that holds the registers which a writer sees at `off` of page `pg`: those of the selected initiator (R309) or source (R351), or
the page's own. -/
def State.homePage (s : State) (w : Who) (pg off : Nat) : Nat :=
  if pg = pgRig ∧ 0x50 ≤ off ∧ off < 0xB0 then pgRigInit (s.rd pgRig RIG_INIT_SEL.INIT)
  else if pg = pgIntc 1 ∧ 0x48 ≤ off ∧ off < 0x54 then pgSrc (s.selOf w)
  else pg

/-- The register at `off` of page `home`, seen at page `pg` and `old` before its write, keeps what the hardware did in the cycle of the
write (R11). RIG_ST_LAT is no counter, and RIG_ST_BYTES is held elsewhere. -/
def State.withSame (s : State) (pg home off : Nat) (old same : Word) : State :=
  if same = 0 ∨ (pg = pgRig ∧ (off = RIG_ST_LAT.MIN.off ∨ off = RIG_ST_BYTES_LO.BYTES.off ∨ off = RIG_ST_BYTES_HI.BYTES.off)) then s
  else
    match pageOf pg with
    | some (k, i) => s.setReg (home * 4096 + off) (keepSame (rowsAt k i off) old same (s.reg (home * 4096 + off)))
    | none => s

/-- A register write through the checks of R42: where they pass, `body` makes the write's effect, or refuses it by a rule
of its own (`none`), which is a rejection as in R7. -/
def State.gatedWrite (s : State) (a : Access) (pg off : Nat) (v : Word) (body : State → Option State) : State :=
  match s.writeGate a pg off v with
  | .ur => s.respond .ur 0
  | .ca => (s.violatePage a.who true pg off).respond .ca 0
  | .reject => s.rejectWrite pg
  | .pass =>
    match body (s.respond .ok 0) with
    | some t => t.withSame pg (s.homePage a.who pg off) off (s.reg (s.homePage a.who pg off * 4096 + off)) a.same
    | none => s.rejectWrite pg

/-- A register write that makes a world check of its own on what it names (R42): `deny` answers the state after the violation
where that check fails, which is a failure at step 3. -/
def State.gatedWriteW (s : State) (a : Access) (pg off : Nat) (v : Word) (deny : State → Option State)
    (body : State → Option State) : State :=
  match s.reachGate a.who true pg off, deny s with
  | .pass, some t => t.respond .ca 0
  | _, _ => s.gatedWrite a pg off v body

/-- A register read through the checks of R42: `body` makes its effect and its completion. Reads of a page under
function reset or initialising return 0 beyond the header (R48, R465). -/
def State.gatedRead (s : State) (a : Access) (pg off : Nat) (body : State → State) : State :=
  match s.reachGate a.who false pg off with
  | .ur => s.respond .ur 0
  | .ca => (s.violatePage a.who false pg off).respond .ca 0
  | .reject => s
  | .pass =>
    if off ≥ 0x40 ∧ (s.on (headerPage pg) PAGE_RESET.BUSY = true ∨ s.initialising pg = true) then s.respond .ok 0
    else body s

/-- A register read that makes a world check of its own on what it names (R42). -/
def State.gatedReadW (s : State) (a : Access) (pg off : Nat) (deny : State → Option State) (body : State → State) : State :=
  match s.reachGate a.who false pg off, deny s with
  | .pass, some t => t.respond .ca 0
  | _, _ => s.gatedRead a pg off body

/-- The plain effect of an accepted write: the fields take their new values (R4). -/
def State.storeReg (s : State) (pg off : Nat) (v : Word) : State :=
  match pageOf pg with
  | some (k, i) => s.setReg (pg * 4096 + off) (applyWrite (rowsAt k i off) (s.reg (pg * 4096 + off)) v)
  | none => s

/-- A command that names a unit the device does not have faults (log entry 4). -/
def guardUnit (ok : Bool) (t : State) : Host.Outcome State Fault Refusal :=
  if ok then .next t else .fault .noSuchUnit

/-- A new commit or burn is not admitted (R424, R426, R475): PF_WARN is 1, or the plug groups have not left their power-fail state
yet. -/
def State.pfBlocked (s : State) : Bool := s.on pgPwr PWR_STATUS.PF_WARN || s.on pgPwr PWR_STATUS.PF_HELD

/-- The packets under way are `ps`. -/
def State.setPackets (s : State) (ps : List Packet) : State := { s with rig := { s.rig with packets := ps } }

end Sys2Proof.Machine
end

