-- ==== Sys2Proof/Machine/ClkOps.lean ====
section
/-! DEFINITION. Clock domains, the gating tree and whether a panel receives its clock (R110, R404 to R409). -/

namespace Sys2Proof.Machine

open Sys2Proof

/-- The page of domain `i` (R418). -/
def pgDom (i : Nat) : Nat := pgClk (4 + i / 80)

/-- A field of domain `i`'s registers. -/
def State.rdDom (s : State) (i : Nat) (f : Fld) : Nat := s.rd (pgDom i) (f.at (i % 80))
def State.wrDom (s : State) (i : Nat) (f : Fld) (v : Nat) : State := s.wr (pgDom i) (f.at (i % 80)) v

/-- The page of fabric PLL `p` (R417). -/
def pgPll (p : Nat) : Nat := pgClk (2 + p / 12)

def State.rdPll (s : State) (p : Nat) (f : Fld) : Nat := s.rd (pgPll p) (f.at (p % 12))
def State.wrPll (s : State) (p : Nat) (f : Fld) (v : Nat) : State := s.wr (pgPll p) (f.at (p % 12)) v

/-- The column and the Sail of a panel (R3). -/
def colOf (p : Nat) : Nat := p % 288
def sailOf (p : Nat) : Nat := p / 288

/-- The clock region of a panel, which is also its domain (R110). -/
def clockRegion (p : Nat) : Nat := 72 * sailOf p + 8 * (colOf p / 16 / 2) + colOf p % 16 / 2

/-- The code names one output of one fabric PLL (R400). -/
def isFpllOutput (code : Nat) : Bool := 0x40 ≤ code && code < 0xA0

def pgClk0 : Nat := pgClk 0

/-- The source that makes a clock code (R400): none for OFF and for lanes. -/
def codeSource (code : Nat) : Option Nat :=
  if code = 0x01 then some 0
  else if 0x10 ≤ code ∧ code ≤ 0x12 then some 4
  else if code = 0x18 ∨ code = 0x19 then some 5
  else if isFpllOutput code then some (8 + (code - 0x40) / 4)
  else none

/-- Divider of output `o` (R417). -/
def fpllDiv (o : Nat) : Fld := FPLL_DIV.D0.lane o

/-- Frequency of XA in Hz by XA_SEL; 0 when absent (R401). -/
def xaHz (sel : Nat) : Nat :=
  match sel with
  | 0 | 3 => 25000000
  | 1 => 40000000
  | 2 | 4 => 50000000
  | 5 => 100000000
  | 6 => 200000000
  | _ => 0

/-- Frequency of XB in Hz by XB_SEL; 0 when absent or not declared (R401). -/
def State.xbHz (s : State) : Nat :=
  if s.straps.xbSel = 1 then 32768 else if s.straps.xbSel = 2 then 1000 * s.rd pgClk0 CLK_XB_KHZ.KHZ else 0

/-- Frequency in Hz of a fabric PLL's reference (R403); 0 when it is absent. XB serves in external mode only. -/
def State.refHz (s : State) (ref : Nat) : Nat :=
  match ref with
  | 0 => xaHz s.straps.xaSel
  | 1 => if s.straps.xbSel = 2 then s.xbHz else 0
  | _ => 400000000

/-- VCO frequency of fabric PLL `p` in Hz, times 65,536 R (R403). -/
def State.vcoScaled (s : State) (p : Nat) : Nat :=
  s.refHz (s.rdPll p FPLL_CTRL.REF) * (s.rdPll p FPLL_CTRL.N * 65536 + s.rdPll p FPLL_FRAC.FRAC)

/-- The parent of a gate node (R408); 341 for a root and for the spare domains, which the tree gives no branch. -/
def gateParent (n : Nat) : Nat :=
  if n < 144 then 320 + 2 * (n / 72) + n % 8 / 4
  else if n < 180 then 324
  else if n < 198 then 325
  else if n < 262 then 326 + (n - 198) / 8
  else if n < 302 then 334
  else if n < 315 then 335
  else if n = 315 then 336
  else if n < 320 then 341
  else if n < 324 then 337
  else if n < 326 then 338
  else if n < 334 then 340
  else if n < 337 then 339
  else 341

/-- The gate of a node is open. -/
def State.gateOn (s : State) (n : Nat) : Bool := nget s.gatesClosed n == 0

/-- A clock reaches leaf `n`: the leaf, its branch and its root are on (R408). -/
def State.leafOn (s : State) (n : Nat) : Bool :=
  s.gateOn n && s.gateOn (gateParent n) && s.gateOn (gateParent (gateParent n))

def State.setGate (s : State) (n : Nat) (on : Bool) : State := { s with gatesClosed := nset s.gatesClosed n (bnat (!on)) }

/-- Domain `i` delivers the edges of a source (R406, R411). -/
def State.domRuns (s : State) (i : Nat) : Bool :=
  s.rdDom i CLK_DOM_SWITCH.DONE == 1 && s.rdDom i CLK_DOM_SWITCH.STOPPED == 0 && s.rdDom i CLK_DOM_SWITCH.LIVE_SRC != 0

/-- The domain of panel `p` delivers edges to it: those of a source, or the two of the old source at which a change starts (R406). -/
def State.panelRuns (s : State) (p : Nat) : Bool := s.domRuns (clockRegion p) || nget s.oldEdges p != 0

/-- Panel `p` has received an edge: one fewer is left of the two at which a change of its source starts (R406). -/
def State.usedEdge (s : State) (p : Nat) : State :=
  if nget s.oldEdges p = 0 then s else { s with oldEdges := nset s.oldEdges p (nget s.oldEdges p - 1) }

/-- The panels of clock region `i`, and 576 for the Bridle's domain: what receives the edges counted in `oldEdges`. -/
def edgeTakers (i : Nat) : List Nat := if i = 315 then [576] else (List.range 576).filter (fun p => clockRegion p == i)

/-- The domain's takers have `n` more edges of the old source to come. -/
def State.leaveEdges (s : State) (i n : Nat) : State :=
  { s with oldEdges := (edgeTakers i).foldl (fun m p => nset m p n) s.oldEdges }

/-! ### System domains on HFOSC (R412) -/

/-- System domain `i` runs on HFOSC. -/
def State.domSlow (s : State) (i : Nat) : Bool := s.rdDom i CLK_DOM_SWITCH.LIVE_SRC == 1

/-- The Bridle runs on HFOSC, at 2.5 ns a cycle. -/
def State.bridleSlow (s : State) : Bool := s.domSlow 315

/-- `n` Bridle cycles in nanoseconds of BRIDLE_NS; half a nanosecond counts whole. -/
def State.cycles (s : State) (n : Nat) : Nat := if s.bridleSlow then (5 * n + 1) / 2 else n

/-- By how much BRIDLE_NS advances in the present nanosecond: not at all while its domain switches, after two last cycles (R406); on HFOSC two cycles of 2.5 ns in
every 5 ns, of which BRIDLE_NS shows the whole nanoseconds. -/
def State.bridleStep (s : State) : Nat :=
  if s.rdDom 315 CLK_DOM_SWITCH.DONE = 0 ∧ nget s.oldEdges 576 = 0 then 0
  else if s.bridleSlow then (if s.ns % 5 = 3 then 2 else if s.ns % 5 = 0 then 3 else 0)
  else 1

/-- `n` sampling cycles of I/O bank `b` in nanoseconds: its filters lengthen by 2.5 times. -/
def State.bankCycles (s : State) (b n : Nat) : Nat := if s.domSlow (302 + b) then (5 * n + 1) / 2 else n

/-! ### Whether a panel receives its clock -/

/-- DEV_STATE.STATE codes (R477). -/
def devRun : Nat := 0
def devHold : Nat := 1
def devPark : Nat := 2
def devEntering : Nat := 3
def devWaking : Nat := 4

def State.devState (s : State) : Nat := s.rd pgReset DEV_STATE.STATE

/-- The Sails are off: in PARK, or waking from it. -/
def State.sailsOff (s : State) : Bool := s.devState == devPark || s.devState == devWaking

/-- PANEL_STATUS.CLK_RUN: the panel clock reaches the panel (R103, R535): not in PARK, nor on the way there (R471). DESIGN CHOICE (log
entry 62): in ENTERING no gate write brings it back. -/
def State.clkRun (s : State) (p : Nat) : Bool :=
  let x := s.panel p
  s.committed p && x.grounded == 0 && !s.sailsOff && s.devState != devEntering && !x.govGated && !x.underTest && s.panelRuns p && s.leafOn (clockRegion p)

/-- The frequency of panel `p`'s clock is above `mhz` MHz: HFOSC gives 400 MHz, an output of a fabric PLL its VCO by D (R400, R403). -/
def State.panelAbove (s : State) (p mhz : Nat) : Bool :=
  let code := s.rdDom (clockRegion p) CLK_DOM_SWITCH.LIVE_SRC
  let q := (code - 0x40) / 4
  if isFpllOutput code then mhz * 1000000 * (65536 * s.rdPll q FPLL_CTRL.R * s.rdPll q (fpllDiv (code % 4))) < s.vcoScaled q
  else mhz < 400

end Sys2Proof.Machine
end

