-- ==== Sys2Proof/Machine/GovOps.lean ====
section
/-! DEFINITION. The updraft governor's shared operations (chapter 09): heat classes, the column rule, the two budgets and
the work that the governor holds. -/

namespace Sys2Proof.Machine

open Sys2Proof

/-- HEAT of slot `n` of panel `p`: 0 COOL, 1 WARM, 2 HOT (R132). -/
def State.slotHeat (s : State) (p n : Nat) : Nat := s.rd (pgPanel p) (PANEL_PLANE_SLOT.HEAT.at n)

/-- The heat class of a panel (R232); a panel under preflight test counts as HOT (R483). -/
def State.heatOf (s : State) (p : Nat) : Nat :=
  if (s.panel p).underTest then 2
  else if !s.committed p || (s.panel p).grounded != 0 || s.sailsOff then 0
  else s.slotHeat p (s.rd (pgPanel p) PANEL_PLANE_STATE.ACTIVE)

def State.raiseGov (s : State) (bit : Fld) : State := s.raise pgPwr bit GOV_EVENT_MASK.MASK GOV_EVENT_SRC.SOURCE

/-- Bits of GOV_HELD_MAP. -/
def State.columnHeld (s : State) (c : Nat) : Bool := bitOf (s.rd pgPwr (GOV_HELD_MAP.HELD.at (c / 32))) (c % 32)

/-- Windows run once the Bridle counts (R233). -/
def State.windowsRun (s : State) : Bool := s.on pgBridle BRIDLE_STATUS.COUNTING

/-- A violation of the column rule that is recorded (R234, R235): once per column and window. -/
def State.recordViolation (s : State) (c : Nat) : State :=
  if s.gov.violated.contains c then s
  else
    let s := { s with gov := { s.gov with violated := c :: s.gov.violated } }
    let s := (s.inc pgPwr GOV_STAGGER_CNT.COUNT).wr pgPwr GOV_STAGGER_LAST.COLUMN c
    (s.wr pgPwr GOV_STAGGER_LAST.VALID 1).raiseGov GOV_EVENT.STAGGER_VIOLATION

/-- A switch of panel `p` to slot `n` would break the column rule (R234). -/
def State.breaksRule (s : State) (p n : Nat) : Bool :=
  s.windowsRun && s.slotHeat p n == 2 && nget s.gov.owner (colOf p) != 0 && nget s.gov.owner (colOf p) != sailOf p + 1

/-- A panel that is HOT at an edge of a window without owner owns its column (R234). -/
def State.takeOwner (s : State) (p : Nat) : State :=
  if s.windowsRun && s.heatOf p == 2 && nget s.gov.owner (colOf p) == 0 then
    { s with gov := { s.gov with owner := nset s.gov.owner (colOf p) (sailOf p + 1) } }
  else s

/-- Budgets per window (R241). -/
def State.swapBudget (s : State) : Nat := 57600 * s.gov.len
def State.fillBudget (s : State) : Nat := 576 * s.gov.len

/-- A fill starts (R241, R242): counted, and pinned work alone over the budget is recorded once per window. -/
def State.countFill (s : State) (pinned : Bool) : State :=
  let g := { s.gov with fills := s.gov.fills + 1, pinnedFills := s.gov.pinnedFills + bnat pinned }
  let s := { s with gov := g }
  if pinned && g.pinnedFills > s.fillBudget && !g.pfOver && s.windowsRun then
    ({ s with gov := { g with pfOver := true } }.inc pgPwr GOV_PF_OVER_CNT.COUNT).raiseGov GOV_EVENT.PF_OVER
  else s

/-- Rows move over a row path (R174, R241, R242). -/
def State.countRows (s : State) (n : Nat) (pinned : Bool) : State :=
  let g := { s.gov with
    rows := s.gov.rows + n
    pinnedRows := s.gov.pinnedRows + (if pinned then n else 0)
    reserved := if pinned then s.gov.reserved else s.gov.reserved - n }
  let s := { s with gov := g }
  if pinned && g.pinnedRows > s.swapBudget && !g.swapOver && s.windowsRun then
    ({ s with gov := { g with swapOver := true } }.inc pgPwr GOV_SWAP_OVER_CNT.COUNT).raiseGov GOV_EVENT.SWAP_OVER
  else s

/-- A deferrable prefetch is admitted now (R241, R242). -/
def State.admitsFill (s : State) : Bool := !s.windowsRun || (s.gov.fills + 1 ≤ s.fillBudget && !s.gov.pfOver)

/-- Rows that a swap of `n` quarters is taken to move at its admission (R241). -/
def admissionRows (full : Bool) (n : Nat) : Nat := if full then 16 else 4 * n

/-- A deferrable swap of `rows` rows is admitted now (R241): the window's count holds the rows already admitted too. -/
def State.admitsSwap (s : State) (rows : Nat) : Bool :=
  !s.windowsRun || (s.gov.rows + s.gov.reserved + rows ≤ s.swapBudget && !s.gov.swapOver)

/-- An admitted deferrable swap reserves its rows. -/
def State.reserveRows (s : State) (rows : Nat) : State :=
  { s with gov := { s.gov with reserved := s.gov.reserved + rows } }

end Sys2Proof.Machine
end

