-- ==== Sys2Proof/Machine/Frames.lean ====
section
/-! DEFINITION. The slots of a panel and the frames of its planes (R66, R130 to R132, R134). -/

namespace Sys2Proof.Machine

open Sys2Proof

/-! ### Slots -/

def State.activeSlot (s : State) (p : Nat) : Nat := s.rd (pgPanel p) PANEL_PLANE_STATE.ACTIVE
def State.slotValid (s : State) (p n : Nat) : Bool := s.on (pgPanel p) (PANEL_PLANE_SLOT.VALID.at n)
def State.slotQuarter (s : State) (p n : Nat) : Bool := s.on (pgPanel p) (PANEL_PLANE_SLOT.QUARTER.at n)
def State.slotBad (s : State) (p n : Nat) : Bool := s.on (pgPanel p) (PANEL_PLANE_SLOT.BAD.at n)

/-- The active plane is a quarter-mode plane (R66). -/
def State.quarterMode (s : State) (p : Nat) : Bool := s.slotQuarter p (s.activeSlot p)

/-! ### Frames (R130 to R132) -/

def State.frame (s : State) (a : Nat) : Frame := mget (fun _ => ({} : Frame)) s.frames a
def State.setFrame (s : State) (a : Nat) (f : Frame) : State := { s with frames := mset (fun _ => ({} : Frame)) s.frames a f }

/-- The address of frame `f` of slot `n` of panel `p` (R131). -/
def frameAddr (p n f : Nat) : Nat := sailOf p * 2 ^ 19 + colOf p * 2 ^ 10 + n * 2 ^ 7 + f

/-- COLUMN of a frame address, 0 to 511. -/
def frameColumn (a : Nat) : Nat := a / 2 ^ 10 % 2 ^ 9

/-- The panel and the slot of a frame address. -/
def framePanel (a : Nat) : Nat := 288 * (a / 2 ^ 19 % 2) + a / 2 ^ 10 % 2 ^ 9
def frameSlot (a : Nat) : Nat := a / 2 ^ 7 % 8

/-- RISER_DRIVE of slot `n` of panel `p` (R132). -/
def State.slotRisers (s : State) (p n : Nat) : BitVec 1024 := (s.frame (frameAddr p n 0)).data.extractLsb' 0 1024

/-- The risers that some valid plane of panel `p` drives (R118). -/
def State.risersOf (s : State) (p : Nat) : BitVec 1024 :=
  ((List.range 8).filter (s.slotValid p)).foldl (fun m n => m ||| s.slotRisers p n) 0

end Sys2Proof.Machine
end

