-- ==== Sys2Proof/Machine/RiserOps.lean ====
section
/-! DEFINITION. Risers: which driver may drive, what the keepers hold, and the border holds of a panel's wires (R112 to R128). Log entry
62. -/

namespace Sys2Proof.Machine

open Sys2Proof

/-- RISER_HELD bit of riser `r` of column `c`. -/
def State.riserHeld (s : State) (c r : Nat) : Bool := bitOf (s.rd (pgSparBlk c) (RISER_HELD.HELD.at (r / 32))) (r % 32)

/-- The group of riser `r` is disabled (R34). -/
def State.riserDead (s : State) (c r : Nat) : Bool := bitOf (s.column c).deadGroups (r / 64)

/-- The other panel of the column. -/
def partner (p : Nat) : Nat := if p < 288 then p + 288 else p - 288

/-! ### Border holds (R124 to R128) -/

/-- Two panels lie in regions of different partitions (R127). -/
def State.apart (s : State) (p q : Nat) : Bool :=
  match (s.panel p).region, (s.panel q).region with
  | some a, some b => s.regionPart a != s.regionPart b
  | _, _ => false

/-- A border hold applies to the wires from panel `p` to panel `q`: `p` is under reconfiguration or test, or grounded, or they belong to
different partitions (R124, R127). -/
def State.holdsTo (s : State) (p q : Nat) : Bool := (s.panel p).borderHold || (s.panel p).grounded != 0 || s.apart p q

/-- The hold choice of wire `i` of kind `k` of panel `p`: 1 HOLD_LAST, 2 FORCE_0, 3 FORCE_1 (R124, R448). -/
def State.holdChoice (s : State) (p k i : Nat) : Nat :=
  let e := nget (s.panel p).border (k * 1024 + i)
  if e = 0 then 1 else e

/-- A wire's value under its hold choice, `last` being the value before the hold. -/
def heldBit (choice : Nat) (last : Bool) : Bool := if choice = 2 then false else if choice = 3 then true else last

/-! ### Drivers (R112, R113, R120, R124) -/

/-- The risers of the disabled groups, and the risers held after a conflict. -/
def State.deadRisers (s : State) (c : Nat) : BitVec 1024 :=
  (List.range 16).foldl (fun m g => if bitOf (s.column c).deadGroups g then m ||| BitVec.ofNat 1024 ((2 ^ 64 - 1) * 2 ^ (64 * g)) else m) 0

def State.heldRisers (s : State) (c : Nat) : BitVec 1024 :=
  (List.range 32).foldl (fun m i => m ||| BitVec.ofNat 1024 (s.rd (pgSparBlk c) (RISER_HELD.HELD.at i) * 2 ^ (32 * i))) 0

/-- The risers that panel `p` may drive now: those that its active plane drives, unless the panel does not run its plane, a border hold
turns the driver off, the riser is held, or its group is disabled. Of those in mode GATED the logic decides. -/
def State.driveMask (s : State) (p : Nat) : BitVec 1024 :=
  if s.committed p && !s.sailsOff && !s.holdsTo p (partner p) then
    s.slotRisers p (s.activeSlot p) &&& ~~~(s.deadRisers (colOf p) ||| s.heldRisers (colOf p))
  else 0

def State.canDrive (s : State) (p r : Nat) : Bool := (s.driveMask p).getLsbD r

/-- The frames of the plane that panel `p` has active. -/
def State.activeFrames (s : State) (p : Nat) : List (BitVec 4608) :=
  (List.range 128).map (fun i => (s.frame (frameAddr p (s.activeSlot p) i)).data)

/-- The active plane of panel `p` has riser group `g` in cascade mode (R96, R112). -/
def State.cascades (s : State) (p g : Nat) : Bool :=
  (g == 14 || g == 15) && s.slotValid p (s.activeSlot p) && Config.cascades (s.activeFrames p) g

/-- The active plane of panel `p` has the driver of riser `r` in mode GATED (R113). -/
def State.gatedRiser (s : State) (p r : Nat) : Bool := Config.gated (s.activeFrames p) r

/-- The risers of column `c` that some end may drive. -/
def State.driven (s : State) (c : Nat) : BitVec 1024 := s.driveMask c ||| s.driveMask (288 + c)

/-! ### Keepers (R116, R119, R124) -/

/-- AC of slice 15 of a panel: bits [1023:960] of row 7 (R93, R155). -/
def Panel.lastAc (x : Panel) : BitVec 64 := (mget (fun _ => (0 : Row)) x.cells 7).extractLsb' 960 64

/-- The risers of group `g` that panel `p` drives as the sender of a cascade (R96). -/
def State.cascMask (s : State) (p g : Nat) : BitVec 1024 :=
  let m := s.driveMask p &&& BitVec.ofNat 1024 ((2 ^ 64 - 1) * 2 ^ (64 * g))
  if m = 0 then 0 else if s.cascades p g then m else 0

/-- Where drivers of column `c` that could drive in `s` have been turned off in `t`, the keepers hold the last value driven (R116): of a
cascade its sender's CASC_OUT (R97), and otherwise a value of the user's logic, which is free. -/
def State.catchKeepers (t s : State) (c : Nat) : State :=
  let off := s.driven c &&& ~~~t.driven c
  if off = 0 then t
  else
    let f := t.free 1024
    let ends := [(c, 14), (c, 15), (288 + c, 14), (288 + c, 15)]
    let last := ends.foldl (fun v e =>
      let m := s.cascMask e.1 e.2
      (v &&& ~~~m) ||| (BitVec.ofNat 1024 ((s.panel e.1).lastAc.toNat * 2 ^ (64 * e.2)) &&& m)) (BitVec.ofNat 1024 f.1)
    f.2.setColumn c { f.2.column c with keeper := ((f.2.column c).keeper &&& ~~~off) ||| (last &&& off) }

/-- One bit of a set of risers. -/
def setRiser (m : BitVec 1024) (r : Nat) (b : Bool) : BitVec 1024 :=
  if b then m ||| BitVec.ofNat 1024 (2 ^ r) else m &&& ~~~BitVec.ofNat 1024 (2 ^ r)

/-- The keeper of riser `r` carries hold choice `new` of panel `p`, whose choice was `old` while the hold already applied (0: it did not).
A riser held after a conflict keeps its value (R128), and one that the other end drives is not the keeper's. DESIGN CHOICE
(log entry 62): where the holds of both ends apply with a FORCE choice each, the one applied last sets the keeper. -/
def State.applyChoice (s : State) (p r old new : Nat) : State :=
  let c := colOf p
  if s.riserHeld c r || s.canDrive (partner p) r then s
  else
    let x := s.column c
    let last := if 2 ≤ old then x.before.getLsbD r else x.keeper.getLsbD r
    s.setColumn c { x with keeper := setRiser x.keeper r (heldBit new last), before := setRiser x.before r last }

/-- The hold choices of panel `p` other than HOLD_LAST reach the keepers as its hold engages (R124). -/
def State.holdKeepers (s : State) (p : Nat) : State :=
  (s.panel p).border.foldl (fun s e => if e.1 / 1024 = 8 then s.applyChoice p (e.1 % 1024) 0 e.2 else s) s

/-- Panel `p` takes other hold choices (R124): while its holds apply, the keepers take those of its risers that change. -/
def State.rechoose (s : State) (p : Nat) (border : SMap Nat) : State :=
  let old := (s.panel p).border
  let choice (m : SMap Nat) (k : Nat) : Nat := if nget m k = 0 then 1 else nget m k
  let risers := (((old ++ border).map (·.1)).filter (· / 1024 == 8)).eraseDups
  let s' := s.setPanel p { s.panel p with border := border }
  if s.holdsTo p (partner p) then
    risers.foldl (fun t k => if choice old k = choice border k then t else t.applyChoice p (k % 1024) (choice old k) (choice border k)) s'
  else s'

/-- The panels to the west and to the east of panel `p` (R3, R95). -/
def westOf (p : Nat) : Option Nat := if colOf p % 16 = 0 then none else some (p - 1)
def eastOf (p : Nat) : Option Nat := if colOf p % 16 = 15 then none else some (p + 1)

/-- After a change from `s`, the border holds towards the west and the east neighbour of panel `p` may have come to apply: they hold the
CASC_OUT that `s` had (R124, R127). -/
def State.catchCascade (t s : State) (p : Nat) : State :=
  let newly (q : Option Nat) : Bool := q.any (fun q => t.holdsTo p q && !s.holdsTo p q)
  let x := t.panel p
  t.setPanel p { x with cascWest := if newly (westOf p) then (s.panel p).lastAc else x.cascWest
                        cascEast := if newly (eastOf p) then (s.panel p).lastAc else x.cascEast }

/-- The border holds of panel `p` engage (R125). -/
def State.engageHold (s : State) (p : Nat) : State :=
  if (s.panel p).borderHold then s
  else
    let x := s.panel p
    let t := s.setPanel p { x with borderHold := true, wires := s.risersOf p }
    ((t.catchCascade s p).catchKeepers s (colOf p)).holdKeepers p

/-- They release (R125). -/
def State.releaseHold (s : State) (p : Nat) : State := s.setPanel p { s.panel p with borderHold := false }

/-- After a change from `s`, the partitions of column `c` and of its neighbours may have come apart (R127): the drivers turn off, the
keepers take the choices, and horizontal cascades are held. -/
def State.splitHolds (t s : State) (c : Nat) : State :=
  let ps := [c, 288 + c].filter (fun p => t.holdsTo p (partner p) && !s.holdsTo p (partner p))
  let t := ps.foldl State.holdKeepers (t.catchKeepers s c)
  ([c, 288 + c].flatMap (fun p => [some p, westOf p, eastOf p])).foldl (fun t q => match q with | some q => t.catchCascade s q | none => t) t

/-- After a change from `s`, risers of column `c` may be held no more after a conflict (R120, R122): the keepers of those whose border hold
applies take its choice (R124). -/
def State.unholdRisers (t s : State) (c : Nat) : State :=
  [c, 288 + c].foldl (fun t p =>
    if t.holdsTo p (partner p) then
      (t.panel p).border.foldl (fun t e =>
        let r := e.1 % 1024
        if e.1 / 1024 = 8 ∧ s.riserHeld c r = true ∧ t.riserHeld c r = false then t.applyChoice p r 0 e.2 else t) t
    else t) t

/-- Riser groups of column `c` are disabled (R34): both drivers of each riser turn off, each keeper holds its last value, and the groups'
RISER_HELD bits read 0 (R121). -/
def State.killRisers (s : State) (c mask : Nat) : State :=
  let t := s.setColumn c { s.column c with deadGroups := (s.column c).deadGroups ||| mask }
  let t := t.catchKeepers s c
  ((List.range 16).filter (bitOf mask)).foldl (fun t g =>
    (t.wr (pgSparBlk c) (RISER_HELD.HELD.at (2 * g)) 0).wr (pgSparBlk c) (RISER_HELD.HELD.at (2 * g + 1)) 0) t

end Sys2Proof.Machine
end

