-- ==== Sys2Proof/Machine/Fabric.lean ====
section
/-! DEFINITION. What the resources of a panel compute (chapter 03): logic elements and flip-flops (R67 to R73),
multiply-accumulate slices (R86 to R93), the words of the pocket RAMs (R79 to R83), and the placement of their state in the context record
(R155). -/

namespace Sys2Proof.Machine

open Sys2Proof

/-! ### The context record (R154, R155) -/

/-- Bits `[lo + len - 1 : lo]` of a row. -/
def rowGet (r : Row) (lo len : Nat) : Nat := r.toNat / 2 ^ lo % 2 ^ len

/-- The row with those bits replaced. -/
def rowSet (r : Row) (lo len v : Nat) : Row :=
  (r &&& ~~~ BitVec.ofNat 2048 ((2 ^ len - 1) * 2 ^ lo)) ||| BitVec.ofNat 2048 (v % 2 ^ len * 2 ^ lo)

def cellRow (cells : SMap Row) (r : Nat) : Row := mget (fun _ => 0) cells r
/-- Bits of a row of the record that cells hold: all of a flip-flop row, and of the slices in the other rows all but [127:123] (R93,
R155). -/
def rowCells (r : Nat) : Row :=
  if r % 2 = 0 then BitVec.allOnes 2048
  else (List.range 4).foldl (fun m k => m &&& ~~~BitVec.ofNat 2048 (31 * 2 ^ (256 * k + 123))) (BitVec.allOnes 2048)

/-- Row `r` of the cells takes `x`; reserved bits have no cells and read 0. -/
def setCellRow (cells : SMap Row) (r : Nat) (x : Row) : SMap Row := mset (fun _ => 0) cells r (x &&& rowCells r)

/-- Row and lowest bit of flip-flop `n` (R155). -/
def ffPlace (n : Nat) : Nat × Nat := (2 * (n / 2048), n % 2048)

/-- Row and lowest bit of slice `k` (R155). -/
def slicePlace (k : Nat) : Nat × Nat := (2 * (k / 4) + 1, 256 * (k % 4))

/-- Row and lowest bit of context-local word `w` (R155). -/
def wordPlace (w : Nat) : Nat × Nat := (2 * (w / 32) + 1, 1024 + 32 * (w % 32))

def cellsGet (cells : SMap Row) (at_ : Nat × Nat) (len : Nat) : Nat := rowGet (cellRow cells at_.1) at_.2 len

def cellsSet (cells : SMap Row) (at_ : Nat × Nat) (len v : Nat) : SMap Row :=
  setCellRow cells at_.1 (rowSet (cellRow cells at_.1) at_.2 len v)

/-! ### Logic elements (R67 to R73) -/

/-- Outputs O6, O5A, O5B, S and CO of a logic element. -/
structure LeOut where
  o6 : Bool
  o5a : Bool
  o5b : Bool
  s : Bool
  co : Bool
  deriving DecidableEq, Repr

/-- R67 to R69, with carry-in `ci`. In carry mode the element is fractured. DESIGN CHOICE: the spec gives S and CO of an element that is not in
carry mode no value; they are what its mask gives as G and P. -/
def leOutputs (x : LeIn) (ci : Bool) : LeOut :=
  let j := x.i.toNat % 32
  let o5a := x.mask.getLsbD j
  let o5b := x.mask.getLsbD (32 + j)
  let o6 := if x.fractured || x.carry then o5a else x.mask.getLsbD x.i.toNat
  ⟨o6, o5a, o5b, xor o5b ci, if o5b then ci else o5a⟩

/-- CO of the last of some logic elements in a row, from the CI of the first (R69). -/
def carryOut (ci : Bool) (les : List LeIn) : Bool := les.foldl (fun c x => (leOutputs x c).co) ci

/-- The clock input of a control set has an active edge (R72, R76): `pc` is the edge of the panel clock, `l0` and `l1` those of the local
clock inputs. -/
def setClocked (c : ControlSet) (pc l0 l1 : ClkEdge) : Bool :=
  let e := match c.clk with | .panel => pc | .l0 => l0 | .l1 => l1
  e == (if c.inv then .fall else .rise)

/-- The next value of a flip-flop (R73): its control set, whether that is clocked, SR_VALUE, D and its value. -/
def flopNext (c : ControlSet) (clocked srValue d q : Bool) : Bool :=
  if c.async && c.sr then srValue
  else if clocked && c.sr then srValue
  else if clocked && c.ce then d
  else q

/-- The D input of FF0 and of FF1 (R71). -/
def flopD0 (x : LeIn) (o : LeOut) : Bool :=
  if x.ff0.src = 0 then o.o6 else if x.ff0.src = 1 then o.o5a else if x.ff0.src = 2 then o.s else x.bx

def flopD1 (x : LeIn) (o : LeOut) : Bool :=
  if x.ff1.src = 1 then o.o5b else if x.ff1.src = 2 then o.s else x.by_

/-- The control set that a flip-flop uses (R72). -/
def setOf (x : ClusterIn) (f : FlopIn) : ControlSet := if f.set1 then x.set1 else x.set0

/-- LE `n` of a cluster at one instant: its two flip-flops take their next values. `mute` where the local clock inputs are gated (R78). -/
def leEdge (cells : SMap Row) (n : Nat) (x : ClusterIn) (le : LeIn) (ci : Bool) (pc : ClkEdge) (mute : Bool) : SMap Row :=
  let o := leOutputs le ci
  let l0 := if mute then .none else x.l0
  let l1 := if mute then .none else x.l1
  let next (f : FlopIn) (k : Nat) (d : Bool) : Nat :=
    let c := setOf x f
    bnat (flopNext c (setClocked c pc l0 l1) f.srValue d (cellsGet cells (ffPlace k) 1 == 1))
  let v0 := next le.ff0 (2 * n) (flopD0 le o)
  let v1 := next le.ff1 (2 * n + 1) (flopD1 le o)
  cellsSet (cellsSet cells (ffPlace (2 * n)) 1 v0) (ffPlace (2 * n + 1)) 1 v1

/-- The LEs of a cluster from LE `n` on, the carry running along them (R69). -/
def lesEdge (x : ClusterIn) (pc : ClkEdge) (mute : Bool) : List LeIn → Nat → Bool → SMap Row → SMap Row
  | [], _, _, cells => cells
  | le :: rest, n, ci, cells => lesEdge x pc mute rest (n + 1) (leOutputs le ci).co (leEdge cells n x le ci pc mute)

/-- Cluster `k` at one instant, with carry-in `ci`. -/
def clusterEdge (cells : SMap Row) (k : Nat) (x : ClusterIn) (ci : Bool) (pc : ClkEdge) (mute : Bool) : SMap Row :=
  lesEdge x pc mute (x.les.take 16) (16 * k) ci cells

/-- The cluster whose CO feeds CI of cluster `k` (R66, R69). -/
def carryFrom (quarter : Bool) (k : Nat) : Option Nat :=
  if k % 64 ≠ 0 then some (k - 1) else if !quarter && 128 ≤ k then some (k - 65) else none

/-- CI of cluster `k` among the clusters that an instant lists; none where the chain comes from logic that is not listed. -/
def carryIn (quarter : Bool) (cs : List (Nat × ClusterIn)) : Nat → Nat → Option Bool
  | 0, _ => none
  | fuel + 1, k =>
    match lget cs k with
    | none => none
    | some x =>
      match x.carry with
      | .source b => some b
      | .chain =>
        match carryFrom quarter k with
        | none => none
        | some j =>
          match lget cs j with
          | none => none
          | some y => if y.les.length < 16 then none else (carryIn quarter cs fuel j).map (fun c => carryOut c (y.les.take 16))

/-- A flip-flop whose control set holds it by an asynchronous SR keeps SR_VALUE over what a swap has loaded (R98). -/
def asyncHold (cells : SMap Row) (k : Nat) (x : ClusterIn) : SMap Row :=
  let hold (cells : SMap Row) (f : FlopIn) (n : Nat) : SMap Row :=
    let c := setOf x f
    if c.async && c.sr then cellsSet cells (ffPlace n) 1 (bnat f.srValue) else cells
  (x.les.take 16).zipIdx.foldl (fun cells e => hold (hold cells e.1.ff0 (2 * (16 * k + e.2))) e.1.ff1 (2 * (16 * k + e.2) + 1)) cells

/-! ### Multiply-accumulate slices (R86 to R93) -/

/-- The state of a slice, in the fields of R93. -/
structure Slice where
  mc : Nat := 0
  mr : Nat := 0
  ad : Nat := 0
  pa : Nat := 0
  pd : Nat := 0
  acOvf : Bool := false
  preOvf : Bool := false
  fpInvalid : Bool := false
  fpOverflow : Bool := false
  ac : Nat := 0
  deriving DecidableEq, Repr

/-- R93: the 256 bits of a slice as a number, and back. -/
def sliceOfNat (n : Nat) : Slice :=
  let f (lo len : Nat) := n / 2 ^ lo % 2 ^ len
  { mc := f 0 32, mr := f 32 32, ad := f 64 32, pa := f 96 27, pd := f 128 60, acOvf := f 188 1 == 1,
    preOvf := f 189 1 == 1, fpInvalid := f 190 1 == 1, fpOverflow := f 191 1 == 1, ac := f 192 64 }

def sliceToNat (x : Slice) : Nat :=
  x.mc + x.mr * 2 ^ 32 + x.ad * 2 ^ 64 + x.pa * 2 ^ 96 + x.pd * 2 ^ 128 + bnat x.acOvf * 2 ^ 188 +
  bnat x.preOvf * 2 ^ 189 + bnat x.fpInvalid * 2 ^ 190 + bnat x.fpOverflow * 2 ^ 191 + x.ac * 2 ^ 192

/-- The pre-adder (R89): MC′ as a 27-bit number and whether it overflowed. -/
def preAdd (sel : Nat) (mc pa : Nat) : Int × Bool :=
  let m := sint 27 mc
  let p := sint 27 pa
  let v : Int := if sel = 0 then m else if sel = 1 then p + m else if sel = 2 then p - m else p
  (sint 27 (unsint 27 v), decide (v < -67108864) || decide (v > 67108863))

/-- The signed or unsigned reading of a field. -/
def readInt (signed : Bool) (w n : Nat) : Int := if signed then sint w n else Int.ofNat (n % 2 ^ w)

/-! #### Binary32 (R91, R93) -/

/-- A product or a sum before rounding: a special value or `(-1)^sign * sig * 2^exp`. -/
inductive FpVal where
  | nan
  | inf (sign : Bool)
  /-- A zero or a finite value; `sig = 0` is a zero of the sign. -/
  | fin (sign : Bool) (sig : Nat) (exp : Int)
  deriving DecidableEq, Repr

/-- Classify a binary32 word; subnormals are zeros of their sign (R91). The value is `sig * 2^exp`. -/
def fpOf (w : Nat) : FpVal :=
  let sign := w / 2 ^ 31 % 2 == 1
  let e : Nat := w / 2 ^ 23 % 256
  let m : Nat := w % 2 ^ 23
  if e = 255 then (if m = 0 then .inf sign else .nan)
  else if e = 0 then .fin sign 0 0
  else .fin sign (2 ^ 23 + m) (Int.ofNat e - 150)

/-- A signalling NaN: a NaN whose quiet bit is 0. -/
def isSnan (w : Nat) : Bool := w / 2 ^ 23 % 256 == 255 && w % 2 ^ 23 != 0 && w / 2 ^ 22 % 2 == 0

/-- The product encoded into PD (R93), and whether forming it is an invalid operation (R91). DESIGN CHOICE: SIGN of a NaN product, which
the spec does not give, is 0. -/
def fpProduct (mc mr : Nat) : Nat × Bool :=
  let sign := xor (mc / 2 ^ 31 % 2 == 1) (mr / 2 ^ 31 % 2 == 1)
  let special (k : Nat) (sg : Bool) : Nat := k + bnat sg * 2 ^ 58 + 2 ^ 59
  let snan := isSnan mc || isSnan mr
  match fpOf mc, fpOf mr with
  | .nan, _ => (special 2 false, snan)
  | _, .nan => (special 2 false, snan)
  | .inf _, .inf _ => (special 1 sign, false)
  | .inf _, .fin _ sg _ => if sg = 0 then (special 2 false, true) else (special 1 sign, false)
  | .fin _ sg _, .inf _ => if sg = 0 then (special 2 false, true) else (special 1 sign, false)
  | .fin _ a _, .fin _ b _ =>
    if a = 0 ∨ b = 0 then (special 0 sign, false)
    else
      let e : Int := Int.ofNat (mc / 2 ^ 23 % 256) + Int.ofNat (mr / 2 ^ 23 % 256) - 127
      (a * b + unsint 10 e * 2 ^ 48 + bnat sign * 2 ^ 58, false)

/-- The value that PD holds in FP32 mode (R93): SIG has 46 fraction bits and EXP is biased by 127. -/
def fpOfPd (pd : Nat) : FpVal :=
  let sign := pd / 2 ^ 58 % 2 == 1
  if pd / 2 ^ 59 % 2 = 1 then
    (if pd % 4 = 0 then .fin sign 0 0 else if pd % 4 = 1 then .inf sign else .nan)
  else .fin sign (pd % 2 ^ 48) (sint 10 (pd / 2 ^ 48) - 127 - 46)

/-- Round `(-1)^sign * sig * 2^exp` to binary32, to nearest, ties to even; a result below the normal range is a zero of
its sign, one above it an infinity (R91). The word, and whether it overflowed. DESIGN CHOICE: a result would be subnormal where it lies
below 2^-126 after rounding to 24 bits with an unbounded exponent. -/
def fpRound (sign : Bool) (sig : Nat) (exp : Int) : Nat × Bool :=
  let sb := bnat sign * 2 ^ 31
  if sig = 0 then (sb, false)
  else
    let top := Nat.log2 sig
    let e : Int := exp + (top : Int)
    -- 24 significant bits, rounded
    let (m, up) :=
      if top ≤ 23 then (sig * 2 ^ (23 - top), false)
      else
        let sh := top - 23
        let q := sig / 2 ^ sh
        let r := sig % 2 ^ sh
        let half := 2 ^ (sh - 1)
        let q' := if r > half || (r = half && q % 2 = 1) then q + 1 else q
        (if q' = 2 ^ 24 then 2 ^ 23 else q', q' == 2 ^ 24)
    let e := if up then e + 1 else e
    if e > 127 then (sb + 255 * 2 ^ 23, true)
    else if e < -126 then (sb, false)
    else (sb + (e + 127).toNat * 2 ^ 23 + (m - 2 ^ 23), false)

/-- The canonical quiet NaN (R91). -/
def fpNan : Nat := 0x7FC00000

/-- The sum of two values, rounded once (R88, R91): the word, whether invalid, whether overflowed. The sum of two zeros of
opposite sign, and an exact cancellation, are +0 (round to nearest). -/
def fpAdd (a b : FpVal) : Nat × Bool × Bool :=
  match a, b with
  | .nan, _ => (fpNan, false, false)
  | _, .nan => (fpNan, false, false)
  | .inf s, .inf t => if s = t then (bnat s * 2 ^ 31 + 255 * 2 ^ 23, false, false) else (fpNan, true, false)
  | .inf s, .fin _ _ _ => (bnat s * 2 ^ 31 + 255 * 2 ^ 23, false, false)
  | .fin _ _ _, .inf t => (bnat t * 2 ^ 31 + 255 * 2 ^ 23, false, false)
  | .fin s x ex, .fin t y ey =>
    if x = 0 ∧ y = 0 then (if s = true ∧ t = true then 2 ^ 31 else 0, false, false)
    else
      let e := if x = 0 then ey else if y = 0 then ex else min ex ey
      let vx : Int := if x = 0 then 0 else (if s then -1 else 1) * ((x * 2 ^ (ex - e).toNat : Nat) : Int)
      let vy : Int := if y = 0 then 0 else (if t then -1 else 1) * ((y * 2 ^ (ey - e).toNat : Nat) : Int)
      let v := vx + vy
      if v = 0 then (0, false, false)
      else
        let (w, o) := fpRound (v < 0) v.natAbs e
        (w, false, o)

def fpNeg : FpVal → FpVal
  | .nan => .nan
  | .inf s => .inf (!s)
  | .fin s x e => .fin (!s) x e

/-- AC, FP_INVALID and FP_OVERFLOW at an edge with EN_AC in FP32 mode (R88). -/
def fpAccumulate (op pd ad casc ac : Nat) : Nat × Bool × Bool :=
  let p := fpOfPd pd
  let add (w : Nat) (q : FpVal) : Nat × Bool × Bool :=
    let (r, i, o) := fpAdd q (fpOf (w % 2 ^ 32))
    (r, i || isSnan (w % 2 ^ 32), o)
  if op = 0 then add ac p
  else if op = 1 then add ac (fpNeg p)
  else if op = 2 then
    (match p with
     | .nan => (fpNan, false, false)
     | .inf s => (bnat s * 2 ^ 31 + 255 * 2 ^ 23, false, false)
     | .fin s x e => let (w, o) := fpRound s x e; (w, false, o))
  else if op = 3 then add ad p
  else if op = 4 ∨ op = 5 then add casc p
  else if op = 6 then (0, false, false)
  else (ac % 2 ^ 32, false, false)

/-! #### Integer modes -/

/-- The product register (R87) and PRE_OVF (R89). -/
def productOf (x : SliceIn) (s : Slice) : Nat × Bool × Bool :=
  match x.mode with
  | .int =>
    let (m, ovf) := preAdd x.preSel s.mc s.pa
    (unsint 60 (m * readInt x.mrSigned 24 s.mr), ovf && (x.preSel == 1 || x.preSel == 2), false)
  | .dual =>
    let lo := unsint 30 (sint 18 s.mc * sint 12 s.mr)
    let hi := unsint 30 (sint 18 s.pa * sint 12 (s.mr / 2 ^ 12))
    (lo + hi * 2 ^ 30, false, false)
  | .quad =>
    let t (i : Nat) : Int := readInt x.signedMc 8 (s.mc / 2 ^ (8 * i)) * readInt x.signedMr 8 (s.mr / 2 ^ (8 * i))
    (unsint 60 (sint 20 (unsint 20 (t 0 + t 1 + t 2 + t 3))), false, false)
  | .fp32 =>
    let (pd, inv) := fpProduct s.mc s.mr
    (pd, false, inv)

/-- A sum into an accumulator of `w` bits (R90): the value and whether it overflowed. -/
def accSum (w : Nat) (sat : Bool) (v : Int) : Nat × Bool :=
  let lo : Int := -(2 ^ (w - 1) : Nat)
  let hi : Int := (2 ^ (w - 1) : Nat) - 1
  if v < lo then (if sat then unsint w lo else unsint w v, true)
  else if v > hi then (if sat then unsint w hi else unsint w v, true)
  else (unsint w v, false)

/-- One accumulator of `w` bits at an edge with EN_AC (R88). -/
def accOne (w op : Nat) (sat shift : Bool) (ac pd ad casc : Int) : Nat × Bool :=
  if op = 0 then accSum w sat (ac + pd)
  else if op = 1 then accSum w sat (ac - pd)
  else if op = 2 then accSum w sat pd
  else if op = 3 then accSum w sat (ad + pd)
  else if op = 4 then accSum w sat (casc + pd)
  else if op = 5 then accSum w sat ((if shift then casc / 2 ^ 24 else casc) + pd)
  else if op = 6 then (0, false)
  else (unsint w ac, false)

/-- AC, AC_OVF, FP_INVALID and FP_OVERFLOW at an edge with EN_AC = 1 (R88, R90, R91), `casc` being CASC_IN. In DUAL mode each half takes
its half of the addend and of the cascade, and CHAIN_SHIFT acts as CHAIN. -/
def accumulate (x : SliceIn) (casc : Nat) (s : Slice) : Nat × Bool × Bool × Bool :=
  match x.mode with
  | .int | .quad =>
    let (v, o) := accOne 64 x.accOp x.sat true (sint 64 s.ac) (sint 60 s.pd) (sint 32 s.ad) (sint 64 casc)
    (v, o, false, false)
  | .dual =>
    let (l, o1) := accOne 32 x.accOp x.sat false (sint 32 s.ac) (sint 30 s.pd) (sint 32 s.ad) (sint 32 casc)
    let (h, o2) := accOne 32 x.accOp x.sat false (sint 32 (s.ac / 2 ^ 32)) (sint 30 (s.pd / 2 ^ 30)) (sint 32 s.ad)
      (sint 32 (casc / 2 ^ 32))
    (l + h * 2 ^ 32, o1 || o2, false, false)
  | .fp32 =>
    let (v, i, o) := fpAccumulate x.accOp s.pd s.ad casc s.ac
    (v, false, i, o)

/-- A slice at an edge of the panel clock: the three stages together, and the sticky flags (R92). `casc` is CASC_IN; `undef` is the free
value that AC takes where R100 leaves it undefined. DESIGN CHOICE: PRE_OVF is set at an edge with EN_PD = 1, when the pre-adder's result
goes into PD; the spec names no edge. -/
def sliceNext (x : SliceIn) (casc : Nat) (undef : Option Nat) (s : Slice) : Slice :=
  let (pd, pre, invP) := productOf x s
  let (ac, ovf, invA, past) := accumulate x casc s
  let preEv := x.enPd && pre
  let invEv := (x.enPd && invP) || (x.enAc && invA)
  let keep (b : Bool) : Bool := b && !x.flagClr
  { mc := if x.enIn then x.mc.toNat else s.mc
    mr := if x.enIn then x.mr.toNat else s.mr
    ad := if x.enIn then x.ad.toNat else s.ad
    pa := if x.enIn then x.pa.toNat else s.pa
    pd := if x.enPd then pd else s.pd
    ac := if x.enAc then (match undef with | some v => v % 2 ^ 64 | none => ac) else s.ac
    acOvf := keep s.acOvf || (x.enAc && ovf)
    preOvf := keep s.preOvf || preEv
    fpInvalid := keep s.fpInvalid || invEv
    fpOverflow := keep s.fpOverflow || (x.enAc && past) }

/-- The state of slice `k`, and AC of it, as the cells hold them. -/
def sliceAt (cells : SMap Row) (k : Nat) : Slice := sliceOfNat (cellsGet cells (slicePlace k) 256)

def sliceEdge (cells : SMap Row) (k : Nat) (x : SliceIn) (casc : Nat) (undef : Option Nat) : SMap Row :=
  cellsSet cells (slicePlace k) 256 (sliceToNat (sliceNext x casc undef (sliceAt cells k)))

/-! ### Pocket RAMs (R79 to R83) -/

def pramWord (x : Panel) (a : Nat) : PramWord := mget (fun _ => ({} : PramWord)) x.pram a
def setPramWord (x : Panel) (a : Nat) (w : PramWord) : Panel := { x with pram := mset (fun _ => ({} : PramWord)) x.pram a w }

/-- The data bits as the cells hold them. -/
def pramStored (w : PramWord) : Word := w.data ^^^ w.flips.setWidth 32

/-- Check result of a word (R81): 0 none, 1 single-bit, 2 double-bit error. Words without check bits are not checked. More
than two inverted bits exceed what R81 describes and count as a double-bit error. -/
def pramCheck (w : PramWord) : Nat :=
  if !w.check then 0
  else
    let n := (List.range 39).countP (fun i => w.flips.getLsbD i)
    if n = 0 then 0 else if n = 1 then 1 else 2

/-- What a checked read delivers: corrected after a single-bit error, as stored otherwise (R81). -/
def pramDelivered (w : PramWord) : Word := if pramCheck w = 1 then w.data else pramStored w

/-- The record of a checked read (R81, R103). -/
def State.pramRecord (s : State) (p m word k : Nat) : State :=
  let pg := pgPanel p
  let last (s : State) (u : Nat) : State :=
    (((s.wr pg PRAM_ERR_LAST.WORD word).wr pg PRAM_ERR_LAST.RAM m).wr pg PRAM_ERR_LAST.UNCORR u).wr pg PRAM_ERR_LAST.VALID 1
  if k = 1 then
    (last (s.inc pg PRAM_ERR_CNT.CORR) 0).raise pg PANEL_EVENT.PRAM_CORR PANEL_EVENT_MASK.MASK PANEL_EVENT_SRC.SOURCE
  else if k = 2 then
    (last (s.inc pg PRAM_ERR_CNT.UNCORR) 1).raise pg PANEL_EVENT.PRAM_UNCORR PANEL_EVENT_MASK.MASK PANEL_EVENT_SRC.SOURCE
  else s

/-- A whole-word write (R81, R104): check bits and CHECK_VALID, with the injected errors of an armed PRAM_ERR_INJECT. -/
def State.pramStore (s : State) (p m word : Nat) (v : Word) : State :=
  let pg := pgPanel p
  let armed := s.on pg PRAM_ERR_INJECT.ARM && s.rd pg PRAM_ERR_INJECT.RAM == m
  let b0 : BitVec 39 := BitVec.ofNat 39 (2 ^ s.rd pg PRAM_ERR_INJECT.BIT0)
  let b1 : BitVec 39 := if s.on pg PRAM_ERR_INJECT.DOUBLE then BitVec.ofNat 39 (2 ^ s.rd pg PRAM_ERR_INJECT.BIT1) else 0
  let s := s.setPanel p (setPramWord (s.panel p) (1024 * m + word) ⟨v, if armed then b0 ^^^ b1 else 0, true⟩)
  if armed then s.wr pg PRAM_ERR_INJECT.ARM 0 else s

/-- A write that does not cover the whole word: the bits of `mask` take those of `v`, and CHECK_VALID clears (R81). -/
def State.pramStorePart (s : State) (p m word : Nat) (mask v : Word) : State :=
  let old := pramStored (pramWord (s.panel p) (1024 * m + word))
  s.setPanel p (setPramWord (s.panel p) (1024 * m + word) ⟨(old &&& ~~~ mask) ||| (v &&& mask), 0, false⟩)

/-- The bits of the 32-bit word that enabled bytes cover. -/
def byteMask (be : Nat) : Word :=
  (List.range 4).foldl (fun w i => if bitOf be i then w ||| BitVec.ofNat 32 (255 * 2 ^ (8 * i)) else w) 0

/-- A fabric write through a port of width `width` (R79, R81). DESIGN CHOICE: a write with no byte enable of a word active leaves the word
and its CHECK_VALID; of the two codewords that a write of width 64 makes in an armed RAM (R104), the lower takes the injected error. -/
def State.pramFabricWrite (s : State) (p m width addr : Nat) (data : BitVec 64) (be : Nat) : State :=
  let half (s : State) (word : Nat) (d : Nat) (b : Nat) : State :=
    if b % 16 = 15 then s.pramStore p m word (BitVec.ofNat 32 d)
    else if b % 16 = 0 then s
    else s.pramStorePart p m word (byteMask (b % 16)) (BitVec.ofNat 32 d)
  if width = 64 then half (half s (2 * addr) data.toNat be) (2 * addr + 1) (data.toNat / 2 ^ 32) (be / 16)
  else if width = 32 then half s addr data.toNat be
  else
    let bit := addr * width
    let en : Nat := if width = 16 then (byteMask (be % 4)).toNat else 2 ^ width - 1
    if en = 0 then s
    else s.pramStorePart p m (bit / 32) (BitVec.ofNat 32 (en * 2 ^ (bit % 32)))
      (BitVec.ofNat 32 (data.toNat % 2 ^ width * 2 ^ (bit % 32)))

/-- A checked read of one physical word: the record of R81. -/
def State.pramChecked (s : State) (p m word : Nat) : State :=
  s.pramRecord p m word (pramCheck (pramWord (s.panel p) (1024 * m + word)))

/-- The physical words that word `addr` of a port of width `width` lies in (R79, R81). -/
def pramWords (width addr : Nat) : List Nat := if width = 64 then [2 * addr, 2 * addr + 1] else [addr * width / 32]

/-- The data that a port of width `width` reads at word `addr`; corrected where the read is checked (R81). -/
def Panel.pramData (x : Panel) (m width addr : Nat) (check : Bool) : Nat :=
  let d (w : Nat) : Nat :=
    let v := pramWord x (1024 * m + w)
    (if check then pramDelivered v else pramStored v).toNat
  if width = 64 then d (2 * addr) + 2 ^ 32 * d (2 * addr + 1) else d (addr * width / 32) / 2 ^ (addr * width % 32) % 2 ^ width

/-- The physical bits of a RAM that a write touches lie among those of a read, as a mask over the read data (R80). -/
def pramOverlap (w : PramWrite) (r : PramRead) : Nat :=
  let en (i : Nat) : Bool := w.width < 16 || bitOf w.be (i / 8)
  ((List.range r.width).map (fun i =>
    let b := r.addr * r.width + i
    if w.addr * w.width ≤ b && b < (w.addr + 1) * w.width && en (b - w.addr * w.width) then 2 ^ i else 0)).foldl (· + ·) 0

/-- The widths of R79, and an address within the RAM. -/
def pramPortOk (width addr : Nat) : Bool := [1, 2, 4, 8, 16, 32, 64].contains width && addr * width < 32768

def zeroPramOut : PramOut := {}
def zeroWordPort : WordPort := {}

end Sys2Proof.Machine
end

