-- ==== Sys2Proof/Machine/IntcOps.lean ====
section
/-! DEFINITION. Shared operations of chapter 13: targets and their registers, eligibility, delivery, claims and completions. -/

namespace Sys2Proof.Machine

open Sys2Proof

/-- The page and a field of target `t` (R352). -/
def pgTgt (t : Nat) : Nat := pgIntc (2 + t / 16)
def tgtFld (f : Fld) (t : Nat) : Fld := f.at (t % 16)

def State.rdTgt (s : State) (t : Nat) (f : Fld) : Nat := s.rd (pgTgt t) (tgtFld f t)
def State.wrTgt (s : State) (t : Nat) (f : Fld) (v : Nat) : State := s.wr (pgTgt t) (tgtFld f t) v
def State.onTgt (s : State) (t : Nat) (f : Fld) : Bool := s.rdTgt t f == 1

def State.srcState (s : State) (v : Nat) : Nat := s.rd (pgSrc v) SRC_STATE.STATE
def State.srcTarget (s : State) (v : Nat) : Nat := s.rd (pgSrc v) SRC_STATE.TARGET
def State.srcPrio (s : State) (v : Nat) : Nat := s.rd (pgSrc v) SRC_CFG.PRIO
def State.srcSecure (s : State) (v : Nat) : Bool := s.on (pgSrc v) SRC_CFG.SECURE

/-- The best of sources 1 to 4,095 that satisfy `p`: the highest priority as `prio` has it, then the lowest number (R340, R343). -/
def bestSource (prio : Nat → Nat) (p : Nat → Bool) : Option Nat :=
  ((List.range 4096).filter (fun v => v != 0 && p v)).foldl
    (fun m v => match m with
      | none => some v
      | some b => if prio v > prio b then some v else some b) none

/-- The source that target `t` claims next (R343): a change of PRIO since it was DELIVERED does not affect it (R339). -/
def State.nextClaim (s : State) (t : Nat) : Option Nat :=
  bestSource (nget s.gotPrio) (fun v => s.srcState v == srcDelivered && s.srcTarget v == t)

/-- The panel of a PORT target receives its claims: committed, not grounded, not in HOLD or PARK (R345). -/
def State.portUsable (s : State) (p : Nat) : Bool :=
  s.committed p && (s.panel p).grounded == 0 && s.devState == devRun && !s.sailsOff

/-- Target `t` is eligible for source `v` (R340). -/
def State.eligible (s : State) (v t : Nat) : Bool :=
  bitOf (s.rd (pgSrc v) SRC_TMASK.MASK) t && s.onTgt t TGT_CTRL.ENABLE &&
  (s.onTgt t TGT_CTRL.SECURE || !s.srcSecure v) && s.rdTgt t TGT_CPR.CPR < s.srcPrio v &&
  (!s.onTgt t TGT_CTRL.KIND || s.portUsable (s.rdTgt t TGT_CTRL.PANEL))

/-- The target that takes source `v` in a round (R340). -/
def State.chooseTarget (s : State) (v : Nat) : Option Nat :=
  if s.on (pgSrc v) SRC_CFG.MODE then
    ((List.range 32).find? (fun t => bitOf (s.rd (pgSrc v) SRC_TMASK.MASK) t && s.onTgt t TGT_CTRL.ENABLE)).filter (s.eligible v)
  else
    let last := nget s.lastTgt v
    let from_ := if last = 0 then 0 else last
    (((List.range 32).map (fun i => (from_ + i) % 32)).filter (s.eligible v)).foldl
      (fun m t => match m with
        | none => some t
        | some b => if s.rdTgt t TGT_CPR.CPR < s.rdTgt b TGT_CPR.CPR then some t else some b) none

/-- A message write of target `t` failed (R341). -/
def State.messageFailed (s : State) (t : Nat) : State :=
  (s.wrTgt t TGT_MSG_ERR_CNT.COUNT (satAdd 65535 (s.rdTgt t TGT_MSG_ERR_CNT.COUNT) 1)).raiseIntc INTC_EVENT.MSG_ERR

/-- The claim of target `t` (R343): the word that TGT_CLAIM returns, and the state after it. -/
def State.claimSource (s : State) (t : Nat) : Nat × State :=
  match s.nextClaim t with
  | some v =>
    (v + s.rd (pgSrc v) SRC_STATE.COUNT * 2 ^ 16 + 2 ^ 31,
     (s.wr (pgSrc v) SRC_STATE.STATE srcActive).wr (pgSrc v) SRC_STATE.COUNT 0)
  | none => (0, s)

/-- The end of service of a source (R338). -/
def State.endService (s : State) (v : Nat) : State :=
  (s.wr (pgSrc v) SRC_STATE.STATE (if s.rd (pgSrc v) SRC_STATE.COUNT ≠ 0 then srcPending else srcIdle)).wr (pgSrc v) SRC_STATE.TARGET 0

/-- A completion of source `v` at target `t` (R344). -/
def State.completeSource (s : State) (v t : Nat) : State :=
  if v ≠ 0 ∧ s.srcState v = srcActive ∧ s.srcTarget v = t then s.endService v
  else (s.inc (pgIntc 0) INTC_SPURIOUS_COMPLETE.COUNT).raiseIntc INTC_EVENT.SPURIOUS

/-- A DELIVERED source returns to PENDING (R339, R347). -/
def State.undeliver (s : State) (v : Nat) : State :=
  (s.wr (pgSrc v) SRC_STATE.STATE srcPending).wr (pgSrc v) SRC_STATE.TARGET 0

/-- R347: the sources of target `t` return to routing. -/
def State.releaseTarget (s : State) (t : Nat) : State :=
  (List.range 4096).foldl (fun s v =>
    if s.srcTarget v = t ∧ s.srcState v = srcDelivered then s.undeliver v
    else if s.srcTarget v = t ∧ s.srcState v = srcActive then s.endService v
    else s) s

/-- A source becomes IDLE with COUNT 0 (R349). -/
def State.idleSource (s : State) (v : Nat) : State :=
  { ((s.wr (pgSrc v) SRC_STATE.STATE srcIdle).wr (pgSrc v) SRC_STATE.COUNT 0).wr (pgSrc v) SRC_STATE.TARGET 0 with
    lastTgt := nset s.lastTgt v 0 }

/-- The enabled PORT target of a panel (R345, R352). -/
def State.portTarget (s : State) (p : Nat) : Option Nat :=
  (List.range 32).find? (fun t => s.onTgt t TGT_CTRL.ENABLE && s.onTgt t TGT_CTRL.KIND && s.rdTgt t TGT_CTRL.PANEL == p)

/-- IRQ of the port of panel `p` (R345): a source is DELIVERED to its target. -/
def State.portIrq (s : State) (p : Nat) : Bool :=
  (s.portTarget p).any (fun t => (List.range 4096).any (fun v => v != 0 && s.srcState v == srcDelivered && s.srcTarget v == t))

/-- TGT_CPR of the targets with KIND = PORT that name panel `p`, enabled or not, takes the port's CPR at an edge that the panel receives
(R345). -/
def State.takeCpr (s : State) (p : Nat) : State :=
  ((List.range 32).filter (fun t => s.onTgt t TGT_CTRL.KIND && s.rdTgt t TGT_CTRL.PANEL == p)).foldl
    (fun s t => s.wrTgt t TGT_CPR.CPR (s.panel p).cpr) s

/-- The port input CPR has the value `cpr` at an edge (R345). -/
def State.sampleCpr (s : State) (p cpr : Nat) : State := (s.setPanel p { s.panel p with cpr := cpr }).takeCpr p

/-- R334: function PF `n` other than 0 reaches only the targets and sources of its partition. -/
def partSeen (w : Who) (part : Nat) : Bool :=
  match w with
  | .pf 0 => true
  | .pf n => part == n
  | _ => true

/-- The world check of a target's or a source's own registers (R333, R42): the violation, if the sender fails it. -/
def State.denyOwn (s : State) (a : Access) (write : Bool) (pg off : Nat) (secure : Bool) : Option State :=
  if secure && !s.whoSecure a.who then some (s.violatePage a.who write pg off) else none

/-- The states in which an enabled target may not be left (R352). -/
def State.targetBad (s : State) (t : Nat) : Bool :=
  s.onTgt t TGT_CTRL.ENABLE &&
  (if s.onTgt t TGT_CTRL.KIND then
     s.rdTgt t TGT_CTRL.PANEL > 575 ||
     (List.range 32).any (fun u => u != t && s.onTgt u TGT_CTRL.ENABLE && s.onTgt u TGT_CTRL.KIND &&
       s.rdTgt u TGT_CTRL.PANEL == s.rdTgt t TGT_CTRL.PANEL)
   else s.rdTgt t TGT_ADDR_LO.ADDR == 0 && s.rdTgt t TGT_ADDR_HI.ADDR == 0)

/-- A TGT_CTRL write past the access checks (R334, R347, R352). -/
def State.tgtCtrlBody (s : State) (a : Access) (t : Nat) (v : Word) : Option State :=
  let off := (tgtFld TGT_CTRL.ENABLE t).off
  let n := s.storeReg (pgTgt t) off v
  if partSeen a.who (s.rdTgt t TGT_CTRL.PART) = false ∨ n.targetBad t = true ∨
     (s.whoSecure a.who = false ∧ (n.rdTgt t TGT_CTRL.SECURE ≠ s.rdTgt t TGT_CTRL.SECURE ∨ n.rdTgt t TGT_CTRL.PART ≠ s.rdTgt t TGT_CTRL.PART))
  then none
  else if s.onTgt t TGT_CTRL.ENABLE && (!n.onTgt t TGT_CTRL.ENABLE || n.rdTgt t TGT_CTRL.KIND != s.rdTgt t TGT_CTRL.KIND) then
    some (n.releaseTarget t)
  else some n

/-- A write to TGT_CTRL of target `t`. -/
def State.tgtCtrlWrite (s : State) (a : Access) (t : Nat) (v : Word) : State :=
  let off := (tgtFld TGT_CTRL.ENABLE t).off
  s.gatedWriteW a (pgTgt t) off v (fun s => s.denyOwn a true (pgTgt t) off (s.onTgt t TGT_CTRL.SECURE)) (fun s => s.tgtCtrlBody a t v)

end Sys2Proof.Machine
end

