-- ==== Sys2Proof/Machine/PanelEdges.lean ====
section
/-! DEFINITION. What the resources of a panel do at an instant of its clocks (R66, R78 to R85, R94 to R100). -/

namespace Sys2Proof.Machine

open Sys2Proof

/-! ### CASC_IN (R94 to R97) -/

/-- A word of 64 bits, bit `i` of which is `f i`. -/
def bits64 (f : Nat → Bool) : Nat := ((List.range 64).map (fun i => if f i then 2 ^ i else 0)).foldl (· + ·) 0

/-- CASC_OUT of slice 15 of panel `q` as the border passes it to panel `p` (R95, R97). -/
def State.cascAcross (s : State) (p q : Nat) : Nat :=
  let x := s.panel q
  if s.holdsTo q p then bits64 (fun i => heldBit (s.holdChoice q 9 i) ((if q < p then x.cascEast else x.cascWest).getLsbD i))
  else (s.panel q).lastAc.toNat

/-- What riser group `g` brings to panel `p` (R96, R97, R121): CASC_OUT of the other panel of the column where that sends a cascade on it;
the keeper's value for a riser that no driver drives; and a bit of `logic` for one that an end's logic drives. -/
def State.cascRiser (s : State) (p g logic : Nat) : Nat :=
  let q := partner p
  bits64 (fun i =>
    let r := 64 * g + i
    if s.canDrive q r then (if s.cascades q g then (s.panel q).lastAc.getLsbD i else bitOf logic i)
    else if s.canDrive p r then bitOf logic i
    else (s.column (colOf p)).keeper.getLsbD r)

/-- CASC_IN of slice `k` of panel `p` (R94, R95); `logic` is what the logic drives on risers that are not in cascade mode. -/
def State.cascIn (s : State) (p k : Nat) (sel : CascSel) (logic : Nat) : Nat :=
  if (if s.quarterMode p then k % 4 else k) ≠ 0 then (sliceAt (s.panel p).cells (k - 1)).ac
  else if s.quarterMode p then 0
  else
    match sel with
    | .none => 0
    | .west => ((westOf p).map (s.cascAcross p)).getD 0
    | .east => ((eastOf p).map (s.cascAcross p)).getD 0
    | .riser14 => s.cascRiser p 14 logic
    | .riser15 => s.cascRiser p 15 logic

/-- The path into AC of slice `k` of panel `p` takes two cycles at the panel's clock (R99, R100). -/
def State.twoCycle (s : State) (p k : Nat) (x : SliceIn) : Bool :=
  let fast := s.fuses.grade == 3
  (x.mode == .fp32 && s.panelAbove p (if fast then 500 else 420)) ||
  (k == 0 && !s.quarterMode p && (x.cascSel == .riser14 || x.cascSel == .riser15) && s.panelAbove p (if fast then 700 else 580))

/-! ### Slices, context-local words and pocket RAMs -/

/-- Slice `k` of panel `p` at an edge of the panel clock; `pre` is the state before the edge. AC is undefined where EN_AC is asserted at
two edges in a row on a two-cycle path (R100). -/
def State.sliceStep (s pre : State) (p k : Nat) (x : SliceIn) : State :=
  if 16 ≤ k then s
  else
    let undef := x.enAc && bitOf (pre.panel p).lastEnAc k && pre.twoCycle p k x
    let f := if undef then s.free 64 else (0, s)
    let risers := k = 0 ∧ (x.cascSel = .riser14 ∨ x.cascSel = .riser15)
    let g := if risers then f.2.free 64 else (0, f.2)
    let y := g.2.panel p
    g.2.setPanel p { y with cells := sliceEdge y.cells k x (pre.cascIn p k x.cascSel g.1) (if undef then some f.1 else none) }

/-- The register file at an edge of the panel clock (R84): reads return the old value, and their data comes one edge later. -/
def State.wordsStep (s : State) (p q : Nat) (wr : Option (Nat × BitVec 32)) (rd0 rd1 : Option Nat) : State :=
  let quarter := s.quarterMode p
  let file := if quarter then q % 4 else 0
  let at_ (a : Nat) : Nat × Nat := wordPlace (if quarter then 32 * file + a % 32 else a % 128)
  let x := s.panel p
  let port (m : SMap WordPort) (i : Nat) (rd : Option Nat) : SMap WordPort :=
    let o := mget (fun _ => zeroWordPort) m (2 * file + i)
    let next := match rd with | some a => BitVec.ofNat 32 (cellsGet x.cells (at_ a) 32) | none => o.next
    mset (fun _ => zeroWordPort) m (2 * file + i) { next := next, data := o.next }
  let cells := match wr with | some (a, v) => cellsSet x.cells (at_ a) 32 v.toNat | none => x.cells
  s.setPanel p { x with cells := cells, wordPorts := port (port x.wordPorts 0 rd0) 1 rd1 }

/-- The read port of RAM `m` at an edge of its clock (R79 to R81); bits of `open_` are undefined. DESIGN CHOICE: where both words of a
checked 64-bit read have errors, the lower is recorded first, so PRAM_ERR_LAST names the upper. -/
def State.pramReadStep (s : State) (p m : Nat) (r : PramRead) (open_ : Nat) : State :=
  let checked := r.check && (r.width == 32 || r.width == 64)
  let v := (s.panel p).pramData m r.width r.addr checked
  let f := if open_ = 0 then (0, s) else s.free 64
  let v := BitVec.ofNat 64 v &&& ~~~BitVec.ofNat 64 open_ ||| (BitVec.ofNat 64 f.1 &&& BitVec.ofNat 64 open_)
  let ws := if checked then pramWords r.width r.addr else []
  let found (k : Nat) : Bool := ws.any (fun w => pramCheck (pramWord (s.panel p) (1024 * m + w)) == k)
  let t := ws.foldl (fun s w => s.pramChecked p m w) f.2
  let x := t.panel p
  let old := mget (fun _ => zeroPramOut) x.pramOut m
  t.setPanel p { x with pramOut := mset (fun _ => zeroPramOut) x.pramOut m ⟨v, if r.outReg then old.word else old.reg, found 1, found 2⟩ }

/-- Pocket RAM `m` at one instant (R79 to R81): a read returns the old contents; where two clocks meet within the collision window, the
bits that overlap read undefined (R80). -/
def State.pramStep (s : State) (p m : Nat) (wr : Option PramWrite) (rd : Option PramRead) (meet : Bool) (pc : ClkEdge) (mute : Bool) :
    State :=
  if 4 ≤ m then s
  else
    let live (loc : Bool) (width addr : Nat) : Bool := (if loc then !mute else pc == .rise) && pramPortOk width addr
    let w := wr.filter (fun w => live w.loc w.width w.addr)
    let s := match rd.filter (fun r => live r.loc r.width r.addr) with
      | some r => s.pramReadStep p m r (match w with | some w => if meet then pramOverlap w r else 0 | none => 0)
      | none => s
    match w with
    | some w => s.pramFabricWrite p m w.width w.addr w.data w.be
    | none => s

/-! ### One instant (R72, R76, R98) -/

/-- The clusters among some resources. -/
def clustersOf (cells : List CellEdge) : List (Nat × ClusterIn) :=
  cells.filterMap (fun c => match c with | .cluster k x => if k < 256 then some (k, x) else none | _ => none)

/-- The slices among some resources whose EN_AC is 1, as a mask. -/
def acMask (cells : List CellEdge) : Nat :=
  ((List.range 16).filter (fun k => cells.any (fun c => match c with | .slice j x => j == k && x.enAc | _ => false))).foldl
    (fun m k => m + 2 ^ k) 0

/-- The clusters at one instant; CI of a chain that comes from logic which is not listed is free. -/
def State.clusterStep (s : State) (p : Nat) (cs : List (Nat × ClusterIn)) (pc : ClkEdge) (mute : Nat) : State :=
  let ci (k : Nat) : Option Bool := carryIn (s.quarterMode p) cs 256 k
  let f := if cs.any (fun c => (ci c.1).isNone) then s.free 256 else (0, s)
  let x := f.2.panel p
  f.2.setPanel p { x with cells := cs.foldl (fun cells c =>
    clusterEdge cells c.1 c.2 ((ci c.1).getD (bitOf f.1 c.1)) pc (bitOf mute (c.1 / 64))) x.cells }

/-- The resources of panel `p` at one instant: `pc` is the edge of the panel clock, `mute` the quarters whose local clock inputs are gated
(R78), and `pre` the state before the instant. -/
def State.stepPanel (s pre : State) (p : Nat) (pc : ClkEdge) (mute : Nat) (cells : List CellEdge) : State :=
  let s := s.clusterStep p (clustersOf cells) pc mute
  let s := cells.foldl (fun s c =>
    match c with
    | .cluster _ _ => s
    | .slice k x => if pc = .rise then s.sliceStep pre p k x else s
    | .words q wr rd0 rd1 => if pc = .rise then s.wordsStep p q wr rd0 rd1 else s
    | .pram m wr rd meet => s.pramStep p m wr rd meet pc (bitOf mute m)) s
  if pc = .rise then s.setPanel p { s.panel p with lastEnAc := acMask cells } else s

/-- A local clock edge is suppressed in the quarters `mute` (R78). -/
def suppressed (mute : Nat) (cells : List CellEdge) : Bool :=
  cells.any (fun c =>
    match c with
    | .cluster k x => bitOf mute (k / 64) && (x.l0 != .none || x.l1 != .none)
    | .pram m wr rd _ => bitOf mute m && (wr.any (·.loc) || rd.any (·.loc))
    | _ => false)

/-- An edge of a local clock as its wire brings it to panel `p` (R126, R128): a border hold stops it, and so does a riser that no driver
drives. -/
def State.clockEdge (s : State) (p : Nat) (from_ : ClockFrom) (e : ClkEdge) : ClkEdge :=
  match from_ with
  | .inside => e
  | .panel q => if s.holdsTo q p then .none else e
  | .riser r => if s.canDrive p r || s.canDrive (partner p) r then e else .none

/-- What a resource of panel `p` receives, the local clocks being those that its wires bring. -/
def State.reaches (s : State) (p : Nat) (c : CellEdge) : CellEdge :=
  let live (loc : Bool) (from_ : ClockFrom) : Bool := !loc || s.clockEdge p from_ .rise != .none
  match c with
  | .cluster k x => .cluster k { x with l0 := s.clockEdge p x.l0From x.l0, l1 := s.clockEdge p x.l1From x.l1 }
  | .pram m wr rd meet => .pram m (wr.filter (fun w => live w.loc w.from_)) (rd.filter (fun r => live r.loc r.from_)) meet
  | c => c

/-- The resources of panel `p` can change: its region is committed, it is neither grounded nor under test, and the Sails have their supply
(R35, R82, R126). -/
def State.fabricOn (s : State) (p : Nat) : Bool :=
  s.committed p && (s.panel p).grounded == 0 && !s.sailsOff && !(s.panel p).underTest

/-- A local clock edge has been suppressed: counted once for a switch or swap (R78). -/
def State.dropEdge (s : State) (p : Nat) : State :=
  if (s.panel p).gateHit then s
  else
    ((s.setPanel p { s.panel p with gateHit := true }).inc (pgPanel p) PANEL_LCLK_DROP_CNT.COUNT).raise (pgPanel p) PANEL_EVENT.LCLK_DROP
      PANEL_EVENT_MASK.MASK PANEL_EVENT_SRC.SOURCE

/-- One instant at a panel (R72, R76, R78, R98): `pc` is the edge of the panel clock that the panel receives, `mute` the quarters whose local
clock inputs are gated for an edge to come, and `pre` the state before the instant. A gate that has stood since the last switch or swap opens
at the falling edge. -/
def State.instant (s pre : State) (x : PanelStep) (pc : ClkEdge) (mute : Nat) : State :=
  let p := x.panel
  if s.fabricOn p = false then s
  else
    let s := if pc = .fall then s.setPanel p { s.panel p with gate := 0 } else s
    let m := mute ||| (s.panel p).gate
    let cells := x.cells.map (pre.reaches p)
    let s := if suppressed m cells then s.dropEdge p else s
    let s := s.stepPanel pre p pc m cells
    let s := match x.cpr with | some c => if pc = .none then s else s.sampleCpr p c | none => s
    if pc = .rise then s.usedEdge p else s

/-- The edge that a step names, as the panel receives it: none while its clock does not reach it (R535). -/
def State.stepClk (s : State) (x : PanelStep) : ClkEdge := if s.clkRun x.panel then x.clk else .none

/-- The steps of other panels at an instant. -/
def State.otherSteps (s pre : State) (xs : List PanelStep) : State := xs.foldl (fun s x => s.instant pre x (pre.stepClk x) 0) s

/-- The instants before an edge that lie inside its gate: those from the last falling edge on, where it is listed after every rising edge
(R78). -/
def gateSpan (before : List FabricStep) : Nat :=
  match before.reverse.findIdx? (fun f => f.clk != .none) with
  | some i => if (before.reverse[i]?).any (fun f => f.clk == .fall) then i + 1 else 0
  | none => 0

/-- The `k`-th last instants before some edges: those of all the panels fall together, and each reads what the others held before (R95, R96).
`mute` gives the quarters of each panel that the edge to come gates. -/
def State.instantsBefore (s : State) (es : List PanelEdge) (mute : Nat → Nat) (k : Nat) : State :=
  es.foldl (fun t e =>
    match e.before.reverse[k]? with
    | none => t
    | some f =>
      let x : PanelStep := ⟨e.panel, f.clk, f.cells, f.cpr⟩
      (t.instant s x (s.stepClk x) (if k < gateSpan e.before then mute e.panel else 0)).otherSteps s f.others) s

/-- The instants before the edges of some panels. -/
def State.beforeEdges (s : State) (ps : List Nat) (es : List PanelEdge) (mute : Nat → Nat) : State :=
  let es := es.filter (fun e => ps.contains e.panel)
  let s := ps.foldl (fun s p => s.setPanel p { s.panel p with gateHit := false }) s
  (List.range ((es.map (fun e => e.before.length)).foldl max 0)).reverse.foldl (fun s k => s.instantsBefore es mute k) s

/-- The switching or swap edge at panel `p`, among the edges given: each resource takes its next value under the outgoing plane and context
(R98), and the local clocks of the quarters `mute` are gated to the falling edge after it (R78). -/
def State.edgeOf (s pre : State) (p : Nat) (es : List PanelEdge) (mute : Nat) : State :=
  let t := match es.find? (fun e => e.panel == p) with
    | some e =>
      let t := (s.instant pre ⟨p, .rise, e.cells, e.cpr⟩ .rise mute).otherSteps pre e.others
      if e.lclk && mute != 0 then t.dropEdge p else t
    | none => s
  if mute = 0 then t else t.setPanel p { t.panel p with gate := (t.panel p).gate ||| mute }

/-- Flip-flops that an asynchronous SR holds keep SR_VALUE after a swap of the quarters of `m` (R98). -/
def State.holdAsync (s : State) (p m : Nat) (e : PanelEdge) : State :=
  let x := s.panel p
  s.setPanel p { x with cells := (clustersOf e.cells).foldl (fun cells c =>
    if bitOf m (c.1 / 64) then asyncHold cells c.1 c.2 else cells) x.cells }

end Sys2Proof.Machine
end

