-- ==== Sys2Proof/Machine/PlaneOps.lean ====
section
/-! DEFINITION. Shared operations of chapter 05: panel groups, fills, plane requests and their meetings, frames and their
checks. -/

namespace Sys2Proof.Machine

open Sys2Proof

def State.raisePlane (s : State) (p : Nat) (bit : Fld) : State :=
  s.raise (pgPanel p) bit PANEL_PLANE_EVENT_MASK.MASK PANEL_PLANE_EVENT_SRC.SOURCE

/-- Count in one of the panel's plane counters and set its event bit. -/
def State.countPlane (s : State) (p : Nat) (cnt ev : Fld) : State := (s.inc (pgPanel p) cnt).raisePlane p ev

def State.planeSkip (s : State) (p : Nat) : State := s.countPlane p PLANE_SKIP.COUNT PANEL_PLANE_EVENT.SKIP
def State.planeCollide (s : State) (p : Nat) : State := s.countPlane p PLANE_COLLIDE.COUNT PANEL_PLANE_EVENT.COLLIDE
def State.planeInvalid (s : State) (p : Nat) : State := s.countPlane p PLANE_INVALID.COUNT PANEL_PLANE_EVENT.INVALID
def State.planeDefer (s : State) (p : Nat) : State := s.countPlane p PLANE_GOV_DEFER.COUNT PANEL_PLANE_EVENT.GOV_DEFER
def State.pfDrop (s : State) (p : Nat) : State := s.countPlane p PLANE_PF_DROP.COUNT PANEL_PLANE_EVENT.PF_DROP

/-- Apply an operation to each panel of a list. -/
def forPanels (ps : List Nat) (f : State → Nat → State) (s : State) : State := ps.foldl f s

/-! ### Panels and slots -/

def shEmpty : Nat := 0
def shFilling : Nat := 1
def shReady : Nat := 2
def shFailed : Nat := 3

def State.shadowSlot (s : State) (p : Nat) : Nat := s.rd (pgPanel p) PANEL_PLANE_STATE.SHADOW
def State.shadowState (s : State) (p : Nat) : Nat := s.rd (pgPanel p) PANEL_PLANE_STATE.SHADOW_STATE
def State.shadowIs (s : State) (p st n : Nat) : Bool := s.shadowState p == st && s.shadowSlot p == n
/-- Slot `n` is active in the panel or READY in its shadow (R134, R144); a panel under preflight test is not ready (R485). -/
def State.ready (s : State) (p n : Nat) : Bool := !(s.panel p).underTest && (s.activeSlot p == n || s.shadowIs p shReady n)

/-- A switch is pending on the panel (R144). -/
def State.planePending (s : State) (p : Nat) : Bool := s.on (pgPanel p) PANEL_PLANE_STATE.PENDING

/-- Panel `p` is a member of group `g` (R143). -/
def State.isMember (s : State) (g p : Nat) : Bool :=
  bitOf (s.rd (pgPanel p) (PANEL_GROUP.MEMBER.at (g / 32))) (g % 32)

/-- The members of group `g`, in ascending order. -/
def State.members (s : State) (g : Nat) : List Nat := (List.range 576).filter (s.isMember g)

/-- The members that are not grounded (R35). -/
def State.liveMembers (s : State) (g : Nat) : List Nat :=
  (s.members g).filter (fun p => (s.panel p).grounded == 0)

/-- The members take their panel clock from one fabric PLL output (R143). -/
def State.oneClock (s : State) (ps : List Nat) : Bool :=
  match ps with
  | [] => true
  | p :: _ =>
    let code := s.rdDom (clockRegion p) CLK_DOM_SWITCH.LIVE_SRC
    isFpllOutput code && ps.all (fun q =>
      s.rdDom (clockRegion q) CLK_DOM_SWITCH.DONE == 1 && s.rdDom (clockRegion q) CLK_DOM_SWITCH.LIVE_SRC == code)

/-! ### Fills (R136 to R139) -/

/-- Upset frames of the bank that is active, and of the shadow bank (R134). -/
def Panel.activeUpset (x : Panel) : List Nat := if x.bank = 0 then x.upset0 else x.upset1
def Panel.shadowUpset (x : Panel) : List Nat := if x.bank = 0 then x.upset1 else x.upset0

def Panel.setActiveUpset (x : Panel) (u : List Nat) : Panel :=
  if x.bank = 0 then { x with upset0 := u } else { x with upset1 := u }
def Panel.setShadowUpset (x : Panel) (u : List Nat) : Panel :=
  if x.bank = 0 then { x with upset1 := u } else { x with upset0 := u }

/-- A fill of slot `n` starts (R136): the shadow is FILLING(n), and what it held is no longer resident. -/
def State.startFill (s : State) (p n : Nat) (explicit pinned : Bool) : State :=
  let s := s.countFill pinned
  let s := (s.wr (pgPanel p) PANEL_PLANE_STATE.SHADOW n).wr (pgPanel p) PANEL_PLANE_STATE.SHADOW_STATE shFilling
  s.setPanel p ({ s.panel p with fillExplicit := explicit, heldPf := none }.setShadowUpset [])

/-- A held prefetch of panel `p` leaves the governor's list. -/
def State.unholdPf (s : State) (p : Nat) : State :=
  { s.setPanel p { s.panel p with heldPf := none } with
    gov := { s.gov with work := s.gov.work.filter (· != .prefetch p) } }

/-- A held prefetch of another slot is abandoned and counted (R242). -/
def State.dropHeldPf (s : State) (p n : Nat) : State :=
  match (s.panel p).heldPf with
  | some h => if h.slot = n then s else (s.unholdPf p).pfDrop p
  | none => s

/-- A fill of slot `n` starts in place of a fill in progress, which is abandoned; an explicit prefetch is counted (R138). -/
def State.replaceFill (s : State) (p n : Nat) (explicit pinned : Bool) : State :=
  (if s.shadowState p = shFilling ∧ (s.panel p).fillExplicit then s.pfDrop p else s).startFill p n explicit pinned

/-- REFUSED pulses on the port of a discarded request (R142, R145), from the next edge that its panel receives (R535). -/
def State.refuse (s : State) (src : PlaneSrc) : State :=
  match src with
  | .port p => s.setPanel p { s.panel p with due := { (s.panel p).due with planeRefused := true } }
  | _ => s

/-- A request is discarded with those merged into it: REFUSED pulses on the port of each. -/
def State.refuseAll (s : State) (r : SwitchReq) : State := r.merged.foldl State.refuse (s.refuse r.src)

/-- A fill request reaches panel `p` (R138, R142, R241, R242): `explicit` for a prefetch, `defer` when it is deferrable;
`limit` is the DEFER_LIMIT of its group. The shadow of a panel under preflight test holds the test plane, and takes no fill. -/
def State.fillRequest (s : State) (p n : Nat) (src : PlaneSrc) (explicit defer : Bool) (limit : Nat) : State :=
  if (s.panel p).underTest then (if explicit then (s.pfDrop p).refuse src else s)
  else if s.activeSlot p = n ∨ s.shadowIs p shFilling n ∨ s.shadowIs p shReady n then s
  else if (s.panel p).heldPf.any (·.slot == n) then
    (if explicit && defer then s else (s.unholdPf p).replaceFill p n explicit true)
  else if !s.slotValid p n then (s.planeInvalid p).refuse src
  else if explicit && s.planePending p then (s.pfDrop p).refuse src
  else
    let s := s.dropHeldPf p n
    if explicit && defer && !s.admitsFill then
      let s := s.setPanel p { s.panel p with heldPf := some ⟨n, s.ns, limit⟩ }
      ({ s with gov := { s.gov with work := s.gov.work ++ [HeldWork.prefetch p] } }).planeDefer p
    else s.replaceFill p n explicit (!(explicit && defer))

/-- The shadow of a panel as a prefetch finds it (R145). A prefetch is pinned unless it is deferrable (R139), and in place of a held prefetch
of its slot. -/
def State.fillUndo (s : State) (p : Nat) (defer : Bool) : FillUndo :=
  ⟨p, s.shadowSlot p, s.shadowState p, (s.panel p).fillExplicit, (s.panel p).heldPf, (s.panel p).shadowUpset, !defer⟩

/-- A prefetch of slot `n` that is discarded whole at its injection edge (R145) has filled nothing: the shadow is what it was, and the fill
is not counted. A held prefetch that it displaced is held again. -/
def State.undoFill (s : State) (n : Nat) (u : FillUndo) : State :=
  let p := u.panel
  let filled := s.shadowIs p shFilling n && !(u.slot == n && u.state == shFilling)
  let heldNow := (s.panel p).heldPf.any (fun h => h.slot == n && u.held != some h)
  if !filled && !heldNow then s
  else
    let s := if heldNow then s.unholdPf p else s
    let s := if filled then { s with gov := { s.gov with fills := s.gov.fills - 1, pinnedFills := s.gov.pinnedFills - bnat u.pinned } } else s
    let s := (s.wr (pgPanel p) PANEL_PLANE_STATE.SHADOW u.slot).wr (pgPanel p) PANEL_PLANE_STATE.SHADOW_STATE u.state
    let s := s.setPanel p ({ s.panel p with fillExplicit := u.explicit, heldPf := u.held }.setShadowUpset u.upset)
    if u.held.isSome && !s.gov.work.contains (.prefetch p) then { s with gov := { s.gov with work := s.gov.work ++ [.prefetch p] } } else s

/-! ### Plane requests (R141 to R145) -/

/-- Rank of a source in the order governor, Bridle, fabric port (lowest panel first), register write (R145). -/
def srcRank : PlaneSrc → Nat
  | .governor => 0
  | .bridle => 1
  | .port p => 2 + p
  | .register => 1000

/-- The panels that a request addresses. -/
def State.reqPanels (s : State) (r : SwitchReq) : List Nat := if r.forced then [r.panel] else s.liveMembers r.group

/-- The same panel or group is addressed. -/
def sameTarget (a b : SwitchReq) : Bool := a.forced == b.forced && (if a.forced then a.panel == b.panel else a.group == b.group)

/-- Clear the PENDING fields of a panel. -/
def State.clearPending (s : State) (p : Nat) : State :=
  (((s.wr (pgPanel p) PANEL_PLANE_STATE.PENDING 0).wr (pgPanel p) PANEL_PLANE_STATE.PENDING_FORCED 0).wr (pgPanel p)
    PANEL_PLANE_STATE.PENDING_PLANE 0).wr (pgPanel p) PANEL_PLANE_STATE.PENDING_GROUP 0

/-- Show a pending switch in the PENDING fields of a panel (R150). -/
def State.showPending (s : State) (p : Nat) (r : SwitchReq) : State :=
  (((s.wr (pgPanel p) PANEL_PLANE_STATE.PENDING 1).wr (pgPanel p) PANEL_PLANE_STATE.PENDING_FORCED (bnat r.forced)).wr (pgPanel p)
    PANEL_PLANE_STATE.PENDING_PLANE r.slot).wr (pgPanel p) PANEL_PLANE_STATE.PENDING_GROUP (if r.forced then 0 else r.group)

/-- A switch leaves the list of switches; the PENDING fields of a panel that shows another switch, forced on it alone, stay (R150, R239). -/
def State.removeSwitch (s : State) (r : SwitchReq) : State :=
  let s := { s with switches := s.switches.filter (· != r), planeNow := s.planeNow.filter (· != r) }
  let shows (p : Nat) : Bool := s.on (pgPanel p) PANEL_PLANE_STATE.PENDING_FORCED == r.forced
  if r.pending then forPanels ((if r.forced then [r.panel] else s.members r.group).filter shows) State.clearPending s else s

/-- A switch is discarded, counted in PLANE_SKIP of every member, and refused on its port (R142, R144, R145). -/
def State.discardSwitch (s : State) (r : SwitchReq) : State :=
  (forPanels (s.reqPanels r) State.planeSkip (s.removeSwitch r)).refuseAll r

/-- A losing request is discarded whole: the fills of a prefetch are undone, PLANE_COLLIDE in `ps`, and REFUSED on its port. -/
def State.loseRequest (s : State) (r : SwitchReq) (ps : List Nat) : State :=
  (forPanels ps State.planeCollide (r.undo.foldl (fun s u => s.undoFill r.slot u) (s.removeSwitch r))).refuseAll r

/-- A prefetch of the present instant gives way to a later request of its source (R145): an abandoned prefetch in each member. -/
def State.abandonPrefetch (s : State) (r : SwitchReq) : State :=
  (forPanels (s.reqPanels r) State.pfDrop (r.undo.foldl (fun s u => s.undoFill r.slot u) (s.removeSwitch r))).refuseAll r

/-- Request `r` is merged into `e` (R145): the request has the rank of the first of its sources. -/
def SwitchReq.mergeWith (e r : SwitchReq) : SwitchReq :=
  if srcRank r.src < srcRank e.src then { e with src := r.src, merged := e.src :: (r.merged ++ e.merged) }
  else { e with merged := r.src :: (r.merged ++ e.merged) }

def State.mergeSwitch (s : State) (e r : SwitchReq) : State :=
  let f (x : SwitchReq) : SwitchReq := if x = e then e.mergeWith r else x
  { s with switches := s.switches.map f, planeNow := s.planeNow.map f }

/-- The panels of a group switch that take part: a panel that the governor holds is left out of a switch to a plane that is
not COOL (R239). -/
def State.takesPart (s : State) (r : SwitchReq) (p : Nat) : Bool :=
  r.forced || r.prefetch || !(s.panel p).govHeld || s.slotHeat p r.slot == 0

/-- The panels that two requests share: those that take part in both. -/
def State.sharedPanels (s : State) (r e : SwitchReq) : List Nat :=
  ((s.reqPanels r).filter (s.takesPart r)).filter (fun p => (s.reqPanels e).contains p && s.takesPart e p)

/-- A switch meets one that is pending (R145): the state, and whether the switch stands. -/
def State.meetPending (s : State) (r e : SwitchReq) : State × Bool :=
  if sameTarget e r then (if e.slot = r.slot then (s.mergeSwitch e r, false) else (s.discardSwitch e, true))
  else
    let shared := s.sharedPanels r e
    if shared.isEmpty then (s, true)
    else if r.src = .governor then (s.discardSwitch e, true)
    else (s.loseRequest r shared, false)

/-- A switch meets every pending one in turn. -/
def State.meetAllPending (s : State) (r : SwitchReq) : State × Bool :=
  (s.switches.filter (fun e => e.pending && e != r)).foldl (fun acc e => if acc.2 then acc.1.meetPending r e else acc) (s, true)
/-- The meetings of a new request with those injected at the same instant and with pending switches (R145): the state
after the losers are counted, and whether the new request stands. DESIGN CHOICES (log entry 63): an explicit prefetch for another group
that shares a panel with a pending switch is dropped in the shared panels alone and counted in PLANE_PF_DROP there, as R138 has it. A merged
request is kept with the switch that it joins (`SwitchReq.mergeWith`): each port among them pulses REFUSED if that switch is later discarded. A held
panel is left out of a group switch (R239), and so shares nothing with it. -/
def State.meetPlane (s : State) (r : SwitchReq) : State × Bool :=
  let step (acc : State × Bool) (e : SwitchReq) : State × Bool :=
    let (s, alive) := acc
    if !alive then (s, false)
    else
      let shared := s.sharedPanels r e
      if sameTarget e r then
        if e.slot = r.slot then (if r.prefetch = e.prefetch then (s.mergeSwitch e r, false) else (s, true))
        else if srcRank e.src = srcRank r.src then (if e.prefetch then s.abandonPrefetch e else s.discardSwitch e, true)
        else if srcRank e.src < srcRank r.src then (s.loseRequest r (s.reqPanels r), false)
        else (s.loseRequest e (s.reqPanels e), true)
      else if shared.isEmpty then (s, true)
      else if srcRank e.src < srcRank r.src ∨ (srcRank e.src = srcRank r.src ∧ e.group < r.group) then
        (s.loseRequest r shared, false)
      else (s.loseRequest e shared, true)
  let now := s.planeNow.filter (fun e => e.at_ == s.ns)
  let (s, alive) := now.foldl step (s, true)
  if !alive ∨ r.prefetch = true then (s, alive) else s.meetAllPending r

/-- R236: under ENFORCE a switch that would make both panels of one column HOT at one edge can never satisfy the column
rule. The column, if any; a panel that the governor holds is left out of such a switch (R239). -/
def State.doubleHot (s : State) (ps : List Nat) (n : Nat) : Option Nat :=
  let hot (p : Nat) : Bool := ps.contains p && !(s.panel p).govHeld && s.slotHeat p n == 2
  ps.find? (fun p => p < 288 && hot p && hot (p + 288))

/-- A request passes its injection edge (R141, R145, R236): a prefetch fills every member, a switch joins the list. -/
def State.injectPlane (s : State) (r : SwitchReq) (defer : Bool) : State :=
  let (s, alive) := s.meetPlane r
  if !alive then s
  else
    let ps := s.reqPanels r
    if r.prefetch then
      let limit := match s.liveMembers r.group with
        | p :: _ => s.rd (pgPanel p) PANEL_PLANE_CTRL.DEFER_LIMIT
        | [] => 0
      let r' := { r with undo := ps.map (fun p => s.fillUndo p defer) }
      { forPanels ps (fun s p => s.fillRequest p r.slot r.src true defer limit) s with planeNow := s.planeNow ++ [r'] }
    else if s.on pgPwr GOV_CTRL.MODE ∧ r.forced = false ∧ (s.doubleHot ps r.slot).isSome then
      let c := (s.doubleHot ps r.slot).getD 0
      let s := forPanels ps State.planeSkip s
      let s := (s.inc pgPwr GOV_STAGGER_CNT.COUNT).wr pgPwr GOV_STAGGER_LAST.COLUMN c
      ((s.wr pgPwr GOV_STAGGER_LAST.VALID 1).raiseGov GOV_EVENT.STAGGER_VIOLATION).refuse r.src
    else { s with switches := s.switches ++ [r], planeNow := s.planeNow ++ [r] }

/-- The clock domains of the members all change their source, so that the injection edge of a request comes after the change (R407). -/
def State.clockChanges (s : State) (ps : List Nat) : Bool :=
  !ps.isEmpty && ps.all (fun q => s.rdDom (clockRegion q) CLK_DOM_SWITCH.DONE == 0)

/-- The cases of R143 in which a request for group `g` is discarded; `from_` is the panel of the port or page, if any. The members' clocks
are judged at the injection edge, for which a request waits while they change their source (R407). -/
def State.planeRequestBad (s : State) (g n : Nat) (from_ : Option Nat) : Bool :=
  let ms := s.members g
  let live := ms.filter (fun p => (s.panel p).grounded == 0)
  ms.isEmpty || from_.any (fun p => !s.isMember g p) || ms.any (fun p => !s.committed p) ||
  live.any (fun p => !s.slotValid p n) || !(s.oneClock live || s.clockChanges live)

/-- A request that R143 lets pass is injected, or waits for the edges of its panels' clock (R407). -/
def State.acceptPlane (s : State) (w : PlaneWait) : State :=
  if s.clockChanges (s.liveMembers w.req.group) then { s with planeWait := s.planeWait ++ [w] }
  else s.injectPlane { w.req with at_ := s.ns } w.defer

/-- A request that is bad at its injection edge is counted in PLANE_INVALID of each member, and refused (R143). -/
def State.rejectPlane (s : State) (r : SwitchReq) : State := (forPanels (s.members r.group) State.planeInvalid s).refuse r.src

/-- The requests that waited, in order: each is judged once the clocks of its panels have their edges again (R143, R407). DESIGN CHOICE (log
entry 63): a PANEL_PLANE_CMD write that has waited and is then bad was answered before, and is counted in PLANE_INVALID. -/
def State.planeEdges (s : State) : State :=
  s.planeWait.foldl (fun s w =>
    if s.planeRequestBad w.req.group w.req.slot w.from_ then s.rejectPlane w.req else s.acceptPlane w) { s with planeWait := [] }

/-- A request from a port or from the Bridle (R143): a bad one is counted in PLANE_INVALID of each member. -/
def State.planeRequest (s : State) (src : PlaneSrc) (from_ : Option Nat) (g n : Nat) (prefetch defer : Bool) : State :=
  let r : SwitchReq := { group := g, slot := n, src := src, at_ := s.ns, prefetch := prefetch }
  if s.planeRequestBad g n from_ then s.rejectPlane r else s.acceptPlane ⟨r, defer, from_⟩

/-! ### Frames (R130 to R133, R147 to R153) -/

/-- The 576 bytes of a frame (R133). -/
def frameBytes (x : BitVec 4608) : List Byte := bytesLE 576 x.toNat

/-- The stored frame does not match its signature (R133, R147). -/
def Frame.mismatch (f : Frame) : Bool := f.sigBad || crc32c (frameBytes (f.data ^^^ f.flips)) != f.sig.toNat

/-- An UPSET_LOG entry (R153). -/
def State.logUpset (s : State) (kind outcome a : Nat) : State :=
  let e := s.rd pgScrub UPSET_LOG_HEAD.HEAD
  let base := pgScrub * 4096 + UPSET_LOG.WORD.off + 8 * e
  let w0 := 2 ^ 31 + kind * 2 ^ 28 + outcome * 2 ^ 25 + a % 2 ^ 20
  (((s.setReg base (BitVec.ofNat 32 w0)).setReg (base + 4) (BitVec.ofNat 32 s.stamp))).wr pgScrub UPSET_LOG_HEAD.HEAD ((e + 1) % 32)

def State.raiseScrub (s : State) (bit : Fld) : State := s.raise pgScrub bit SCRUB_EVENT_MASK.MASK SCRUB_EVENT_SRC.SOURCE

/-- Frames of slot `n` of panel `p` that are marked bad. -/
def State.badFrames (s : State) (p n : Nat) : List Nat := (List.range 128).filter (fun f => (s.frame (frameAddr p n f)).bad)

/-- Keep SPAR_BAD_COUNT of the column and BAD of the slot in step with the marks (R150, R151). -/
def State.recountBad (s : State) (p n : Nat) : State :=
  let s := s.wr (pgPanel p) (PANEL_PLANE_SLOT.BAD.at n) (bnat (!(s.badFrames p n).isEmpty))
  let total := (s.frames.filter (fun e => e.2.bad && colOf (framePanel e.1) == colOf p)).length
  s.wr (pgSparBlk (colOf p)) SPAR_BAD_COUNT.COUNT total

/-- A frame is marked bad by a check of kind `kind`, and its repair starts if SCRUB_CTRL.REPAIR = 1 and none is in progress (R137, R147,
R149). DESIGN CHOICE (log entry 63): clearing REPAIR leaves a repair in progress, and setting it starts none before the frame is met
again. -/
def State.markBad (s : State) (a kind : Nat) : State :=
  let f := s.frame a
  let going := f.bad && f.repairing.isSome
  let rep := if going then f.repairing else if s.on pgScrub SCRUB_CTRL.REPAIR then some s.ns else none
  (s.setFrame a { f with bad := true, kind := kind, repairing := rep, fromSource := going && f.fromSource }).recountBad (framePanel a) (frameSlot a)

/-- Frame `f` of slot `n` of panel `p` cannot be verified (R137): the frame is marked bad, or its stored bits do not match their
signature. -/
def State.unverified (s : State) (p n f : Nat) : Bool := (s.frame (frameAddr p n f)).bad || (s.frame (frameAddr p n f)).mismatch

/-- A fill of slot `n` meets frame `f`, which cannot be verified (R137). -/
def State.failFrame (s : State) (p n f : Nat) : State :=
  ((s.markBad (frameAddr p n f) 3).logUpset 3 0 (frameAddr p n f)).raisePlane p PANEL_PLANE_EVENT.FILL_FAIL

/-- A fill of the shadow with slot `n` ends at frame `f`. -/
def State.failShadow (s : State) (p n f : Nat) : State :=
  let s := s.wr (pgPanel p) PANEL_PLANE_STATE.SHADOW_STATE shFailed
  (s.setPanel p { s.panel p with fillExplicit := false, failFrame := some f }).failFrame p n f

/-- The banks of panel `p` are filled again, after a wake or a slice (R135, R481): the frames are checked as in any fill (R137). DESIGN CHOICE:
where a frame of the active slot cannot be verified, the slot stays active, the frame is marked bad and FILL_FAIL is set. -/
def State.refillBanks (s : State) (p : Nat) (shadow : Bool) : State :=
  let bad (s : State) (n : Nat) : Option Nat := (List.range 128).find? (s.unverified p n)
  let s := s.countFill true
  let s := match bad s (s.activeSlot p) with | some f => s.failFrame p (s.activeSlot p) f | none => s
  if shadow then
    let s := (s.countFill true).wr (pgPanel p) PANEL_PLANE_STATE.SHADOW_STATE shReady
    match bad s (s.shadowSlot p) with | some f => s.failShadow p (s.shadowSlot p) f | none => s
  else s.wr (pgPanel p) PANEL_PLANE_STATE.SHADOW_STATE shEmpty

/-- A forced switch of panel `p` to slot `n` ends because the fill of `n` failed, and the panel's clock is gated while it is held (R239). -/
def State.forcedUnusable (s : State) (p n : Nat) : State :=
  match s.switches.find? (fun r => r.forced && r.panel == p && r.slot == n) with
  | some r =>
    let s := s.removeSwitch r
    s.setPanel p { s.panel p with govGated := (s.panel p).govGated || (s.panel p).govHeld }
  | none => s

end Sys2Proof.Machine
end

