-- ==== Sys2Proof/Machine/CtxOps.lean ====
section
/-! DEFINITION. Shared operations of chapter 06: slots and shares, rows of the context store, swap requests and their
meetings, and the saving and reloading of live contexts. -/

namespace Sys2Proof.Machine

open Sys2Proof

def State.raiseCtx (s : State) (p : Nat) (bit : Fld) : State :=
  s.raise (pgPanel p) bit PANEL_CTX_EVENT_MASK.MASK PANEL_CTX_EVENT_SRC.SOURCE

/-- Count in one of the panel's context counters and set its event bit. -/
def State.countCtx (s : State) (p : Nat) (cnt ev : Fld) : State := (s.inc (pgPanel p) cnt).raiseCtx p ev

def State.ctxCollide (s : State) (p : Nat) : State := s.countCtx p CTX_COLLIDE_CNT.COUNT PANEL_CTX_EVENT.COLLIDE
def State.ctxInvalid (s : State) (p : Nat) : State := s.countCtx p CTX_INVALID_CNT.COUNT PANEL_CTX_EVENT.INVALID
def State.ctxDefer (s : State) (p : Nat) : State := s.countCtx p CTX_GOV_DEFER_CNT.COUNT PANEL_CTX_EVENT.GOV_DEFER
def State.ctxSkip (s : State) (p : Nat) : State := s.countCtx p CTX_SKIP_CNT.COUNT PANEL_CTX_EVENT.SKIP

/-! ### Slots and shares (R156, R163) -/

/-- CTX_SPLIT.LOWER of a column. -/
def State.lowerShare (s : State) (c : Nat) : Nat := s.rd (pgTile c) CTX_SPLIT.LOWER

/-- The number of slots that a panel owns. -/
def State.share (s : State) (p : Nat) : Nat :=
  if p < 288 then s.lowerShare (colOf p) else 256 - s.lowerShare (colOf p)

/-- The tile slot of local index 0 of a panel. -/
def State.shareBase (s : State) (p : Nat) : Nat := if p < 288 then 0 else s.lowerShare (colOf p)

def State.slotOf (s : State) (p i : Nat) : Nat := s.shareBase p + i

/-- LIVE[q] of a panel. -/
def State.live (s : State) (p q : Nat) : Nat := s.rd (pgPanel p) (PANEL_CTX_LIVE.LIVE_Q0.lane q)
def State.setLive (s : State) (p q i : Nat) : State := s.wr (pgPanel p) (PANEL_CTX_LIVE.LIVE_Q0.lane q) i

/-- The panel whose share holds slot `i` of column `c`. -/
def State.slotPanel (s : State) (c i : Nat) : Nat := if i < s.lowerShare c then c else 288 + c

/-- NEXT of slot `i` of column `c` (R163). DESIGN CHOICE: software alone rewrites it; no record of the loader (R444 to R448) carries NEXT. -/
def State.nextSlot (s : State) (c i : Nat) : Nat :=
  let x := nget s.ctxNext (260 * c + i)
  if x ≠ 0 then x - 1
  else if i < s.lowerShare c then (if i + 1 < s.lowerShare c then i + 1 else 0)
  else if i + 1 < 256 then i + 1 else s.lowerShare c

/-- The quarters of a mask. -/
def quartersOf (m : Nat) : List Nat := (List.range 4).filter (bitOf m)

/-! ### The store (R157 to R161) -/

/-- Slots beside the 256: the fallbacks of the Lower and Upper Sail panel (R159), and the hold context (R161). -/
def slotHold : Nat := 258
def fallbackSlot (p : Nat) : Nat := if p < 288 then 256 else 257

def ctxKey (c i r : Nat) : Nat := 8 * (260 * c + i) + r

def State.ctxRow (s : State) (c i r : Nat) : CtxRow := mget (fun _ => ({} : CtxRow)) s.ctx (ctxKey c i r)
def State.setCtxRow (s : State) (c i r : Nat) (x : CtxRow) : State :=
  { s with ctx := mset (fun _ => ({} : CtxRow)) s.ctx (ctxKey c i r) x }

/-- The quarter-state of quarter `q` is VALID (R157). -/
def State.quarterValid (s : State) (c i q : Nat) : Bool := bitOf (nget s.ctxValid (260 * c + i)) q
def State.setQuarterValid (s : State) (c i q : Nat) (b : Bool) : State :=
  let k := 260 * c + i
  let m := nget s.ctxValid k
  let m' := if bitOf m q = b then m else if b then m + 2 ^ q else m - 2 ^ q
  { s with ctxValid := nset s.ctxValid k m' }

/-- The 256 bytes of a row (R158). -/
def rowBytes (x : Row) : List Byte := bytesLE 256 x.toNat

/-- A copy with a fresh CRC, and the check of a copy (R158). -/
def freshCopy (x : Row) : RowCopy := ⟨x, BitVec.ofNat 32 (crc32 (rowBytes x))⟩
def RowCopy.good (x : RowCopy) : Bool := crc32 (rowBytes x.row) == x.crc.toNat

/-- A row is stored in both copies, and its quarter of a slot becomes VALID (R157, R158). A slice that is turned off stores nothing
(R34). -/
def State.storeRow (s : State) (c i r : Nat) (x : Row) : State :=
  if (s.column c).off then s
  else
    let s := s.setCtxRow c i r ⟨freshCopy x, freshCopy x⟩
    if i < 256 then s.setQuarterValid c i (r / 2) true else s

/-- How a row was read (R172, R173). -/
inductive RowRead where
  | ok | repaired | bothBad
  deriving DecidableEq, Repr

/-- Read a row with mirror repair (R172); `parity` is a ROW group parity mismatch during the transfer of copy A (R28). -/
def State.readRow (s : State) (c i r : Nat) (parity : Bool) : Row × RowRead × State :=
  let x := s.ctxRow c i r
  if x.a.good && !parity then (x.a.row, .ok, s)
  else if x.b.good then (x.b.row, .repaired, s.setCtxRow c i r { x with a := x.b })
  else (0, .bothBad, s)

/-- A row that moves to panel `p` now meets a parity mismatch (R28): of the column's ROW group at crossing 1, or for the Upper Sail panel at
crossing 2 or 3. -/
def State.rowMismatch (s : State) (p : Nat) : Bool :=
  (s.column (colOf p)).mismatch.any (fun x => x.1 == s.ns && (x.2 == 1 || 288 ≤ p))

/-- The mismatch has corrupted one row. -/
def State.pastMismatch (s : State) (p : Nat) : State :=
  if s.rowMismatch p then s.setColumn (colOf p) { s.column (colOf p) with mismatch := none } else s

/-- The fallback's row of panel `p`, itself read with mirror repair; zeros where both copies fail (R172, R173). -/
def State.fallbackRow (s : State) (p r : Nat) : Row × State :=
  let (x, k, s) := (s.pastMismatch p).readRow (colOf p) (fallbackSlot p) r (s.rowMismatch p)
  (x, if k = .repaired then s.countCtx p CTX_REPAIR_CNT.COUNT PANEL_CTX_EVENT.REPAIRED else s)

/-- Upsets of stored rows of column `c` take effect. -/
def State.upsetRows (s : State) (c : Nat) (us : List RowUpset) : State :=
  us.foldl (fun s u =>
    let x := s.ctxRow c u.slot u.row
    s.setCtxRow c u.slot u.row ⟨{ x.a with row := x.a.row ^^^ u.a }, { x.b with row := x.b.row ^^^ u.b }⟩) s

/-! ### Requests (R162 to R171) -/

/-- R164: the request is discarded, or its register write rejected. -/
def State.ctxRequestBad (s : State) (p qmask : Nat) (ring : Bool) (index : Nat) : Bool :=
  qmask % 16 == 0 || (qmask % 16 != 15 && !s.quarterMode p) || (!ring && index ≥ s.share p) || s.share p == 0 ||
  !s.committed p || (s.panel p).grounded != 0

def zeroQuarter : QSwap := {}
def State.qswap (s : State) (p q : Nat) : QSwap := mget (fun _ => zeroQuarter) (s.panel p).quarters q
def State.setQswap (s : State) (p q : Nat) (x : QSwap) : State :=
  s.setPanel p { s.panel p with quarters := mset (fun _ => zeroQuarter) (s.panel p).quarters q x }

/-- REFUSED on the context port (R166). -/
def State.ctxRefuse (s : State) (p : Nat) (src : SwapSrc) : State :=
  if src = .port then s.setPanel p { s.panel p with due := { (s.panel p).due with ctxRefused := true } } else s

/-- The pending swaps of the quarters of a mask, each once. -/
def State.pendings (s : State) (p m : Nat) : List QPend :=
  ((quartersOf m).filterMap (fun q => (s.qswap p q).pend)).eraseDups

/-- The quarters of panel `p` in which swap `x` is pending. -/
def State.pendingIn (s : State) (p : Nat) (x : QPend) : List Nat :=
  (List.range 4).filter (fun q => (s.qswap p q).pend == some x)

/-- A mask without bit `q`. -/
def maskLess (m q : Nat) : Nat := if bitOf m q then m - 2 ^ q else m

/-- The governor no longer holds the swap of quarter `q` of panel `p`. -/
def State.unheld (s : State) (p q : Nat) : State :=
  { s with gov := { s.gov with work := (s.gov.work.map (fun w =>
      match w with
      | .swap r m => if r = p then .swap r (maskLess m q) else w
      | .prefetch _ => w)).filter (· != .swap p 0) } }

/-- Quarters lose their pending swaps, and the governor's list those that it held. -/
def State.unpend (s : State) (p : Nat) (qs : List Nat) : State :=
  qs.foldl (fun s q =>
    let x := s.qswap p q
    let s := if x.pend.any (·.held) then s.unheld p q else s
    s.setQswap p q { x with pend := none }) s

/-- Swap `x`, pending in the quarters `qs`, is discarded there and counted in CTX_SKIP_CNT (R170, R175, R176). -/
def State.skipPending (s : State) (p : Nat) (x : QPend) (qs : List Nat) : State := ((s.unpend p qs).ctxSkip p).ctxRefuse p x.req.src

/-- A swap becomes pending in some quarters. -/
def State.pend (s : State) (p : Nat) (x : QPend) (qs : List Nat) : State :=
  qs.foldl (fun s q => s.setQswap p q { s.qswap p q with pend := some x }) s

/-- A mask of quarters. -/
def quarterMask (qs : List Nat) : Nat := qs.foldl (fun m q => m + 2 ^ q) 0

/-- The slot that a request loads into quarter `q` (R163, R171). -/
def State.targetSlot (s : State) (p : Nat) (r : CtxReq) (q : Nat) : Nat :=
  if r.ring then s.nextSlot (colOf p) (s.slotOf p (s.live p (if s.quarterMode p then q else 0)))
  else s.slotOf p r.index

/-- The request's target is already live in each of the quarters (R164). -/
def State.alreadyLive (s : State) (p : Nat) (r : CtxReq) (qs : List Nat) : Bool :=
  qs.all (fun q => s.targetSlot p r q == s.slotOf p (s.live p q))

/-- A request is accepted in the quarters `qs` (R165, R167). -/
def State.acceptSwap (s : State) (p : Nat) (r : CtxReq) (qs : List Nat) : State :=
  let acc (q : Nat) : QAcc :=
    { slot := s.targetSlot p r q, qmask := quarterMask qs, full := !s.quarterMode p, pinned := !r.defer, src := r.src }
  qs.foldl (fun t q => t.setQswap p q { t.qswap p q with acc := some (acc q) }) s

/-- Both are the same request (R170). -/
def CtxReq.same (a b : CtxReq) : Bool := a.qmask == b.qmask && a.ring == b.ring && a.index == b.index && a.defer == b.defer

/-- The pending swaps of the quarters `qs` are replaced there (R170): each is counted once in CTX_SKIP_CNT. -/
def State.replacePending (s : State) (p : Nat) (qs : List Nat) : State :=
  (s.pendings p (quarterMask qs)).foldl (fun s x => s.skipPending p x ((s.pendingIn p x).filter qs.contains)) s

/-- Free quarters take a request (R165, R175, R241): accepted, or held by the governor; `admitted` once it has admitted it. -/
def State.takeSwap (s : State) (p : Nat) (r : CtxReq) (qs : List Nat) (admitted : Bool) : State :=
  let rows := admissionRows (!s.quarterMode p) qs.length
  if qs.isEmpty then s
  else if r.defer && !admitted && !s.admitsSwap rows then
    let s := s.pend p ⟨r, true⟩ qs
    ({ s with gov := { s.gov with work := s.gov.work ++ [HeldWork.swap p (quarterMask qs)] } }).ctxDefer p
  else (if r.defer then s.reserveRows rows else s).acceptSwap p r qs

/-- A request at its acceptance edge, or a pending one whose quarters have become free, in the quarters `qs` (R164, R170, R175, R176,
R241): one whose target is live in all of them does nothing; each quarter with an accepted swap takes it as its pending swap, and the
others take it at once. `admitted` once the governor has admitted it. -/
def State.considerSwap (s : State) (p : Nat) (r : CtxReq) (qs : List Nat) (admitted : Bool) : State :=
  if (s.panel p).grounded ≠ 0 then s
  else if s.sailsOff then (s.ctxSkip p).ctxRefuse p r.src
  else if s.ctxRequestBad p r.qmask r.ring r.index then (s.ctxInvalid p).ctxRefuse p r.src
  else if s.alreadyLive p r qs then s
  else
    let qs := qs.filter (fun q => !(s.qswap p q).pend.any (fun x => x.req.same r))
    let s := s.replacePending p qs
    let busy (q : Nat) : Bool := (s.panel p).underTest || (s.qswap p q).acc.isSome
    (s.pend p ⟨r, false⟩ (qs.filter busy)).takeSwap p r (qs.filter (fun q => !busy q)) admitted

/-- Pending swaps are accepted in the quarters that hold no accepted swap any more (R170); none while the panel is under preflight test
(R485). -/
def State.promoteSwaps (s : State) (p : Nat) : State :=
  if (s.panel p).underTest then s
  else (s.pendings p 15).foldl (fun s x =>
    let qs := (s.pendingIn p x).filter (fun q => (s.qswap p q).acc.isNone)
    if x.held ∨ qs = [] then s
    else (s.unpend p qs).considerSwap p x.req qs false) s

/-- A new request joins those on their way to their acceptance edge (R165). -/
def State.sendSwap (s : State) (p : Nat) (r : CtxReq) : State :=
  s.setPanel p { s.panel p with inbox := (s.panel p).inbox ++ [r] }

/-- A request from the port or from the Bridle (R164): a bad one is discarded and counted. -/
def State.ctxRequest (s : State) (p : Nat) (r : CtxReq) : State :=
  if s.ctxRequestBad p r.qmask r.ring r.index then (s.ctxInvalid p).ctxRefuse p r.src else s.sendSwap p r

/-- The outputs of the plane-request port and the context port of panel `p` (R142, R166). -/
def State.portOut (s : State) (p : Nat) : PortOut :=
  { active := s.activeSlot p, shadow := s.shadowSlot p, ready := s.shadowState p == shReady
    live := (s.reg (pgPanel p * 4096 + (PANEL_CTX_LIVE.LIVE_Q0.lane 0).off)).toNat
    busy := quarterMask ((List.range 4).filter (fun q => (s.qswap p q).acc.isSome || (s.qswap p q).pend.isSome)) }

/-- They change at an edge that the panel receives (R535). -/
def State.showPorts (s : State) (p : Nat) : State := s.setPanel p { s.panel p with ports := s.portOut p }

/-- The accepted swaps of a panel, by the mask of each. -/
def State.acceptedMasks (s : State) (p : Nat) : List Nat :=
  ((List.range 4).filterMap (fun q => (s.qswap p q).acc.map (·.qmask))).eraseDups

/-- The source of the accepted swap of mask `m`. -/
def State.acceptedFrom (s : State) (p m : Nat) : SwapSrc :=
  (((quartersOf m).filterMap (fun q => (s.qswap p q).acc)).head?.map (·.src)).getD .register

/-- An accepted swap is discarded, its loaded rows with it; its port sees REFUSED (R166). -/
def State.dropAccepted (s : State) (p m : Nat) : State :=
  ((quartersOf m).foldl (fun s q => s.setQswap p q { s.qswap p q with acc := none }) s).ctxRefuse p (s.acceptedFrom p m)

/-- R170: a plane switch that changes QUARTER discards accepted and pending swaps, counted in CTX_INVALID_CNT. -/
def State.quarterChange (s : State) (p : Nat) : State :=
  let s := (s.acceptedMasks p).foldl (fun s m => (s.dropAccepted p m).ctxInvalid p) s
  (s.pendings p 15).foldl (fun s x => ((s.unpend p (s.pendingIn p x)).ctxInvalid p).ctxRefuse p x.req.src) s

/-- Pending swaps and requests on their way are discarded and counted in CTX_SKIP_CNT (R176). -/
def State.skipPendings (s : State) (p : Nat) : State :=
  let s := (s.pendings p 15).foldl (fun s x => s.skipPending p x (s.pendingIn p x)) s
  let s := (s.panel p).inbox.foldl (fun s r => (s.ctxSkip p).ctxRefuse p r.src) s
  s.setPanel p { s.panel p with inbox := [] }

/-- Accepted and pending swaps are discarded and counted in CTX_SKIP_CNT (R176: PARK entry, region parking). -/
def State.skipSwaps (s : State) (p : Nat) : State :=
  let s := s.skipPendings p
  (s.acceptedMasks p).foldl (fun s m => (s.dropAccepted p m).ctxSkip p) s

/-! ### Moving rows (R167, R172, R173) -/

/-- The unsaved outgoing rows of a quarter go to both copies of their slot (R167). -/
def State.saveQuarter (s : State) (p q : Nat) : State :=
  match (s.qswap p q).saving with
  | none => s
  | some sv =>
    let c := colOf p
    let sh := (s.panel p).shadow
    let s := (s.storeRow c sv.slot (2 * q) (cellRow sh (2 * q))).storeRow c sv.slot (2 * q + 1) (cellRow sh (2 * q + 1))
    (s.countRows 2 sv.pinned).setQswap p q { s.qswap p q with saving := none }

/-- The record of a LOST context (R173): local index, quarter (0 for a full swap), `n` quarters; `slot` is none for the hold
context. -/
def State.recordLost (s : State) (p q n : Nat) (slot : Option Nat) (full : Bool) : State :=
  let pg := pgPanel p
  let s := s.add pg CTX_LOST_CNT.COUNT n
  let s := match slot with
    | some i =>
      let s := (s.wr pg CTX_LOST_LAST.INDEX (i - s.shareBase p)).wr pg CTX_LOST_LAST.QUARTER (if full then 0 else q)
      let s := (s.wr pg CTX_LOST_LAST.FULL (bnat full)).wr pg CTX_LOST_LAST.VALID 1
      let f := CTX_LOST_MAP.LOST.at (i / 32)
      let m := s.rd (pgTile (colOf p)) f
      if bitOf m (i % 32) then s else s.wr (pgTile (colOf p)) f (m + 2 ^ (i % 32))
    | none => s
  s.raiseCtx p PANEL_CTX_EVENT.LOST

/-- Read the rows `rs` of slot `i` in order until one fails in both copies: the rows read, how many moved, and whether one
failed. EMPTY quarters deliver zeros (R157). -/
def State.readRows (s : State) (p i : Nat) (parity : List Nat) : List Nat → List (Nat × Row) × Nat × Bool × State
  | [] => ([], 0, false, s)
  | r :: rs =>
    if i < 256 && !s.quarterValid (colOf p) i (r / 2) then
      let (xs, n, bad, s) := s.readRows p i parity rs
      ((r, 0) :: xs, n + 1, bad, s)
    else
      let (x, k, s) := (s.pastMismatch p).readRow (colOf p) i r (parity.contains r || s.rowMismatch p)
      if k = .bothBad then ([], 1, true, s)
      else
        let s := if k = .repaired then s.countCtx p CTX_REPAIR_CNT.COUNT PANEL_CTX_EVENT.REPAIRED else s
        let (xs, n, bad, s) := s.readRows p i parity rs
        ((r, x) :: xs, n + 1, bad, s)

/-- The fallback's rows in place of lost ones. -/
def State.fallbackRows (s : State) (p : Nat) : List Nat → List (Nat × Row) × State
  | [] => ([], s)
  | r :: rs =>
    let (x, s) := s.fallbackRow p r
    let (xs, s) := s.fallbackRows p rs
    ((r, x) :: xs, s)

/-- Write rows into the shadow cells. -/
def State.setShadowRows (s : State) (p : Nat) (xs : List (Nat × Row)) : State :=
  s.setPanel p { s.panel p with shadow := xs.foldl (fun m x => setCellRow m x.1 x.2) (s.panel p).shadow }

/-- Write rows into the live cells. -/
def State.setLiveRows (s : State) (p : Nat) (xs : List (Nat × Row)) : State :=
  s.setPanel p { s.panel p with cells := xs.foldl (fun m x => setCellRow m x.1 x.2) (s.panel p).cells }

def rowsOfQuarters (qs : List Nat) : List Nat := qs.flatMap (fun q => [2 * q, 2 * q + 1])

/-- Load the accepted swap of the quarters `qs` (all four of a full swap, or one) from slot `a.slot` (R167, R172, R173). -/
def State.loadQuarters (s : State) (p : Nat) (qs : List Nat) (a : QAcc) (parity : List Nat) : State :=
  let (xs, n, bad, s) := s.readRows p a.slot parity (rowsOfQuarters qs)
  let s := s.countRows n a.pinned
  if bad then
    let (ys, s) := s.fallbackRows p (rowsOfQuarters qs)
    let s := ((s.setShadowRows p ys).countRows ys.length a.pinned).recordLost p (qs.headD 0) qs.length (some a.slot) a.full
    qs.foldl (fun s q => s.setQswap p q { s.qswap p q with acc := some { a with loaded := true, lost := true } }) s
  else
    qs.foldl (fun s q => s.setQswap p q { s.qswap p q with acc := some { a with loaded := true } }) (s.setShadowRows p xs)

/-- The slot that the live context of quarter `q` is saved to and reloaded from (R161, R176). -/
def State.homeSlot (s : State) (p q : Nat) : Nat := if s.share p = 0 then slotHold else s.slotOf p (s.live p q)

/-- The live context of every quarter is saved to its LIVE[q] slot, or to the hold context (R161, R176, R451, R481). -/
def State.saveLive (s : State) (p : Nat) : State :=
  (List.range 4).foldl (fun s q =>
    let s := s.saveQuarter p q
    let cells := (s.panel p).cells
    let i := s.homeSlot p q
    ((s.storeRow (colOf p) i (2 * q) (cellRow cells (2 * q))).storeRow (colOf p) i (2 * q + 1)
      (cellRow cells (2 * q + 1))).countRows 2 true) s

/-- The live context is reloaded from its LIVE[q] slots, or from the hold context; a quarter that cannot be read takes the
fallback's rows and is LOST, which the port shows after the first edge that the panel receives (R173, R176). -/
def State.reloadLive (s : State) (p : Nat) : State :=
  (List.range 4).foldl (fun s q =>
    let i := s.homeSlot p q
    let (xs, n, bad, s) := s.readRows p i [] [2 * q, 2 * q + 1]
    let s := s.countRows n true
    if bad then
      let (ys, s) := s.fallbackRows p [2 * q, 2 * q + 1]
      let s := (s.setLiveRows p ys).countRows ys.length true
      let s := s.recordLost p q 1 (if i < 256 then some i else none) false
      s.setPanel p { s.panel p with due := { (s.panel p).due with lost := (s.panel p).due.lost ||| 2 ^ q } }
    else s.setLiveRows p xs) s

/-- At a commit every quarter takes local index 0; a panel without slots takes its fallback, whose rows count as they move (R160, R161,
R174, R241). DESIGN CHOICE: at a re-commit without a seed index 0 gives what its slot holds (R176), not zero (R160). -/
def State.commitContext (s : State) (p : Nat) : State :=
  let s := (List.range 4).foldl (fun s q => s.setLive p q 0) s
  if s.share p = 0 then
    let (xs, s) := s.fallbackRows p (List.range 8)
    (s.setLiveRows p xs).countRows xs.length true
  else s.reloadLive p

end Sys2Proof.Machine
end

