-- ==== Sys2Proof/Machine/Contexts.lean ====
section
/-! DEFINITION. Meanings of chapter 06's commands: swap requests and swaps, and software access to the context store. -/

namespace Sys2Proof.Machine

open Sys2Proof

/-- CTX_PORT_REQ (R164, R166): the port samples its inputs only while the panel receives its clock (R535). -/
def execCtxPortReq (p qmask : Nat) (ring : Bool) (index : Nat) (defer : Bool) (s : State) : Host.Outcome State Fault Refusal :=
  guardUnit (p < 576 && qmask < 16 && index < 256)
    (if s.clkRun p then s.ctxRequest p ⟨qmask, ring, index, defer, .port, s.ns⟩ else s)

/-- A PANEL_CTX_CMD write past the access checks: a request that R164 discards is a rejection. -/
def State.ctxCmdBody (s : State) (p : Nat) (v : Word) : Option State :=
  let f (x : Fld) : Nat := getF v x.lo x.len
  let r : CtxReq := ⟨f PANEL_CTX_CMD.QMASK, f PANEL_CTX_CMD.RING == 1, f PANEL_CTX_CMD.INDEX, f PANEL_CTX_CMD.DEFER == 1,
    .register, s.ns⟩
  if s.ctxRequestBad p r.qmask r.ring r.index then none else some (s.sendSwap p r)

/-- CTX_CMD (R164, R177). -/
def execCtxCmd (a : Access) (p : Nat) (v : Word) (s : State) : Host.Outcome State Fault Refusal :=
  guardUnit (p < 576) (s.gatedWrite a (pgPanel p) PANEL_CTX_CMD.INDEX.off v (fun s => s.ctxCmdBody p v))

/-- Requests in the order Bridle, fabric port, register write; those of one source keep their order (R170). -/
def rankSwaps (rs : List CtxReq) : List CtxReq :=
  rs.filter (·.src == .bridle) ++ rs.filter (·.src == .port) ++ rs.filter (·.src == .register)

/-- The requests `rs` of panel `p` meet at one acceptance edge (R170): a request loses to one of another source that shares a
quarter with it; the others are considered in turn. -/
def State.acceptAll (s : State) (p : Nat) (rs : List CtxReq) : State :=
  ((rankSwaps rs).foldl (fun (acc : State × List CtxReq) r =>
    let (s, won) := acc
    if won.any (fun w => w.src != r.src && (quartersOf w.qmask).any (bitOf r.qmask)) then
      ((s.ctxCollide p).ctxRefuse p r.src, won)
    else (s.considerSwap p r (quartersOf r.qmask) false, won ++ [r])) (s, [])).1

/-- SWAP_ACCEPT (R165, R170): the acceptance edge of the requests of panel `p` that stand at the places `sel` of its inbox. -/
def execSwapAccept (p : Nat) (sel : List Nat) (s : State) : Host.Outcome State Fault Refusal :=
  let inbox := (s.panel p).inbox
  let tagged := inbox.zipIdx
  let now := (tagged.filter (fun x => sel.contains x.2)).map (·.1)
  let rest := (tagged.filter (fun x => !sel.contains x.2)).map (·.1)
  guardUnit (p < 576)
    ((s.setPanel p { s.panel p with inbox := rest }).acceptAll p now)

/-- The rows of every accepted swap of panel `p` that is not loaded yet climb into the shadow cells; a quarter whose outgoing
rows are unsaved saves them first (R167, R168). While the panel is under preflight test they wait (R176). -/
def State.contextLoad (s : State) (p : Nat) (parity : List Nat) : State :=
  (List.range 4).foldl (fun s q =>
    match (s.qswap p q).acc with
    | none => s
    | some a =>
      if a.loaded || (s.panel p).underTest then s
      else
        let qs := if a.full then quartersOf a.qmask else [q]
        (qs.foldl (fun s q => s.saveQuarter p q) s).loadQuarters p qs a parity) s

/-- The accepted swaps of the quarters `m` of panel `p` have waited for the other panel: each is counted once (R168). -/
def State.countWaits (s : State) (p m : Nat) : State :=
  (s.acceptedMasks p).foldl (fun s g =>
    if (quartersOf g).any (fun q => bitOf m q && (s.qswap p q).acc.any (fun a => !a.waited)) then
      ((quartersOf g).foldl (fun s q =>
        s.setQswap p q { s.qswap p q with acc := (s.qswap p q).acc.map (fun a => { a with waited := true }) }) s).inc (pgPanel p)
        CTX_WAIT_CNT.COUNT
    else s) s

/-- The swaps whose unsaved rows in the quarters `m` have waited are counted, each once, if they have not been before (R168). -/
def State.countSaveWaits (s : State) (p m : Nat) : State :=
  (quartersOf m).foldl (fun s q =>
    match (s.qswap p q).saving with
    | some v =>
      if v.waited then s
      else
        ((List.range 4).foldl (fun s r => s.setQswap p r { s.qswap p r with saving := (s.qswap p r).saving.map (fun w =>
          if w.qmask = v.qmask then { w with waited := true } else w) }) s).inc (pgPanel p) CTX_WAIT_CNT.COUNT
    | none => s) s

/-- CONTEXT_LOAD (R167, R172, R173): `upsets` are the cells of stored rows that have inverted, `parity` the rows whose
transfer showed a parity mismatch (R28), `waited` the quarters whose rows waited for the other panel (R168). -/
def execContextLoad (p : Nat) (upsets : List RowUpset) (parity : List Nat) (waited : SwapWaits) (s : State) :
    Host.Outcome State Fault Refusal :=
  let s := s.upsetRows (colOf p) upsets
  guardUnit (p < 576 && upsets.all (fun u => u.slot < 259 && u.row < 8))
    (((s.countSaveWaits p waited.save).countWaits p waited.load).contextLoad p parity)

/-- Quarter `q` exchanges its live and shadow cells (R98, R167). -/
def State.swapQuarter (s : State) (p q : Nat) : State :=
  match (s.qswap p q).acc with
  | none => s
  | some a =>
    let x := s.panel p
    let swapRow (y : Panel) (r : Nat) : Panel :=
      { y with cells := setCellRow y.cells r (cellRow x.shadow r), shadow := setCellRow y.shadow r (cellRow x.cells r) }
    let y := swapRow (swapRow x (2 * q)) (2 * q + 1)
    let y := { y with pulses := { y.pulses with
      swapped := y.pulses.swapped ||| 2 ^ q
      lost := if a.lost then y.pulses.lost ||| 2 ^ q else y.pulses.lost } }
    let old := s.slotOf p (s.live p q)
    ((s.setPanel p y).setQswap p q { s.qswap p q with acc := none, saving := some ⟨old, a.pinned, a.qmask, a.waited⟩ }).setLive p q
      (a.slot - s.shareBase p)

/-- The quarters of mask `m` reach their swap edge: the registers take their next values under the outgoing context, the
cells exchange, an asynchronous SR keeps its flip-flops, and a pending swap of a quarter that is free again is accepted (R98, R167, R170). -/
def State.swapEdge (s : State) (p m : Nat) (e : PanelEdge) : State :=
  let mute := if s.quarterMode p then m else 15
  let s := s.beforeEdges [p] [e] (fun _ => mute)
  let s := s.edgeOf s p [e] mute
  let s := ((quartersOf m).foldl (fun s q => s.swapQuarter p q) s).holdAsync p mute e
  ((s.inc (pgPanel p) CTX_SWAP_CNT.COUNT).promoteSwaps p).showPorts p

/-- SWAP_EDGE (R167): the first edge that the panel receives at least 1.0 ns after the last load row of the accepted swap of
mask `m`. -/
def execSwapEdge (p m : Nat) (e : PanelEdge) (s : State) : Host.Outcome State Fault Refusal :=
  let ready := !(quartersOf m).isEmpty && (quartersOf m).all (fun q => (s.qswap p q).acc.any (fun a => a.qmask == m && a.loaded))
  guardUnit (p < 576 && m < 16 && e.panel == p) (if s.clkRun p && ready then s.swapEdge p m e else s)

/-- CONTEXT_SAVE (R167): the unsaved outgoing rows of the panel go to both copies of their slots. -/
def execContextSave (pass : SavePass) (s : State) : Host.Outcome State Fault Refusal :=
  guardUnit (pass.p < 576) ((List.range 4).foldl (fun s q => s.saveQuarter pass.p q) (s.countSaveWaits pass.p pass.waited))

/-- SWAP_DEFER_TIMEOUT (R175): swaps that the governor has held for DEFER_LIMIT µs since their request are discarded. -/
def execSwapDeferTimeout (p : Nat) (s : State) : Host.Outcome State Fault Refusal :=
  let limit := 1000 * s.rd (pgPanel p) PANEL_CTX_CTRL.DEFER_LIMIT
  guardUnit (p < 576)
    ((s.pendings p 15).foldl (fun s x => if x.held && s.ns - x.req.at_ ≥ limit then s.skipPending p x (s.pendingIn p x) else s) s)

/-! ### Software access to the store (R178, R179) -/

/-- The panel whose slot, fallback or hold context a CTX_ACC_CMD of `target` and `slot` addresses; none where neither share
is 0 and the hold context serves no panel. -/
def State.accPanel (s : State) (c target slot : Nat) : Option Nat :=
  if target = 0 then some (s.slotPanel c slot)
  else if target = 1 then some c
  else if target = 2 then some (288 + c)
  else if s.lowerShare c = 0 then some c
  else if s.lowerShare c = 256 then some (288 + c)
  else none

/-- The stored slot that a command addresses. -/
def accSlot (target slot : Nat) : Nat := if target = 0 then slot else if target = 1 then 256 else if target = 2 then 257 else slotHold

/-- WORLD_CTX of a panel (R51). -/
def State.ctxSecure (s : State) (p : Nat) : Bool := bitOf (s.rd pgWorld (WORLD_CTX.SECURE.at (p / 32))) (p % 32)

/-- Partition view of R41: function PF `n` other than 0 reaches only panels of its own partition. -/
def State.pfOwns (s : State) (w : Who) (p : Nat) : Bool :=
  match w with
  | .pf 0 => true
  | .pf n => s.panelPart p == n
  | _ => true

/-- The WORLD_CTX check of a CTX_ACC_CMD (R42, R179). -/
def State.ctxAccDeny (s : State) (a : Access) (c : Nat) (v : Word) : Option State :=
  let t := getF v CTX_ACC_CMD.TARGET.lo CTX_ACC_CMD.TARGET.len
  let i := getF v CTX_ACC_CMD.SLOT.lo CTX_ACC_CMD.SLOT.len
  match s.accPanel c t i with
  | some p => if s.ctxSecure p && !s.whoSecure a.who then some (s.violateOther a.who true 2 p 0) else none
  | none => none

/-- A CTX_ACC_CMD past the access checks (R41, R178). -/
def State.ctxAccBody (s : State) (a : Access) (c : Nat) (v : Word) : Option State :=
  let f (x : Fld) : Nat := getF v x.lo x.len
  let op := f CTX_ACC_CMD.OP
  match s.accPanel c (f CTX_ACC_CMD.TARGET) (f CTX_ACC_CMD.SLOT) with
  | none => none
  | some p =>
    if s.on (pgTile c) CTX_ACC_STATUS.BUSY ∨ (op ≠ 1 ∧ op ≠ 2) ∨ s.pfOwns a.who p = false then none
    else
      let cmd : AccCmd := ⟨accSlot (f CTX_ACC_CMD.TARGET) (f CTX_ACC_CMD.SLOT), f CTX_ACC_CMD.ROW, f CTX_ACC_CMD.TARGET,
        op == 2, whoKey a.who⟩
      some ((s.setColumn c { s.column c with accCmd := some cmd }).wr (pgTile c) CTX_ACC_STATUS.BUSY 1)

/-- A write to CTX_ACC_CMD. -/
def State.ctxAccWrite (s : State) (a : Access) (c : Nat) (v : Word) : State :=
  s.gatedWriteW a (pgTile c) CTX_ACC_CMD.SLOT.off v (fun s => s.ctxAccDeny a c v) (fun s => s.ctxAccBody a c v)

/-- CTX_ACC_READ (R178, R179): the write carries OP = 1 and the other bits of `v`. -/
def execCtxAccRead (a : Access) (c : Nat) (v : Word) (s : State) : Host.Outcome State Fault Refusal :=
  guardUnit (c < 288) (s.ctxAccWrite a c (setF v CTX_ACC_CMD.OP.lo CTX_ACC_CMD.OP.len 1))

/-- CTX_ACC_WRITE (R178, R179): the write carries OP = 2 and the other bits of `v`. -/
def execCtxAccWrite (a : Access) (c : Nat) (v : Word) (s : State) : Host.Outcome State Fault Refusal :=
  guardUnit (c < 288) (s.ctxAccWrite a c (setF v CTX_ACC_CMD.OP.lo CTX_ACC_CMD.OP.len 2))

/-- The contexts of a panel count as live (R178, R179): its region is committed and it is neither grounded nor in PARK. -/
def State.contextsLive (s : State) (p : Nat) : Bool := s.committed p && (s.panel p).grounded == 0 && !s.sailsOff

/-- Slot `i` of column `c` is LIVE[q] of its panel for a quarter `q`. -/
def State.slotLiveIn (s : State) (c i q : Nat) : Bool :=
  let p := s.slotPanel c i
  s.share p != 0 && s.slotOf p (s.live p q) == i

/-- A load or save of slot `i` is in progress (MOVING, R178). -/
def State.slotMoving (s : State) (c i : Nat) : Bool :=
  [c, 288 + c].any (fun p => (List.range 4).any (fun q =>
    (s.qswap p q).acc.any (·.slot == i) || (s.qswap p q).saving.any (·.slot == i)))

/-- A WRITE of the slot reports LIVE (R179). -/
def State.writeLive (s : State) (c : Nat) (cmd : AccCmd) : Bool :=
  if cmd.target = 0 then
    (s.contextsLive (s.slotPanel c cmd.slot) && (List.range 4).any (s.slotLiveIn c cmd.slot)) || s.slotMoving c cmd.slot
  else if cmd.target = 3 then (match s.accPanel c 3 0 with | some p => s.contextsLive p | none => false)
  else false

/-- The words of a row, and the row of a buffer. -/
def bufOfRow (x : Row) : SMap Word :=
  (List.range 64).foldl (fun m k => mset (fun _ => 0) m k (BitVec.ofNat 32 (rowGet x (32 * k) 32))) []
def rowOfBuf (m : SMap Word) : Row := m.foldl (fun x e => rowSet x (32 * e.1) 32 e.2.toNat) 0

/-- The command ends with a RESULT (R178). -/
def State.accResult (s : State) (c r : Nat) : State :=
  (s.setColumn c { s.column c with accCmd := none }).wr (pgTile c) CTX_ACC_STATUS.BUSY 0 |>.wr (pgTile c) CTX_ACC_STATUS.RESULT r

/-- The row buffer is filled by a READ of initiator `who`, which becomes its holder (R41). -/
def State.fillBuf (s : State) (c who : Nat) (x : Row) : State :=
  s.setColumn c { s.column c with buf := bufOfRow x, holder := some who }

/-- The panel whose slot, fallback or hold context the command reads counts a row repaired from its mirror (R172, R179). -/
def State.countAccRepair (s : State) (c : Nat) (cmd : AccCmd) : State :=
  match s.accPanel c cmd.target cmd.slot with
  | some p => s.countCtx p CTX_REPAIR_CNT.COUNT PANEL_CTX_EVENT.REPAIRED
  | none => s

/-- A context-store command runs in a free Ballast cycle (R179). DESIGN CHOICE: on a slice that is turned off (R34) it moves nothing, and its
RESULT is free, for the spec states none. -/
def State.accDone (s : State) (c : Nat) : State :=
  match (s.column c).accCmd with
  | none => s
  | some cmd =>
    if (s.column c).off then
      let f := s.free 4
      f.2.accResult c f.1
    else if cmd.write then
      if s.writeLive c cmd then s.accResult c 4
      else (s.storeRow c cmd.slot cmd.row (rowOfBuf (s.column c).buf)).accResult c 0
    else if cmd.slot < 256 ∧ s.quarterValid c cmd.slot (cmd.row / 2) = false then (s.fillBuf c cmd.who 0).accResult c 3
    else
      let (x, k, s) := s.readRow c cmd.slot cmd.row false
      let s := if k = .repaired then s.countAccRepair c cmd else s
      (s.fillBuf c cmd.who x).accResult c (match k with | .ok => 0 | .repaired => 1 | .bothBad => 2)

/-- CTX_ACC_DONE (R179): `upsets` are the cells of stored rows that have inverted. -/
def execCtxAccDone (c : Nat) (upsets : List RowUpset) (s : State) : Host.Outcome State Fault Refusal :=
  guardUnit (c < 288 && upsets.all (fun u => u.slot < 259 && u.row < 8)) ((s.upsetRows c upsets).accDone c)

/-- AUTOINC of CTX_BUF_INDEX (R178). -/
def State.bufAdvance (s : State) (c : Nat) : State :=
  let pg := pgTile c
  if s.on pg CTX_BUF_INDEX.AUTOINC then s.wr pg CTX_BUF_INDEX.WORD ((s.rd pg CTX_BUF_INDEX.WORD + 1) % 64) else s

/-- A CTX_BUF_DATA write past the access checks: the holder rule of R41. -/
def State.bufWriteBody (s : State) (a : Access) (c : Nat) (v : Word) : State :=
  let x := s.column c
  let k := whoKey a.who
  let buf := if x.holder = some k then x.buf else []
  let w := s.rd (pgTile c) CTX_BUF_INDEX.WORD
  (s.setColumn c { x with buf := mset (fun _ => 0) buf w v, holder := some k }).bufAdvance c

/-- A CTX_BUF_DATA read past the access checks: the word for the holder, 0 for every other (R41). -/
def State.bufReadBody (s : State) (a : Access) (c : Nat) : State :=
  let x := s.column c
  let d : Word := if x.holder = some (whoKey a.who) then mget (fun _ => 0) x.buf (s.rd (pgTile c) CTX_BUF_INDEX.WORD) else 0
  (s.bufAdvance c).respond .ok d.toNat

/-- CTX_BUF_DATA_WRITE (R41). -/
def execCtxBufDataWrite (a : Access) (c : Nat) (v : Word) (s : State) : Host.Outcome State Fault Refusal :=
  guardUnit (c < 288) (s.gatedWrite a (pgTile c) CTX_BUF_DATA.DATA.off v (fun s => some (s.bufWriteBody a c v)))

/-- CTX_BUF_DATA_READ (R41). -/
def execCtxBufDataRead (a : Access) (c : Nat) (s : State) : Host.Outcome State Fault Refusal :=
  guardUnit (c < 288) (s.gatedRead a (pgTile c) CTX_BUF_DATA.DATA.off (fun s => s.bufReadBody a c))

/-- A swap or save of the tile is in progress (R178). -/
def State.tileBusy (s : State) (c : Nat) : Bool :=
  [c, 288 + c].any (fun p => (List.range 4).any (fun q => (s.qswap p q).acc.isSome || (s.qswap p q).saving.isSome))

/-- A CTX_SPLIT write past the access checks (R41, R163, R178). -/
def State.splitBody (s : State) (a : Access) (c : Nat) (v : Word) : Option State :=
  if s.committed c ∨ s.committed (288 + c) ∨ s.tileBusy c ∨ s.pfOwns a.who c = false ∨ s.pfOwns a.who (288 + c) = false then none
  else
    let old := s.lowerShare c
    let s := s.storeReg (pgTile c) CTX_SPLIT.LOWER.off v
    if s.lowerShare c = old then some s
    else some { s with ctxNext := mkeep (fun k => !(260 * c ≤ k && k < 260 * c + 260)) s.ctxNext }

/-- CTX_SPLIT_WRITE (R156, R163). -/
def execCtxSplitWrite (a : Access) (c : Nat) (v : Word) (s : State) : Host.Outcome State Fault Refusal :=
  guardUnit (c < 288) (s.gatedWrite a (pgTile c) CTX_SPLIT.LOWER.off v (fun s => s.splitBody a c v))

end Sys2Proof.Machine
end

