-- ==== Sys2Proof/Machine/FioOps.lean ====
section
/-! DEFINITION. Field pins: levels at each stage, validity, what an output drives, and the edges of precision pins (R220,
R491 to R500). -/

namespace Sys2Proof.Machine

open Sys2Proof

def zeroPin : Pin := {}
def State.pin (s : State) (n : Nat) : Pin := mget (fun _ => zeroPin) s.pins n
def State.setPin (s : State) (n : Nat) (x : Pin) : State := { s with pins := mset (fun _ => zeroPin) s.pins n x }

/-- Number of precision pin `k` (R491). -/
def precPin (k : Nat) : Nat := 48 * (k / 16) + 32 + k % 16

/-- The pin is a precision pin (R491). -/
def isPrec (n : Nat) : Bool := n < 192 && 32 ≤ n % 48

/-- A field of FIO_PIN_CFG or FIO_PIN_FILT of pin `n`. -/
def State.rdPin (s : State) (n : Nat) (f : Fld) : Nat := s.rd (pgFio (n / 48)) (f.at (n % 48))
def State.wrPin (s : State) (n : Nat) (f : Fld) (v : Nat) : State := s.wr (pgFio (n / 48)) (f.at (n % 48)) v

/-- The upper pin of a differential pair, which reads 0 (R492): the pair is formed in banks 0 to 3 at 1.8 or 2.5 V. -/
def State.pairedOdd (s : State) (n : Nat) : Bool :=
  let io := s.rd (pgFio (n / 48)) FIO_BANK_CTRL.VCCIO
  n < 192 && n % 2 == 1 && (io == 2 || io == 3) && s.rdPin (n - 1) FIO_PIN_CFG.DIFF == 1

/-- The filtered, inverted level of an input (R493); inputs of a bank with VCCIO undeclared are disabled (R492), and every input reads
0 while the ZY12 load failure holds (R458). -/
def State.filtLevel (s : State) (n : Nat) : Bool :=
  !s.halted && s.rd (pgFio (n / 48)) FIO_BANK_CTRL.VCCIO != 0 && !s.pairedOdd n &&
  ((s.pin n).filt != (s.rdPin n FIO_PIN_CFG.INVERT == 1))

/-- A field of plug group `g`. -/
def State.rdPg (s : State) (g : Nat) (f : Fld) : Nat := s.rd pgPlug (f.at g)
def State.wrPg (s : State) (g : Nat) (f : Fld) (v : Nat) : State := s.wr pgPlug (f.at g) v

def State.pgEnabled (s : State) (g : Nat) : Bool := s.rdPg g FIO_PG_CTRL.ENABLE == 1

/-- The debounced level of the group's presence pin reads present (R499). -/
def State.pgPresent (s : State) (g : Nat) : Bool :=
  bnat (s.pin (s.rdPg g FIO_PG_CTRL.PRES_PIN)).deb == s.rdPg g FIO_PG_CTRL.PRES_LEVEL

def State.pgHeld (s : State) (g : Nat) : Bool := s.rdPg g FIO_PG_STATUS.HELD == 1

/-- The enabled plug group of which the pin is a member (R499). -/
def State.pinGroup (s : State) (n : Nat) : Option Nat :=
  let g := s.rdPin n FIO_PIN_CFG.PGROUP
  if s.rdPin n FIO_PIN_CFG.PG_MEMBER = 1 ∧ s.pgEnabled g = true then some g else none

/-- An input reads INVALID (R494); a presence pin is not invalidated by its own group (R499). -/
def State.pinInvalid (s : State) (n : Nat) : Bool :=
  match s.pinGroup n with
  | some g => n != s.rdPg g FIO_PG_CTRL.PRES_PIN && !s.pgPresent g
  | none => false

/-- Members of plug group `g`. -/
def State.pgMembers (s : State) (g : Nat) : List Nat :=
  (List.range 624).filter (fun n => s.rdPin n FIO_PIN_CFG.PG_MEMBER == 1 && s.rdPin n FIO_PIN_CFG.PGROUP == g)

/-- The drive of a state code (R497); HOLD keeps `held`. -/
def codeDrive (code : Nat) (held : PinDrive) : PinDrive :=
  match code with
  | 0 => .hiZ
  | 1 => .low
  | 2 => .high
  | _ => held

/-- The drive of a bank's park state (R497). -/
def parkDrive (code : Nat) : PinDrive :=
  match code with
  | 0 => .weakDown
  | 1 => .hiZ
  | 2 => .weakUp
  | _ => .low

/-- The panels whose state governs the pin (R496): those of its OUT, OE and BRIDLE entries. -/
def State.pinPanels (s : State) (n : Nat) : List Nat := ((s.pin n).roles.filter (fun r => r.role != 0)).map (·.panel)

/-- An owning panel is parked or grounded (R497). -/
def State.pinParked (s : State) (n : Nat) : Bool := (s.pinPanels n).any (fun p => (s.panel p).parked || (s.panel p).grounded != 0)

/-- The instant of the last edge that the panel of pin `n`'s slots received. -/
def State.slotEdge (s : State) (n : Nat) : Nat := ((s.pinPanels n).map (fun p => (s.panel p).edgeAt)).headD 0

/-- The owner's value of a driven pin (R495): a panel that receives no clock keeps the value of its CONTROL slots (R535). -/
def State.ownDrive (s : State) (n : Nat) : PinDrive :=
  if s.rdPin n FIO_PIN_CFG.OWNER = 1 then (if (s.pinPanels n).all s.clkRun then .fabric else .kept)
  else if s.rdPin n FIO_PIN_CFG.OE = 0 then .hiZ
  else if s.rdPin n FIO_PIN_CFG.OUT = 1 then .high else .low

/-- The output is in the unplugged state (R497, R499). -/
def State.pinUnplugged (s : State) (n : Nat) : Bool :=
  match s.pinGroup n with
  | some g => !s.pgPresent g || s.pgHeld g
  | none => false

/-- The output is in the power-fail state (R497, R500). -/
def State.pinPfail (s : State) (n : Nat) : Bool := (s.pinGroup n).isSome && s.on pgPwr PWR_STATUS.PF_HELD

/-- What pin `n` drives: the first state of R497 that applies. -/
def State.pinDrive (s : State) (n : Nat) : PinDrive :=
  let x := s.pin n
  if s.halted then .halted
  else if !s.powerGood then .weakDown
  else if isPrec n && s.on pgPlug FIO_TRIP.LATCHED then codeDrive (s.rdPin n FIO_PIN_CFG.TRIP_STATE) x.holdTrip
  else if s.pinUnplugged n then codeDrive (s.rdPin n FIO_PIN_CFG.UNPLUG) x.holdUnplug
  else if s.pinPfail n then codeDrive (s.rdPin n FIO_PIN_CFG.PFAIL) x.holdPfail
  else if s.rdPin n FIO_PIN_CFG.OWNER == 0 || s.rd (pgFio (n / 48)) FIO_BANK_CTRL.VCCIO == 0 || s.pinParked n then
    parkDrive (s.rd (pgFio (n / 48)) FIO_BANK_CTRL.PARK)
  else if (s.pinPanels n).any (fun p => (s.panel p).underTest) then x.holdTest
  else s.ownDrive n

/-- The drive that HOLD keeps. -/
def heldDrive (d : PinDrive) : PinDrive := if d = .fabric then .kept else d

/-- What the ball carries: EXTEST and HIGHZ override every order of R497 while the JTAG_EXT strap is high (R504). -/
def State.ballDrive (s : State) (n : Nat) : PinDrive :=
  if !s.straps.jtagExt then s.pinDrive n
  else match s.jtag.instr with
    | .highz => .hiZ
    | .extest =>
      if s.jtag.cells.getLsbD (3 * n + 2) then (if s.jtag.cells.getLsbD (3 * n + 1) then .high else .low) else .hiZ
    | _ => s.pinDrive n

/-! ### Precision pins (R220) -/

/-- Scheduled edges that the pin holds: a pulse whose leading edge is still to come holds two. -/
def heldEdges (es : List PinEdge) : Nat := (es.map (fun e => if e.op = 3 then 2 else 1)).sum

/-- Put an edge in the order of its instant; at one instant, in issue order. -/
def insertEdge (e : PinEdge) : List PinEdge → List PinEdge
  | [] => [e]
  | x :: t => if e.at8 < x.at8 ∨ (e.at8 = x.at8 ∧ e.issue < x.issue) then e :: x :: t else x :: insertEdge e t

/-- Schedule an edge at precision pin `k`; none where a fifth would be needed. -/
def State.scheduleEdge (s : State) (k : Nat) (e : PinEdge) : Option State :=
  let n := precPin k
  let x := s.pin n
  if heldEdges x.edges + (if e.op = 3 then 2 else 1) > 4 then none
  else some (s.setPin n { x with edges := insertEdge e x.edges })

/-- Drive the edge `e` of pin `n` (R220): OUT takes its new level; an edge other than a trailing one cancels a pending trailing
edge; the leading edge of a pulse schedules its trailing one. Log entry 16. -/
def State.driveEdge (s : State) (n : Nat) (e : PinEdge) : State :=
  let out := s.rdPin n FIO_PIN_CFG.OUT == 1
  let new := match e.op with
    | 0 => true
    | 1 => false
    | 4 => e.level
    | _ => !out
  let t := (s.pin n).edges.erase e
  let t := if e.op = 4 then t else t.filter (fun x => x.op != 4)
  let t := if e.op = 3 then insertEdge { e with op := 4, at8 := e.at8 + e.width, level := out, pred := none } t else t
  (s.setPin n { s.pin n with edges := t }).wrPin n FIO_PIN_CFG.OUT (bnat new)

/-- PIN_EDGE (R220): the first edge of field pin `n` that waits for no lock is driven once its instant has come. -/
def execPinEdge (n : Nat) (s : State) : Host.Outcome State Fault Refusal :=
  guardUnit (n < 624)
    (match (s.pin n).edges.find? (fun e => e.pred.isNone) with
     | some e => if e.at8 < 8 * s.bridleNs + 8 * s.cycles 1 then s.driveEdge n e else s
     | none => s)

/-- Cancel the edges of a pin that satisfy `p`, except a trailing edge whose leading edge has been driven (R229); with the number
cancelled. -/
def State.cancelPinEdges (s : State) (n : Nat) (p : PinEdge → Bool) : State × Nat :=
  let x := s.pin n
  let gone := x.edges.filter (fun e => e.op != 4 && p e)
  (s.setPin n { x with edges := x.edges.filter (fun e => e.op == 4 || !p e) }, heldEdges gone)

/-- The same over all precision pins. -/
def State.cancelEdges (s : State) (p : PinEdge → Bool) : State × Nat :=
  (List.range 64).foldl (fun a k => let r := a.1.cancelPinEdges (precPin k) p; (r.1, a.2 + r.2)) (s, 0)

end Sys2Proof.Machine
end

