-- ==== Sys2Proof/Machine/Risers.lean ====
section
/-! DEFINITION. Meanings of chapter 04's commands: riser conflicts and their release (R119 to R122). -/

namespace Sys2Proof.Machine

open Sys2Proof

/-- Set or clear one bit of a number. -/
def putBit (n i : Nat) (b : Bool) : Nat := if bitOf n i = b then n else if b then n + 2 ^ i else n - 2 ^ i

/-- The riser cell can see both ends drive (R119): the riser is not held, its group is not disabled (R34), the Sails are on, and no border
hold turns one of its drivers off (R121, R124, R127). -/
def State.riserCanConflict (s : State) (c r : Nat) : Bool :=
  !s.riserHeld c r && !s.riserDead c r && !s.sailsOff && !s.holdsTo c (288 + c) && !s.holdsTo (288 + c) c

/-- A conflict of riser `r` (R119, R120): the riser is held with the value `v` it carried before the overlap, and the
conflict is counted and recorded. -/
def State.riserConflict (s : State) (c r : Nat) (v : Bool) : State :=
  let pg := pgSparBlk c
  let x := s.column c
  let s := s.setColumn c { x with keeper := setRiser x.keeper r v }
  let f := RISER_HELD.HELD.at (r / 32)
  let s := (s.wr pg f (putBit (s.rd pg f) (r % 32) true)).inc pg RISER_CONFLICT_CNT.COUNT
  if s.on pg RISER_CONFLICT.FLAG then s.wr pg RISER_CONFLICT.MULTI 1
  else
    let s := (s.wr pg RISER_CONFLICT.FLAG 1).wr pg RISER_CONFLICT.INDEX r
    let s := s.wr pg RISER_CONFLICT_STAMP.STAMP s.stamp
    s.ringFrom pg (s.rd pg RISER_CONFLICT_SRC.SOURCE) (pageInitiator pg)

/-- Release every held riser of column `c` (R120, R122). -/
def State.releaseRisers (s : State) (c : Nat) : State :=
  (List.range 32).foldl (fun s i => s.wr (pgSparBlk c) (RISER_HELD.HELD.at i) 0) s

/-- A write of 1 to RISER_CONFLICT.FLAG (R120). -/
def State.clearRiserConflict (s : State) (c : Nat) : State :=
  let pg := pgSparBlk c
  ((((s.releaseRisers c).wr pg RISER_CONFLICT.FLAG 0).wr pg RISER_CONFLICT.MULTI 0).wr pg RISER_CONFLICT.INDEX 0)

/-- RISER_CONFLICT (R119): both ends of riser `r` of column `c` have driven for `durPs` picoseconds; `v` is the value that
the riser carried before the overlap. -/
def execRiserConflict (c r durPs : Nat) (v : Bool) (s : State) : Host.Outcome State Fault Refusal :=
  guardUnit (c < 288 && r < 1024) (if durPs ≥ 200 && s.riserCanConflict c r then s.riserConflict c r v else s)

/-- RISER_RELEASE (R120, R122): a write of RISER_HELD word `w`. -/
def execRiserRelease (a : Access) (c w : Nat) (v : Word) (s : State) : Host.Outcome State Fault Refusal :=
  let off := (RISER_HELD.HELD.at w).off
  guardUnit (c < 288 && w < 32) (s.gatedWrite a (pgSparBlk c) off v (fun s => some ((s.storeReg (pgSparBlk c) off v).unholdRisers s c)))

/-- A write of 1 to RISER_CONFLICT.FLAG; a riser whose conflict set FLAG in the cycle of the write stays held (R11, R121). -/
def State.riserClearBody (s : State) (c : Nat) (same : Word) : State :=
  let pg := pgSparBlk c
  let r := s.rd pg RISER_CONFLICT.INDEX
  let t := s.clearRiserConflict c
  let t := if getF same RISER_CONFLICT.FLAG.lo 1 = 1 then
      (t.wr pg (RISER_HELD.HELD.at (r / 32)) (2 ^ (r % 32))).wr pg RISER_CONFLICT.INDEX r
    else t
  t.unholdRisers s c

/-- RISER_CONFLICT_CLEAR (R120). -/
def execRiserConflictClear (a : Access) (c : Nat) (s : State) : Host.Outcome State Fault Refusal :=
  guardUnit (c < 288) (s.gatedWrite a (pgSparBlk c) RISER_CONFLICT.FLAG.off 1 (fun s => some (s.riserClearBody c a.same)))

end Sys2Proof.Machine
end

