-- ==== Sys2Proof/Machine/PfOps.lean ====
section
/-! DEFINITION. The parts of a preflight slice that other commands reach: its start, the restore of
the panel, and its abort (R481, R485, R488). -/

namespace Sys2Proof.Machine

open Sys2Proof

/-! ### Slices -/

def State.raisePf (s : State) (bit : Fld) : State := s.raise pgPreflight bit PF_EVENT_MASK.MASK PF_EVENT_SRC.SOURCE

def State.setPf (s : State) (x : Preflight) : State :=
  { s with pf := x }.wr pgPreflight PF_STATUS.RUNNING x.running.length

/-- OUTCOME codes (R488). -/
def pfPass : Nat := 0
def pfFail : Nat := 1
def pfRefused : Nat := 2
def pfAborted : Nat := 3

/-- CODE values (R488). -/
def pcVolt : Nat := 1
def pcClk : Nat := 2
def pcNotEligible : Nat := 3
def pcStagger : Nat := 4
def pcPanelState : Nat := 5
def pcSoftware : Nat := 6
def pcGovernor : Nat := 7
def pcTrip : Nat := 8

/-- A result replaces the panel's previous one (R488, R490). -/
def State.pfResult (s : State) (p outcome code dur : Nat) : State :=
  let pg := pgPfPanel p
  let s := s.wr pg PF_RESULT.VALUE (2 ^ 31 + outcome * 2 ^ 28 + code * 2 ^ 24 + min dur 2047)
  let tested := outcome == pfPass || outcome == pfFail
  let s := (s.wr pg PF_RESULT_COV.STUCK (if tested then 946 else 0)).wr pg PF_RESULT_COV.TRANS (if tested then 780 else 0)
  s.wr pg PF_RESULT_STAMP.US s.stamp

/-- The sweep ends (R484). -/
def State.endSweep (s : State) : State :=
  let s := (s.wr pgPreflight PF_STATUS.SWEEPING 0).raisePf PF_EVENT.SWEEP_DONE
  if s.pf.overdue then s.raisePf PF_EVENT.SWEEP_OVERRUN else s

/-- A sweep begins at panel 0 (R484). -/
def State.beginSweep (s : State) : State :=
  let s := s.setPf { s.pf with finished := [], sweepAt := some s.ns, overdue := false }
  (s.wr pgPreflight PF_STATUS.SWEEPING 1).wr pgPreflight PF_STATUS.NEXT 0

/-- Panels that the sweep still waits for: not FAILED, and without a result in this sweep. -/
def State.sweepWaiting (s : State) : List Nat :=
  (List.range 576).filter (fun p => (s.panel p).grounded == 0 && !s.pf.finished.contains p && (lget s.pf.running p).isNone)

/-- After a result the sweep ends when no panel waits and no slice of it runs; one that fell due meanwhile begins (R484). -/
def State.judgeSweep (s : State) : State :=
  if !s.on pgPreflight PF_STATUS.SWEEPING then s
  else if s.pf.running.any (fun e => e.2.auto) || !s.sweepWaiting.isEmpty then s
  else
    let late := s.pf.overdue
    let s := s.endSweep
    if late then s.beginSweep else s

/-- Panel `p` has its result in the sweep. -/
def State.sweepDone (s : State) (p : Nat) : State :=
  (if s.on pgPreflight PF_STATUS.SWEEPING then s.setPf { s.pf with finished := s.pf.finished ++ [p] } else s).judgeSweep

/-- Steps 2 to 4 of a slice (R481): the border holds engage, the pins hold their level, the live context is saved and the test plane is
swapped in; the panel counts as HOT from here (R483), and a violation of the column rule is recorded (R234, R235). -/
def State.beginSlice (s : State) (p : Nat) (auto : Bool) : State :=
  let held := (List.range 624).filter (fun n => (s.pinPanels n).contains p)
  let ready := s.shadowState p == shReady
  let s := held.foldl (fun t n => t.setPin n { t.pin n with holdTest := heldDrive (s.pinDrive n) }) (s.engageHold p)
  let s := (if s.committed p then s.saveLive p else s).countFill true
  let s := (s.setPanel p { s.panel p with underTest := true }).setPf { s.pf with running := lset s.pf.running p ⟨s.ns, ready, auto⟩ }
  if s.windowsRun && nget s.gov.owner (colOf p) != 0 && nget s.gov.owner (colOf p) != sailOf p + 1 then s.recordViolation (colOf p)
  else s.takeOwner p

/-- Steps 7 and 8 (R481): both banks are refilled, the contexts reloaded, the clock and the borders return, and swaps that waited are
accepted (R485). -/
def State.restorePanel (s : State) (p : Nat) (x : PfSlice) : State :=
  let s := s.refillBanks p x.ready
  let s := s.setPanel p { s.panel p with underTest := false, upset0 := [], upset1 := [], fillExplicit := false }
  let s := if s.committed p && (s.panel p).grounded == 0 then (s.reloadLive p).releaseHold p else s
  s.promoteSwaps p

/-- The slice of panel `p` leaves the list of slices. -/
def State.dropSlice (s : State) (p : Nat) : State := s.setPf { s.pf with running := ldel s.pf.running p }

/-- The duration of a slice in µs (R481, R488). -/
def State.pfDuration (s : State) (x : PfSlice) : Nat := (s.ns - x.at_) / 1000

/-- A slice in progress on panel `p` is aborted (R485); `restore` while the panel can be restored. -/
def State.abortSlice (s : State) (p code : Nat) (restore : Bool) : State :=
  match lget s.pf.running p with
  | none => s
  | some x =>
    let s := s.dropSlice p
    let s := if restore then s.restorePanel p x else s.setPanel p { s.panel p with underTest := false }
    let s := (s.pfResult p pfAborted code (s.pfDuration x)).inc pgPreflight PF_ABORT_CNT.COUNT
    (s.raisePf PF_EVENT.ABORTED).judgeSweep

/-- Every slice in progress is aborted. -/
def State.abortSlices (s : State) (code : Nat) (restore : Bool) : State :=
  (s.pf.running.map (·.1)).foldl (fun s p => s.abortSlice p code restore) s

end Sys2Proof.Machine
end

