-- ==== Sys2Proof/Machine/Planes.lean ====
section
/-! DEFINITION. Meanings of chapter 05's commands: plane requests, fills, switches, scrubbing, read-back and repair. -/

namespace Sys2Proof.Machine

open Sys2Proof

/-- PLANE_REQ (R142, R143): the port samples its inputs only while the panel receives its clock (R535). -/
def execPlaneReq (p group plane : Nat) (prefetch defer : Bool) (s : State) : Host.Outcome State Fault Refusal :=
  guardUnit (p < 576 && group < 256 && plane < 8)
    (if s.clkRun p then s.planeRequest (.port p) (some p) group plane prefetch defer else s)

/-- A PANEL_PLANE_CMD write past the access checks: a request that meets a case of R143 is a rejection. -/
def State.planeCmdBody (s : State) (p : Nat) (v : Word) : Option State :=
  let f (x : Fld) : Nat := getF v x.lo x.len
  let g := f PANEL_PLANE_CMD.GROUP
  let n := f PANEL_PLANE_CMD.PLANE
  if s.planeRequestBad g n (some p) then none
  else some (s.acceptPlane ⟨{ group := g, slot := n, src := .register, at_ := s.ns, prefetch := f PANEL_PLANE_CMD.PREFETCH == 1 },
    f PANEL_PLANE_CMD.DEFER == 1, some p⟩)

/-- PLANE_CMD (R143, R150). -/
def execPlaneCmd (a : Access) (p : Nat) (v : Word) (s : State) : Host.Outcome State Fault Refusal :=
  guardUnit (p < 576) (s.gatedWrite a (pgPanel p) PANEL_PLANE_CMD.GROUP.off v (fun s => s.planeCmdBody p v))

/-! ### The end of a fill (R136, R137) -/

/-- The fill of panel `p` ends: `mis1` are the frames that mismatched once on the path, `mis2` those that mismatched again.
A frame that is marked bad, or whose stored bits do not match their signature, cannot be verified either. A Spar block that is turned off
ends no fill (R34). DESIGN CHOICE (log entry 63): the refetch outcomes of R153 are logged when the fill ends READY. -/
def State.fillDone (s : State) (p : Nat) (mis1 mis2 : List Nat) : State :=
  if s.shadowState p ≠ shFilling ∨ (s.column (colOf p)).off = true then s
  else
    let n := s.shadowSlot p
    match (List.range 128).find? (fun f => s.unverified p n f || mis2.contains f) with
    | none =>
      let s := mis1.foldl (fun s f => s.logUpset 3 5 (frameAddr p n f)) s
      let s := s.wr (pgPanel p) PANEL_PLANE_STATE.SHADOW_STATE shReady
      s.setPanel p ({ s.panel p with fillExplicit := false }.setShadowUpset [])
    | some f => (s.failShadow p n f).forcedUnusable p n

/-- PLANE_FILL_DONE (R136, R137). -/
def execPlaneFillDone (p : Nat) (mis1 mis2 : List Nat) (s : State) : Host.Outcome State Fault Refusal :=
  guardUnit (p < 576) (s.fillDone p mis1 mis2)

/-! ### The switching edge (R134, R140, R144) -/

/-- Active and shadow exchange roles in panel `p` at its switching edge (R134, R140, R146); a panel whose target is already
active does nothing. `es` says what the panel's registers receive at the edge (R98), `pre` is the state before it, and drivers that the
incoming plane turns off leave the last value to the keepers (R115, R116). -/
def State.exchangePlane (s pre : State) (p n : Nat) (es : List PanelEdge) : State :=
  let old := s.activeSlot p
  let s := s.edgeOf pre p es (if old = n then 0 else 15)
  if old = n then s
  else
    let pg := pgPanel p
    let was := s.quarterMode p
    let s0 := s
    let s := ((s.wr pg PANEL_PLANE_STATE.ACTIVE n).wr pg PANEL_PLANE_STATE.SHADOW old).wr pg
      PANEL_PLANE_STATE.SHADOW_STATE shReady
    let x := s.panel p
    let s := s.setPanel p { x with bank := 1 - x.bank, fillExplicit := false, pulses := { x.pulses with switched := true } }
    let s := ((s.catchKeepers s0 (colOf p)).inc pg PLANE_SWITCH_CNT.COUNT).takeOwner p
    (if s.quarterMode p = was then s else s.quarterChange p).showPorts p

/-- The switch is kept as `r'` in place of `r`, pending, and shown in the PENDING fields of the panels `ps`. -/
def State.keepPending (s : State) (r r' : SwitchReq) (ps : List Nat) : State :=
  forPanels ps (fun s p => s.showPending p r')
    { s with switches := s.switches.map (fun x => if x = r then r' else x), planeNow := s.planeNow.filter (· != r) }

/-- The switch would make both panels of a column that has no owner HOT at one edge (R234, R236); `p` is the Upper Sail panel. -/
def State.bothBecomeHot (s : State) (ps : List Nat) (p n : Nat) : Bool :=
  s.windowsRun && 288 ≤ p && ps.contains (p - 288) && nget s.gov.owner (colOf p) == 0 && s.slotHeat (p - 288) n == 2 && s.slotHeat p n == 2

/-- Panels for which the switch would break the column rule (R234, R236); a panel that already runs the plane is not switched. -/
def State.violations (s : State) (ps : List Nat) (n : Nat) : List Nat :=
  ps.filter (fun p => s.activeSlot p != n && (s.breaksRule p n || s.bothBecomeHot ps p n))

/-- Another deferred switch, injected earlier (or at the same instant for a lower group), could be applied now and makes the
other panel of a column of `ps` HOT (R236). -/
def State.yieldsTo (s : State) (r : SwitchReq) (ps : List Nat) : Bool :=
  r.deferred && s.switches.any (fun e =>
    let qs := (s.reqPanels e).filter (s.takesPart e)
    e.deferred && e != r && (e.at_ < r.at_ || (e.at_ == r.at_ && e.group < r.group)) &&
    qs.all s.clkRun && qs.all (fun q => s.ready q e.slot) && (s.violations qs e.slot).isEmpty &&
    qs.any (fun q => s.slotHeat q e.slot == 2 &&
      ps.any (fun p => colOf p == colOf q && p != q && s.slotHeat p r.slot == 2)))

/-- A switch that is ready at its edge: deferred under ENFORCE while it would break the column rule (R235), applied
otherwise. -/
def State.readySwitch (s : State) (r : SwitchReq) (ps : List Nat) (es : List PanelEdge) : State :=
  let bad := if r.forced then [] else s.violations ps r.slot
  if !bad.isEmpty && s.on pgPwr GOV_CTRL.MODE then
    if r.deferred then s
    else forPanels ps State.planeDefer (s.keepPending r { r with pending := true, deferred := true } ps)
  else if s.yieldsTo r ps then s
  else
    let s := bad.foldl (fun s p => s.recordViolation (colOf p)) s
    let s := forPanels ((s.reqPanels r).filter (fun p => !s.takesPart r p)) State.planeSkip s
    let pre := (s.removeSwitch r).beforeEdges ps es (fun p => if s.activeSlot p = r.slot then 0 else 15)
    forPanels ps (fun s p => s.exchangePlane pre p r.slot es) pre

/-- A switch that finds members not ready at the edge on which it would fall (R144): implicit fills start, and LATE_POLICY of the group's
lowest-numbered member decides, be it held or not; a forced switch waits (R239). A switch that is already pending goes on waiting. DESIGN
CHOICE (log entry 63): a grounded panel is no longer a member whose settings decide. -/
def State.lateSwitch (s : State) (r : SwitchReq) (ps : List Nat) : State :=
  if r.pending then s
  else
    let late := ps.filter (fun p => !s.ready p r.slot)
    let s := forPanels late (fun s p => s.fillRequest p r.slot r.src false false 0) s
    let skip := !r.forced && s.on (pgPanel ((s.liveMembers r.group).headD 0)) PANEL_PLANE_CTRL.LATE_POLICY
    if skip then s.discardSwitch r
    else
      let s := s.keepPending r { r with pending := true } ps
      if r.forced then s else forPanels late (fun s p => s.countPlane p PLANE_LATE.COUNT PANEL_PLANE_EVENT.LATE) s

/-- The edge of switch `r`: nothing happens while one of its panels receives no panel clock (R535). A panel under preflight test
receives the test clock, and is not ready (R485). A switch that meets a pending one at its own edge, both having been on their way, ends as
R145 has it at the injection edge (log entry 63). -/
def State.switchEdge (s : State) (r : SwitchReq) (es : List PanelEdge) : State :=
  let ps := (s.reqPanels r).filter (s.takesPart r)
  if !ps.all (fun p => s.clkRun p || (s.panel p).underTest) then s
  else
    let met := if r.pending then (s, true) else s.meetAllPending r
    if !met.2 then met.1.removeSwitch r
    else
      let s := forPanels ps (fun s p => s.dropHeldPf p r.slot) met.1
      if ps.all (fun p => s.ready p r.slot) then s.readySwitch r ps es else s.lateSwitch r ps

/-- A pending switch can be applied now: its panels are ready, and under ENFORCE the column rule admits it (R144, R235). -/
def State.applicable (s : State) (r : SwitchReq) : Bool :=
  let ps := (s.reqPanels r).filter (s.takesPart r)
  r.pending && ps.all (fun p => s.ready p r.slot) && (r.forced || !s.on pgPwr GOV_CTRL.MODE || (s.violations ps r.slot).isEmpty)

/-- The switch of group `id`, or of panel `id` for a forced switch, whose edge this is: a pending one that can be applied, else the oldest
that is on its way to its own edge. -/
def State.edgeSwitch (s : State) (forced : Bool) (id : Nat) : Option SwitchReq :=
  let mine := s.switches.filter (fun r => r.forced == forced && (if forced then r.panel else r.group) == id)
  ((mine.find? s.applicable).or (mine.find? (!·.pending))).or mine.head?

/-- PLANE_SWITCH (R140, R144): an edge of the group's clock, or of panel `id`'s for a forced switch. -/
def execPlaneSwitch (forced : Bool) (id : Nat) (es : List PanelEdge) (s : State) : Host.Outcome State Fault Refusal :=
  guardUnit (if forced then id < 576 else id < 256)
    (match s.edgeSwitch forced id with
     | some r => s.switchEdge r es
     | none => s)

/-- DEFER_LIMIT of group `g`, in microseconds: that of its lowest-numbered member (R144). -/
def State.groupLimit (s : State) (g : Nat) : Nat := s.rd (pgPanel ((s.liveMembers g).headD 0)) PANEL_PLANE_CTRL.DEFER_LIMIT

/-- SWITCH_DEFER_TIMEOUT (R144, R407): a switch of group `g` that is pending, or whose edge its panels' clock does not deliver, is discarded
once DEFER_LIMIT µs have passed since its injection; forced switches have no such limit. -/
def execSwitchDeferTimeout (g : Nat) (s : State) : Host.Outcome State Fault Refusal :=
  guardUnit (g < 256)
    (match s.switches.find? (fun r => !r.forced && r.group == g && (r.pending || (s.reqPanels r).any (fun p => !s.clkRun p))) with
     | some r => if s.ns - r.at_ ≥ 1000 * s.groupLimit g then s.discardSwitch r else s
     | none => s)

/-! ### Upsets and repair (R147 to R149) -/

/-- Upsets of the Spar: frame address, inverted data cells, parity error of the signature's cells. -/
def State.upsetFrames (s : State) (us : List (Nat × BitVec 4608 × Bool)) : State :=
  us.foldl (fun s u =>
    let f := s.frame u.1
    s.setFrame u.1 { f with flips := f.flips ^^^ u.2.1, sigBad := f.sigBad || u.2.2 }) s

/-- The Spar block that holds frame `a` is turned off (R34). -/
def State.sparOff (s : State) (a : Nat) : Bool := (s.column (colOf (framePanel a))).off

/-- The scrubber meets a frame whose bits do not match (R147). -/
def State.scrubFrame (s : State) (a : Nat) : State :=
  if s.slotValid (framePanel a) (frameSlot a) && (s.frame a).mismatch && !s.sparOff a then
    ((((s.markBad a 0).inc pgScrub SPAR_UPSET_CNT.COUNT).logUpset 0 0 a)).raiseScrub SCRUB_EVENT.SPAR_UPSET
  else s

/-- SCRUB_PASS (R147): a pass over every frame of every valid slot ends after `ms` milliseconds; `us` are the upsets since
the last pass. -/
def execScrubPass (us : List (Nat × BitVec 4608 × Bool)) (ms : Nat) (s : State) : Host.Outcome State Fault Refusal :=
  let s := s.upsetFrames us
  let s := (s.frames.map (·.1)).foldl State.scrubFrame s
  let s := (s.wr pgScrub SCRUB_LAST_PASS.MS (min ms 65535)).inc pgScrub SCRUB_PASSES.COUNT
  .next (if ms > s.rd pgScrub SCRUB_PERIOD.MS then s.raiseScrub SCRUB_EVENT.OVERRUN else s)

/-- A Sail frame is rewritten from the Spar copy (R148): bank `b` of panel `p`, frame `f` of slot `n`. -/
def State.rewriteSail (s : State) (p n f : Nat) (shadow : Bool) : State :=
  let x := s.panel p
  let x := if shadow then x.setShadowUpset (x.shadowUpset.filter (· != f)) else x.setActiveUpset (x.activeUpset.filter (· != f))
  ((s.setPanel p x).logUpset (if shadow then 2 else 1) 3 (frameAddr p n f)).raiseScrub SCRUB_EVENT.REPAIRED

/-- Read-back finds frame `f` of a bank changed (R148). -/
def State.sailMismatch (s : State) (p n f : Nat) (shadow : Bool) : State :=
  let a := frameAddr p n f
  let kind := if shadow then 2 else 1
  let s := ((s.inc pgScrub SAIL_UPSET_CNT.COUNT).logUpset kind 0 a).raiseScrub SCRUB_EVENT.SAIL_UPSET
  if (s.frame a).bad then s else if (s.frame a).mismatch then s.markBad a kind else s.rewriteSail p n f shadow

/-- SAIL_READBACK (R148): the two banks of panel `p` are read back; `us` are the frames upset since the last time (true for
the shadow bank). A bank that is being filled, or is EMPTY or FAILED, is skipped. -/
def execSailReadback (p : Nat) (us : List (Bool × Nat)) (s : State) : Host.Outcome State Fault Refusal :=
  let x := s.panel p
  let add (old : List Nat) (sh : Bool) : List Nat :=
    (old ++ (us.filter (fun u => u.1 == sh && u.2 < 128)).map (·.2)).eraseDups
  let t := s.setPanel p ((x.setActiveUpset (add x.activeUpset false)).setShadowUpset (add x.shadowUpset true))
  let active := if t.committed p && !t.sailsOff then (t.panel p).activeUpset else []
  let shadow := if t.shadowState p = shReady && !t.sailsOff then (t.panel p).shadowUpset else []
  guardUnit (p < 576)
    (if x.underTest || (s.column (colOf p)).off then s else
     let t := active.foldl (fun t f => t.sailMismatch p (t.activeSlot p) f false) t
     shadow.foldl (fun t f => t.sailMismatch p (t.shadowSlot p) f true) t)

/-- The resident copy of frame `f` of slot `n` is good: the slot is active or READY and the frame is not upset there
(R149). The test plane of a preflight slice leaves neither (R481). -/
def State.sailCopyGood (s : State) (p n f : Nat) : Bool :=
  !s.sailsOff && !(s.panel p).underTest &&
  ((s.committed p && s.activeSlot p == n && !(s.panel p).activeUpset.contains f) ||
   (s.shadowIs p shReady n && !(s.panel p).shadowUpset.contains f))

/-- A repair completes with `outcome`: the frame is good again, the log has the outcome, a Sail copy that had mismatched is
rewritten from it, and a switch still pending on the slot restarts its fill (R137, R149). -/
def State.repaired (s : State) (a outcome : Nat) : State :=
  let f := s.frame a
  let p := framePanel a
  let n := frameSlot a
  let fr := a % 128
  let s := s.setFrame a { f with flips := 0, sigBad := false, bad := false, fromSource := false, repairing := none }
  let s := ((s.recountBad p n).logUpset f.kind outcome a).raiseScrub SCRUB_EVENT.REPAIRED
  let s := if s.activeSlot p = n ∧ fr ∈ (s.panel p).activeUpset then s.rewriteSail p n fr false else s
  let s := if s.shadowIs p shReady n ∧ fr ∈ (s.panel p).shadowUpset then s.rewriteSail p n fr true else s
  if s.shadowIs p shFailed n ∧ (s.panel p).failFrame = some fr ∧
      s.switches.any (fun r => r.pending && r.slot == n && (s.reqPanels r).contains p) then
    s.startFill p n false true
  else s

/-- FRAME_REPAIR_DONE (R149): the repair in progress of frame `a` takes the Sail copy, or the copy that the loader read. -/
def execFrameRepairDone (a : Nat) (s : State) : Host.Outcome State Fault Refusal :=
  let f := s.frame a
  guardUnit (a < 2 ^ 20 && a / 2 ^ 10 % 2 ^ 9 < 288)
    (if !f.bad || f.repairing.isNone || s.sparOff a then s
     else if s.sailCopyGood (framePanel a) (frameSlot a) (a % 128) && !f.sigBad then s.repaired a 1
     else if f.fromSource then s.repaired a 2
     else s)

/-- REPAIR_TIMEOUT (R149). -/
def execRepairTimeout (a : Nat) (s : State) : Host.Outcome State Fault Refusal :=
  let f := s.frame a
  guardUnit (a < 2 ^ 20 && a / 2 ^ 10 % 2 ^ 9 < 288)
    (match f.repairing with
     | some t =>
       if f.bad ∧ s.ns - t ≥ 1000000 * s.rd pgScrub SCRUB_REPAIR_TIMEOUT.MS then
         (((s.setFrame a { f with repairing := none }).inc pgScrub REPAIR_FAIL_CNT.COUNT).logUpset f.kind 4 a).raiseScrub
           SCRUB_EVENT.UNREPAIRED
       else s
     | none => s)

end Sys2Proof.Machine
end

