-- ==== Sys2Proof/Machine/Wear.lean ====
section
/-! DEFINITION. Bond wear (R428 to R431): thermal half-cycles, the fray counters and the fuse odometer. -/

namespace Sys2Proof.Machine

open Sys2Proof

def State.raiseFray (s : State) (bit : Fld) : State := s.raise pgFray bit FRAY_EVENT_MASK.MASK FRAY_EVENT_SRC.SOURCE

/-- FRAY_UNITS of a column. -/
def State.frayUnits (s : State) (c : Nat) : Nat := s.rd (pgFrayCol c) FRAY_UNITS.UNITS

/-- FRAY_WORST and FRAY_WORST_UNITS: the lowest-numbered column with the most units (R428). -/
def State.frayWorst (s : State) : Nat × Nat :=
  (List.range 288).foldl (fun m c => if s.frayUnits c > m.2 then (c, s.frayUnits c) else m) (0, s.frayUnits 0)

/-- Odometer bits that wait to be burnt (R430). -/
def State.odoPending (s : State) : Nat := min 1024 (s.frayWorst.2 / 8192) - s.fuses.odo

/-- FRAY_ODO.PENDING follows. -/
def State.syncOdo (s : State) : State := s.wr pgFray FRAY_ODO.PENDING (min 255 s.odoPending)

/-- A column's units rise to `n` (R430, R431): the warning and the limit are set when they are first reached. -/
def State.setUnits (s : State) (c n : Nat) : State :=
  let old := s.frayUnits c
  let warn := 1000 * s.rd pgFray FRAY_WARN.KUNITS
  let s := s.wr (pgFrayCol c) FRAY_UNITS.UNITS n
  let s := if old < warn && warn ≤ n then s.raiseFray FRAY_EVENT.WARN else s
  (if old < 4000000 && 4000000 ≤ n then s.raiseFray FRAY_EVENT.LIMIT else s).syncOdo

/-- Weight and bin counter of a half-cycle of amplitude `a` (R428). -/
def halfCycleBin (a : Nat) : Nat × Fld :=
  if a < 20 then (1, FRAY_BINS_LO.BIN1) else if a < 40 then (4, FRAY_BINS_LO.BIN2)
  else if a < 60 then (16, FRAY_BINS_HI.BIN3) else (64, FRAY_BINS_HI.BIN4)

def zeroFray : FrayCol := {}
def State.frayCol (s : State) (c : Nat) : FrayCol := mget (fun _ => zeroFray) s.fray c
def State.setFrayCol (s : State) (c : Nat) (x : FrayCol) : State := { s with fray := mset (fun _ => zeroFray) s.fray c x }

/-- A confirmed half-cycle; the first of each column after P counts twice (R428). -/
def State.halfCycle (s : State) (c a : Nat) : State :=
  let (w, bin) := halfCycleBin a
  let x := s.frayCol c
  let times := if x.counted then 1 else 2
  let s := (s.add (pgFrayCol c) bin times).setFrayCol c { x with counted := true }
  s.setUnits c (satAdd (2 ^ 32 - 1) (s.frayUnits c) (times * w))

/-- One conversion of column `c` with column temperature `r` (R428). -/
def State.frayStep (s : State) (c : Nat) (r : Int) : State :=
  let pg := pgFrayCol c
  let x := s.frayCol c
  let t0 : Int := Int.ofNat (s.rd pg FRAY_TRACK.TURN) - 64
  let dir := s.rd pg FRAY_TRACK.DIR
  if !x.started then
    (s.wr pg FRAY_TRACK.TURN (unsint 8 (r + 64))).setFrayCol c { x with started := true, extreme := r }
  else if dir = 0 then
    if r ≥ t0 + 10 then (s.wr pg FRAY_TRACK.DIR 1).setFrayCol c { x with extreme := r }
    else if r ≤ t0 - 10 then (s.wr pg FRAY_TRACK.DIR 2).setFrayCol c { x with extreme := r }
    else s
  else if (dir = 1 ∧ r > x.extreme) ∨ (dir = 2 ∧ r < x.extreme) then s.setFrayCol c { x with extreme := r }
  else if (r - x.extreme).natAbs ≥ 10 then
    let s := s.halfCycle c (x.extreme - t0).natAbs
    let s := s.setFrayCol c { s.frayCol c with extreme := r }
    (s.wr pg FRAY_TRACK.TURN (unsint 8 (x.extreme + 64))).wr pg FRAY_TRACK.DIR (3 - dir)
  else s

/-- A FRAY_UNITS write past the access checks: units never fall, and `weight`, the units of a half-cycle of the same cycle, comes on top
of the written value (R429). The selected column is that of FRAY_SEL. -/
def State.frayWriteBody (s : State) (weight : Nat) (v : Word) : Option State :=
  let c := s.rd pgFray FRAY_SEL.COLUMN
  if v.toNat + weight < s.frayUnits c then none else some (s.setUnits c (satAdd (2 ^ 32 - 1) v.toNat weight))

/-- FRAY_UNITS_WRITE (R429, R430). -/
def execFrayUnitsWrite (a : Access) (v : Word) (s : State) : Host.Outcome State Fault Refusal :=
  .next (s.gatedWrite a pgFray FRAY_UNITS.UNITS.off v (fun s => s.frayWriteBody a.same.toNat v))

/-- ODO_BURN (R430): a pending odometer bit is burnt while VFUSE is in range and PF_WARN is 0. -/
def execOdoBurn (s : State) : Host.Outcome State Fault Refusal :=
  if s.odoPending ≠ 0 ∧ s.on pgSpar STACK_FUSEMAP.VFUSE_OK = true ∧ s.pfBlocked = false then
    let s := ({ s with fuses := { s.fuses with odo := s.fuses.odo + 1 } }).syncOdo
    let s := s.raiseFray FRAY_EVENT.ODO_BURN
    .next (if s.fuses.odo = 1024 then s.raiseFray FRAY_EVENT.ODO_FULL else s)
  else .next s

end Sys2Proof.Machine
end

