-- ==== Sys2Proof/Machine/Governor.lean ====
section
/-! DEFINITION. Meanings of chapter 09's commands: stagger windows, column temperature and forced switches. The trip and its
end stand in `Machine/Power.lean`. -/

namespace Sys2Proof.Machine

open Sys2Proof

/-! ### Stagger windows (R233, R234, R241) -/

/-- The HOT owner of a column at the first edge of a window (R234): 0 none, 1 Lower, 2 Upper. -/
def State.firstOwner (s : State) (c : Nat) : Nat :=
  if s.heatOf c = 2 then 1 else if s.heatOf (288 + c) = 2 then 2 else 0

/-- Columns whose two panels are both HOT. -/
def State.bothHot (s : State) : List Nat := (List.range 288).filter (fun c => s.heatOf c == 2 && s.heatOf (288 + c) == 2)

/-- Held work is admitted in the order of request for as long as the budgets allow (R241): a swap that does not fit makes the swaps
held after it wait as well. -/
def State.admitHeld (s : State) : State :=
  (s.gov.work.foldl (fun (a : State × Bool) w =>
    let (s, open_) := a
    match w with
    | .swap p m =>
      (match (s.pendings p m).find? (·.held) with
       | some x =>
         if open_ && s.admitsSwap (admissionRows (!s.quarterMode p) (quartersOf m).length) then
           ((s.unpend p (quartersOf m)).considerSwap p x.req (quartersOf m) true, true)
         else (s, false)
       | none => (s, open_))
    | .prefetch p =>
      (match (s.panel p).heldPf with
       | some h => (if s.admitsFill then (s.unholdPf p).replaceFill p h.slot true false else s, open_)
       | none => (s, open_))) (s, true)).1

/-- A window ends and the next begins (R233, R234, R241): the counts move on, the panels that are HOT at its first edge own
their columns, and held work is admitted. -/
def State.nextWindow (s : State) : State :=
  let g := s.gov
  let s := (s.wr pgPwr GOV_SWAP_ROWS.ROWS (min g.rows (2 ^ 28 - 1))).wr pgPwr GOV_FILLS.FILLS (min g.fills (2 ^ 23 - 1))
  let owner := (List.range 288).foldl (fun m c => nset m c (s.firstOwner c)) []
  let s := { s with gov := { g with
    len := s.rd pgPwr GOV_WINDOW.US, start := s.bridleNs - (s.bridleNs - g.align) % (1000 * g.len)
    rows := 0, reserved := 0, pinnedRows := 0, fills := 0, pinnedFills := 0, swapOver := false, pfOver := false
    owner := owner, violated := [] } }
  (s.bothHot.foldl State.recordViolation s).admitHeld

/-- The end of the current window (R233): the next cycle at which BRIDLE_NS less the alignment point is a multiple of the length in force. -/
def State.windowEnd (s : State) : Nat :=
  s.gov.align + ((s.gov.start - s.gov.align) / (1000 * s.gov.len) + 1) * (1000 * s.gov.len)

/-- STAGGER_WINDOW_BOUNDARY (R233): the current window has ended. -/
def execStaggerWindowBoundary (s : State) : Host.Outcome State Fault Refusal :=
  .next (if s.windowsRun && s.windowEnd ≤ s.bridleNs then s.nextWindow else s)

/-- An alignment (R233): the Bridle cycle `n` is the alignment point and starts a window, into which the counts and the HOT ownership
carry. A column without owner takes the panel that is HOT at its first edge, and two HOT panels are a violation of the new window
(R234). An overrun is the new window's own (R242). -/
def State.alignWindow (s : State) (n : Nat) : State :=
  if s.windowsRun then
    let owner := (List.range 288).foldl (fun m c => if nget m c = 0 then nset m c (s.firstOwner c) else m) s.gov.owner
    let s := { s with gov := { s.gov with
      align := n, start := n, len := s.rd pgPwr GOV_WINDOW.US, owner := owner, violated := [], swapOver := false, pfOver := false } }
    (s.bothHot.foldl State.recordViolation s).admitHeld
  else s

/-- GOV_ALIGN (R233): a write of GOV_CTRL with ALIGN = 1 and the given MODE. -/
def execGovAlign (a : Access) (mode : Bool) (s : State) : Host.Outcome State Fault Refusal :=
  let v := setF (setF 0 0 1 (bnat mode)) 4 1 1
  .next (s.gatedWrite a pgPwr GOV_CTRL.MODE.off v (fun s => some ((s.storeReg pgPwr GOV_CTRL.MODE.off v).alignWindow s.bridleNs)))

/-! ### Column temperature (R237 to R239) -/

def zeroSensor : Sensor := {}
def zeroGovCol : GovCol := {}

/-- Sensor of die `d` (1 to 4) of column `c`. -/
def State.sensor (s : State) (c d : Nat) : Sensor := mget (fun _ => zeroSensor) s.gov.sensors (4 * c + (d - 1))
def State.govCol (s : State) (c : Nat) : GovCol := mget (fun _ => zeroGovCol) s.gov.cols c
def State.setGovCol (s : State) (c : Nat) (x : GovCol) : State :=
  { s with gov := { s.gov with cols := mset (fun _ => zeroGovCol) s.gov.cols c x } }

/-- A reading that R237 does not fail. -/
def plausible (x : Sensor) (r : Int) : Bool := -50 ≤ r && r ≤ 150 && (!x.seen || (r - x.last).natAbs ≤ 20)

/-- A conversion of one sensor (R237). -/
def Sensor.convert (x : Sensor) (r : Int) : Sensor :=
  if plausible x r then
    (if x.failed then { last := r, seen := true, failed := x.good < 7, good := if x.good < 7 then x.good + 1 else 0 }
     else { last := r, seen := true, failed := false, good := 0 })
  else { last := r, seen := true, failed := true, good := 0 }

def State.convertSensor (s : State) (c d : Nat) (r : Int) : State :=
  let x := s.sensor c d
  let y := x.convert r
  let s := { s with gov := { s.gov with sensors := mset (fun _ => zeroSensor) s.gov.sensors (4 * c + (d - 1)) y } }
  if y.failed && !x.failed then s.raiseGov GOV_EVENT.SENSOR_FAIL else s

/-- The column temperature, in °C (R237): the highest reading of the working sensors; none when all have failed or none has
been converted. -/
def State.columnTemp (s : State) (c : Nat) : Option Int :=
  (((List.range 4).map (fun i => s.sensor c (i + 1))).filter (fun x => x.seen && !x.failed)).foldl
    (fun m x => match m with | none => some x.last | some t => some (max t x.last)) none

/-- The four sensors of the column have failed. -/
def State.allFailed (s : State) (c : Nat) : Bool := (List.range 4).all (fun i => (s.sensor c (i + 1)).failed)

/-- The panel of a column by its number 1 (Lower) or 2 (Upper). -/
def sidePanel (c side : Nat) : Nat := if side = 2 then 288 + c else c

/-- The hotter panel of a column (R239): 2 when its own Sail sensor alone reads higher, else 1. -/
def State.hotterSide (s : State) (c : Nat) : Nat :=
  if !(s.sensor c 2).failed && !(s.sensor c 4).failed && (s.sensor c 2).last < (s.sensor c 4).last then 2 else 1

/-- COOL_PLANE of a panel is usable (R239). -/
def State.coolUsable (s : State) (p : Nat) : Bool :=
  s.on (pgPanel p) PANEL_PLANE_CTRL.COOL_VALID && !s.slotBad p (s.rd (pgPanel p) PANEL_PLANE_CTRL.COOL_PLANE)

/-- The panel runs its COOL plane, or its clock is gated for want of one (R239). -/
def State.runsCool (s : State) (p : Nat) : Bool :=
  (s.panel p).govGated ||
  (s.on (pgPanel p) PANEL_PLANE_CTRL.COOL_VALID && s.activeSlot p == s.rd (pgPanel p) PANEL_PLANE_CTRL.COOL_PLANE)

/-- Set or clear the column's bit of GOV_HELD_MAP, and the count in GOV_STATUS. -/
def State.holdColumn (s : State) (c : Nat) (b : Bool) : State :=
  let f := GOV_HELD_MAP.HELD.at (c / 32)
  let m := s.rd pgPwr f
  if bitOf m (c % 32) = b then s
  else
    let n := s.rd pgPwr GOV_STATUS.HELD
    (s.wr pgPwr f (if b then m + 2 ^ (c % 32) else m - 2 ^ (c % 32))).wr pgPwr GOV_STATUS.HELD (if b then n + 1 else n - 1)

/-- The column is released (R238, R239): its panels are no longer held, and their clocks run again. -/
def State.releaseColumn (s : State) (c : Nat) : State :=
  let free (s : State) (p : Nat) : State := s.setPanel p { s.panel p with govHeld := false, govGated := false }
  let s := (free (free s c) (288 + c)).holdColumn c false
  (s.setGovCol c { s.govCol c with first := 0, second := false, convs := 0, due := 0 }).raiseGov GOV_EVENT.HOT_RELEASE

/-- A conversion of a column whose first panel has been forced: counted from the first one that finds that panel running its COOL
plane (R239). Two are enough. -/
def State.countCool (s : State) (c : Nat) : State :=
  let x := s.govCol c
  if x.first ≠ 0 ∧ x.due = 0 ∧ x.second = false ∧ (x.convs ≠ 0 ∨ s.runsCool (sidePanel c x.first) = true) then
    s.setGovCol c { x with convs := min 2 (x.convs + 1) }
  else s

/-- The column is at or above HOT at a conversion (R238, R239). -/
def State.hotColumn (s : State) (c : Nat) : State :=
  let x := s.govCol c
  if x.first = 0 then s.setGovCol c { x with first := s.hotterSide c, due := s.hotterSide c }
  else if x.due = 0 ∧ x.second = false ∧ 2 ≤ x.convs then s.setGovCol c { x with second := true, due := 3 - x.first }
  else s

/-- What a conversion of column `c` decides (R238): WARN, HOT and the release. A column whose sensors have all failed is
treated as being at HOT. -/
def State.judgeColumn (s : State) (c : Nat) : State :=
  let limit (f : Fld) : Int := Int.ofNat (s.rd pgPwr f)
  let t : Option Int := if s.allFailed c then some (limit GOV_TEMP_LIMITS.HOT) else s.columnTemp c
  match t with
  | none => s
  | some t =>
    let x := s.govCol c
    let warn := limit GOV_TEMP_LIMITS.WARN
    let hot := limit GOV_TEMP_LIMITS.HOT
    let low := hot - limit GOV_TEMP_LIMITS.HOT_HYST
    let s := s.setGovCol c { x with warned := t ≥ warn }
    let s := (if t ≥ warn && !x.warned then s.raiseGov GOV_EVENT.WARN else s).countCool c
    if t ≥ hot then s.hotColumn c else if t < low ∧ x.first ≠ 0 then s.releaseColumn c else s

/-- One column at a conversion: its four sensors, the judgement (R238) and the wear tracker (R428), which is paused while all
four sensors have failed. The governor takes no action before the Bridle counts (R233). -/
def State.convertColumn (s : State) (c : Nat) (r1 r2 r3 r4 : Int) : State :=
  let s := (((s.convertSensor c 1 r1).convertSensor c 2 r2).convertSensor c 3 r3).convertSensor c 4 r4
  if !s.windowsRun then s
  else
    let s := s.judgeColumn c
    match s.columnTemp c with
    | some t => s.frayStep c t
    | none => s

/-- TEMP_CONVERSION (R237, R238, R428): the readings, in whole °C, of the sensors on dies 1 to 4 of each column given. -/
def execTempConversion (rs : List (Nat × Int × Int × Int × Int)) (s : State) : Host.Outcome State Fault Refusal :=
  guardUnit (rs.all (fun r => r.1 < 288))
    (rs.foldl (fun s r => s.convertColumn r.1 r.2.1 r.2.2.1 r.2.2.2.1 r.2.2.2.2) s)

/-- The forced switch that is due in column `c` (R239): the panel is held; without a usable COOL plane its clock is gated;
already on it, nothing is issued. A slice in progress on the panel is aborted first (R485). -/
def State.forceSwitch (s : State) (c : Nat) : State :=
  let x := s.govCol c
  if x.due = 0 then s
  else
    let p := sidePanel c x.due
    let s := ((s.setGovCol c { x with due := 0 }).holdColumn c true).abortSlice p pcGovernor true
    let s := (s.setPanel p { s.panel p with govHeld := true }).raiseGov GOV_EVENT.HOT
    if !s.coolUsable p then s.setPanel p { s.panel p with govGated := true }
    else if s.runsCool p then s
    else s.injectPlane { forced := true, panel := p, slot := s.rd (pgPanel p) PANEL_PLANE_CTRL.COOL_PLANE, src := .governor,
                         at_ := s.ns } false

/-- FORCED_SWITCH (R239). -/
def execForcedSwitch (c : Nat) (s : State) : Host.Outcome State Fault Refusal := guardUnit (c < 288) (s.forceSwitch c)

/-- PREFETCH_DEFER_TIMEOUT (R242): a prefetch held for its DEFER_LIMIT since its request is abandoned. -/
def execPrefetchDeferTimeout (p : Nat) (s : State) : Host.Outcome State Fault Refusal :=
  guardUnit (p < 576)
    (match (s.panel p).heldPf with
     | some h => if s.ns - h.at_ ≥ 1000 * h.limit then (s.unholdPf p).pfDrop p else s
     | none => s)

end Sys2Proof.Machine
end

