-- ==== Sys2Proof/Machine/BridleOps.lean ====
section
/-! DEFINITION. The Bridle's shared operations: the running estimate of a track (R180 to R188), marks and their comparators
(R208 to R216), the action queue (R222 to R224), predictive firings (R225 to R227) and entry to FAULT (R200). -/

namespace Sys2Proof.Machine

open Sys2Proof

/-! ### Estimates -/

/-- One count, in the units of a track's position and velocity. -/
def oneCount : Int := 2 ^ 32

/-- TRK_STATUS.STATE codes (R184). -/
def trDisabled : Nat := 0
def trAcquire : Nat := 1
def trRun : Nat := 2
def trFault : Nat := 3

/-- TRK_SRC.KIND codes (R185). -/
def kQuad : Nat := 1
def kPulseDir : Nat := 2
def kPeriod : Nat := 3
def kFabric : Nat := 4
def kRemote : Nat := 5
def kTime : Nat := 6

/-- The velocity of an edge-counting track `d` cycles after the counted edge: at most one count in that time (R188). -/
def boundV (v0 : Int) (d : Nat) : Int :=
  if d = 0 then v0
  else
    let m := min v0.natAbs (2 ^ 32 / d)
    if v0 < 0 then - (m : Int) else m

/-- Keep a position strictly within one count of the last counted edge (R188). -/
def holdNear (count p : Int) : Int := max (count - oneCount + 65536) (min (count + oneCount - 65536) p)

/-- The position of an edge-counting track `k` cycles after cycle `c0` (R182, R188), `e` being the cycle of the counted edge. -/
def edgeEstimate (count v0 : Int) (c0 e : Nat) (p0 : Int) : Nat → Int
  | 0 => p0
  | k + 1 => holdNear count (edgeEstimate count v0 c0 e p0 k + boundV v0 (c0 + k + 1 - e))

/-- The position estimate at the end of Bridle cycle `n` (R182, R188). -/
def TrackCore.pos (t : TrackCore) (n : Nat) : Int :=
  match t.edge with
  | some e =>
    if t.v0 = 0 ∨ n ≤ t.c0 then t.p0 + t.v0 * ((n : Int) - t.c0)
    else edgeEstimate t.count t.v0 t.c0 e t.p0 (n - t.c0)
  | none => t.p0 + t.v0 * ((n : Int) - t.c0)

/-- The velocity estimate at that cycle. -/
def TrackCore.vel (t : TrackCore) (n : Nat) : Int :=
  match t.edge with
  | some e => boundV t.v0 (n - e)
  | none => t.v0

def zeroTrack : Track := {}
def State.track (s : State) (k : Nat) : Track := mget (fun _ => zeroTrack) s.tracks k
def State.setTrack (s : State) (k : Nat) (x : Track) : State := { s with tracks := mset (fun _ => zeroTrack) s.tracks k x }
def State.core (s : State) (k : Nat) : TrackCore := (s.track k).core
def State.setCore (s : State) (k : Nat) (x : TrackCore) : State := s.setTrack k { s.track k with core := x }

def State.trState (s : State) (k : Nat) : Nat := (s.core k).state
def State.rdTrk (s : State) (k : Nat) (f : Fld) : Nat := s.rd (pgTrack k) f
def State.trKind (s : State) (k : Nat) : Nat := s.rdTrk k TRK_SRC.KIND

/-- The estimate of track `k` at the present cycle. -/
def State.est (s : State) (k : Nat) : Int := (s.core k).pos s.bridleNs
def State.estVel (s : State) (k : Nat) : Int := (s.core k).vel s.bridleNs

/-- The modulus M of a track (R181); 0 for a linear track. -/
def State.trMod (s : State) (k : Nat) : Nat := s.rdTrk k TRK_MOD_LO.M + 2 ^ 32 * s.rdTrk k TRK_MOD_HI.M

/-- A position taken into 0 to M − 1 on a modular track (R181). -/
def wrapPos (m : Nat) (p : Int) : Int := if m = 0 then p else p % (m * oneCount)

/-- A difference of positions, wrapped into −M/2 to M/2 on a modular track (R195), in units of which `unit` make a count. -/
def wrapDiff (unit : Int) (m : Nat) (d : Int) : Int :=
  if m = 0 then d else (d + m * unit / 2) % (m * unit) - m * unit / 2

/-- A position as registers, ports and comparators see it (R180): 16 fractional bits. -/
def seen16 (p : Int) : Int := p / 65536

/-- The 64-bit word of a position (R180). -/
def posWord (m : Nat) (p : Int) : Nat := unsint 64 (seen16 (wrapPos m p))

/-- A pair of registers as a 64-bit word. -/
def State.rdPair (s : State) (pg : Nat) (lo hi : Fld) : Nat := s.rd pg lo + 2 ^ 32 * s.rd pg hi

/-- The reference and preset positions of a track in the units of the estimate. -/
def State.trRef (s : State) (k : Nat) : Int := sint 64 (s.rdPair (pgTrack k) TRK_REF_LO.POS TRK_REF_HI.POS) * 65536
def State.trPreset (s : State) (k : Nat) : Int := sint 64 (s.rdPair (pgTrack k) TRK_PRESET_LO.POS TRK_PRESET_HI.POS) * 65536

def State.raiseTrk (s : State) (k : Nat) (bit : Fld) : State :=
  s.raise (pgTrack k) bit TRK_EVENT_MASK.MASK TRK_EVENT_SRC.SOURCE

def State.raiseBridle (s : State) (bit : Fld) : State :=
  s.raise pgBridle bit BRIDLE_MEVENT_MASK.MASK BRIDLE_MEVENT_SRC.SOURCE

/-- A track of that kind counts edges. -/
def edgeKind (kind : Nat) : Bool := kind == kQuad || kind == kPulseDir

/-! ### Mark entries (R208, R209) -/

/-- BAR0 offset of word `w` of mark entry `i`, and of word `w` of action entry `a` (R45). -/
def markAddr (i w : Nat) : Nat := pgMarks * 4096 + 32 * i + 4 * w
def actionAddr (a w : Nat) : Nat := pgActions * 4096 + 64 * a + 4 * w

def State.markWord (s : State) (i w : Nat) : Word := s.reg (markAddr i w)
def State.actionWord (s : State) (a w : Nat) : Word := s.reg (actionAddr a w)

def State.markValid (s : State) (i : Nat) : Bool := getF (s.markWord i 0) 31 1 == 1
def State.markRecur (s : State) (i : Nat) : Bool := getF (s.markWord i 0) 30 1 == 1
def State.markPredict (s : State) (i : Nat) : Bool := getF (s.markWord i 0) 29 1 == 1
def State.markDir (s : State) (i : Nat) (fwd : Bool) : Bool := getF (s.markWord i 0) (if fwd then 24 else 25) 1 == 1
def State.markAction (s : State) (i : Nat) : Nat := getF (s.markWord i 0) 0 12
def State.markHyst (s : State) (i : Nat) : Nat := (s.markWord i 3).toNat
def State.markLead (s : State) (i : Nat) : Nat := getF (s.markWord i 4) 0 16

/-- POS of a mark, with 16 fractional bits. -/
def State.markPos (s : State) (i : Nat) : Int := sint 64 ((s.markWord i 1).toNat + 2 ^ 32 * (s.markWord i 2).toNat)

/-- STATUS bits of a mark (R209). -/
def mFired : Nat := 0
def mLatched : Nat := 1
def mCommitted : Nat := 3
def mMissed : Nat := 4
def mCancelled : Nat := 5
def mLate : Nat := 6

def State.markStatus (s : State) (i : Nat) : Nat := nget s.bridle.status i
def State.setMarkStatus (s : State) (i v : Nat) : State := { s with bridle := { s.bridle with status := nset s.bridle.status i v } }
def State.markBit (s : State) (i b : Nat) : Bool := bitOf (s.markStatus i) b

/-- Set or clear one STATUS bit. -/
def State.putMarkBit (s : State) (i b : Nat) (v : Bool) : State :=
  let x := s.markStatus i
  if bitOf x b = v then s else s.setMarkStatus i (if v then x + 2 ^ b else x - 2 ^ b)

def State.rangeBase (s : State) (k : Nat) : Nat := s.rd pgBridle (BRIDLE_MARK_RANGE.BASE.at k)
def State.rangeCount (s : State) (k : Nat) : Nat := s.rd pgBridle (BRIDLE_MARK_RANGE.COUNT.at k)

/-- Entries of the track's range (R208). -/
def State.rangeMarks (s : State) (k : Nat) : List Nat := (List.range (s.rangeCount k)).map (· + s.rangeBase k)

/-- The track whose range holds entry `i`. -/
def State.markOwner (s : State) (i : Nat) : Option Nat :=
  (List.range 64).find? (fun k => s.rangeBase k ≤ i && i < s.rangeBase k + s.rangeCount k)

/-- Distance from `x` forward to `p`, exclusive of `x`, in 16-bit fractions; negative where a linear track has passed it. -/
def fwdDist (m : Nat) (x p : Int) : Int :=
  if m = 0 then (if p = x then -1 else p - x)
  else let d := (p - x) % (m * 65536); if d = 0 then m * 65536 else d

/-- Distance from `x` backward to `p`, `x` included. -/
def revDist (m : Nat) (x p : Int) : Int := if m = 0 then x - p else (x - p) % (m * 65536)

def dirDist (fwd : Bool) (m : Nat) (x p : Int) : Int := if fwd then fwdDist m x p else revDist m x p

/-- A comparator may hold the mark in that direction (R210, R213, R214). -/
def State.holdable (s : State) (k : Nat) (fwd : Bool) (i : Nat) : Bool :=
  s.markValid i && s.markDir i fwd && (s.markRecur i || !s.markBit i mFired) &&
  (s.trMod k == 0 || (0 ≤ s.markPos i && s.markPos i < s.trMod k * 65536))

/-- The mark is eligible to fire (R211). -/
def State.eligibleMark (s : State) (k : Nat) (fwd : Bool) (i : Nat) : Bool := s.holdable k fwd i && !s.markBit i mLatched

/-- Insert by distance; at equal distance the earlier entry of the list stands first. -/
def insertBy (d : Nat → Int) (i : Nat) : List Nat → List Nat
  | [] => [i]
  | x :: t => if d i < d x then i :: x :: t else x :: insertBy d i t

def sortBy (d : Nat → Int) (l : List Nat) : List Nat := l.foldl (fun acc i => insertBy d i acc) []

/-- The marks ahead of position `x` in a direction, nearest first, that comparators may hold (R214). -/
def State.marksAhead (s : State) (k : Nat) (fwd : Bool) (x : Int) : List Nat :=
  let d (i : Nat) : Int := dirDist fwd (s.trMod k) x (s.markPos i)
  let l := (s.rangeMarks k).filter (fun i => s.holdable k fwd i && 0 ≤ d i)
  sortBy d (if fwd then l else l.reverse)

def zeroComps : Comps := {}
def State.comps (s : State) (k : Nat) : Comps := mget (fun _ => zeroComps) s.bridle.comps k
def State.setComps (s : State) (k : Nat) (c : Comps) : State :=
  { s with bridle := { s.bridle with comps := mset (fun _ => zeroComps) s.bridle.comps k c } }

/-- The next two marks from position `p` in a direction (R214). DEDUCED: a committed predictive mark has fired and left its comparator. -/
def State.nextTwo (s : State) (k : Nat) (fwd : Bool) (p : Int) : List Nat :=
  ((s.marksAhead k fwd (seen16 (wrapPos (s.trMod k) p))).filter (fun i => !s.markBit i mCommitted)).take 2

/-- The comparators are filled, from the estimate held when the fill fell due or from the present one (R214 to R216). -/
def State.refill (s : State) (k : Nat) : State :=
  let p := (s.comps k).start.getD (s.est k)
  s.setComps k { fwd := s.nextTwo k true p, rev := s.nextTwo k false p, ready := true, due := false }

/-! ### The action queue (R222 to R224) -/

def State.setQueue (s : State) (q : List QEntry) : State := { s with bridle := { s.bridle with queue := q } }

/-- Put an entry behind those of earlier cycles, and of lower or equal track numbers in its own cycle (R222). -/
def insertEntry (e : QEntry) : List QEntry → List QEntry
  | [] => [e]
  | x :: t => if x.enq = e.enq ∧ e.track < x.track then e :: x :: t else x :: insertEntry e t

/-- Write a miss-log entry (R224, R231). -/
def State.logMiss (s : State) (e : QEntry) (reset : Bool) : State :=
  let h := s.rd pgBridle BRIDLE_MISS_HEAD.HEAD
  let a := pgBridle * 4096 + BRIDLE_MISS_LOG.WORD.off + 8 * h
  let taken := (s.reg a).getLsbD 31
  let w0 := 2 ^ 31 + bnat e.mark.isNone * 2 ^ 30 + bnat reset * 2 ^ 29 + e.track * 2 ^ 16 + e.mark.getD 0
  let s := (s.setReg a (BitVec.ofNat 32 w0)).setReg (a + 4) (BitVec.ofNat 32 e.pos)
  let s := (s.wr pgBridle BRIDLE_MISS_HEAD.HEAD ((h + 1) % 64)).inc pgBridle BRIDLE_MISS_CNT.COUNT
  let s := s.raiseBridle BRIDLE_MEVENT.MISS
  if taken then s.raiseBridle BRIDLE_MEVENT.MISS_OVERWRITE else s

/-- A late firing of mark `i` (R223); `counted` where this firing has been counted already. -/
def State.lateMark (s : State) (i : Nat) (counted : Bool) : State :=
  if counted then s
  else ((s.putMarkBit i mLate true).inc pgBridle BRIDLE_LATE_CNT.COUNT).raiseBridle BRIDLE_MEVENT.LATE

def State.dropPred (s : State) (i : Nat) : State :=
  { s with bridle := { s.bridle with preds := s.bridle.preds.filter (fun t => t.mark != i) } }

/-- The committed firing that entry `e` stands for (R225). -/
def QEntry.firing (e : QEntry) (t : PredFire) : Bool := e.mark == some t.mark && e.pred == some t.at_

/-- The commit that entry `e` stands for is over: its firing ends, and COMMITTED clears where no later commit of the mark is open (R226). -/
def State.endCommit (s : State) (e : QEntry) : State :=
  if !e.commit then s
  else
    let s := { s with bridle := { s.bridle with preds := s.bridle.preds.filter (fun t => !e.firing t) } }
    match e.mark with
    | some i =>
      if s.bridle.preds.any (·.mark == i) || s.bridle.queue.any (fun x => x.commit && x.mark == some i) then s
      else s.putMarkBit i mCommitted false
    | none => s

/-- An entry finds the queue full (R224). A missed mark is not late, and leaves no predictive firing. -/
def State.missEntry (s : State) (e : QEntry) : State :=
  let s := s.logMiss e false
  match e.mark with
  | some i => ((s.putMarkBit i mMissed true).putMarkBit i mLate false).endCommit e
  | none => s

/-- BRIDLE_QUEUE_PEAK is no lower than the depth of the queue (R230). -/
def State.notePeak (s : State) : State :=
  let n := s.bridle.queue.length
  if s.rd pgBridle BRIDLE_QUEUE_PEAK.PEAK < n then s.wr pgBridle BRIDLE_QUEUE_PEAK.PEAK n else s

/-- An entry takes a place in the queue. -/
def State.placeEntry (s : State) (e : QEntry) : State := (s.setQueue (insertEntry e s.bridle.queue)).notePeak

/-- The marks that have entered the queue late in this cycle, and have not been displaced from it, are counted (R223, R224). -/
def State.countLate (s : State) : State :=
  s.bridle.queue.foldl (fun s e =>
    match e.mark with
    | some i => if e.late && e.enq == s.bridleNs then s.lateMark i false else s
    | none => s) s

/-- An entry enters the queue, or misses (R224). Of the entries of one cycle the lowest track takes the last place (R222): a higher track
that took it first misses. -/
def State.enqueue (s : State) (e : QEntry) : State :=
  if s.bridle.queue.length < 256 then s.placeEntry e
  else
    match s.bridle.queue.getLast? with
    | some x =>
      if x.enq = e.enq ∧ e.track < x.track then ((s.setQueue s.bridle.queue.dropLast).missEntry x).placeEntry e else s.missEntry e
    | none => s.missEntry e

/-- The queue entry of a mark that enters now. -/
def State.markEntry (s : State) (k : Nat) (h : HeldMark) (late : Bool) : QEntry :=
  { track := k, mark := some h.mark, action := s.markAction h.mark, enq := s.bridleNs, pos := unsint 32 (s.markPos h.mark / 65536)
    late := late, commit := h.commit, pred := h.pred }

/-- A fired mark goes to the queue, or waits in the sequencer until 4 cycles after the track's last entry (R222). -/
def State.sequence (s : State) (k : Nat) (h : HeldMark) (late : Bool) : State :=
  let t := s.track k
  if t.heldMarks.isEmpty && (match t.lastEnq with | some c => c + s.cycles 4 ≤ s.bridleNs | none => true) then
    (s.setTrack k { t with lastEnq := some s.bridleNs }).enqueue (s.markEntry k h late)
  else s.setTrack k { t with heldMarks := t.heldMarks ++ [h] }

/-- Held marks whose turn has come enter the queue; they are late (R222, R223). -/
def State.releaseHeld (s : State) : State :=
  s.tracks.foldl (fun s e =>
    let t := s.track e.1
    match t.heldMarks, t.lastEnq with
    | i :: rest, some c =>
      if c + s.cycles 4 ≤ s.bridleNs then
        (s.setTrack e.1 { t with heldMarks := rest, lastEnq := some s.bridleNs }).enqueue (s.markEntry e.1 i true)
      else s
    | _, _ => s) s

/-- The fired mark leaves its comparator, the next one moves up, and the opposite pair holds the next two marks there, the fired one among
them when it is the nearest (R214). -/
def State.moveComps (s : State) (k i : Nat) (fwd : Bool) : State :=
  let c := s.comps k
  let keep (l : List Nat) : List Nat := l.filter (· != i)
  let opp := s.nextTwo k (!fwd) (s.est k)
  s.setComps k (if fwd then { c with fwd := keep c.fwd, rev := opp } else { c with fwd := opp, rev := keep c.rev })

/-- A mark fires (R209, R211 to R213, R225): STATUS, the comparators and the queue. CANCELLED tells of the last predictive firing. -/
def State.fireMark (s : State) (k i : Nat) (fwd late : Bool) (pred : Option PredFire) (committed : Bool) : State :=
  let st := 2 ^ mLatched + bnat (!s.markRecur i) * 2 ^ mFired + bnat committed * 2 ^ mCommitted +
    bnat (!committed && s.markBit i mCancelled) * 2 ^ mCancelled
  let s := (s.setMarkStatus i st).dropPred i
  let s := { s with bridle := { s.bridle with preds := s.bridle.preds ++ pred.toList } }
  (s.moveComps k i fwd).sequence k ⟨i, committed, pred.map (·.at_)⟩ late

/-! ### Predictive firings (R225 to R227) -/

/-- Whether some slot of action `a` is a PIN operation. -/
def State.actionHasPin (s : State) (a : Nat) : Bool :=
  (List.range 4).any (fun j => getF (s.actionWord a (4 * j)) 28 4 == 3)

/-- The predictive firing of a mark is cancelled (R227). -/
def State.cancelPred (s : State) (t : PredFire) : State :=
  let s := (s.dropPred t.mark).putMarkBit t.mark mCommitted false |>.putMarkBit t.mark mCancelled true
  let s := (s.cancelEdges (fun e => e.pred == some t.mark)).1
  (s.inc pgBridle BRIDLE_PRED_CANCEL_CNT.COUNT).raiseBridle BRIDLE_MEVENT.PRED_CANCEL

/-- All committed firings of a track are cancelled (R227). -/
def State.cancelPreds (s : State) (k : Nat) : State :=
  (s.bridle.preds.filter (fun t => t.track == k)).foldl State.cancelPred s

/-- d of R226 for a committed firing: what is left to its target in its direction. -/
def State.predLeft (s : State) (t : PredFire) : Int := if t.fwd then t.target - s.est t.track else s.est t.track - t.target

/-- The firing must be cancelled (R227): the velocity is 0 or has changed sign, or d/|v| exceeds 2 LEAD. -/
def State.predBroken (s : State) (t : PredFire) : Bool :=
  let v := s.estVel t.track
  v == 0 || (decide (0 < v) != t.fwd) || s.predLeft t > 2 * s.markLead t.mark * v.natAbs

/-- Cancel what must be cancelled at this cycle. -/
def State.checkPreds (s : State) : State := (s.bridle.preds.filter s.predBroken).foldl State.cancelPred s

/-- Latches clear whose mark the estimate has left by more than HYST (R212). -/
def State.clearLatches (s : State) : State :=
  s.bridle.status.foldl (fun s e =>
    if !bitOf e.2 mLatched then s
    else match s.markOwner e.1 with
      | none => s
      | some k =>
        let d := wrapDiff 65536 (s.trMod k) (seen16 (s.est k) - s.markPos e.1)
        if s.trState k == trRun && (d.natAbs : Int) > s.markHyst e.1 * 65536 then s.putMarkBit e.1 mLatched false else s) s

/-! ### Leaving and entering RUN (R216), FAULT (R200) -/

/-- The marks of a track are disarmed (R216): comparators, LATCHED and COMMITTED clear, committed firings are cancelled. -/
def State.disarm (s : State) (k : Nat) : State :=
  let s := (s.cancelPreds k).setComps k zeroComps
  (s.rangeMarks k).foldl (fun s i => (s.putMarkBit i mLatched false).putMarkBit i mCommitted false) s

/-- The track enters RUN (R216): the comparators are to be filled from the estimate held now. -/
def State.enterRun (s : State) (k : Nat) : State :=
  (s.setCore k { s.core k with state := trRun }).setComps k { due := true, start := some (s.est k) }

/-- The estimate freezes at its present value (R184). -/
def TrackCore.freeze (t : TrackCore) (n : Nat) : TrackCore := { t with c0 := n, p0 := t.pos n, v0 := 0, edge := none }

/-- A cause of FAULT comes up (R199): none while DISABLED; in FAULT, a second cause of the same cycle keeps the lower code. The track enters
FAULT in this cycle, after its samples and crossings (R202). -/
def State.trackFault (s : State) (k cause : Nat) : State :=
  let t := s.track k
  if t.core.state = trDisabled then s
  else if t.core.state = trFault then
    (if t.faultAt = s.bridleNs ∧ cause < t.cause then s.setTrack k { t with cause := cause } else s)
  else s.setTrack k { t with faulting := t.faulting ++ [cause] }

/-- Entry to FAULT (R200). -/
def State.enterFault (s : State) (k cause : Nat) : State :=
  let t := s.track k
  let c := { t.core.freeze s.bridleNs with state := trFault, homed := t.core.homed && !edgeKind (s.trKind k) }
  let s := s.setTrack k { t with core := c, cause := cause, faultAt := s.bridleNs, undo := none, faulting := [] }
  let s := (s.inc (pgTrack k) TRK_FAULT_CNT.COUNT).raiseTrk k TRK_EVENT.FAULT
  let s := s.disarm k
  if s.rdTrk k TRK_FAULT_ACT.ENABLE = 1 ∧ s.firstCommit = true then
    s.enqueue { track := k, mark := none, action := s.rdTrk k TRK_FAULT_ACT.ACTION, enq := s.bridleNs
                pos := unsint 32 (seen16 (wrapPos (s.trMod k) (s.est k)) / 65536) }
  else s

/-- The marks that a jump of this cycle passes fire in order, those beyond the first two late, and so a predictive mark without a commit
(R215, R225). -/
def State.takeJump (s : State) (k : Nat) : State :=
  match (s.track k).jump with
  | none => s
  | some (fwd, ms) =>
    let s := s.setTrack k { s.track k with jump := none }
    let s := (ms.zipIdx).foldl (fun s x =>
      if s.eligibleMark k fwd x.1 then s.fireMark k x.1 fwd (2 ≤ x.2 || s.markPredict x.1) none false else s) s
    s.setComps k { s.comps k with due := true }

/-- Track `k` enters FAULT where a cause has come up in this cycle, after the marks that a jump of the cycle fires; of two causes the lower is
reported (R202). -/
def State.settleFault (s : State) (k : Nat) : State :=
  match (s.track k).faulting with
  | [] => s
  | c :: cs => (s.takeJump k).enterFault k (cs.foldl min c)

/-- The end of a Bridle cycle: jumps fire their marks (R215), tracks enter FAULT (R202), and late entries are counted (R223). -/
def State.endCycle (s : State) : State := (s.tracks.foldl (fun s e => (s.takeJump e.1).settleFault e.1) s).countLate

/-- A coast fault that came up in this cycle does not happen: the timer has been fed (R202). -/
def Track.fed (t : Track) : Track := { t with faulting := t.faulting.filter (· != 2) }

/-- What the Bridle does by itself at each cycle: entries to FAULT end the last one; then latches, cancellations and the sequencer's held
marks. -/
def State.bridleCycle (s : State) : State :=
  let d := s.bridleStep
  if s.on pgBridle BRIDLE_STATUS.COUNTING ∧ d ≠ 0 then
    let s := (s.usedEdge 576).endCycle
    (({ s with bridleNs := s.bridleNs + d, bridle := { s.bridle with step := d } }.clearLatches).checkPreds).releaseHeld
  else s

end Sys2Proof.Machine
end

