-- ==== Sys2Proof/Machine/RigOps.lean ====
section
/-! DEFINITION. The rigging's topology, address decode, route tables, domains and initiator interfaces (R283 to R306). -/

namespace Sys2Proof.Machine

open Sys2Proof

/-! ### Operations and classes (R292) -/

/-- Data bytes that the packet carries. -/
def Packet.carried (p : Packet) : Nat :=
  if p.opc = opWr ∨ p.opc = opMsg then p.bytes
  else if p.opc = opRdResp ∧ p.status ≤ 1 then p.bytes
  else 0

/-- Payload flits behind the header. -/
def Packet.payloadFlits (p : Packet) : Nat := if p.carried ≤ 16 then 0 else (p.carried + 31) / 32

/-! ### Where the flits of a packet stand (R294) -/

/-- The class of a packet, and its flits. -/
def Packet.cls (p : Packet) : Nat := classOf p.opc p.bytes
def Packet.flits (p : Packet) : Nat := 1 + p.payloadFlits

/-- The buffers that hold flits of the packet, or that flits of it have still to pass, header first: node, input and flits. A packet that
has not left its interface stands there whole, at input 6; one that its destination has taken stands in none. -/
def Packet.places (p : Packet) : List (Nat × Nat × Nat) :=
  if p.trail.isEmpty && p.got == 0 then [(p.node, p.inPort, p.flits)] else p.trail

/-- The flits in those of the packet's buffers that satisfy `f`. -/
def Packet.count (p : Packet) (f : Nat × Nat × Nat → Bool) : Nat := ((p.places.filter f).map (fun t => t.2.2)).foldl (· + ·) 0

/-- Flits of the packet in the buffer of link input `ip` of node `n`. -/
def Packet.flitsIn (p : Packet) (n ip : Nat) : Nat := p.count (fun t => t.1 == n && t.2.1 == ip)

/-- Flits of the packet that stand in node `n`. -/
def Packet.flitsAt (p : Packet) (n : Nat) : Nat := p.count (fun t => t.1 == n)

/-- The output by which flits in the packet's `k`-th buffer leave their node: that of the header, or the one that the header took. -/
def Packet.outOf (p : Packet) : Nat → Nat
  | 0 => p.la
  | k + 1 => match p.places[k]? with
    | some t => backPort t.2.1
    | none => 7

/-- The output by which flits of the packet leave node `n`, where one of its buffers is there. -/
def Packet.outAt (p : Packet) (n : Nat) : Option Nat := (p.places.findIdx? (fun t => t.1 == n)).map p.outOf

/-- The page of the block that a request to target `t` at `addr` reaches: its own, that of the Bridle for the mark and action windows, or
for target 100 that of the PCI Express controller (R307). -/
def pageTarget (t addr : Nat) : Option Nat :=
  if t = 100 then some pgPcie else if 110 ≤ t ∧ t < 156 then some (headerPage (addr / 4096)) else none

/-! ### Registers of the rigging -/

def State.rdNode (s : State) (n : Nat) (f : Fld) : Nat := s.rd (pgNode n) f
def State.wrNode (s : State) (n : Nat) (f : Fld) (v : Nat) : State := s.wr (pgNode n) f v
def State.raiseRig (s : State) (bit : Fld) : State := s.raise pgRig bit RIG_EVENT_MASK.MASK RIG_EVENT_SRC.SOURCE

def State.epoch (s : State) : Nat := s.rd pgRig RIG_EPOCH.CURRENT

/-- Entry `e` of table `t` of node `n` (R301); an entry not written reads NONE. -/
def State.route (s : State) (n t e : Nat) : Nat := mget (fun _ => 7) s.rig.tables ((2 * n + t) * 192 + e)
def State.setRoute (s : State) (n t e v : Nat) : State :=
  { s with rig := { s.rig with tables := mset (fun _ => 7) s.rig.tables ((2 * n + t) * 192 + e) (v % 64) } }

/-- The link leaving node `n` by `port` is disabled and drained, or dead, at either end (R295, R303). -/
def State.linkOff (s : State) (n port : Nat) : Bool :=
  let half (n p : Nat) : Bool :=
    bitOf (s.rdNode n RIGN_LINK.DEAD) p || (bitOf (s.rdNode n RIGN_LINK.DISABLE) p && !s.rig.draining.contains (8 * n + p))
  half n port || (nodeNext n port).any (fun m => half m (backPort port) || s.rdNode m RIGN_STATE.STATE == 2)

/-- The same for a link whose disabling has been written, drained or not (R302). -/
def State.linkBarred (s : State) (n port : Nat) : Bool :=
  let half (n p : Nat) : Bool := bitOf (s.rdNode n RIGN_LINK.DEAD) p || bitOf (s.rdNode n RIGN_LINK.DISABLE) p
  half n port || (nodeNext n port).any (fun m => half m (backPort port) || s.rdNode m RIGN_CTRL.DISABLE == 1)

/-- RIG_DOMAIN[g].STATE codes (R309). -/
def dmOn : Nat := 0
def dmDraining : Nat := 1
def dmOff : Nat := 2
def dmPowering : Nat := 3

def State.domainState (s : State) (g : Nat) : Nat := s.rd pgRig (RIG_DOMAIN.STATE.at g)
def State.setDomainState (s : State) (g v : Nat) : State := s.wr pgRig (RIG_DOMAIN.STATE.at g) v

/-- The state of the domain of node `n`; the spine is always on. -/
def State.nodeDomainState (s : State) (n : Nat) : Nat :=
  match nodeDomain n with
  | some g => s.domainState g
  | none => dmOn

/-! ### Initiator interfaces (R297, R299) -/

def zeroInit : RigInit := {}
def State.rigInit (s : State) (i : Nat) : RigInit := mget (fun _ => zeroInit) s.rig.inits i
def State.setRigInit (s : State) (i : Nat) (x : RigInit) : State :=
  { s with rig := { s.rig with inits := mset (fun _ => zeroInit) s.rig.inits i x } }

def State.addInit (s : State) (i : Nat) (f : Fld) (n : Nat) : State := s.add (pgRigInit i) f n

/-- Release a tag; `advance` moves its generation on (R299). -/
def RigInit.release (x : RigInit) (tag : Nat) (advance : Bool) : RigInit :=
  { x with tags := x.tags.filter (fun t => t.1 != tag)
           gens := if advance then nset x.gens tag ((nget x.gens tag + 1) % 4) else x.gens }

/-- A request of Keel initiator `i` to a fabric target port. -/
def Packet.toFabric (p : Packet) (i : Nat) : Bool :=
  p.srcInit == i && decide (i < 26) && (p.opc == opRd || p.opc == opWr) && decide (36 ≤ p.target ∧ p.target < 100)

/-- All tags of an initiator are released at a reset of its block, what waits at its interface is given up, the answers of fabric targets
will be discarded there (R307), and its token is there at once (R297). A MSG that waits has been posted and stays. -/
def State.releaseTags (s : State) (i : Nat) : State :=
  let x := s.rigInit i
  let s := s.setPackets (s.rig.packets.map (fun p => if p.toFabric i then { p with orphan := true } else p))
  s.setRigInit i (x.tags.foldl (fun x t => x.release t.1 true) { x with queue := [], token := none })

/-! ### Buffers freed (R294) -/

/-- The credits that are due for the flits of `p` in those of its buffers that satisfy `f`: one for each flit at a link input. -/
def Packet.dues (p : Packet) (f : Nat × Nat × Nat → Bool) : List (Nat × Nat) :=
  (p.places.filter (fun t => f t && t.2.1 < 6)).flatMap (fun t => List.replicate t.2.2 (8 * t.1 + t.2.1, p.cls))

/-- The buffer slots that `p` leaves are free; their credits are due. -/
def State.owe (s : State) (ds : List (Nat × Nat)) : State := { s with rig := { s.rig with owed := s.rig.owed ++ ds } }

/-- The packets that satisfy `f` are lost, and their buffers are free. -/
def State.losePackets (s : State) (f : Packet → Bool) : State :=
  (s.owe ((s.rig.packets.filter f).flatMap (fun p => p.dues (fun _ => true)))).setPackets (s.rig.packets.filter (fun p => !f p))

/-! ### Domains (R304, R305) and dead crossings (R303) -/

/-- The packet, or a flit of it, stands in domain `g`. -/
def Packet.inside (p : Packet) (g : Nat) : Bool :=
  if p.places.isEmpty then nodeDomain p.node == some g else p.places.any (fun t => nodeDomain t.1 == some g)

/-- The device's own number as its packets carry it. -/
def State.ownDev (s : State) : Nat := s.rd (pgTether 0) TETHER_ARRAY.DEVNUM

/-- The outstanding request of initiator `i` with `tag` is inside domain `g` (R304, R305): it comes from there; or its packet, or that of
its response, has its header there; or its target in this device is there and has taken it. -/
def State.requestIn (s : State) (g i tag : Nat) (t : RigTag) : Bool :=
  let ps := s.rig.packets.filter (fun p => p.srcInit == i && p.srcDev == s.ownDev && p.tag == tag && p.opc != opMsg)
  nodeDomain (initPlace i).1 == some g || ps.any (fun p => nodeDomain p.node == some g) ||
  (ps.isEmpty && t.dev == s.ownDev && nodeDomain (targetPlace t.target).1 == some g)

/-- The packet is a request whose header is inside domain `g`. -/
def Packet.requestAt (p : Packet) (g : Nat) : Bool := (p.opc == opRd || p.opc == opWr) && nodeDomain p.node == some g

/-- Unanswered requests inside domain `g`: of this device's initiators, and those of other devices. -/
def State.inDomain (s : State) (g : Nat) : Nat :=
  (s.rig.inits.map (fun e => (e.2.tags.filter (fun t => !t.2.quarantined && s.requestIn g e.1 t.1 t.2)).length)).sum +
  (s.rig.packets.filter (fun p => p.srcDev != s.ownDev && p.requestAt g)).length

/-- The unanswered requests inside domain `g` are given up (R304, R305): recorded, and to end in TIMEOUT, since their targets serve
them no more and no response completes them. -/
def State.giveUp (s : State) (g : Nat) : State :=
  let n := s.inDomain g
  let t := s.wr pgRig (RIG_DOMAIN.ABANDONED.at g) (min n 65535)
  let mark (i : Nat) (x : RigInit) : RigInit :=
    { x with tags := x.tags.map (fun k => if !k.2.quarantined && s.requestIn g i k.1 k.2 then (k.1, { k.2 with abandoned := true }) else k) }
  let t := { t with rig := { t.rig with inits := t.rig.inits.map (fun (e : Nat × RigInit) => (e.1, mark e.1 e.2)) } }
  let t := t.losePackets (fun p => p.requestAt g)
  if n = 0 then t else t.raiseRig RIG_EVENT.DRAIN_ABANDON

/-- A CHECK that shows an uncorrectable error of `data` (R305): two of its bits are wrong. Which two is the model's choice. -/
def badCheck (data : Nat) : Nat := (Config.secded (BitVec.ofNat 256 data) ^^^ 3).toNat

/-- What the trip of domain `g` leaves of a packet (R305): none where its header is inside; one whose last flits are inside is completed by
the border node, with zeros that are marked uncorrectable. -/
def Packet.afterTrip (g : Nat) (p : Packet) : Option Packet :=
  if nodeDomain p.node == some g then none
  else if p.inside g then
    let kept := p.places.takeWhile (fun t => nodeDomain t.1 != some g)
    let here := p.got + (kept.map (fun t => t.2.2)).sum
    let full := match kept.reverse with
      | (n, ip, k) :: rest => (rest.reverse) ++ [(n, ip, k + (p.flits - here))]
      | [] => [(p.node, p.inPort, p.flits - here)]
    let whole := 32 * (here - 1)
    some { p with spoiled := true, trail := full, data := p.data.take whole ++ List.replicate (p.data.length - whole) 0
                  checks := (List.range (p.flits - here)).foldl (fun m i => lset m (here + i) (badCheck 0)) p.checks }
  else some p

/-- A trip turns off domain `g` without draining (R305): every flit inside is lost. -/
def State.tripDomain (s : State) (g : Nat) : State :=
  let s := s.giveUp g
  let s := s.owe ((s.rig.packets.filter (fun p => nodeDomain p.node == some g)).flatMap (fun p => p.dues (fun t => nodeDomain t.1 != some g)))
  (s.setPackets (s.rig.packets.filterMap (Packet.afterTrip g))).setDomainState g dmOff

/-- A MAST crossing becomes dead in both directions (R303): the packets on it are lost, and both ends show it. `lower` is the node
below the crossing. -/
def State.killMast (s : State) (lower : Nat) : State :=
  match nodeNext lower 4 with
  | none => s
  | some upper =>
    let s := s.losePackets (fun p => (0 < p.flitsAt lower && 0 < p.flitsAt upper) || p.crossed.any (fun k => k == 8 * lower + 4 || k == 8 * upper + 5))
    let s := s.wrNode lower RIGN_LINK.DEAD (s.rdNode lower RIGN_LINK.DEAD ||| 2 ^ 4)
    s.wrNode upper RIGN_LINK.DEAD (s.rdNode upper RIGN_LINK.DEAD ||| 2 ^ 5)

/-! ### Time in rigging cycles (R284, R412) -/

/-- The rigging runs on HFOSC, at a quarter of its rate (R412). Its domain is 263 (log entry 10). -/
def State.rigSlow (s : State) : Bool := s.rdDom 263 CLK_DOM_SWITCH.LIVE_SRC == 1

/-- Whole rigging cycles in `ns` nanoseconds. -/
def State.rigCycles (s : State) (ns : Nat) : Nat := if s.rigSlow then ns * 2 / 5 else ns * 8 / 5

/-- Nanoseconds between two tokens: 64 rigging cycles (R297, R412). -/
def State.tokenNs (s : State) : Nat := if s.rigSlow then 160 else 40

/-- A token is available at initiator `i` (R297). -/
def State.hasToken (s : State) (i : Nat) : Bool :=
  match (s.rigInit i).token with
  | some t => t + s.tokenNs ≤ s.ns
  | none => true

end Sys2Proof.Machine
end

