-- ==== Sys2Proof/Machine/TrackOps.lean ====
section
/-! DEFINITION. Samples and what they do to a track (R194 to R197), jumps (R215), presets (R206), and the writes of TRK_CTRL
(R186, R201). -/

namespace Sys2Proof.Machine

open Sys2Proof

/-! ### Corrections -/

/-- The estimate at the end of the previous Bridle cycle, against which this cycle's crossings are judged (R211). -/
def State.crossFrom (s : State) (k : Nat) : Int :=
  let t := s.track k
  if t.corrAt = some s.bridleNs then t.corrFrom else t.core.pos (s.bridleNs - s.bridle.step)

/-- The estimate moves to a new segment; what it was at the end of the previous cycle is kept for the crossings. -/
def State.correct (s : State) (k : Nat) (c : TrackCore) : State :=
  let from_ := s.crossFrom k
  s.setTrack k { s.track k with core := c, corrAt := some s.bridleNs, corrFrom := from_ }

/-- The step of the estimate in this cycle, in 16-bit fractions (R211). -/
def State.crossStep (s : State) (k : Nat) : Int :=
  wrapDiff 65536 (s.trMod k) (seen16 (s.est k) - seen16 (s.crossFrom k))

/-- The estimate has crossed mark `i` in this cycle, going forward or in reverse (R211). -/
def State.crossed (s : State) (k i : Nat) (fwd : Bool) : Bool :=
  let m := s.trMod k
  let x := seen16 (wrapPos m (s.crossFrom k))
  let st := s.crossStep k
  if fwd then 0 < st && 0 ≤ fwdDist m x (s.markPos i) && fwdDist m x (s.markPos i) ≤ st
  else st < 0 && 0 ≤ revDist m x (s.markPos i) && revDist m x (s.markPos i) < -st

/-- Eligible marks that the step of this cycle has passed, in position order (R215). -/
def State.passed (s : State) (k : Nat) (fwd : Bool) : List Nat :=
  (s.marksAhead k fwd (seen16 (wrapPos (s.trMod k) (s.crossFrom k)))).filter (fun i => s.eligibleMark k fwd i && s.crossed k i fwd)

/-- A correction that passes a mark which no comparator holds is a jump (R215): every eligible mark passed fires, at the end of the cycle
unless a PRESET of the cycle discards the sample (R202). Fewer marks are left to the comparators. -/
def State.jumpScan (s : State) (k : Nat) : State :=
  let c := s.comps k
  if s.trState k != trRun || !c.ready then s
  else
    let fwd : Bool := 0 < s.crossStep k
    let ms := s.passed k fwd
    let jumps := !ms.all (fun i => (if fwd then c.fwd else c.rev).contains i)
    s.setTrack k { s.track k with jump := if jumps then some (fwd, ms) else none }

/-! ### Samples (R194 to R197) -/

/-- The word of a register of the track page. -/
def trkReg (k : Nat) (f : Fld) : Nat := pgTrack k * 4096 + f.off

/-- The track and the registers that a sample changes. -/
def State.mkUndo (s : State) (k : Nat) : TrackUndo :=
  { cycle := s.bridleNs, core := s.core k
    regs := ([TRK_EVENT.FAULT, TRK_REJECT_CNT.COUNT, TRK_QUAD_ERR_CNT.COUNT, TRK_SAMPLE_DT.NS] ++
      (if s.trKind k = kTime then [TRK_TIME_RATE.RATE] else [])).map (fun f => (trkReg k f, s.reg (trkReg k f))) }

/-- Keep what a PRESET in this cycle would return to (R202). -/
def State.keepUndo (s : State) (k : Nat) : State :=
  let t := s.track k
  match t.undo with
  | some u => if u.cycle = s.bridleNs then s else s.setTrack k { t with undo := some (s.mkUndo k) }
  | none => s.setTrack k { t with undo := some (s.mkUndo k) }

/-- A rejected sample (R195). -/
def State.rejectSample (s : State) (k : Nat) : State :=
  let s := s.inc (pgTrack k) TRK_REJECT_CNT.COUNT
  let s := s.setCore k { s.core k with consec := satAdd 255 (s.core k).consec 1 }
  let s := s.raiseTrk k TRK_EVENT.REJECT
  if s.rdTrk k TRK_LIMITS.REJECT_LIMIT ≤ (s.core k).consec then s.trackFault k 1 else s

/-- π, times 10^39, to the last digit. -/
def piScaled : Nat := 3141592653589793238462643383279502884197

/-- w of R196 as a fraction: min (ωn Δt, 1/2). -/
def obsW (bw dt : Nat) : Nat × Nat :=
  if 2 * (2 * piScaled * bw * dt) < 10 ^ 48 then (2 * piScaled * bw * dt, 10 ^ 48) else (1, 2)

/-- A real number rounded to the internal 32 fractional bits; which of its two neighbours it takes is open (log entry 15). -/
def State.roundOpen (s : State) (num : Int) (den : Nat) : Int × State :=
  if num % den = 0 then (num / den, s)
  else let r := s.free 1; (num / den + r.1, r.2)

/-- The gains of R196 applied to the error `e` of a sample `dt` ns after the last: the corrections of position and velocity. -/
def State.observer (s : State) (k : Nat) (e : Int) (dt : Nat) : Int × Int × State :=
  let (wn, wd) := obsW (s.rdTrk k TRK_OBS.BW_HZ) dt
  let a := s.roundOpen (2 * s.rdTrk k TRK_OBS_DAMP.ZETA * wn * e) (256 * wd)
  let b := a.2.roundOpen (wn * wn * e) (wd * wd * max dt 1)
  (a.1, b.1, b.2)

/-- The distance and the time of the implied speed of a sample at `meas`, cycle `cs` (R190, R195). Counted edges are counts apart, whatever
the modulus; the raw count has 48 bits. -/
def State.impliedSpeed (s : State) (k : Nat) (meas : Int) (cs : Nat) : Option (Nat × Nat) :=
  let c := s.core k
  let m := if edgeKind (s.trKind k) then 2 ^ 48 else s.trMod k
  if s.trKind k = kQuad then c.hist.head?.map (fun h => ((wrapDiff oneCount m (meas - h.2)).natAbs, cs - h.1))
  else if s.trKind k = kPeriod then c.last.map (fun h => (m * 2 ^ 32, cs - h.1))
  else c.last.map (fun h => ((wrapDiff oneCount m (meas - h.2)).natAbs, cs - h.1))

/-- The speed exceeds TRK_VMAX, in counts per ms (R195). -/
def tooFast (vmax : Nat) (d : Nat × Nat) : Bool := d.1 != 0 && (d.2 == 0 || d.1 * 1000000 > vmax * 2 ^ 32 * d.2)

/-- The fields that every accepted sample sets (R195, R198). -/
def State.noteAccepted (s : State) (k : Nat) (meas : Int) (cs : Nat) : State :=
  let c := s.core k
  let s := match c.last with
    | some h => s.wr (pgTrack k) TRK_SAMPLE_DT.NS (min (cs - h.1) (2 ^ 32 - 1))
    | none => s
  let moved : Bool := match c.last with
    | some h => meas != h.2
    | none => true
  s.setTrack k { (s.track k).fed with core := { c with
    consec := 0, last := some (cs, meas), feed := s.bridleNs
    chg := if moved then s.bridleNs else c.chg, still := c.still && !moved } }

/-- An accepted sample in ACQUIRE (R197). -/
def State.acquireSample (s : State) (k : Nat) (meas : Int) (cs : Nat) : State :=
  let c := s.core k
  if edgeKind (s.trKind k) then
    ((s.setCore k { c with c0 := cs, p0 := meas, v0 := 0, edge := some cs, count := meas, acq := 1 }).noteAccepted k meas cs).enterRun k
  else
    match c.last with
    | none => (s.setCore k { c with c0 := cs, p0 := meas, v0 := 0, edge := none, acq := 1 }).noteAccepted k meas cs
    | some h =>
      let d := if s.trKind k = kPeriod then (s.trMod k : Int) * oneCount else wrapDiff oneCount (s.trMod k) (meas - h.2)
      let v := s.roundOpen d (max (cs - h.1) 1)
      ((v.2.setCore k { c with c0 := cs, p0 := meas, v0 := v.1, edge := none, acq := c.acq + 1 }).noteAccepted k meas cs).enterRun k

/-- An accepted sample in RUN: the observer (R196), bounded by R188 on a track that counts edges. DESIGN CHOICE: with no accepted sample
before it (a RUN that a keep-alive began) dt is 0, so that sample corrects nothing. -/
def State.observeSample (s : State) (k : Nat) (meas e : Int) (cs : Nat) : State :=
  let c := s.core k
  let dt := match c.last with | some h => cs - h.1 | none => 0
  let (da, db, s) := s.observer k e dt
  let p := c.pos cs + da
  let v := c.vel cs + db
  let cnt := c.pos cs + e
  let s :=
    if edgeKind (s.trKind k) then
      s.correct k { s.core k with c0 := cs, p0 := holdNear cnt p, v0 := v, edge := some cs, count := cnt }
    else s.correct k { s.core k with c0 := cs, p0 := p, v0 := v, edge := none }
  ((s.noteAccepted k meas cs).jumpScan k).checkPreds

/-- A counted edge whose sample is rejected still bounds the estimate (R188, R195): `cnt` is its position. -/
def State.boundEdge (s : State) (k : Nat) (cnt : Int) (cs : Nat) : State :=
  let c := s.core k
  if edgeKind (s.trKind k) then
    s.correct k { c with c0 := cs, p0 := holdNear cnt (c.pos cs), v0 := c.vel cs, edge := some cs, count := cnt }
  else s

/-- A sample of measured position `meas`, taken at Bridle cycle `cs` (R194, R195). A PRESET of this cycle discards it (R202). -/
def State.sample (s : State) (k : Nat) (meas : Int) (cs : Nat) : State :=
  let t := s.track k
  let acq := t.core.state = trAcquire
  if t.core.state ≠ trAcquire ∧ t.core.state ≠ trRun then s
  else if t.presetAt = some s.bridleNs then s
  else
    let s := s.keepUndo k
    let c := s.core k
    let e := wrapDiff oneCount (s.trMod k) (meas - c.pos cs)
    let fast := match s.impliedSpeed k meas cs with
      | some d => tooFast (s.rdTrk k TRK_VMAX.RATE) d
      | none => false
    let s := if s.trKind k = kQuad then s.setCore k { c with hist := ((c.hist ++ [(cs, meas)]).reverse.take 4).reverse } else s
    if (¬ (acq ∧ c.acq = 0) ∧ e.natAbs > s.rdTrk k TRK_STEPMAX.COUNTS * 2 ^ 32) ∨ (¬ (acq ∧ c.acq < 2) ∧ fast = true) then
      (s.boundEdge k (c.pos cs + e) cs).rejectSample k
    else if acq then s.acquireSample k meas cs
    else s.observeSample k meas e cs

/-- A counted edge (R187): the raw count moves in every state but DISABLED, and in ACQUIRE and RUN the edge is a sample. The
first sample in ACQUIRE takes the raw count (R197). -/
def State.countEdge (s : State) (k : Nat) (step : Int) (cs : Nat) : State :=
  let t := s.track k
  let raw := (t.raw + step + 2 ^ 47) % 2 ^ 48 - 2 ^ 47
  let offs := if t.core.state = trAcquire then 0 else t.core.offs
  let s := s.setTrack k { t with raw := raw, core := { t.core with offs := offs } }
  s.sample k (raw * oneCount + offs) cs

/-! ### Starting, stopping and presetting a track -/

/-- The velocity of a TIME track (R193). -/
def State.timeRate (s : State) (k : Nat) : Int := oneCount + sint 32 (s.rdTrk k TRK_TIME_RATE.RATE)

/-- The fold of a modulus that sync messages carry (R392). -/
def modFold (m : Nat) : Nat := Nat.xor (m % 2 ^ 15) (Nat.xor (m / 2 ^ 15 % 2 ^ 15) (m / 2 ^ 30 % 2 ^ 11))

/-- A SUBSCRIBE or UNSUBSCRIBE of a REMOTE track is posted to the device it mirrors (R391, R392). -/
def State.sendSubscribe (s : State) (k : Nat) (on : Bool) : State :=
  if s.trKind k = kRemote then
    let inline := s.rdTrk k TRK_SRC2.REMOTE_TRACK * 2 ^ 91 + modFold (s.trMod k) * 2 ^ 113
    s.postMsg (.bridle k) 6 (s.rdTrk k TRK_SRC2.REMOTE_DEV) 110 syncPort k (if on then 1 else 2)
      (!s.on (pgTrack k) PAGE_WORLD.SECURE) (bytesLE 16 inline)
  else s

/-- Pins that the track's source uses (R199). -/
def State.trackPins (s : State) (k : Nat) : List Nat :=
  let a := s.rdTrk k TRK_SRC.PIN_A
  let b := s.rdTrk k TRK_SRC.PIN_B
  let kind := s.trKind k
  if kind = kQuad then [a, b] ++ (if s.rdTrk k TRK_SRC.Z_MODE = 0 then [] else [s.rdTrk k TRK_SRC.PIN_Z])
  else if kind = kPulseDir then [a, b]
  else if kind = kPeriod then [a]
  else []

/-- The filtered levels of A and B, as 2 A + B (R187, R493). -/
def State.abNow (s : State) (k : Nat) : Nat :=
  2 * bnat (s.filtLevel (s.rdTrk k TRK_SRC.PIN_A)) + bnat (s.filtLevel (s.rdTrk k TRK_SRC.PIN_B))

/-- The time from an edge at pin `n` to the cycle in which it leaves the filter: the pin's synchroniser and glitch filter (R194). -/
def State.edgeAge (s : State) (n : Nat) : Nat := s.bankCycles (n / 48) (s.rdPin n FIO_PIN_FILT.GLITCH_NS + 2)

/-- The cycle in which an edge occurred that has left the filter of pin `n` in this cycle (R194). -/
def State.edgeCycle (s : State) (n : Nat) : Nat := s.bridleNs - s.edgeAge n

/-- The pin of QUAD track `k` whose level differs from the one the decoder took last: PIN_B where only B does, else PIN_A. -/
def State.quadPin (s : State) (k : Nat) : Nat :=
  if (s.track k).ab / 2 = s.abNow k / 2 then s.rdTrk k TRK_SRC.PIN_B else s.rdTrk k TRK_SRC.PIN_A

/-- The pins of QUAD track `k` show an edge that leaves A and B at these levels and occurred `ago` ns before (R187, R194; log
entry 72). -/
def State.quadFits (s : State) (k : Nat) (A B : Bool) (ago : Nat) : Bool :=
  s.abNow k == 2 * bnat A + bnat B && ago == s.edgeAge (s.quadPin k)

/-- PIN_A of track `k` shows an edge that occurred `ago` ns before (R194; log entry 72). -/
def State.edgeFits (s : State) (k ago : Nat) : Bool := ago == s.edgeAge (s.rdTrk k TRK_SRC.PIN_A)

/-- Enabling or RESTART (R186, R193, R197, R201): ACQUIRE, or RUN for a TIME track; HOME is armed (R189), the decoder starts from the present
levels, and a pin that reads INVALID is a cause of FAULT (R494). -/
def State.startTrack (s : State) (k : Nat) : State :=
  let t := s.track k
  let n := s.bridleNs
  let v := if s.trKind k = kTime then s.timeRate k else 0
  let c := { t.core.freeze n with
    state := trAcquire, v0 := v, acq := 0, hist := [], last := none, feed := n, chg := n, consec := 0, offs := 0 }
  let ab := if t.core.state = trDisabled then s.abNow k else t.ab
  let s := s.setTrack k { t with core := c, homeArmed := true, undo := none, ab := ab }
  let s := if s.trKind k = kTime then s.enterRun k else s
  (if (s.trackPins k).any s.pinInvalid then s.trackFault k 5 else s).sendSubscribe k true

/-- ENABLE cleared (R184, R201). -/
def State.stopTrack (s : State) (k : Nat) : State :=
  let s := (s.disarm k).setCore k { (s.core k).freeze s.bridleNs with state := trDisabled }
  s.sendSubscribe k false

/-- The estimate is set to `p` (R189, R206): the measured position moves with it, committed firings are cancelled and the
comparators are refilled (R215, R227). -/
def State.setPosition (s : State) (k : Nat) (p : Int) : State :=
  let s := s.cancelPreds k
  let t := s.track k
  let c := t.core
  let d := p - c.pos s.bridleNs
  let sh (h : Nat × Int) : Nat × Int := if edgeKind (s.trKind k) then (h.1, h.2 + d) else h
  let v := match c.edge with | some _ => c.v0 | none => c.vel s.bridleNs
  let c := { c with c0 := s.bridleNs, p0 := p, v0 := v, count := c.count + d, offs := c.offs + d, homed := true
                    hist := c.hist.map sh, last := c.last.map sh }
  let s := s.setTrack k { t with core := c, corrAt := some s.bridleNs, corrFrom := p }
  if c.state = trRun then s.setComps k { due := true, start := some p } else s

/-- A PRESET (R202, R206): a sample of this cycle is undone, with the fault that its rejection brings. -/
def State.presetTrack (s : State) (k : Nat) : State :=
  let t := s.track k
  let s := match t.undo with
    | some u =>
      if u.cycle = s.bridleNs then
        u.regs.foldl (fun (s : State) (r : Nat × Word) => s.setReg r.1 r.2) (s.setTrack k { t with
          core := u.core, undo := none, jump := none, faulting := t.faulting.filter (· != 1) })
      else s
    | none => s
  let s := s.setPosition k (s.trPreset k)
  s.setTrack k { s.track k with presetAt := some s.bridleNs }

/-- The device's own number in an array (R389). -/
def State.devNumber (s : State) : Nat := s.rd (pgTether 0) TETHER_ARRAY.DEVNUM

/-- The cases of R186 in which setting ENABLE is rejected. -/
def State.enableBad (s : State) (k : Nat) : Bool :=
  let kind := s.trKind k
  kind == 0 || (kind == kPeriod && s.trMod k == 0) || (s.trackPins k).any (191 < ·) ||
  ((kind == kFabric || (kind == kTime && s.rdTrk k TRK_SRC2.PORT_EN == 1)) && 575 < s.rdTrk k TRK_SRC2.PANEL) ||
  (kind == kRemote && s.rdTrk k TRK_SRC2.REMOTE_DEV == s.devNumber)

/-- An accepted write of TRK_CTRL (R186, R199, R201, R202, R206), checked against the state after the events of its cycle: an entry to FAULT
comes first, but for a PRESET, which discards the sample of its cycle. -/
def trkCtrlBody (k : Nat) (v : Word) (s : State) : Option State :=
  let en := getF v 0 1 == 1
  let restart := getF v 1 1 == 1
  let force := getF v 2 1 == 1
  let preset := getF v 3 1 == 1
  let s := if preset && en && !restart && !force then s else (s.takeJump k).settleFault k
  let st := s.trState k
  if st = trDisabled ∧ en = true ∧ s.enableBad k = true then none
  else if restart = true ∧ (st ≠ trFault ∨ en = false) then none
  else if preset = true ∧ st = trDisabled then none
  else
    let t := s.storeReg (pgTrack k) TRK_CTRL.ENABLE.off v
    let t := if force then t.trackFault k 6 else t
    let t := if restart || !en || !t.on pgBridle BRIDLE_STATUS.COUNTING then t.settleFault k else t
    some (
      if en = false then (if st = trDisabled then t else t.stopTrack k)
      else
        let t := if st = trDisabled ∨ restart = true then t.startTrack k else t
        if preset then t.presetTrack k else t)

end Sys2Proof.Machine
end

