-- ==== Sys2Proof/Machine/Tracks.lean ====
section
/-! DEFINITION. Meanings of chapter 07's commands: the tracks. -/

namespace Sys2Proof.Machine

open Sys2Proof

/-- A write of TRK_CTRL that keeps ENABLE as it is and sets the bits `v`. -/
def State.trkCtrlWrite (s : State) (a : Access) (k : Nat) (v : Nat) : State :=
  let w := BitVec.ofNat 32 (s.rdTrk k TRK_CTRL.ENABLE + v)
  s.gatedWrite a (pgTrack k) TRK_CTRL.ENABLE.off w (trkCtrlBody k w)

/-- TRACK_ENABLE (R186): a write of TRK_CTRL with ENABLE = 1. -/
def execTrackEnable (a : Access) (k : Nat) (s : State) : Host.Outcome State Fault Refusal :=
  guardUnit (k < 64) (s.gatedWrite a (pgTrack k) TRK_CTRL.ENABLE.off 1 (trkCtrlBody k 1))

/-- TRACK_DISABLE (R201): a write of TRK_CTRL with ENABLE = 0. -/
def execTrackDisable (a : Access) (k : Nat) (s : State) : Host.Outcome State Fault Refusal :=
  guardUnit (k < 64) (s.gatedWrite a (pgTrack k) TRK_CTRL.ENABLE.off 0 (trkCtrlBody k 0))

/-- TRACK_RESTART (R201): a write of 1 to RESTART. -/
def execTrackRestart (a : Access) (k : Nat) (s : State) : Host.Outcome State Fault Refusal :=
  guardUnit (k < 64) (s.trkCtrlWrite a k 2)

/-- FORCE_FAULT (R199, R201): a write of 1 to FORCE_FAULT. -/
def execForceFault (a : Access) (k : Nat) (s : State) : Host.Outcome State Fault Refusal :=
  guardUnit (k < 64) (s.trkCtrlWrite a k 4)

/-- TRACK_PRESET (R206): a write of 1 to PRESET. -/
def execTrackPreset (a : Access) (k : Nat) (s : State) : Host.Outcome State Fault Refusal :=
  guardUnit (k < 64) (s.trkCtrlWrite a k 8)

/-! ### Pin sources (R187 to R190) -/

/-- The Bridle counts, and track `k` is enabled with that source (R185, R203). -/
def State.sourceIs (s : State) (k kind : Nat) : Bool :=
  s.on pgBridle BRIDLE_STATUS.COUNTING && s.trState k != trDisabled && s.trKind k == kind

/-- Place of the levels AB (2 A + B) in the forward sequence 00, 01, 11, 10 (R187). -/
def quadPhase (ab : Nat) : Nat :=
  match ab with
  | 0 => 0
  | 1 => 1
  | 3 => 2
  | _ => 3

/-- What a change of AB counts (R187): none for no change, some 0 for an illegal transition. -/
def quadStep (old new : Nat) : Option Int :=
  match (quadPhase new + 4 - quadPhase old) % 4 with
  | 0 => none
  | 1 => some 1
  | 3 => some (-1)
  | _ => some 0

/-- INVERT_DIR exchanges the directions (R187). -/
def State.direct (s : State) (k : Nat) (d : Int) : Int := if s.rdTrk k TRK_SRC.INVERT_DIR = 1 then -d else d

/-- An illegal transition (R187): counted, and a rejected sample but in FAULT. -/
def State.quadIllegal (s : State) (k : Nat) : State :=
  let t := s.track k
  if t.core.state = trFault then s.inc (pgTrack k) TRK_QUAD_ERR_CNT.COUNT
  else if t.presetAt = some s.bridleNs then s
  else ((s.keepUndo k).inc (pgTrack k) TRK_QUAD_ERR_CNT.COUNT).rejectSample k

/-- The decoder of a QUAD track samples the filtered levels of A and B at a Bridle cycle (R187); the edge occurred when R194 says of the pin
that moved. -/
def State.decodeQuad (s : State) (k : Nat) : State :=
  let old := (s.track k).ab
  let new := s.abNow k
  let s1 := s.setTrack k { s.track k with ab := new }
  match quadStep old new with
  | none => s1
  | some 0 => s1.quadIllegal k
  | some d =>
    s1.countEdge k (s1.direct k d) (s.edgeCycle (s.quadPin k))

/-- QUAD_EDGE (R187): the decoder samples. Operands that the pins do not show name no edge (log entry 72). -/
def execQuadEdge (k : Nat) (A B : Bool) (ago : Nat) (s : State) : Host.Outcome State Fault Refusal :=
  guardUnit (k < 64) (if s.sourceIs k kQuad && s.quadFits k A B ago then s.decodeQuad k else s)

/-- PIN_A reads the level that follows the edge which TRK_SRC.EDGE chooses (R187). -/
def State.activeEdge (s : State) (k : Nat) : Bool := s.filtLevel (s.rdTrk k TRK_SRC.PIN_A) == (s.rdTrk k TRK_SRC.EDGE == 0)

/-- PULSE_EDGE (R187): an active edge of PIN_A; PIN_B, at `B`, gives the direction. Operands that the pins do not show name no edge (log
entry 72). -/
def execPulseEdge (k : Nat) (B : Bool) (ago : Nat) (s : State) : Host.Outcome State Fault Refusal :=
  guardUnit (k < 64)
    (if s.sourceIs k kPulseDir && s.activeEdge k && s.filtLevel (s.rdTrk k TRK_SRC.PIN_B) == B && s.edgeFits k ago then
       s.countEdge k (s.direct k (if B then 1 else -1)) (s.edgeCycle (s.rdTrk k TRK_SRC.PIN_A))
     else s)

/-- PERIOD_EDGE (R190): an active edge of PIN_A places the track at TRK_REF. An `ago` that the pin does not show names no edge (log
entry 72). -/
def execPeriodEdge (k ago : Nat) (s : State) : Host.Outcome State Fault Refusal :=
  guardUnit (k < 64)
    (if s.sourceIs k kPeriod && s.activeEdge k && s.edgeFits k ago then s.sample k (s.trRef k) (s.edgeCycle (s.rdTrk k TRK_SRC.PIN_A)) else s)

/-- The check of a Z edge (R189). -/
def State.zCheck (s : State) (k : Nat) : State :=
  let m := s.trMod k
  let d := wrapDiff 1 m (wrapPos m (s.est k) / oneCount - s.trRef k / oneCount)
  if d.natAbs > s.rdTrk k TRK_ZTOL.COUNTS then (s.inc (pgTrack k) TRK_ZMIS_CNT.COUNT).raiseTrk k TRK_EVENT.Z_MISMATCH else s

/-- HOME sets the integer position to that of TRK_REF, once (R189). -/
def State.zHome (s : State) (k : Nat) : State :=
  let p := s.est k
  let w := wrapPos (s.trMod k) p
  let s := s.setTrack k { s.track k with homeArmed := false }
  s.setPosition k (p + (s.trRef k / oneCount - w / oneCount) * oneCount)

/-- What a rising Z edge does to a QUAD track in RUN (R189). -/
def State.zEffect (s : State) (k : Nat) : State :=
  if s.trState k == trRun && (s.rdTrk k TRK_SRC.Z_QUAL == 0 || (s.track k).ab == 3) then
    match s.rdTrk k TRK_SRC.Z_MODE with
    | 0 => s
    | 1 => s.setTrack k { s.track k with zlatch := wrapPos (s.trMod k) (s.est k) }
    | 2 => s.zCheck k
    | _ => if (s.track k).homeArmed then s.zHome k else s.zCheck k
  else s

/-- Z_EDGE (R189): a rising Z edge of a QUAD track; an edge of A or B in the same cycle is counted first (R202). -/
def execZEdge (k : Nat) (s : State) : Host.Outcome State Fault Refusal :=
  guardUnit (k < 64) (if s.sourceIs k kQuad then (s.decodeQuad k).zEffect k else s)

/-- KEEP_ALIVE (R188, R197): feeds the coast timer; in ACQUIRE it starts RUN from the raw count. -/
def execKeepAlive (k : Nat) (s : State) : Host.Outcome State Fault Refusal :=
  guardUnit (k < 64)
    (if s.on pgBridle BRIDLE_STATUS.COUNTING && edgeKind (s.trKind k) then
       let c := { s.core k with feed := s.bridleNs }
       let p := (s.track k).raw * oneCount
       if c.state = trAcquire then
         (s.setTrack k { (s.track k).fed with core :=
           { c with c0 := s.bridleNs, p0 := p, v0 := 0, edge := some s.bridleNs, count := p, offs := 0, acq := 1 } }).enterRun k
       else if c.state = trRun then s.setTrack k { (s.track k).fed with core := c }
       else s
     else s)

/-! ### Limits (R181, R198) -/

/-- COAST_EXPIRY (R198): COAST µs without an accepted sample or a keep-alive. -/
def execCoastExpiry (k : Nat) (s : State) : Host.Outcome State Fault Refusal :=
  guardUnit (k < 64)
    (let c := s.core k
     if (c.state = trAcquire ∨ c.state = trRun) ∧ s.trKind k ≠ kTime ∧ s.bridleNs - c.feed ≥ 1000 * s.rdTrk k TRK_COAST.US then
       s.trackFault k 2
     else s)

/-- STALE_EXPIRY (R198): STALE µs without a sample that changes the measured position. -/
def execStaleExpiry (k : Nat) (s : State) : Host.Outcome State Fault Refusal :=
  guardUnit (k < 64)
    (let c := s.core k
     if (c.state = trAcquire ∨ c.state = trRun) ∧ (edgeKind (s.trKind k) = true ∨ s.trKind k = kFabric) ∧ c.still = false ∧
        s.bridleNs - c.chg ≥ 1000 * s.rdTrk k TRK_STALE.US then
       ((s.correct k { c with c0 := s.bridleNs, p0 := c.pos s.bridleNs, v0 := 0, still := true }).raiseTrk k
         TRK_EVENT.STILL).checkPreds
     else s)

/-- RANGE_OVERFLOW (R181): a linear estimate has left its range; it saturates and the track faults. -/
def execRangeOverflow (k : Nat) (s : State) : Host.Outcome State Fault Refusal :=
  guardUnit (k < 64)
    (let c := s.core k
     let p := s.est k
     let top := 2 ^ 47 * oneCount
     if (c.state = trAcquire ∨ c.state = trRun) ∧ s.trMod k = 0 ∧ (p < -top ∨ top ≤ p) then
       (s.correct k { c with c0 := s.bridleNs, p0 := if p < 0 then -top else top - 1, v0 := 0, edge := none }).trackFault k 3
     else s)

/-! ### Fabric track ports (R191, R193) -/

/-- A word that the port discards (R191). -/
def State.dropWord (s : State) (p k : Nat) : State :=
  let x := s.panel p
  ((s.setPanel p { x with due := { x.due with trkRefused := true } }).inc (pgTrack k) TRK_PORT_DROP_CNT.COUNT).raiseTrk k
    TRK_EVENT.PORT_DROP

/-- A fabric word of panel `p` for track `k` (R191); `takes` says whether the track's KIND takes it. -/
def State.portWord (s : State) (p k : Nat) (takes : Bool) (body : State → State) : State :=
  let t := s.track k
  if !s.clkRun p || !s.on pgBridle BRIDLE_STATUS.COUNTING then s
  else if (s.panel p).portsNs && s.pageSecure (pgTrack k) then
    ((s.logViolation true true 0 90 (pgTrack k * 4096 + TRK_CTRL.ENABLE.off) p).wr (pgTrack k) PAGE_ERRSUM.WORLD 1).dropWord p k
  else if s.rdTrk k TRK_SRC2.PANEL != p || !takes || t.word.any (fun c => s.bridleNs < c + 10) then s.dropWord p k
  else body (s.setTrack k { t with word := some s.bridleNs })

/-- TRACK_POSITION_WORD (R191): TPOS in the format of R180; a word with the reserved TKIND = 3 in place of 0 is discarded. -/
def execTrackPositionWord (p k : Nat) (val : PosWord) (s : State) : Host.Outcome State Fault Refusal :=
  guardUnit (p < 576 && k < 64)
    (s.portWord p k (s.trKind k == kFabric && !val.reserved) (fun s => s.sample k (val.pos.toInt * 65536) s.bridleNs))

/-- A step of a TIME track in RUN (R193): one above TRK_STEPMAX is a rejected sample. -/
def State.timeStep (s : State) (k : Nat) (d : Int) : State :=
  let c := s.core k
  if c.state ≠ trRun then s
  else if d.natAbs > s.rdTrk k TRK_STEPMAX.COUNTS * 2 ^ 32 then s.rejectSample k
  else
    (((s.correct k { c with c0 := s.bridleNs, p0 := c.pos s.bridleNs + d, consec := 0 })).jumpScan k).checkPreds

/-- A word for a TIME track is a sample of its cycle, which a PRESET of the cycle discards (R202). -/
def State.timeWord (s : State) (k : Nat) (body : State → State) : State :=
  if (s.track k).presetAt = some s.bridleNs then s else body (s.keepUndo k)

/-- The TIME track takes words of its port (R191). -/
def State.takesTime (s : State) (k : Nat) : Bool := s.trKind k == kTime && s.rdTrk k TRK_SRC2.PORT_EN == 1

/-- TIME_STEP_WORD (R193): a signed offset. -/
def execTimeStepWord (p k : Nat) (val : BitVec 64) (s : State) : Host.Outcome State Fault Refusal :=
  guardUnit (p < 576 && k < 64) (s.portWord p k (s.takesTime k) (fun s => s.timeWord k (fun s => s.timeStep k (val.toInt * 65536))))

/-- RATE lies within ±4,294,967 (R193). -/
def rateInRange (r : Int) : Bool := r.natAbs ≤ 4294967

/-- A new rate of a TIME track takes effect (R193). -/
def State.applyRate (s : State) (k : Nat) : State :=
  let c := s.core k
  if s.trKind k = kTime ∧ c.state = trRun then
    (s.correct k { c with c0 := s.bridleNs, p0 := c.pos s.bridleNs, v0 := s.timeRate k }).checkPreds
  else s

/-- TIME_RATE_WORD (R193): the rate in [31:0]; one outside the range is a rejected sample. -/
def execTimeRateWord (p k : Nat) (val : BitVec 64) (s : State) : Host.Outcome State Fault Refusal :=
  guardUnit (p < 576 && k < 64)
    (s.portWord p k (s.takesTime k) (fun s => s.timeWord k (fun s =>
      if rateInRange (sint 32 val.toNat) then
        let s := (s.wr (pgTrack k) TRK_TIME_RATE.RATE (val.toNat % 2 ^ 32)).applyRate k
        s.setCore k { s.core k with consec := 0 }
      else if s.trState k = trRun then s.rejectSample k
      else s)))

/-- An accepted write of TRK_TIME_RATE (R193). -/
def timeRateBody (k : Nat) (v : Word) (s : State) : Option State :=
  if rateInRange (sint 32 v.toNat) then some ((s.storeReg (pgTrack k) TRK_TIME_RATE.RATE.off v).applyRate k) else none

/-! ### Pairs of registers (R183) -/

/-- The staged low word of a pair, or the present one. -/
def State.lowWord (s : State) (addr : Nat) : Word := (lget s.bridle.lows addr).getD (s.reg addr)
def State.stageLow (s : State) (addr : Nat) (v : Word) : State := { s with bridle := { s.bridle with lows := lset s.bridle.lows addr v } }
def State.unstageLow (s : State) (addr : Nat) : State := { s with bridle := { s.bridle with lows := ldel s.bridle.lows addr } }

/-- A write of the high register of a pair: both registers take their words. -/
def State.storePair (s : State) (lo hi : Nat) (v : Word) : State := ((s.setReg lo (s.lowWord lo)).setReg hi v).unstageLow lo

/-- An accepted write of TRK_TIME_STEP_HI (R193, R206). -/
def timeStepHiBody (k : Nat) (v : Word) (s : State) : Option State :=
  let s := s.settleFault k
  if s.trKind k = kTime ∧ s.trState k = trRun then
    let lo := trkReg k TRK_TIME_STEP_LO.OFFSET
    let d := sint 64 ((s.lowWord lo).toNat + 2 ^ 32 * v.toNat)
    some ((s.storePair lo (lo + 4) v).timeStep k (d * 65536))
  else none

/-- TIME_STEP_WRITE (R193): a write of TRK_TIME_STEP_HI. -/
def execTimeStepWrite (a : Access) (k : Nat) (v : Word) (s : State) : Host.Outcome State Fault Refusal :=
  guardUnit (k < 64) (s.gatedWrite a (pgTrack k) TRK_TIME_STEP_HI.OFFSET.off v (timeStepHiBody k v))

/-- An accepted write of the high register of a pair of a track page (R181, R183, R186, R206): TRK_MOD only while DISABLED and up to
2^40; TRK_REF and TRK_PRESET of a modular track with an integer part of 0 to M − 1. -/
def trackPairBody (k off : Nat) (v : Word) (s : State) : Option State :=
  let lo := pgTrack k * 4096 + off - 4
  let w := (s.lowWord lo).toNat + 2 ^ 32 * v.toNat
  let int := sint 64 w / 65536
  if off = TRK_MOD_HI.M.off then
    (if s.trState k = trDisabled ∧ w ≤ 2 ^ 40 then some (s.storePair lo (lo + 4) v) else none)
  else if s.trMod k = 0 ∨ (0 ≤ int ∧ int < s.trMod k) then some (s.storePair lo (lo + 4) v)
  else none

/-- The high registers of the pairs of a track page, beside TRK_TIME_STEP. -/
def isPairHi (off : Nat) : Bool := off == TRK_MOD_HI.M.off || off == TRK_REF_HI.POS.off || off == TRK_PRESET_HI.POS.off

/-- The low registers of the pairs of a track page. -/
def isPairLo (off : Nat) : Bool := isPairHi (off + 4) || off == TRK_TIME_STEP_LO.OFFSET.off

/-- STAGED_PAIR_WRITE (R183): a write of the high register at page offset `off` of track `k`. -/
def execStagedPairWrite (a : Access) (k off : Nat) (v : Word) (s : State) : Host.Outcome State Fault Refusal :=
  guardUnit (k < 64 && isPairHi off) (s.gatedWrite a (pgTrack k) off v (trackPairBody k off v))

/-! ### Reads that capture (R183, R191, R205, R206) -/

/-- A read of TRK_POS_LO past the access checks: the position and what it captures (R183). -/
def State.snapshotBody (s : State) (k : Nat) : State :=
  let p := posWord (s.trMod k) (s.est k)
  let v := unsint 64 (s.estVel k)
  let s := (s.wr (pgTrack k) TRK_POS_HI.POS (p / 2 ^ 32)).wr (pgTrack k) TRK_VEL_LO.VEL v
  let s := (s.wr (pgTrack k) TRK_VEL_HI.VEL (v / 2 ^ 32)).wr (pgTrack k) TRK_SNAP_NS.NS s.bridleNs
  s.respond .ok (p % 2 ^ 32)

/-- TRACK_SNAPSHOT (R183): a read of TRK_POS_LO. -/
def execTrackSnapshot (a : Access) (k : Nat) (s : State) : Host.Outcome State Fault Refusal :=
  guardUnit (k < 64) (s.gatedRead a (pgTrack k) TRK_POS_LO.POS.off (fun s => s.snapshotBody k))

/-- A read of BRIDLE_NS_LO past the access checks (R205). -/
def State.nsBody (s : State) : State :=
  (s.wr pgBridle BRIDLE_NS_HI.NS (s.bridleNs / 2 ^ 32)).respond .ok (s.bridleNs % 2 ^ 32)

/-- BRIDLE_NS_CAPTURE (R205): a read of BRIDLE_NS_LO. -/
def execBridleNsCapture (a : Access) (s : State) : Host.Outcome State Fault Refusal :=
  .next (s.gatedRead a pgBridle BRIDLE_NS_LO.NS.off State.nsBody)

/-- A read of TRK_Z_LATCH_LO past the access checks (R206). -/
def State.zLatchBody (s : State) (k : Nat) : State :=
  let p := unsint 64 (seen16 (s.track k).zlatch)
  (s.wr (pgTrack k) TRK_Z_LATCH_HI.POS (p / 2 ^ 32)).respond .ok (p % 2 ^ 32)

/-- Z_LATCH_CAPTURE (R206): a read of TRK_Z_LATCH_LO. -/
def execZLatchCapture (a : Access) (k : Nat) (s : State) : Host.Outcome State Fault Refusal :=
  guardUnit (k < 64) (s.gatedRead a (pgTrack k) TRK_Z_LATCH_LO.POS.off (fun s => s.zLatchBody k))

/-- TRACK_PORT_READ (R191): RSEL at an edge that the panel receives. RPOS, RVEL and RSTATE show two received edges later, as one number
RPOS + 2^64 RVEL + 2^128 RSTATE: the estimate as it stands now, or zeros where a non-secure port reads a secure track. -/
def execTrackPortRead (p k : Nat) (s : State) : Host.Outcome State Fault Refusal :=
  let v := if (s.panel p).portsNs && s.pageSecure (pgTrack k) then 0
    else posWord (s.trMod k) (s.est k) + 2 ^ 64 * unsint 64 (s.estVel k) + 2 ^ 128 * s.trState k
  guardUnit (p < 576 && k < 64)
    (if s.clkRun p then s.setPanel p { s.panel p with trackDue := (s.panel p).trackDue ++ [⟨2, v⟩] } else s)

end Sys2Proof.Machine
end

