-- ==== Sys2Proof/Machine/Marks.lean ====
section
/-! DEFINITION. Meanings of chapter 08's commands but ACTION_DISPATCH: mark and action entries, ranges, crossings, predictive
firings, comparators and stage registers. -/

namespace Sys2Proof.Machine

open Sys2Proof

/-! ### Staging (R210, R217) -/

/-- The staging area of an initiator, for mark entries (`act` false) or action entries. -/
def stageKey (who : Who) (act : Bool) : Nat := 2 * whoInit who + bnat act

/-- Words that the initiator has staged for entry `e`. -/
def State.stagedWords (s : State) (key e : Nat) : SMap Word :=
  if lget s.bridle.stagedEntry key = some e then (lget s.bridle.staged key).getD [] else []

/-- Stage word `w` of entry `e`; the staging of another entry is discarded. -/
def State.stageWord (s : State) (key e w : Nat) (v : Word) : State :=
  { s with bridle := { s.bridle with
      staged := lset s.bridle.staged key (lset (s.stagedWords key e) w v), stagedEntry := lset s.bridle.stagedEntry key e } }

/-- The staging area is empty after a commit. -/
def State.unstage (s : State) (key : Nat) : State :=
  { s with bridle := { s.bridle with staged := ldel s.bridle.staged key, stagedEntry := ldel s.bridle.stagedEntry key } }

/-- Word `w` of an entry that a commit would leave: the staged word, or the present one. -/
def State.newWord (s : State) (key e w addr : Nat) : Word := (lget (s.stagedWords key e) w).getD (s.reg addr)

/-- MARK_STAGE (R210): a write to word `w` (1 to 6) of mark entry `i`. -/
def execMarkStage (a : Access) (i w : Nat) (v : Word) (s : State) : Host.Outcome State Fault Refusal :=
  guardUnit (i < 16384 && 1 ≤ w && w < 7)
    (s.gatedWrite a (markAddr i w / 4096) (markAddr i w % 4096) v (fun s => some (s.stageWord (stageKey a.who false) i w v)))

/-- ACTION_STAGE (R217): a write to word `w` (1 to 15) of action entry `e`. -/
def execActionStage (a : Access) (e w : Nat) (v : Word) (s : State) : Host.Outcome State Fault Refusal :=
  guardUnit (e < 4096 && 1 ≤ w && w < 16)
    (s.gatedWrite a (actionAddr e w / 4096) (actionAddr e w % 4096) v (fun s => some (s.stageWord (stageKey a.who true) e w v)))

/-! ### Commits of mark entries (R208 to R210) -/

/-- Bits that R209 names in word 0. -/
def markWord0Mask : Word := 0xE3000FFF

/-- A 64-bit position word as POS with 16 fractional bits. -/
def posOfWords (lo hi : Word) : Int := sint 64 (lo.toNat + 2 ^ 32 * hi.toNat)

/-- The position fits the modulus of track `k`, and HYST lies below M/2 (R210). -/
def State.fitsModulus (s : State) (k : Nat) (pos : Int) (hyst : Nat) : Bool :=
  s.trMod k == 0 || (0 ≤ pos && pos < s.trMod k * 65536 && 2 * hyst < s.trMod k)

/-- The position stands in order between the nearest valid entries of the range (R210). -/
def State.inOrder (s : State) (k i : Nat) (pos : Int) : Bool :=
  let vs := (s.rangeMarks k).filter s.markValid
  ((vs.filter (· < i)).getLast?.all (fun j => s.markPos j ≤ pos)) && ((vs.filter (i < ·)).head?.all (fun j => pos ≤ s.markPos j))

/-- A commit of entry `i` with words `w0` to `w6` is accepted (R210). -/
def State.markAccepts (s : State) (i : Nat) (w0 : Word) (w : Nat → Word) : Bool :=
  let valid := getF w0 31 1 == 1
  let pos := posOfWords (w 1) (w 2)
  (w0 &&& ~~~ markWord0Mask) == 0 && getF (w 4) 16 16 == 0 && w 5 == 0 && w 6 == 0 &&
  !(valid && getF w0 24 2 == 0) && !(getF w0 29 1 == 1 && getF (w 4) 0 16 < 8) &&
  (match s.markOwner i with
   | none => true
   | some k => s.fitsModulus k pos (w 3).toNat && (!valid || s.inOrder k i pos))

/-- A comparator of the track holds the mark in that direction, and crossings are compared (R214, R215). -/
def State.armed (s : State) (k i : Nat) (fwd : Bool) : Bool :=
  s.trState k == trRun && (s.comps k).ready && (if fwd then (s.comps k).fwd else (s.comps k).rev).contains i

/-- Mark `i` fires where the estimate has crossed it in this cycle (R211); a predictive mark that reaches its crossing without a commit is
late (R225). -/
def State.crossMark (s : State) (k : Nat) (fwd : Bool) (i : Nat) : State :=
  if s.armed k i fwd && s.eligibleMark k fwd i && s.crossed k i fwd then s.fireMark k i fwd (s.markPredict i) none false else s

/-- The estimate has crossed armed mark `m` in this cycle: it fires, after the nearer ones that it has crossed too (R211, R222). The marks of a
jump fire at the end of the cycle (R215). -/
def State.crossTo (s : State) (k m : Nat) : State :=
  let fwd : Bool := 0 < s.crossStep k
  if s.armed k m fwd && (s.track k).jump.isNone then
    let near := ((s.passed k fwd).filter (fun i => s.armed k i fwd)).takeWhile (· != m)
    (near ++ [m]).foldl (fun s i => s.crossMark k fwd i) s
  else s

/-- An accepted commit (R210): the entry takes its words, STATUS clears, and the owning track's comparators are to be refilled. A crossing of
this cycle is tested against the old entry first, and the new one stands in no comparator yet (R228). -/
def markCommitBody (who : Who) (i : Nat) (v : Word) (s : State) : Option State :=
  let key := stageKey who false
  let w (j : Nat) : Word := s.newWord key i j (markAddr i j)
  if s.markAccepts i v w then
    let s := match s.markOwner i with
      | some k => s.crossTo k i
      | none => s
    let t := [1, 2, 3, 4, 5, 6].foldl (fun (t : State) j => t.setReg (markAddr i j) (w j)) (s.setReg (markAddr i 0) v)
    let t := (t.unstage key).setMarkStatus i 0
    some (match s.markOwner i with
      | some k =>
        let c := t.comps k
        t.setComps k { c with fwd := c.fwd.filter (· != i), rev := c.rev.filter (· != i), due := true }
      | none => t)
  else none

/-- MARK_COMMIT (R210): a write to word 0 of mark entry `i`. -/
def execMarkCommit (a : Access) (i : Nat) (v : Word) (s : State) : Host.Outcome State Fault Refusal :=
  guardUnit (i < 16384)
    (s.gatedWrite a (markAddr i 0 / 4096) (markAddr i 0 % 4096) v (markCommitBody a.who i v))

/-! ### Commits of action entries (R217, R218) -/

/-- Bits of word 4k that the opcode names (R218). -/
def slotMask (op : Nat) : Word :=
  match op with
  | 0 => 0xF0000000
  | 1 => 0xF0FF3700
  | 2 => 0xFFF3F3FF
  | 3 => 0xF000033F
  | 4 => 0xF0000FFF
  | 5 => 0xF000003F
  | 6 => 0xF00000FF
  | _ => 0xF0FF0003

/-- A slot passes the checks of R218. -/
def slotAccepted (w0 w1 w2 w3 : Word) : Bool :=
  let op := getF w0 28 4
  op < 8 && (w0 &&& ~~~ slotMask op) == 0 && w2 == 0 && w3 == 0 &&
  (match op with
   | 2 => w1 == 0 && getF w0 0 10 < 576
   | 3 => getF w1 24 8 == 0 && (getF w0 8 2 != 3 || getF w1 0 24 != 0)
   | 4 => w1 == 0 && getF w0 0 12 != 0
   | 6 => true
   | 7 => w1 == 0 && getF w0 0 2 != 0
   | _ => w1 == 0)

/-- An accepted commit of action entry `e` (R217). -/
def actionCommitBody (who : Who) (e : Nat) (v : Word) (s : State) : Option State :=
  let key := stageKey who true
  let w (j : Nat) : Word := if j = 0 then v else s.newWord key e j (actionAddr e j)
  if (List.range 4).all (fun j => slotAccepted (w (4 * j)) (w (4 * j + 1)) (w (4 * j + 2)) (w (4 * j + 3))) then
    some (((List.range 16).foldl (fun (t : State) j => t.setReg (actionAddr e j) (w j)) s).unstage key)
  else none

/-- ACTION_COMMIT (R217): a write to word 0 of action entry `e`. -/
def execActionCommit (a : Access) (e : Nat) (v : Word) (s : State) : Host.Outcome State Fault Refusal :=
  guardUnit (e < 4096)
    (s.gatedWrite a (actionAddr e 0 / 4096) (actionAddr e 0 % 4096) v (actionCommitBody a.who e v))

/-! ### Ranges (R228, R230) -/

/-- The valid entries of a range stand in order and fit the modulus. -/
def State.rangeOrdered (s : State) (k base count : Nat) : Bool :=
  let vs := ((List.range count).map (· + base)).filter s.markValid
  vs.all (fun i => s.fitsModulus k (s.markPos i) (s.markHyst i)) && (vs.zip vs.tail).all (fun x => s.markPos x.1 ≤ s.markPos x.2)

/-- Two ranges share an entry. -/
def rangesMeet (b c b' c' : Nat) : Bool := c != 0 && c' != 0 && b < b' + c' && b' < b + c

/-- An accepted write of BRIDLE_MARK_RANGE[k] (R230). -/
def markRangeBody (k : Nat) (v : Word) (s : State) : Option State :=
  let s := s.settleFault k
  let b := getF v 0 14
  let c := getF v 16 15
  if (s.trState k = trDisabled ∨ s.trState k = trFault) ∧ b + c ≤ 16384 ∧
     (List.range 64).all (fun j => j == k || !rangesMeet b c (s.rangeBase j) (s.rangeCount j)) = true ∧
     s.rangeOrdered k b c = true
  then some (s.storeReg pgBridle (BRIDLE_MARK_RANGE.BASE.at k).off v) else none

/-- MARK_RANGE_WRITE (R230): a write of BRIDLE_MARK_RANGE[k]. -/
def execMarkRangeWrite (a : Access) (k : Nat) (v : Word) (s : State) : Host.Outcome State Fault Refusal :=
  guardUnit (k < 64) (s.gatedWrite a pgBridle (BRIDLE_MARK_RANGE.BASE.at k).off v (markRangeBody k v))

/-! ### Crossings and predictive firings -/

/-- MARK_CROSSING (R211, R225). -/
def execMarkCrossing (k m : Nat) (s : State) : Host.Outcome State Fault Refusal :=
  guardUnit (k < 64 && m < 16384) (s.crossTo k m)

/-- Distance to the mark in the direction of the velocity (R225), in the units of the estimate; negative behind a linear track. -/
def State.predDist (s : State) (k m : Nat) (fwd : Bool) : Int :=
  let md := s.trMod k
  let d := if fwd then s.markPos m * 65536 - s.est k else s.est k - s.markPos m * 65536
  if md = 0 then d
  else
    let w := d % (md * oneCount)
    if fwd ∧ w = 0 then md * oneCount else w

/-- PREDICTIVE_COMMIT (R225): mark `m` commits once the time to it is within LEAD. -/
def execPredictiveCommit (k m : Nat) (s : State) : Host.Outcome State Fault Refusal :=
  guardUnit (k < 64 && m < 16384)
    (let v := s.estVel k
     let fwd : Bool := 0 < v
     let d := s.predDist k m fwd
     if s.armed k m fwd && v != 0 && s.markPredict m && s.eligibleMark k fwd m && 0 ≤ d && d ≤ s.markLead m * v.natAbs then
       let t : PredFire := { mark := m, at_ := s.bridleNs, track := k, target := if fwd then s.est k + d else s.est k - d, fwd := fwd }
       s.fireMark k m fwd false (if s.actionHasPin (s.markAction m) then some t else none) true
     else s)

/-- T of R226 for a committed firing, in units of 125 ps, as a fraction. -/
def State.predInstant (s : State) (t : PredFire) : Int × Nat :=
  let v := (s.estVel t.track).natAbs
  (8 * (s.bridleNs * v) + 8 * s.predLeft t, v)

/-- The predictive edges of a mark that wait for their lock. -/
def State.unlocked (s : State) (m : Nat) : List (Nat × PinEdge) :=
  (List.range 64).flatMap (fun k => ((s.pin (precPin k)).edges.filter (fun e => e.pred == some m)).map (fun e => (precPin k, e)))

/-- One predictive edge locks (R226): on the 125 ps grid at T, or on that of 2.5 ns while the Bridle runs on HFOSC (R412); or
3 ns after its issue, when the mark is late. -/
def State.lockEdge (s : State) (t : PredFire) (n : Nat) (e : PinEdge) : State :=
  let (num, den) := s.predInstant t
  if (8 * (s.bridleNs : Int)) * den < num - 24 * den ∨ s.bridleNs < e.issue then s
  else
    let first := 8 * (e.issue + 3)
    let late : Bool := num < first * den
    let grid := if s.bridleSlow then 20 else 1
    let r := s.roundOpen num (grid * den)
    let x := s.pin n
    let es := insertEdge { e with at8 := if late then first else grid * r.1.toNat, pred := none } (x.edges.erase e)
    let s := r.2.setPin n { x with edges := es }
    let s := { s with bridle := { s.bridle with preds := s.bridle.preds.map (fun x => if x.mark = t.mark then { x with late := x.late || late } else x) } }
    if late then s.lateMark t.mark t.late else s

/-- The firing is over: every edge has locked (R226). -/
def State.endPred (s : State) (m : Nat) : State := (s.dropPred m).putMarkBit m mCommitted false

/-- PREDICT_LOCK (R226): the instant of mark `m` locks. -/
def execPredictLock (k m : Nat) (s : State) : Host.Outcome State Fault Refusal :=
  guardUnit (k < 64 && m < 16384)
    (match s.bridle.preds.find? (fun t => t.mark == m && t.track == k && t.dispatched) with
     | none => s
     | some t =>
       if s.predBroken t then s.cancelPred t
       else
         let s := (s.unlocked m).foldl (fun s x => s.lockEdge ((s.bridle.preds.find? (·.mark == m)).getD t) x.1 x.2) s
         if (s.unlocked m).isEmpty then s.endPred m else s)

/-- COMPARATOR_REFILL (R214, R215, R216): the sequencer loads the next two marks of each direction into the comparators. -/
def execComparatorRefill (k : Nat) (s : State) : Host.Outcome State Fault Refusal :=
  guardUnit (k < 64) (if s.trState k = trRun then s.refill k else s)

/-! ### Stage registers (R221) -/

/-- A STAGE operation: the register takes its value and its sequence number advances modulo 256. -/
def State.stageWrite (s : State) (r : Nat) (v : Word) : State :=
  let seq := nget s.bridle.stage r / 2 ^ 32
  { s with bridle := { s.bridle with stage := nset s.bridle.stage r ((seq + 1) % 256 * 2 ^ 32 + v.toNat) } }

/-- An accepted write of BRIDLE_STAGE_DATA (R221). -/
def stageDataBody (v : Word) (s : State) : Option State := some (s.stageWrite (s.rd pgBridle BRIDLE_STAGE_INDEX.REG) v)

/-- STAGE_DATA_WRITE (R221): a write of BRIDLE_STAGE_DATA. -/
def execStageDataWrite (a : Access) (v : Word) (s : State) : Host.Outcome State Fault Refusal :=
  .next (s.gatedWrite a pgBridle BRIDLE_STAGE_DATA.VALUE.off v (stageDataBody v))

/-- STAGE_PORT_READ (R221): SSEL at an edge that the panel receives. SDATA and SSEQ show two received edges later, as SDATA + 2^32 SSEQ; zeros
where a non-secure port reads secure registers. -/
def execStagePortRead (p reg : Nat) (s : State) : Host.Outcome State Fault Refusal :=
  let v := if (s.panel p).portsNs && s.pageSecure pgBridle then 0 else nget s.bridle.stage reg
  guardUnit (p < 576 && reg < 256)
    (if s.clkRun p then s.setPanel p { s.panel p with stageDue := (s.panel p).stageDue ++ [⟨2, v⟩] } else s)

end Sys2Proof.Machine
end

