-- ==== Sys2Proof/Machine/SpoolOps.lean ====
section
/-! DEFINITION. Spool channels: states, triggers, answers and halts (R313 to R318, R323, R325). -/

namespace Sys2Proof.Machine

open Sys2Proof

def zeroChan : Chan := {}
def State.chan (s : State) (ch : Nat) : Chan := mget (fun _ => zeroChan) s.chans ch
def State.setChan (s : State) (ch : Nat) (x : Chan) : State := { s with chans := mset (fun _ => zeroChan) s.chans ch x }

def State.rdCh (s : State) (ch : Nat) (f : Fld) : Nat := s.rd (pgChannel ch) f
def State.wrCh (s : State) (ch : Nat) (f : Fld) (v : Nat) : State := s.wr (pgChannel ch) f v
def State.raiseCh (s : State) (ch : Nat) (bit : Fld) : State :=
  s.raise (pgChannel ch) bit CH_EVENT_MASK.MASK CH_EVENT_SRC.SOURCE

/-- CH_STATUS.STATE codes (R327). -/
def chDisabled : Nat := 0
def chIdle : Nat := 1
def chActive : Nat := 2
def chWait : Nat := 3
def chHalted : Nat := 4

def State.chState (s : State) (ch : Nat) : Nat := s.rdCh ch CH_STATUS.STATE
def State.setChState (s : State) (ch v : Nat) : State := s.wrCh ch CH_STATUS.STATE v

/-- TRIG_MODE = 1 (R316). -/
def State.triggered (s : State) (ch : Nat) : Bool := s.rdCh ch CH_CTRL.TRIG_MODE == 1

/-- The engine's PAGE_COMPAT.LEGACY (R320). -/
def State.engLegacy (s : State) (e : Nat) : Bool := s.on (pgEngine e) PAGE_COMPAT.LEGACY

/-- The access is a data read that waits for its answer. -/
def SpoolIo.reading (e : SpoolIo) : Bool := e.phase == 0 && !e.write && e.out

/-- Read bursts of the channel that are outstanding: those with a read that waits for its answer. -/
def Chan.reads (c : Chan) : Nat := ((c.io.filter SpoolIo.reading).map (·.burst)).eraseDups.length

/-- Read bursts of the engine that are outstanding (R252, R330). -/
def State.engineReads (s : State) (e : Nat) : Nat := ((List.range 16).map (fun k => (s.chan (16 * e + k)).reads)).sum

/-- Bytes of a descriptor (R313). -/
def State.descSize (s : State) (ch : Nat) : Nat := if s.engLegacy (ch / 16) then 32 else 64

def State.ringBase (s : State) (ch : Nat) : Nat := 32 * s.rdCh ch CH_RING_BASE_LO.BASE + 2 ^ 32 * s.rdCh ch CH_RING_BASE_HI.BASE

/-- TRIG_PENDING follows the held triggers. -/
def State.setTrigs (s : State) (ch : Nat) (ts : List Nat) : State :=
  (s.setChan ch { s.chan ch with trigs := ts }).wrCh ch CH_STATUS.TRIG_PENDING ts.length

/-- The engine is no longer held by the channel (R324). -/
def State.releaseEngine (s : State) (ch : Nat) : State :=
  let pg := pgEngine (ch / 16)
  if s.on pg ENG_CUR.VALID ∧ s.rd pg ENG_CUR.CHANNEL = ch % 16 then s.wr pg ENG_CUR.VALID 0 else s

/-- What the channel's pieces are for. -/
def RigPiece.ofChan (q : RigPiece) (ch : Nat) : Bool := match q.note with | some (.spool c _) => c == ch | _ => false

/-- Pieces of the channel that wait at the engine's interface are taken back from it; their accesses are to be issued again (R325). -/
def State.recall (s : State) (ch : Nat) : State :=
  let i := 7 + ch / 16
  let mine := (s.rigInit i).queue.filter (fun q => q.ofChan ch)
  let s := s.setRigInit i { s.rigInit i with queue := (s.rigInit i).queue.filter (fun q => !q.ofChan ch) }
  let c := s.chan ch
  s.setChan ch { c with io := c.io.map (fun e => if mine.any (fun q => q.note == some (.spool ch e.id)) then { e with out := false } else e) }

/-- The channel is disabled and holds nothing (R326, R327); what comes for its outstanding accesses is discarded. -/
def State.disableChan (s : State) (ch : Nat) : State :=
  let s := ((s.releaseEngine ch).recall ch).setChan ch zeroChan
  let s := (s.wrCh ch CH_CTRL.ENABLE 0).setChState ch chDisabled
  ((s.wrCh ch CH_STATUS.KICK_PENDING 0).wrCh ch CH_STATUS.STOP_PENDING 0).wrCh ch CH_STATUS.TRIG_PENDING 0

/-- Turn to the next descriptor: read it. Accesses that a SKIP has given up are still awaited. -/
def State.nextFetch (s : State) (ch : Nat) : State :=
  s.setChan ch { trigs := (s.chan ch).trigs, io := (s.chan ch).io.filter (·.dead) }

/-! ### Triggers (R316, R317) -/

/-- A KICK, or a trigger of a FREE channel (R316). -/
def State.kickChan (s : State) (ch : Nat) : State :=
  let st := s.chState ch
  if s.triggered ch then s
  else if st = chIdle then (s.nextFetch ch).setChState ch chActive
  else if st = chActive ∨ st = chHalted then s.wrCh ch CH_STATUS.KICK_PENDING 1
  else s

/-- A discarded trigger (R317). -/
def State.trigEmpty (s : State) (ch : Nat) : State :=
  (s.inc (pgChannel ch) CH_TRIG_EMPTY_CNT.COUNT).raiseCh ch CH_EVENT.TRIG_EMPTY

/-- The held descriptor is released by the trigger of instant `at_` (R316). -/
def State.releaseDesc (s : State) (ch at_ : Nat) : State :=
  let c := s.chan ch
  (s.setChan ch { c with stage := if c.status = 0 then .data else .back1, started := some at_, reread := none }).setChState ch chActive

/-- A trigger reaches a channel at the instant `at_` (R316 to R318). One that finds the descriptor not owned makes the channel read it
again; one that comes while the channel reads or runs a descriptor, or while it is halted, is held. -/
def State.triggerChan (s : State) (ch at_ : Nat) : State :=
  let st := s.chState ch
  let c := s.chan ch
  if st = chDisabled then s.trigEmpty ch
  else if !s.triggered ch then s.kickChan ch
  else if st = chWait ∧ c.stage = .held then s.releaseDesc ch at_
  else if st = chWait then (s.setChan ch { c with reread := some at_ }).setChState ch chActive
  else if c.trigs.length ≥ 255 then (s.inc (pgChannel ch) CH_TRIG_OVF_CNT.COUNT).raiseCh ch CH_EVENT.TRIG_OVF
  else s.setTrigs ch (c.trigs ++ [at_])

/-- HEAD moves on (R313). -/
def State.advanceHead (s : State) (ch : Nat) : State :=
  s.wrCh ch CH_HEAD.INDEX ((s.rdCh ch CH_HEAD.INDEX + 1) % s.rdCh ch CH_RING_SIZE.SIZE)

/-! ### Late starts (R318) -/

/-- The first data read of a released descriptor is injected: later than 8 rigging cycles after its trigger it is a late start. -/
def State.judgeStart (s : State) (ch id : Nat) : State :=
  let c := s.chan ch
  match c.started with
  | none => s
  | some t =>
    if c.io.any (fun e => e.id == id && e.phase == 0) then
      let s := s.setChan ch { c with started := none }
      if s.rigCycles (s.ns - t) ≤ 8 then s else (s.inc (pgChannel ch) CH_LATE_CNT.COUNT).raiseCh ch CH_EVENT.LATE_START
    else s

/-! ### Answers and halts (R315, R321, R323, R325) -/

/-- A failing response of a transaction of the channel: latched, the channel halts and releases the engine. `phase` is 0 DATA, 1 DESC,
2 LIST, 3 WRITEBACK. One of a halted channel is a further failure. -/
def State.haltChan (s : State) (ch code : Nat) (write : Bool) (phase : Nat) (host : Bool) (addr : Nat) : State :=
  if s.chState ch = chHalted then s.wrCh ch CH_ERR_INFO.MULTI 1
  else
    let w := code + bnat write * 16 + phase * 32 + bnat host * 128 + s.rdCh ch CH_HEAD.INDEX * 65536
    let s := s.setReg (pgChannel ch * 4096 + CH_ERR_INFO.CODE.off) (BitVec.ofNat 32 w)
    let s := (s.wrCh ch CH_ERR_ADDR_LO.ADDR addr).wrCh ch CH_ERR_ADDR_HI.ADDR (addr / 2 ^ 32)
    let s := s.setChan ch { s.chan ch with halted := phase }
    (((s.setChState ch chHalted).recall ch).releaseEngine ch).raiseCh ch CH_EVENT.HALT

/-- A descriptor's data ends with a status: its write-back is next. -/
def State.endData (s : State) (ch status : Nat) : State :=
  s.setChan ch { s.chan ch with stage := .back1, status := status }

/-- An access of the descriptor's data is still to be done with. -/
def Chan.dataLeft (c : Chan) : Bool := c.io.any (fun e => e.phase == 0)

/-- With everything moved, the write-back is next. -/
def State.afterBurst (s : State) (ch : Nat) : State :=
  let c := s.chan ch
  if c.stage = .data ∧ c.left = 0 ∧ c.dataLeft = false ∧ s.chState ch = chActive then s.endData ch 0 else s

/-- The channel's access `id` ends: it is taken out, or becomes what `f` makes of it. -/
def State.setIo (s : State) (ch id : Nat) (f : SpoolIo → Option SpoolIo) : State :=
  s.setChan ch { s.chan ch with io := (s.chan ch).io.filterMap (fun e => if e.id = id then f e else some e) }

/-- Access `id` of channel `ch` has been answered with `code` (R323, R325): a data write that is OK counts its bytes, anything else that
is OK is kept until the engine takes it, and a failure halts the channel. An access that SKIP has given up, or that the channel no longer
has, ends here. -/
def State.spoolAnswer (s : State) (ch id code : Nat) (data : List Byte) : State :=
  match (s.chan ch).io.find? (fun e => e.id == id) with
  | none => s
  | some e =>
    if code = 0 then
      if e.dead then s.setIo ch id (fun _ => none)
      else if e.write && e.phase == 0 then
        let s := s.setIo ch id (fun _ => none)
        (s.setChan ch { s.chan ch with done := (s.chan ch).done + e.bytes }).afterBurst ch
      else s.setIo ch id (fun e => some { e with out := false, answer := some 0, data := if e.write then e.data else data })
    else
      (s.setIo ch id (fun e => if e.dead then none else some { e with out := false, answer := some code })).haltChan ch code e.write
        e.phase e.host e.addr

end Sys2Proof.Machine
end

