-- ==== Sys2Proof/Machine/Actions.lean ====
section
/-! DEFINITION. The dispatch of actions (R218 to R223): ACTION_DISPATCH and the operations of its four slots. -/

namespace Sys2Proof.Machine

open Sys2Proof

/-- A discarded operation (R219, R220). -/
def State.dropOp (s : State) : State := (s.inc pgBridle BRIDLE_OP_DROP_CNT.COUNT).raiseBridle BRIDLE_MEVENT.OP_DROP

/-- The world check of an operation of track `k` at page `pg`, for the register at `off` (R219); `body` where it passes. -/
def State.opCheck (s : State) (k pg off : Nat) (body : State → State) : State :=
  if s.worldAdmits (.bridle k) pg then body s else (s.violatePage (.bridle k) true pg off).dropOp

/-- The device is in HOLD or PARK, or on the way (R219). -/
def State.panelsHeld (s : State) : Bool := s.devState != devRun

/-- PLANE (R219): every member's page is checked; the lowest failing member is logged. -/
def State.opPlane (s : State) (k : Nat) (w : Word) : State :=
  let g := getF w 16 8
  let pg (p : Nat) : Nat := pgPanel p
  match (s.members g).find? (fun p => !s.worldAdmits (.bridle k) (pg p)) with
  | some p => (s.violatePage (.bridle k) true (pg p) PANEL_PLANE_CMD.PLANE.off).dropOp
  | none =>
    if s.panelsHeld && !(s.members g).isEmpty then s.dropOp
    else s.planeRequest .bridle none g (getF w 8 3) (getF w 12 1 == 1) (getF w 13 1 == 1)

/-- CONTEXT (R162, R219). -/
def State.opContext (s : State) (k : Nat) (w : Word) : State :=
  let p := getF w 0 10
  s.opCheck k (pgPanel p) PANEL_CTX_CMD.QMASK.off (fun s =>
    if s.panelsHeld then s.dropOp
    else s.ctxRequest p ⟨getF w 12 4, getF w 16 1 == 1, getF w 20 8, getF w 17 1 == 1, .bridle, s.ns⟩)

/-- PIN (R220, R225): an edge 3 ns after the issue of its slot, or one that waits for the lock of a predictive mark. -/
def State.opPin (s : State) (k j : Nat) (e : QEntry) (w w1 : Word) : State :=
  let n := precPin (getF w 0 6)
  s.opCheck k (pgFio (n / 48)) (FIO_PIN_CFG.OWNER.at (n % 48)).off (fun s =>
    if s.rdPin n FIO_PIN_CFG.OWNER ≠ 2 then s.dropOp
    else
      let issue := s.bridleNs + s.cycles (j + 1)
      let edge : PinEdge :=
        { at8 := 8 * (issue + 3), op := getF w 8 2, width := getF w1 0 24, track := k, issue := issue
          pred := if e.pred.isSome then e.mark else none }
      (s.scheduleEdge (getF w 0 6) edge).getD s.dropOp)

/-- WINDOW (R218, R219): the preflight window of a group, or the alignment of the stagger windows at the issue of slot `j` (R222, R233). -/
def State.opWindow (s : State) (k j : Nat) (w : Word) : State :=
  let g := getF w 16 8
  let f := PF_WINDOW.OPEN.at (g / 32)
  match getF w 0 2 with
  | 1 => s.opCheck k pgPreflight f.off (fun s => s.wr pgPreflight f (s.rd pgPreflight f ||| 2 ^ (g % 32)))
  | 2 => s.opCheck k pgPreflight f.off (fun s =>
           let v := s.rd pgPreflight f
           s.wr pgPreflight f (if bitOf v (g % 32) then v - 2 ^ (g % 32) else v))
  | _ => s.opCheck k pgPwr GOV_CTRL.MODE.off (fun s => s.alignWindow (s.bridleNs + s.cycles (j + 1)))

/-- The operation of slot `j` of the action of entry `e` (R218). -/
def State.issueSlot (s : State) (e : QEntry) (j : Nat) : State :=
  let k := e.track
  let w := s.actionWord e.action (4 * j)
  let w1 := s.actionWord e.action (4 * j + 1)
  match getF w 28 4 with
  | 1 => s.opPlane k w
  | 2 => s.opContext k w
  | 3 =>
    -- the edges of a cancelled firing are not produced (R227)
    if e.pred.isSome && !s.bridle.preds.any e.firing then s else s.opPin k j e w w1
  | 4 => s.postDoorbell 6 (pgTrack k) (s.pageSecure (pgTrack k)) (getF w 0 12)
  | 5 => s.opCheck k (pgChannel (getF w 0 6)) CH_CMD.CMD.off (fun s => s.triggerChan (getF w 0 6) (s.ns + s.cycles (j + 1)))
  | 6 => s.opCheck k pgBridle BRIDLE_STAGE_DATA.VALUE.off (fun s => s.stageWrite (getF w 0 8) w1)
  | 7 => s.opWindow k j w
  | _ => s

/-- After the dispatch of a mark that fired by a predictive commit (R226): without an edge that waits for its lock the firing is over. -/
def State.afterDispatch (s : State) (e : QEntry) : State :=
  if s.bridle.preds.any e.firing && !(e.mark.all (fun i => (s.unlocked i).isEmpty)) then
    { s with bridle := { s.bridle with preds := s.bridle.preds.map (fun t => if e.firing t then { t with dispatched := true } else t) } }
  else s.endCommit e

/-- ACTION_DISPATCH (R222, R223): the dispatcher, free since 4 cycles after its last start, takes the head of the queue, which has entered in
an earlier cycle. A mark whose dispatch starts more than one cycle after its entry is late. -/
def execActionDispatch (s : State) : Host.Outcome State Fault Refusal :=
  .next
    (match s.bridle.queue with
     | [] => s
     | e :: rest =>
       if s.bridleNs < s.bridle.free ∨ s.bridleNs ≤ e.enq then s
       else
         let late : Bool := e.enq + s.cycles 1 < s.bridleNs
         let s := { s with bridle := { s.bridle with queue := rest, free := s.bridleNs + s.cycles 4 } }
         let s := s.inc pgBridle BRIDLE_ACT_CNT.COUNT
         let s := match e.mark with
           | some i =>
             let s := { s with bridle := { s.bridle with preds := s.bridle.preds.map (fun (t : PredFire) => if e.firing t then { t with late := t.late || e.late || late } else t) } }
             if late then s.lateMark i e.late else s
           | none => s
         ((List.range 4).foldl (fun s j => s.issueSlot e j) s).afterDispatch e)

end Sys2Proof.Machine
end

