-- ==== Sys2Proof/Machine/BankOps.lean ====
section
/-! DEFINITION. Shared operations of chapter 10: bytes of the scratchpad, bank lines and their errors, the error log,
mirrors, ownership, and the service of one access. -/

namespace Sys2Proof.Machine

open Sys2Proof

/-! ### Bytes (R253, R276) -/

/-- The keys of a sparse table rise strictly and no entry equals what an unlisted key reads as. -/
def sorted {α : Type} [DecidableEq α] (d : Nat → α) : SMap α → Bool
  | [] => true
  | (k, v) :: t => v != d k && (match t with | [] => true | (k', _) :: _ => k < k') && sorted d t

/-- What an unlisted scratchpad byte reads as: the zero that background initialisation writes (R276). -/
def memDefault (_ : Nat) : Byte := 0

/-- The canonical form of the memory. -/
def Memory.wf (m : List Host.Cell) : Bool := sorted memDefault m

/-- One byte of the scratchpad. -/
def State.memByte (s : State) (a : Nat) : Byte := mget memDefault s.mem a
def State.setMemByte (s : State) (a : Nat) (b : Byte) : State := { s with mem := mset memDefault s.mem a b }

/-- `n` bytes from address `a`. -/
def State.memBytes (s : State) (a : Nat) : Nat → List Byte
  | 0 => []
  | n + 1 => s.memByte a :: s.memBytes (a + 1) n

/-- Write bytes from address `a` upward. -/
def State.setMemBytes (s : State) (a : Nat) : List Byte → State
  | [] => s
  | b :: bs => (s.setMemByte a b).setMemBytes (a + 1) bs

/-- The address of a line by its number 8,192 b + l, and its bank and page. -/
def lineAddr (n : Nat) : Nat := 64 * n
def lineBank (n : Nat) : Nat := n / 8192
def linePage (n : Nat) : Nat := n / 1024 % 8

/-- Stored CRC against the CRC of the stored bytes (R254): 0 when they agree. -/
def State.lineDiff (s : State) (n : Nat) : BitVec 16 := mget (fun _ => 0) s.crcDiff n
def State.setLineDiff (s : State) (n : Nat) (d : BitVec 16) : State := { s with crcDiff := mset (fun _ => 0) s.crcDiff n d }

/-- The CRC of a line's bytes and index (R254). -/
def lineCrc (n : Nat) (bs : List Byte) : Nat := crc16 (bs ++ [BitVec.ofNat 8 (n % 8192 / 256), BitVec.ofNat 8 (n % 256)])

/-- Bytes with the inverted data bits of a codeword: byte i holds bits 8i to 8i + 7 (R254). -/
def flipBytes (bs : List Byte) (x : BitVec 528) : List Byte :=
  bs.zipIdx.map (fun b => b.1 ^^^ BitVec.ofNat 8 (x.toNat / 2 ^ (8 * b.2) % 256))

/-- Cells of a line invert: data bits 0 to 511, then CRC bits 512 to 527. -/
def State.flipLine (s : State) (n : Nat) (x : BitVec 528) : State :=
  if x = 0 then s
  else
    let old := s.memBytes (lineAddr n) 64
    let new := flipBytes old x
    let d : Nat := Nat.xor (lineCrc n old) (lineCrc n new)
    (s.setMemBytes (lineAddr n) new).setLineDiff n (s.lineDiff n ^^^ BitVec.ofNat 16 d ^^^ BitVec.ofNat 16 (x.toNat / 2 ^ 512))

/-! ### Registers and events -/

def State.raiseBank (s : State) (bit : Fld) : State := s.raise pgBallast bit BANK_EVENT_MASK.MASK BANK_EVENT_SRC.SOURCE

/-- A counter of bank `b` in its tile page (R281). -/
def State.countBank (s : State) (b : Nat) (f : Fld) : State := s.inc (pgTile (b / 2)) (f.at (b % 2))

/-- The bank is FAILED: grounded, or retired whole (R36, R273). -/
def Bank.failed (x : Bank) : Bool := x.grounded != 0 || x.whole || x.retired == 255

/-! ### The error log (R272, R280) -/

def logKindTransient : Nat := 0
def logKindRepaired : Nat := 1
def logKindPoison : Nat := 2
def logKindRefused : Nat := 3
def logKindTest : Nat := 4

/-- Word `w` of entry `e` of the log of group `g`. -/
def State.logWord (s : State) (g e w : Nat) : Nat := s.rd (pgBankLog g) (BANK_LOG.WORD.at (2 * e + w))
def State.setLogWord (s : State) (g e w v : Nat) : State := s.wr (pgBankLog g) (BANK_LOG.WORD.at (2 * e + w)) v

/-- Word 0 of a log entry (R280). -/
def bankLogWord (kind count bank line : Nat) : Nat :=
  2 ^ 31 + kind * 2 ^ 28 + count * 2 ^ 26 + bank % 1024 * 2 ^ 16 + line % 8192

/-- The valid entry of the same bank and line within BANK_LOG_WINDOW. -/
def State.findLog (s : State) (g bank line : Nat) : Option Nat :=
  (List.range 64).find? (fun e =>
    let w := s.logWord g e 0
    let age := (s.stamp + 2 ^ 32 - s.logWord g e 1) % 2 ^ 32
    bitOf w 31 && w / 2 ^ 16 % 1024 == bank && w % 8192 == line && age ≤ 1000 * s.rd pgBallast BANK_LOG_WINDOW.MS)

/-- A hard-fault candidate (R272). -/
def State.candidate (s : State) (bank line : Nat) : State :=
  (((s.wr pgBallast BANK_CAND.LINE line).wr pgBallast BANK_CAND.BANK bank).wr pgBallast BANK_CAND.VALID 1).raiseBank
    BANK_EVENT.CANDIDATE

/-- An error event of a line is recorded in the log of group `g` (R272). -/
def State.logBank (s : State) (g kind bank line : Nat) : State :=
  match s.findLog g bank line with
  | some e =>
    let old := s.logWord g e 0 / 2 ^ 26 % 4
    let n := if old < 3 then old + 1 else 3
    let s := (s.setLogWord g e 0 (bankLogWord kind n bank line)).setLogWord g e 1 s.stamp
    if (n = 3 ∧ old < 3) ∨ kind = logKindTest then s.candidate bank line else s
  | none =>
    let e := s.rd (pgBankLog g) BANK_LOG_HEAD.HEAD
    let s := (s.setLogWord g e 0 (bankLogWord kind 1 bank line)).setLogWord g e 1 s.stamp
    let s := s.wr (pgBankLog g) BANK_LOG_HEAD.HEAD ((e + 1) % 64)
    if kind = logKindTest then s.candidate bank line else s

/-- The event of a line of a bank, by its number 8,192 b + l. -/
def State.logLine (s : State) (kind n : Nat) : State := s.logBank (lineBank n / 16) kind (lineBank n) (n % 8192)

/-! ### Mirrors (R259, R269 to R271) -/

/-- The twin-port bank of a bank's group, and whether a bank is one (R253). -/
def twinOf (b : Nat) : Nat := 16 * (b / 16) + 1
def isTwin (b : Nat) : Bool := b % 16 == 1

/-- The twin of group `g` is in MIRROR mode. -/
def State.mirrorOn (s : State) (g : Nat) : Bool := s.on (pgMirror g) BANK_MIRROR_CTRL.ENABLE

/-- Bank `b` is the partner of its group's twin. -/
def State.isPartner (s : State) (b : Nat) : Bool :=
  s.mirrorOn (b / 16) && !isTwin b && s.rd (pgMirror (b / 16)) BANK_MIRROR_CTRL.PARTNER == b % 16

/-- Page `pg` of bank `b` is mirrored, and is synchronised. -/
def State.mirrored (s : State) (b pg : Nat) : Bool := s.isPartner b && bitOf (s.rd (pgMirror (b / 16)) BANK_MIRROR_CTRL.PAGES) pg
def State.synced (s : State) (b pg : Nat) : Bool :=
  s.mirrored b pg && bitOf (s.rd (pgMirror (b / 16)) BANK_MIRROR_CTRL.SYNCED) pg

/-- The twin's line beside line `n`. -/
def twinLine (n : Nat) : Nat := 8192 * twinOf (lineBank n) + n % 8192

/-- Pages leave the mirror of group `g`, whose partner or twin lost them (R271, R274). -/
def State.loseMirror (s : State) (g mask : Nat) : State :=
  let pages := s.rd (pgMirror g) BANK_MIRROR_CTRL.PAGES
  let synced := s.rd (pgMirror g) BANK_MIRROR_CTRL.SYNCED
  let drop (x : Nat) : Nat := x - Nat.land x mask
  if s.mirrorOn g && Nat.land pages mask != 0 then
    ((s.wr (pgMirror g) BANK_MIRROR_CTRL.PAGES (drop pages)).wr (pgMirror g) BANK_MIRROR_CTRL.SYNCED (drop synced)).raiseBank
      BANK_EVENT.MIRROR_LOST
  else s

/-- Pages of bank `b` are lost to its mirror: as the partner, whose twin becomes ORPHAN, or as the twin (R271). At the grounding of the
partner the mask holds the pages already SYNCED only (R277). -/
def State.loseMirrorOf (s : State) (b mask : Nat) : State :=
  let g := b / 16
  if s.isPartner b && Nat.land (s.rd (pgMirror g) BANK_MIRROR_CTRL.PAGES) mask != 0 then
    let t := twinOf b
    (s.setBank t { s.bank t with orphan := true }).loseMirror g mask
  else if isTwin b then s.loseMirror g mask
  else s

/-! ### Retirement (R273) -/

/-- The code that answers an access to bank `b`, pages `pg0` to `pg1`, before its owner is asked (R36, R273, R276). -/
def Bank.accessCode (x : Bank) (pg0 pg1 : Nat) : Nat :=
  if x.grounded ≠ 0 then 3
  else if x.whole ∨ bitOf x.retired pg0 = true ∨ bitOf x.retired pg1 = true then 4
  else if !x.ready then 6
  else 0

/-- The code that a bank port request meets at its bank (R258, R260, R273): one that the bank accepted before a retirement completes. -/
def Bank.portCode (x : Bank) (r : PortReq) : Nat :=
  if x.grounded ≠ 0 then 3
  else if r.kept then 0
  else
    let code := x.accessCode (r.addr / 0x10000) ((r.addr + (r.size - 1)) / 0x10000 % 8)
    if code ≠ 0 then code else if x.kind ≠ 1 then 2 else 0

/-- Requests that the bank port has accepted complete although a retirement follows (R273). -/
def Bank.keepPort (x : Bank) : Bank := { x with port := x.port.map (fun r => if x.portCode r = 0 then { r with kept := true } else r) }

/-- One page of a bank is retired; with every page retired the bank has no owner. -/
def State.retirePage (s : State) (b pg : Nat) : State :=
  let x := (s.bank b).keepPort
  let m := if bitOf x.retired pg then x.retired else x.retired + 2 ^ pg
  let s := s.setBank b { x with retired := m, kind := if m = 255 then 0 else x.kind }
  s.loseMirrorOf b (2 ^ pg)

/-- A bank is retired whole. -/
def State.retireWhole (s : State) (b : Nat) : State :=
  (s.setBank b { (s.bank b).keepPort with whole := true, kind := 0 }).loseMirrorOf b 255

/-! ### Ownership (R260, R261) -/

/-- The partition that a sender of rigging or host accesses belongs to (R59, R260). -/
def State.senderPart (s : State) : Who → Nat
  | .pf n => n
  | .spool ch => s.rd (pgChannel ch) CH_PART.PART
  | .fabric i => match (mget (fun _ => ({} : FabPort)) s.fabPorts i).panel with | some p => s.panelPart p | none => 0
  | _ => 0

/-- An owner (kind, partition, engine) admits a rigging or host access (R260). The supervisor is not subject to ownership. -/
def State.ownerAdmits (s : State) (kind part engine : Nat) (w : Who) : Bool :=
  match w with
  | .supervisor => true
  | .spool ch => (kind == 2 && part == s.senderPart w) || (kind == 3 && part == s.senderPart w && engine == ch / 16)
  | w => kind == 2 && part == s.senderPart w

/-! ### Lines (R264 to R266) -/

/-- How a line was read. -/
inductive LineRead where
  | good (bs : List Byte)
  | poison
  deriving DecidableEq, Repr

/-- An armed BANK_ERR_INJECT of the tile names this line in mode `mode` (R282). -/
def State.injectHits (s : State) (n mode : Nat) : Bool :=
  let pg := pgTile (lineBank n / 2)
  s.on pg BANK_ERR_INJECT.ARM && s.rd pg BANK_ERR_INJECT.MODE == mode && s.rd pg BANK_ERR_INJECT.BANK == lineBank n % 2 &&
  s.rd pg BANK_ERR_INJECT.LINE == n % 8192

def State.disarmInject (s : State) (n : Nat) : State := s.wr (pgTile (lineBank n / 2)) BANK_ERR_INJECT.ARM 0

/-- The repair write of line `n` that waits (R266): the line takes the twin's copy. -/
def State.repairLine (s : State) (n : Nat) : State :=
  if s.repairs.contains (lineBank n, n % 8192) then
    (({ s with repairs := s.repairs.filter (· != (lineBank n, n % 8192)) } : State).setMemBytes (lineAddr n)
      (s.memBytes (lineAddr (twinLine n)) 64)).setLineDiff n (s.lineDiff (twinLine n))
  else s

/-- The codeword bit that an armed BANK_ERR_INJECT inverts (R282). -/
def State.injectMask (s : State) (n : Nat) : BitVec 528 := BitVec.ofNat 528 (2 ^ s.rd (pgTile (lineBank n / 2)) BANK_ERR_INJECT.BIT)

/-- One read of line `n` from its bank: whether the codeword delivered is valid, and its bytes. It may fail on the path; an armed injection in
mode PATH inverts one bit of what is delivered (R282). -/
def State.readOnce (s : State) (n : Nat) (fails : Bool) : Bool × List Byte × State :=
  let hit := s.injectHits n 1
  let t := if hit then s.flipLine n (s.injectMask n) else s
  (!fails && t.lineDiff n = 0, t.memBytes (lineAddr n) 64, if hit then s.disarmInject n else s)

/-- Read line `n` with the sequence of R266; `path` reads in a row fail on the path. For the read of a read-modify-write
(`rmw`) a line without a good copy is recorded as WRITE_REFUSED instead (R265), and a repair write that waits goes first (R277). -/
def State.readLine (s : State) (n path : Nat) (rmw : Bool) : LineRead × State :=
  let s := if rmw then s.repairLine n else s
  let b := lineBank n
  let once := s.readOnce n (0 < path)
  if once.1 then (.good once.2.1, once.2.2)
  else
    let twice := once.2.2.readOnce n (1 < path)
    if twice.1 then (.good twice.2.1, (twice.2.2.countBank b BANK_CNT_TRANSIENT.COUNT).logLine logKindTransient n)
    else
      let twin := if s.synced b (linePage n) then twice.2.2.readOnce (twinLine n) false else (false, [], twice.2.2)
      let s := twin.2.2
      if twin.1 then
        let s := (s.countBank b BANK_CNT_REPAIRED.COUNT).logLine logKindRepaired n
        (.good twin.2.1, { s with repairs := s.repairs ++ [(b, n % 8192)] })
      else if rmw then (.poison, s.logLine logKindRefused n)
      else (.poison, ((s.countBank b BANK_CNT_POISON.COUNT).logLine logKindPoison n).raiseBank BANK_EVENT.POISON)

/-- A full line has been written to line `n`: an armed injection in mode STORED has inverted a bit of it (R282). -/
def State.injectStored (s : State) (n : Nat) : State :=
  if s.injectHits n 0 then (s.disarmInject n).flipLine n (s.injectMask n) else s

/-- Store a whole line with a fresh CRC; a mirrored page takes it in both copies (R265, R269), and a repair that waits for
the line is dropped (R266). `full` for a write that came as a full line, which an armed injection inverts a bit of (R282). -/
def State.storeLine (s : State) (n : Nat) (bs : List Byte) (full : Bool) : State :=
  let s := { s with repairs := s.repairs.filter (· != (lineBank n, n % 8192)) }
  let s := (s.setMemBytes (lineAddr n) bs).setLineDiff n 0
  let twin := s.mirrored (lineBank n) (linePage n)
  let s := if twin then (s.setMemBytes (lineAddr (twinLine n)) bs).setLineDiff (twinLine n) 0 else s
  if full then (if twin then (s.injectStored n).injectStored (twinLine n) else s.injectStored n) else s

/-- The number of reads of line `n` that fail on the path. -/
def pathOf (fs : List LineFault) (n : Nat) : Nat := match fs.find? (fun f => f.line == n) with | some f => f.path | none => 0

/-- The cells that have inverted take their new values. -/
def State.applyFaults (s : State) (fs : List LineFault) : State := fs.foldl (fun s f => s.flipLine f.line f.flips) s

/-- The lines that an access of `size` bytes at address `a` touches, in ascending order. -/
def linesOf (a size : Nat) : List Nat := (List.range ((a + size + 63) / 64 - a / 64)).map (fun i => a / 64 + i)

/-- Read `size` bytes at address `a`, line by line (R264, R266): code 0 or 1 (R267), and the bytes. The bytes of a poisoned
line are open (log entry 12). -/
def State.readBytes (s : State) (a size : Nat) (fs : List LineFault) : Nat × List Byte × State :=
  (linesOf a size).foldl (fun (acc : Nat × List Byte × State) n =>
    let (code, out, s) := acc
    let lo := max a (64 * n) - 64 * n
    let hi := min (a + size) (64 * n + 64) - 64 * n
    match s.readLine n (pathOf fs n) false with
    | (.good bs, s) => (code, out ++ (bs.drop lo).take (hi - lo), s)
    | (.poison, s) =>
      let (v, s) := s.free (8 * (hi - lo))
      (1, out ++ bytesLE (hi - lo) v, s)) (0, [], s)

/-- Write bytes at address `a`, line by line (R264, R265): code 0, or 7 where a narrow write is refused. -/
def State.writeBytes (s : State) (a : Nat) (bs : List Byte) (fs : List LineFault) : Nat × State :=
  (linesOf a bs.length).foldl (fun (acc : Nat × State) n =>
    let (code, s) := acc
    let lo := max a (64 * n) - 64 * n
    let hi := min (a + bs.length) (64 * n + 64) - 64 * n
    let part := (bs.drop (64 * n + lo - a)).take (hi - lo)
    if hi - lo = 64 then (code, s.storeLine n part true)
    else
      match s.readLine n (pathOf fs n) true with
      | (.good old, s) => (code, s.storeLine n (old.take lo ++ part ++ old.drop hi) false)
      | (.poison, s) => (7, s)) (0, s)

/-! ### One access (R258, R260, R267) -/

/-- The access itself, once admitted: code and bytes. -/
def State.bankDo (s : State) (write : Bool) (a size : Nat) (data : List Byte) (fs : List LineFault) : Nat × List Byte × State :=
  if write then
    let (c, s) := s.writeBytes a data fs
    (c, [], s)
  else s.readBytes a size fs

/-- An access that the bank refuses with `code`; OWNER counts (R260). -/
def State.bankRefuse (s : State) (b code : Nat) : State := if code = 2 then s.countBank b BANK_CNT_OWNER.COUNT else s

/-- The completion that a sender sees for a code of R293 (R42, R267): PCI Express reads receive UR for DECODE, a mark for POISON
and CA for every other code but OK. -/
def bankStatus (w : Who) (code : Nat) : BusStatus :=
  if code = 0 then .ok
  else if code = 9 then .ca
  else match w with
    | .pf _ => if code = 1 then .code 1 else if code = 8 then .ur else .ca
    | _ => .code code

/-- The world of a bank (R51). -/
def State.bankSecure (s : State) (b : Nat) : Bool := bitOf (s.rd pgWorld (WORLD_BANK.SECURE.at (b / 32))) (b % 32)

/-- The world of page `pg` of bank `b`: the mirror copy of a page follows the world of the page's partner (R51, R269). -/
def State.bankPageSecure (s : State) (b pg : Nat) : Bool :=
  let g := b / 16
  if isTwin b && s.mirrorOn g && bitOf (s.rd (pgMirror g) BANK_MIRROR_CTRL.PAGES) pg then
    s.bankSecure (16 * g + s.rd (pgMirror g) BANK_MIRROR_CTRL.PARTNER)
  else s.bankSecure b

/-- The page of a BAR2 address. -/
def pageAt (a : Nat) : Nat := a % 0x80000 / 0x10000

/-- The check of a rigging or host access within one bank (R39, R42, R51, R260, R267): 0, or the code by R293 that refuses it. One that
has passed the checks of R42 keeps that outcome (R54), and one that the bank has accepted completes, unless the bank is grounded (R261,
R273). -/
def State.bankCheck (s : State) (w : Who) (a size : Nat) (pass : BankPass) : Nat :=
  let b := a / 0x80000
  let x := s.bank b
  let passed := pass != .fresh
  match pass with
  | .ended c => c
  | .taken _ => if x.grounded ≠ 0 then 3 else 0
  | _ =>
  let hidden := match w with | .pf 0 => false | .pf n => s.bankPart b != n | _ => false
  if 576 ≤ b then 8
  else if hidden && !passed then 8
  else if (s.bankPageSecure b (pageAt a) || s.bankPageSecure b (pageAt (a + (size - 1)))) && !s.whoSecure w && !passed then 9
  else
    let code := x.accessCode (pageAt a) (pageAt (a + (size - 1)))
    if code ≠ 0 then code
    else
      let admitted := match s.handover.filter (fun h => h.bank == b && w != .supervisor) with
        | some h => s.ownerAdmits h.kind h.part h.engine w
        | none => s.ownerAdmits x.kind x.part x.engine w
      if admitted then 0 else 2

/-- A rigging or host access within one bank (R42, R55, R260, R267): its code by R293 and what it reads. An access of no bytes is
checked and moves nothing. -/
def State.bankServeOne (s : State) (w : Who) (write : Bool) (a size : Nat) (data : List Byte) (fs : List LineFault) (pass : BankPass) :
    Nat × List Byte × State :=
  let code := s.bankCheck w a size pass
  if code = 9 then (9, [], s.violateOther w write 1 a 0)
  else if code ≠ 0 then (code, [], s.bankRefuse (a / 0x80000) code)
  else if size = 0 then (0, [], s)
  else s.bankDo write a size data fs

/-- The access lies within one bank of the scratchpad. -/
def bankRange (a size : Nat) : Bool := 0 < size && a + size ≤ 576 * 0x80000 && a / 0x80000 == (a + size - 1) / 0x80000

/-- The parts of an access that lie in one bank each, with their addresses and lengths, in ascending order. -/
def bankPieces (a size : Nat) : List (Nat × Nat) :=
  if size = 0 ∨ bankRange a size = true then [(a, size)]
  else (List.range ((a + (size - 1)) / 0x80000 + 1 - a / 0x80000)).map (fun i =>
    let lo := max a (0x80000 * (a / 0x80000 + i))
    (lo, min (a + size) (0x80000 * (a / 0x80000 + i + 1)) - lo))

/-- A rigging or host access that reaches the scratchpad (R39, R43): each bank serves its part, and the first code other than OK
answers. -/
def State.bankServe (s : State) (w : Who) (write : Bool) (a size : Nat) (data : List Byte) (fs : List LineFault) (pass : BankPass) :
    Nat × List Byte × State :=
  (bankPieces a size).foldl (fun (acc : Nat × List Byte × State) p =>
    let (code, out, s) := acc
    let (c, bs, s) := s.bankServeOne w write p.1 p.2 ((data.drop (p.1 - a)).take p.2) fs pass
    (if code = 0 then c else code, out ++ bs, s)) (0, [], s)

/-- A block of bank `b` under background test holds part of the access; a write of a mirrored page waits for the twin's block too
(R275). -/
def State.testHolds (s : State) (write : Bool) (a size : Nat) : Bool :=
  let b := a / 0x80000
  let hits (x : Bank) : Bool := match x.testing with
    | some k => a % 0x80000 / 4096 ≤ k && k ≤ (a % 0x80000 + (size - 1)) / 4096
    | none => false
  hits (s.bank b) || (write && (s.mirrored b (pageAt a) || s.mirrored b (pageAt (a + (size - 1)))) && hits (s.bank (twinOf b)))

/-- A handover of the bank keeps the sender's accesses waiting (R261). -/
def State.underHandover (s : State) (b : Nat) (w : Who) : Bool := s.handover.any (fun h => h.bank == b && w != .supervisor)

/-- An access that waits at a bank comes before one that has got as far as `pass` (R255). -/
def BankPass.isBefore (e pass : BankPass) : Bool :=
  match e, pass with
  | .taken n, .taken k => n < k
  | .taken _, _ => true
  | _, _ => false

/-- An access of the same owner that reached bank `b` earlier waits there (R255); the supervisor is no owner (R260). -/
def State.waitsBehind (s : State) (b : Nat) (w : Who) (pass : BankPass) : Bool :=
  let same (v : Who) : Bool := (v == .supervisor) == (w == .supervisor)
  (s.bank b).held.any (fun e => same e.who && e.pass.isBefore pass) ||
  s.rig.packets.any (fun p => p.addr / 0x80000 == b && same p.who && p.pass.isBefore pass)

/-- The access is held: a handover to its sender is in progress (R261), a block that it touches is under test (R275), or an earlier access
of its owner is held (R255). -/
def State.bankHolds (s : State) (w : Who) (write : Bool) (a size : Nat) (pass : BankPass) : Bool :=
  (bankPieces a size).any (fun p =>
    let b := p.1 / 0x80000
    s.bankCheck w p.1 p.2 pass == 0 &&
    ((s.underHandover b w && !(match pass with | .taken _ => true | _ => false)) || s.testHolds write p.1 p.2 || s.waitsBehind b w pass))

/-- How far an access that is held has got: accepted where the bank would serve it now but for a test. -/
def State.passHeld (s : State) (w : Who) (write : Bool) (a size : Nat) (pass : BankPass) : BankPass :=
  match pass with
  | .taken n => .taken n
  | .ended c => .ended c
  | _ =>
    if (bankPieces a size).all (fun p => s.bankCheck w p.1 p.2 pass == 0 && !s.underHandover (p.1 / 0x80000) w) &&
        s.bankHolds w write a size pass then .taken s.heldCtr
    else .passed

/-- An access that waits joins the handover of its bank, or the accesses that wait at the bank. -/
def State.holdAccess (s : State) (q : HeldAccess) : State :=
  let q' := { q with pass := s.passHeld q.who q.write q.addr q.size q.pass }
  let s := { s with heldCtr := s.heldCtr + 1 }
  match q'.pass, s.handover.filter (fun h => h.bank == q.addr / 0x80000 && q.who != .supervisor) with
  | .passed, some h => { s with handover := some { h with held := h.held ++ [q'] } }
  | _, _ =>
    let b := q.addr / 0x80000
    s.setBank b { s.bank b with held := (s.bank b).held ++ [q'] }

/-- An access past any wait: served and answered. -/
def State.bankAnswer (s : State) (q : HeldAccess) (fs : List LineFault) : State :=
  let (c, bs, s) := s.bankServe q.who q.write q.addr q.size q.data fs q.pass
  s.respond (bankStatus q.who c) (natLE bs)

/-- An access to the scratchpad: it is held, or served and answered. -/
def State.bankAccess (s : State) (w : Who) (write : Bool) (a size : Nat) (data : List Byte) (fs : List LineFault) : State :=
  let q : HeldAccess := ⟨w, write, a, size, data, .fresh⟩
  if s.bankHolds w write a size .fresh then s.holdAccess q else s.bankAnswer q fs

/-- Accesses that waited are served in the order of arrival, as far as nothing else holds them (R54, R261, R275). -/
def State.serveHeld (s : State) (qs : List HeldAccess) : State :=
  qs.foldl (fun s q => if s.bankHolds q.who q.write q.addr q.size q.pass then s.holdAccess q else s.bankAnswer q []) s

/-- Accesses that waited at bank `b` are served. -/
def State.serveTested (s : State) (b : Nat) : State :=
  (s.setBank b { s.bank b with held := [] }).serveHeld (s.bank b).held

/-- The oldest request of a bank port that has not been answered, served (R256, R258). It waits while a handover to the port is in
progress (R261) or its block is under test (R275). -/
def State.portServe (s : State) (p : Nat) (write : Bool) (fs : List LineFault) : State :=
  let b := if p < 288 then 2 * p else 2 * (p - 288) + 1
  let x := s.bank b
  match x.port.find? (fun r => r.done.isNone) with
  | none => s
  | some r =>
    if r.we != write then s
    else
      let a := 0x80000 * b + r.addr
      let inBank := r.addr + r.size ≤ 0x80000
      let code := x.portCode r
      let waits := s.handover.any (fun h => h.bank == b && h.kind == 1) || (code == 0 && s.testHolds write a r.size)
      let answer (s : State) (c : Nat) (bs : List Byte) : State :=
        let y := s.bank b
        let upd (q : PortReq) : PortReq := if q = r then { q with done := some (c, bs) } else q
        -- only the oldest unanswered request is answered
        let i := y.port.findIdx (fun q => q.done.isNone)
        s.setBank b { y with port := y.port.zipIdx.map (fun q => if q.2 = i then upd q.1 else q.1) }
      if waits then s
      else if code ≠ 0 then answer (s.bankRefuse b code) code []
      else if !inBank then answer s 7 []
      else
        let (c, bs, s) := s.bankDo write a r.size r.wdata fs
        answer s c bs

end Sys2Proof.Machine
end

