-- ==== Sys2Proof/Machine/Banks.lean ====
section
/-! DEFINITION. Meanings of chapter 10's commands: bank ports, reads and writes, handovers, retirement, mirrors, background
test and initialisation. -/

namespace Sys2Proof.Machine

open Sys2Proof

/-- The bank that the port of panel `p` reaches (R256). -/
def portBank (p : Nat) : Nat := if p < 288 then 2 * p else 2 * (p - 288) + 1

/-- A handover of the bank is in progress. -/
def State.handingOver (s : State) (b : Nat) : Bool := match s.handover with | some h => h.bank == b | none => false

/-- READY of a bank port (R256, R261). -/
def State.portReady (s : State) (p : Nat) : Bool := (s.bank (portBank p)).port.length < 16 && !s.handingOver (portBank p)

/-- BANK_PORT_REQ (R256): sampled while the panel receives its clock (R535) and READY is 1. -/
def execBankPortReq (p : Nat) (we : Bool) (addr size tag : Nat) (wdata : List Byte) (s : State) :
    Host.Outcome State Fault Refusal :=
  let b := portBank p
  let x := s.bank b
  let r : PortReq := { we := we, addr := addr, size := size, tag := tag, wdata := (wdata ++ List.replicate 64 0).take size }
  let r := if size = 0 ∨ size > 64 then { r with done := some (7, []) } else r
  guardUnit (p < 576 && addr < 0x80000 && size < 128 && tag < 64)
    (if s.clkRun p && s.portReady p then s.setBank b { x with port := x.port ++ [r] } else s)

/-- BANK_PORT_RESPONSE (R256, R257): the oldest request, once answered, leaves. Its response is presented at an edge that the
panel receives, and discarded while the panel's region is under reconfiguration (R258). -/
def State.portPresent (s : State) (p : Nat) : State :=
  let b := portBank p
  let x := s.bank b
  match x.port with
  | [] => s
  | r :: rest =>
    match r.done with
    | none => s
    | some (c, bs) =>
      if r.dropped then s.setBank b { x with port := rest }
      else if s.clkRun p then s.setBank b { x with port := rest, resp := some ⟨r.we, r.tag, c, bs⟩ }
      else if !s.committed p then s.setBank b { x with port := rest }
      else s

def execBankPortResponse (p : Nat) (s : State) : Host.Outcome State Fault Refusal := guardUnit (p < 576) (s.portPresent p)

/-- The unit that a bank request names exists; an address beyond the banks is unassigned (R39). -/
def bankReqOk : BankReq → Bool
  | .port p => p < 576
  | .rig _ _ _ => true

/-- BANK_READ (R266): `fs` says what is wrong with the lines read. -/
def execBankRead (q : BankReq) (fs : List LineFault) (s : State) : Host.Outcome State Fault Refusal :=
  let s := s.applyFaults fs
  guardUnit (bankReqOk q && fs.all (fun f => f.line < 576 * 8192))
    (match q with
     | .port p => s.portServe p false fs
     | .rig w a size => s.bankAccess w false a size [] fs)

/-- BANK_WRITE (R265). -/
def execBankWrite (q : BankReq) (data : List Byte) (fs : List LineFault) (s : State) : Host.Outcome State Fault Refusal :=
  let s := s.applyFaults fs
  guardUnit (bankReqOk q && fs.all (fun f => f.line < 576 * 8192))
    (match q with
     | .port p => s.portServe p true fs
     | .rig w a size => s.bankAccess w true a size ((data ++ List.replicate size 0).take size) fs)

/-- MIRROR_REPAIR_WRITE (R266): a repair that waits is done from the twin's copy. -/
def execMirrorRepairWrite (b line : Nat) (s : State) : Host.Outcome State Fault Refusal :=
  let n := 8192 * b + line
  guardUnit (b < 576 && line < 8192)
    (s.repairLine n)

/-! ### Handover (R261, R262) -/

/-- A BANK_HANDOVER write past the access checks (R262). -/
def State.handoverBody (s : State) (v : Word) : Option State :=
  let f (x : Fld) : Nat := getF v x.lo x.len
  let b := f BANK_HANDOVER.BANK
  let k := f BANK_HANDOVER.KIND
  let pt := f BANK_HANDOVER.PART
  let en := f BANK_HANDOVER.ENGINE
  let x := s.bank b
  if s.on pgBallast BANK_HANDOVER_STATUS.BUSY ∨ b > 575 ∨
     (k ≠ 0 ∧ (x.failed = true ∨ (isTwin b = true ∧ s.mirrorOn (b / 16) = true))) ∨
     (k = 1 ∧ (s.panel (bankPanel b)).grounded ≠ 0) ∨
     (k ≤ 1 ∧ pt ≠ 0) ∨ (k ≠ 3 ∧ en ≠ 0) then none
  else
    let s := (s.wr pgBallast BANK_HANDOVER_STATUS.BANK b).wr pgBallast BANK_HANDOVER_STATUS.ABORTED 0
    if x.kind = k ∧ (k ≤ 1 ∨ x.part = pt) ∧ (k ≠ 3 ∨ x.engine = en) then some s
    else some { s.wr pgBallast BANK_HANDOVER_STATUS.BUSY 1 with handover := some { bank := b, kind := k, part := pt, engine := en, at_ := s.ns } }

/-- BANK_HANDOVER (R261, R262). -/
def execBankHandover (a : Access) (v : Word) (s : State) : Host.Outcome State Fault Refusal :=
  .next (s.gatedWrite a pgBallast BANK_HANDOVER.BANK.off v (fun s => s.handoverBody v))

/-- An accepted access of bank `b`'s owner that waits there: one in the bank's list, or a packet at its node. -/
def HeldAccess.old (q : HeldAccess) : Bool := q.who != .supervisor
def Packet.oldAt (b : Nat) (p : Packet) : Bool :=
  (match p.pass with | .taken _ => true | _ => false) && p.addr / 0x80000 == b && p.who != .supervisor

/-- HANDOVER_TIMEOUT (R261, R277): accesses of the old owner that are not complete 1 µs after the write end with ABORT: those of its port,
and those that wait for a block under test. A port that is not the old owner keeps its requests. -/
def execHandoverTimeout (s : State) : Host.Outcome State Fault Refusal :=
  match s.handover with
  | none => .next s
  | some h =>
    if s.ns - h.at_ < 1000 then .next s
    else
      let x := s.bank h.bank
      let late (r : PortReq) : Bool := x.kind == 1 && r.done.isNone
      let waits := x.held.filter HeldAccess.old
      let n := (x.port.filter late).length + waits.length + (s.rig.packets.filter (Packet.oldAt h.bank)).length
      let s := s.setBank h.bank
        { x with held := x.held.filter (fun q => !q.old)
                 port := x.port.map (fun r => if late r then { r with done := some (5, []) } else r) }
      let s := waits.foldl (fun s q => s.respond (bankStatus q.who 5) 0) s
      let s := s.setPackets (s.rig.packets.map (fun p => if p.oldAt h.bank then { p with pass := .ended 5 } else p))
      .next (s.add pgBallast BANK_HANDOVER_STATUS.ABORTED n)

/-- The handover ends (R261, R277): the owner changes, the accesses held are served in order, and retirements that waited
take effect. -/
def State.finishHandover (s : State) (h : Handover) : State :=
  let s := { s with handover := none }
  let s := (s.setBank h.bank { s.bank h.bank with kind := h.kind, part := h.part, engine := h.engine }).wr pgBallast
    BANK_HANDOVER_STATUS.BUSY 0
  let s := if s.rd pgBallast BANK_HANDOVER_STATUS.ABORTED ≠ 0 then s.raiseBank BANK_EVENT.HANDOVER_ABORT else s
  let s := h.retire.foldl (fun s r => if r < 8 then s.retirePage h.bank r else s.retireWhole h.bank) s
  s.serveHeld h.held

/-- BANK_HANDOVER_DONE (R261): the old owner's accesses have all been answered. -/
def execBankHandoverDone (s : State) : Host.Outcome State Fault Refusal :=
  match s.handover with
  | none => .next s
  | some h =>
    let x := s.bank h.bank
    .next (if (x.kind ≠ 1 || x.port.all (fun r => r.done.isSome)) && !x.held.any HeldAccess.old && !s.rig.packets.any (Packet.oldAt h.bank) then s.finishHandover h else s)

/-! ### Retirement (R273) -/

/-- A BANK_RETIRE write past the access checks: `page` 0 to 7, or 8 for the whole bank. -/
def State.retireBody (s : State) (b page : Nat) : Option State :=
  let x := s.bank b
  if b > 575 ∨ x.failed = true ∨ (page < 8 ∧ bitOf x.retired page = true) then none
  else
    match s.handover with
    | some h =>
      if h.bank = b then
        (if h.retire.contains page then none else some { s with handover := some { h with retire := h.retire ++ [page] } })
      else some (if page < 8 then s.retirePage b page else s.retireWhole b)
    | none => some (if page < 8 then s.retirePage b page else s.retireWhole b)

/-- RETIRE_PAGE (R273): a BANK_RETIRE write with WHOLE = 0. -/
def execRetirePage (a : Access) (b page : Nat) (s : State) : Host.Outcome State Fault Refusal :=
  let v := BitVec.ofNat 32 (b % 1024 + page % 8 * 2 ^ 16)
  .next (s.gatedWrite a pgBallast BANK_RETIRE.BANK.off v (fun s => s.retireBody (b % 1024) (page % 8)))

/-- RETIRE_BANK (R273): a BANK_RETIRE write with WHOLE = 1. -/
def execRetireBank (a : Access) (b : Nat) (s : State) : Host.Outcome State Fault Refusal :=
  let v := BitVec.ofNat 32 (b % 1024 + 2 ^ 12)
  .next (s.gatedWrite a pgBallast BANK_RETIRE.BANK.off v (fun s => s.retireBody (b % 1024) 8))

/-! ### Mirrors (R270, R271) -/

/-- A BANK_MIRROR_CTRL write past the access checks, for the group of BANK_MIRROR_SEL (R271). -/
def State.mirrorBody (s : State) (v : Word) : Option State :=
  let g := s.rd pgBallast BANK_MIRROR_SEL.GROUP
  let f (x : Fld) : Nat := getF v x.lo x.len
  let partner := f BANK_MIRROR_CTRL.PARTNER
  let pages := f BANK_MIRROR_CTRL.PAGES
  let en := f BANK_MIRROR_CTRL.ENABLE
  let old := s.rd (pgMirror g) BANK_MIRROR_CTRL.PARTNER
  let t := 16 * g + 1
  if partner = 1 ∨ (en = 1 ∧ (s.bank t).kind ≠ 0) ∨ (s.bank (16 * g + partner)).failed = true ∨
     (partner ≠ old ∧ s.mirrorOn g = true ∧ s.rd (pgMirror g) BANK_MIRROR_CTRL.PAGES ≠ 0) then none
  else
    let keep := if en = 1 ∧ partner = old then Nat.land (s.rd (pgMirror g) BANK_MIRROR_CTRL.SYNCED) pages else 0
    let s := ((s.wr (pgMirror g) BANK_MIRROR_CTRL.PARTNER partner).wr (pgMirror g) BANK_MIRROR_CTRL.PAGES pages).wr (pgMirror g)
      BANK_MIRROR_CTRL.ENABLE en
    let s := s.wr (pgMirror g) BANK_MIRROR_CTRL.SYNCED keep
    some (if en = 1 then s else s.setBank t { s.bank t with orphan := false })

/-- MIRROR_CTRL_WRITE (R271). -/
def execMirrorCtrlWrite (a : Access) (v : Word) (s : State) : Host.Outcome State Fault Refusal :=
  .next (s.gatedWrite a pgBallast BANK_MIRROR_CTRL.PARTNER.off v (fun s => s.mirrorBody v))

/-- Copy lines from `src` to `dst`, data and CRC alike. -/
def State.copyLines (s : State) (src dst n : Nat) : State :=
  (List.range n).foldl (fun s i =>
    (s.setMemBytes (lineAddr (dst + i)) (s.memBytes (lineAddr (src + i)) 64)).setLineDiff (dst + i) (s.lineDiff (src + i))) s

/-- MIRROR_SYNC_DONE (R270): the copy of page `page` of the partner of group `g` into the twin completes. -/
def execMirrorSyncDone (g page : Nat) (s : State) : Host.Outcome State Fault Refusal :=
  let b := 16 * g + s.rd (pgMirror g) BANK_MIRROR_CTRL.PARTNER
  guardUnit (g < 36 && page < 8)
    (if s.mirrored b page && !s.synced b page && !(s.bank b).failed then
       let s := s.copyLines (8192 * b + 1024 * page) (8192 * (16 * g + 1) + 1024 * page) 1024
       s.wr (pgMirror g) BANK_MIRROR_CTRL.SYNCED (s.rd (pgMirror g) BANK_MIRROR_CTRL.SYNCED + 2 ^ page)
     else s)

/-! ### Background test and initialisation (R275, R276) -/

/-- The bank takes part in the background test. -/
def State.testable (s : State) (b : Nat) : Bool :=
  !bitOf (s.rd pgBallast (BANK_TEST_EXCL.EXCL.at (b / 32))) (b % 32) && !(s.bank b).failed && (s.bank b).ready

/-- The first block at or after `nextBlock`, in ascending order and around, whose page is not retired. -/
def Bank.pickBlock (x : Bank) : Option Nat :=
  ((List.range 128).map (fun i => (x.nextBlock + i) % 128)).find? (fun k => !bitOf x.retired (k / 16))

/-- An interval of `ms` milliseconds has passed since the instant, if there is one. -/
def State.elapsed (s : State) (since : Option Nat) (ms : Nat) : Bool := since.all (fun t => t + 1000000 * ms ≤ s.ns)

/-- BANK_BLOCK_TEST (R275): the test of the next block begins, BANK_TEST_PERIOD after the last one. Its lines are saved and restored
unchanged, and an access to the block waits; so the block's contents stay as they are (log entry 14). -/
def execBankBlockTest (b : Nat) (s : State) : Host.Outcome State Fault Refusal :=
  let x := s.bank b
  guardUnit (b < 576)
    (if s.testable b && x.testing.isNone && s.elapsed x.testAt (s.rd pgBallast BANK_TEST_PERIOD.MS) then
       match x.pickBlock with
       | some k => s.setBank b { x with testing := some k, nextBlock := (k + 1) % 128, testAt := some s.ns }
       | none => s
     else s)

/-- BANK_TEST_DONE (R275): the block's test ends; `fail` is its first failing line, 0 to 63. The accesses that waited are served, those of
a twin's partner among them. -/
def execBankTestDone (b : Nat) (fail : Option Nat) (s : State) : Host.Outcome State Fault Refusal :=
  let x := s.bank b
  guardUnit (b < 576)
    (match x.testing with
     | none => s
     | some k =>
       let s := s.setBank b { x with testing := none }
       let s := match fail with
         | some l => s.logLine logKindTest (8192 * b + 64 * k + l % 64)
         | none => s
       let s := if x.held.isEmpty then s else s.serveTested b
       let pb := 16 * (b / 16) + s.rd (pgMirror (b / 16)) BANK_MIRROR_CTRL.PARTNER
       if isTwin b && !(s.bank pb).held.isEmpty then s.serveTested pb else s)

/-- CTX_STORE_TEST (R275): the next row of the context store of column `c` is tested, BANK_CTX_TEST_PERIOD after the last one; a failure is
logged under 576 + c; a slice that is turned off is not tested (R34). A save to the row ends its test without a result, and the next turn tries the row again (log entry 42). -/
def execCtxStoreTest (c : Nat) (res : RowTest) (s : State) : Host.Outcome State Fault Refusal :=
  let n := nget s.ctxTestNext c
  guardUnit (c < 288)
    (if (s.column c).off || !s.elapsed (s.column c).ctxTestAt (s.rd pgBallast BANK_CTX_TEST_PERIOD.MS) then s
     else
       let s := s.setColumn c { s.column c with ctxTestAt := some s.ns }
       if res = .saved then s
       else
         let s := { s with ctxTestNext := nset s.ctxTestNext c ((n + 1) % 2048) }
         if res = .failed then s.logBank (c / 8) logKindTest (576 + c) n else s)

/-- BACKGROUND_INIT (R276): once the census has completed, initialisation starts. -/
def execBackgroundInit (s : State) : Host.Outcome State Fault Refusal :=
  .next (if s.rd pgSpar STACK_CENSUS.STATE ≥ 2 then { s with initRunning := true } else s)

/-- Every bank is initialised, or FAILED. -/
def State.allBanksReady (s : State) : Bool := (List.range 576).all (fun b => (s.bank b).ready || (s.bank b).failed)

/-- BANK_INIT_DONE (R276): the bank's lines are zero with valid CRCs, and it is READY. Banks and pages recorded as exhausted, which the
census grounds or retires (R34), are not initialised. The last bank sets READY_SUM.BANKS (R464). -/
def execBankInitDone (b : Nat) (s : State) : Host.Outcome State Fault Refusal :=
  guardUnit (b < 576)
    (if s.initRunning && !(s.bank b).ready && !(s.bank b).failed then
       let kept (pg : Nat) : Bool := bitOf (s.bank b).retired pg
       let s := { s with mem := mkeep (fun a => a / 0x80000 != b || kept (pageAt a)) s.mem
                         crcDiff := mkeep (fun n => n / 8192 != b || kept (linePage n)) s.crcDiff }
       let s := s.setBank b { s.bank b with ready := true }
       if s.allBanksReady then s.reachStage READY_SUM.BANKS else s
     else s)

end Sys2Proof.Machine
end

