-- ==== Sys2Proof/Machine/Regulators.lean ====
section
/-! DEFINITION. The upper-die regulator groups: set points, ramps and states (R20, R420). -/

namespace Sys2Proof.Machine

open Sys2Proof

/-- Quadrant of column `c` (R20). -/
def colQuad (c : Nat) : Nat := 2 * bnat (9 ≤ c / 16) + bnat (8 ≤ c % 16)

/-- The regulator group of panel `p` (R20). -/
def panelReg (p : Nat) : Nat := (if p < 288 then 4 else 12) + colQuad (colOf p)

/-- Group `g` supplies a Sail. -/
def isSailReg (g : Nat) : Bool := (4 ≤ g && g < 8) || (12 ≤ g && g < 16)

def sailRegs : List Nat := [4, 5, 6, 7, 12, 13, 14, 15]

/-- PWR_REG.STATE codes (R432). -/
def rgOff : Nat := 0
def rgRamping : Nat := 1
def rgOn : Nat := 2
def rgFault : Nat := 3

def State.regState (s : State) (g : Nat) : Nat := s.rd pgPwr (PWR_REG.STATE.at g)
def State.setRegState (s : State) (g v : Nat) : State := s.wr pgPwr (PWR_REG.STATE.at g) v

/-- The set point of group `g` in mV. -/
def State.setPoint (s : State) (g : Nat) : Nat := 600 + 5 * s.rd pgPwr (PWR_REG.VSET.at g)

/-- `a` moved towards `b` by at most `n`. -/
def approach (a b n : Nat) : Nat := if a ≤ b then min b (a + n) else max b (a - n)

/-- The present ramp value of group `g` in mV (R420): 1 mV per µs towards the set point; 0 while it is off. -/
def State.rampNow (s : State) (g : Nat) : Nat :=
  let r := mget (fun _ => ({} : Ramp)) s.ramps g
  if s.regState g = rgRamping ∨ s.regState g = rgOn then approach r.mv (s.setPoint g) ((s.ns - r.at_) / 1000) else 0

/-- Group `g` moves from `mv` towards its set point. -/
def State.startRamp (s : State) (g mv : Nat) : State :=
  let s := { s with ramps := mset (fun _ => ({} : Ramp)) s.ramps g ⟨mv, s.ns⟩ }
  s.setRegState g (if mv = s.setPoint g then rgOn else rgRamping)

/-- The Sail groups turn off; a group that faulted shows FAULT. -/
def State.sailRegsOff (s : State) : State :=
  sailRegs.foldl (fun s g => if s.regState g = rgFault then s else s.setRegState g rgOff) s

/-- The groups that are off start to ramp up after P or C (R420). The spec gives the latest instant alone; DESIGN CHOICE (log entry 71): with
the system clocks. -/
def State.bootRamps (s : State) : State :=
  (List.range 16).foldl (fun s g => if s.regState g = rgOff then s.startRamp g 0 else s) s

/-- The output current limit of group `g`, in 0.1 A (R420): 16 A for a Sail group, 8 A for a Ballast group, 4 A for a Spar group. -/
def ampLimit (g : Nat) : Nat := if isSailReg g then 160 else if g < 4 then 80 else 40

end Sys2Proof.Machine
end

