-- ==== Sys2Proof/Machine/Clocks.lean ====
section
/-! DEFINITION. Meanings of chapter 16's commands: fabric and system PLLs, domain switches, gates, monitors and failover. -/

namespace Sys2Proof.Machine

open Sys2Proof

def pgClk1 : Nat := pgClk 1

def State.raiseClk (s : State) (bit : Fld) : State := s.raise pgClk0 bit CLK_EVENT_MASK.MASK CLK_EVENT_SRC.SOURCE

/-! ### Sources (R400 to R403)

Sources are numbered as the bits of CLK_LOST_MAP: 0 HFOSC, 1 LFOSC, 2 XA, 3 XB, 4 SYS A, 5 SYS B, 8 + p fabric PLL p. -/

/-- Source `i` is marked LOST. -/
def State.srcLost (s : State) (i : Nat) : Bool := (s.reg (pgClk0 * 4096 + CLK_LOST_MAP.SYS.off)).getLsbD i

def State.setSrcLost (s : State) (i : Nat) (b : Bool) : State :=
  let a := pgClk0 * 4096 + CLK_LOST_MAP.SYS.off
  s.setReg a (setF (s.reg a) i 1 (bnat b))

/-- The code's source is LOST (R405, R410). -/
def State.codeLost (s : State) (code : Nat) : Bool :=
  match codeSource code with
  | some i => s.srcLost i
  | none => false

/-- The code's source runs (R405): a PLL output has locked and is not turned off. -/
def State.codeRuns (s : State) (code : Nat) : Bool :=
  !s.codeLost code &&
  (match codeSource code with
   | some 4 => s.on pgClk0 CLK_STATUS.SYSA_LOCK
   | some 5 => s.on pgClk0 CLK_STATUS.SYSB_LOCK
   | some 0 | none => true
   | some _ =>
     let p := (code - 0x40) / 4
     s.rdPll p FPLL_STATUS.LOCKED == 1 && s.rdPll p (fpllDiv (code % 4)) != 0)

/-- The settings of fabric PLL `p` lie in the ranges of R403, and its reference is present. -/
def State.fpllInRange (s : State) (p : Nat) : Bool :=
  let r := s.rdPll p FPLL_CTRL.R
  let f := s.refHz (s.rdPll p FPLL_CTRL.REF)
  let v := s.vcoScaled p
  f != 0 && 10000000 * r ≤ f && f ≤ 100000000 * r && 3200000000 * (65536 * r) ≤ v && v ≤ 6400000000 * (65536 * r)

/-- A domain selects an output of fabric PLL `p` (R417). -/
def State.fpllSelected (s : State) (p : Nat) : Bool :=
  (List.range 144).any (fun i => codeSource (s.rdDom i CLK_DOM_SEL.SRC) == some (8 + p))

/-- An accepted write of FPLL_CTRL (R403, R417): a write while ENABLE = 1 and a domain selects an output is rejected, and so is
ENABLE with settings out of range. An accepted write restarts the search for lock. -/
def fpllCtrlBody (p : Nat) (v : Word) (s : State) : Option State :=
  if s.rdPll p FPLL_CTRL.ENABLE = 1 ∧ s.fpllSelected p = true then none
  else
    let t := s.storeReg (pgPll p) (FPLL_CTRL.ENABLE.at (p % 12)).off v
    if t.rdPll p FPLL_CTRL.ENABLE = 1 ∧ t.fpllInRange p = false then none
    else some (t.wrPll p FPLL_STATUS.LOCKED 0)

/-- FPLL_ENABLE (R403): a write of FPLL_CTRL of fabric PLL `p` with ENABLE = 1 and the other fields of `v`. -/
def execFpllEnable (a : Access) (p : Nat) (v : Word) (s : State) : Host.Outcome State Fault Refusal :=
  guardUnit (p < 24)
    (s.gatedWrite a (pgPll p) (FPLL_CTRL.ENABLE.at (p % 12)).off (v ||| 1) (fpllCtrlBody p (v ||| 1)))

/-- FPLL_LOCK (R403): an enabled fabric PLL locks and its outputs start. -/
def execFpllLock (p : Nat) (s : State) : Host.Outcome State Fault Refusal :=
  guardUnit (p < 24) (if s.rdPll p FPLL_CTRL.ENABLE = 1 then s.wrPll p FPLL_STATUS.LOCKED 1 else s)

/-! ### Domains (R404 to R407) -/

/-- Domain `i` is a system domain (R404). -/
def isSystemDomain (i : Nat) : Bool := (144 ≤ i && i < 198) || (262 ≤ i && i < 316)

/-- The panel clock maximum in MHz (R75). -/
def State.panelMaxMHz (s : State) : Nat := if s.fuses.grade = 3 then 900 else 750

/-- The output `code` of a fabric PLL is not above the panel clock maximum (R404). -/
def State.outputSlowEnough (s : State) (code : Nat) : Bool :=
  let p := (code - 0x40) / 4
  s.vcoScaled p ≤ s.panelMaxMHz * 1000000 * (65536 * s.rdPll p FPLL_CTRL.R * s.rdPll p (fpllDiv (code % 4)))

/-- Domain `i` accepts source `code` (R404, R405). -/
def State.domAccepts (s : State) (i code : Nat) : Bool :=
  (if i < 144 then code == 0 || code == 1 || (isFpllOutput code && s.outputSlowEnough code)
   else isSystemDomain i && (code == 1 || code == s.rdDom i CLK_DOM_SWITCH.DEFAULT_SRC)) && s.codeRuns code

/-- The source of domain `i` is lost (R411): a system domain goes over to HFOSC; the gate of a fabric domain's leaf closes, if it is open. -/
def State.failOver (s : State) (i : Nat) : State :=
  let s := s.leaveEdges i 0
  if isSystemDomain i then
    ((s.wrDom i CLK_DOM_SWITCH.DONE 0).wrDom i CLK_DOM_SWITCH.FAILOVER 1 |>.inc pgClk0 CLK_FAILOVER_CNT.COUNT).raiseClk
      CLK_EVENT.FAILOVER
  else
    let s := if s.gateOn i then { s.setGate i false with lossGates := nset s.lossGates i 1 } else s
    (s.wrDom i CLK_DOM_SWITCH.STOPPED 1).raiseClk CLK_EVENT.FAB_STOP

/-- A gate that a lost source closed opens again, for the source that software has selected (R411). -/
def State.reopenLeaf (s : State) (i : Nat) : State :=
  if nget s.lossGates i = 0 then s else { s.setGate i true with lossGates := nset s.lossGates i 0 }

/-- SRC of domain `i` is live already: a change does nothing (R406). -/
def State.sameSource (s : State) (i : Nat) : Bool :=
  s.rdDom i CLK_DOM_SEL.SRC == s.rdDom i CLK_DOM_SWITCH.LIVE_SRC && s.rdDom i CLK_DOM_SWITCH.STOPPED == 0

/-- A switch of domain `i` to its SRC starts (R406): DONE clears, and a source that runs delivers two more edges. A new source that is lost
makes the switch complete to HFOSC or to OFF (R407). -/
def State.startSwitch (s : State) (i : Nat) : State :=
  if s.sameSource i then s
  else
    let s := if s.domRuns i && s.codeRuns (s.rdDom i CLK_DOM_SWITCH.LIVE_SRC) then s.leaveEdges i 2 else s
    let s := ((s.wrDom i CLK_DOM_SWITCH.DONE 0).wrDom i CLK_DOM_SWITCH.STOPPED 0).reopenLeaf i
    if s.codeLost (s.rdDom i CLK_DOM_SEL.SRC) then s.failOver i else s

/-- An accepted write of CLK_DOM_SEL (R405 to R407, R418). -/
def domSelBody (i : Nat) (v : Word) (s : State) : Option State :=
  if s.rdDom i CLK_DOM_SWITCH.DONE = 0 ∨ s.domAccepts i (getF v 0 8) = false then none
  else
    let s := (s.storeReg (pgDom i) (CLK_DOM_SEL.SRC.at (i % 80)).off v).wrDom i CLK_DOM_SWITCH.FAILOVER 0
    some (if getF v 8 1 = 1 then s else s.startSwitch i)

/-- DOMAIN_SWITCH (R406): a write of CLK_DOM_SEL of domain `d` with SRC `v` and ARM = 0. -/
def execDomainSwitch (a : Access) (d : Nat) (v : BitVec 8) (s : State) : Host.Outcome State Fault Refusal :=
  guardUnit (d < 320)
    (s.gatedWrite a (pgDom d) (CLK_DOM_SEL.SRC.at (d % 80)).off (v.setWidth 32) (domSelBody d (v.setWidth 32)))

/-- A write of CLK_SWITCH_GO (R406, R415). -/
def switchGoBody (v : Word) (s : State) : Option State :=
  let armed := (List.range 320).filter (fun i => s.rdDom i CLK_DOM_SEL.ARM == 1)
  if getF v 0 1 = 0 then some s
  else if armed.any (fun i => s.rdDom i CLK_DOM_SWITCH.DONE == 0) then none
  else
    let moved := armed.filter (fun i => !s.sameSource i)
    let key (i : Nat) : Nat × Nat := (s.rdDom i CLK_DOM_SWITCH.LIVE_SRC, s.rdDom i CLK_DOM_SEL.SRC)
    let sets := (moved.map key).eraseDups.map (fun k => moved.filter (fun i => key i == k))
    some (armed.foldl State.startSwitch { s with goSets := s.goSets ++ sets })

/-- CLK_SWITCH_GO (R406): a write of 1 to GO. -/
def execClkSwitchGo (a : Access) (s : State) : Host.Outcome State Fault Refusal :=
  .next (s.gatedWrite a pgClk0 CLK_SWITCH_GO.GO.off 1 (switchGoBody 1))

/-- The code that a switch of domain `d` ends on (R406, R407): HFOSC after a failover; OFF for a fabric domain whose new source was lost. -/
def State.nextCode (s : State) (d : Nat) : Nat :=
  if s.rdDom d CLK_DOM_SWITCH.FAILOVER = 1 then 1
  else if s.rdDom d CLK_DOM_SWITCH.STOPPED = 1 then 0 else s.rdDom d CLK_DOM_SEL.SRC

/-- The first new edge of domain `d` (R406). -/
def State.endSwitch (s : State) (d : Nat) : State :=
  ((s.wrDom d CLK_DOM_SWITCH.LIVE_SRC (s.nextCode d)).wrDom d CLK_DOM_SWITCH.DONE 1).leaveEdges d 0

/-- SWITCH_DONE (R406, R407, R411): a switch in progress delivers its first new edge, which the domains switched with it between the same two
codes share; a new source that does not run delivers none. Plane requests that waited are injected. -/
def execSwitchDone (d : Nat) (s : State) : Host.Outcome State Fault Refusal :=
  guardUnit (d < 320)
    (if s.rdDom d CLK_DOM_SWITCH.DONE = 1 ∨ s.codeRuns (s.nextCode d) = false then s
     else
       let together := (s.goSets.find? (·.contains d)).getD [d]
       let ends := together.filter (fun i => s.rdDom i CLK_DOM_SWITCH.DONE == 0 && s.nextCode i == s.nextCode d)
       (ends.foldl State.endSwitch { s with goSets := s.goSets.filter (!·.contains d) }).planeEdges)

/-! ### Monitoring and failover (R410, R411) -/

/-- The code on which domain `i` depends: the source it switches to while a switch is in progress, else its live source. -/
def State.domCode (s : State) (i : Nat) : Nat :=
  if s.rdDom i CLK_DOM_SWITCH.DONE = 1 then s.rdDom i CLK_DOM_SWITCH.LIVE_SRC
  else if s.rdDom i CLK_DOM_SWITCH.FAILOVER = 1 then 1
  else s.rdDom i CLK_DOM_SEL.SRC

/-- Domain `i` must act on the loss of source `src` (R411). HFOSC has no failover of its own. -/
def State.domLoses (s : State) (src i : Nat) : Bool :=
  codeSource (s.domCode i) == some src && (i < 144 || src != 0) && s.rdDom i CLK_DOM_SWITCH.STOPPED == 0

/-- A source becomes LOST (R410, R411). -/
def State.loseSource (s : State) (i : Nat) : State :=
  if s.srcLost i then s
  else
    let s := { s.setSrcLost i true with monGood := nset s.monGood i 0 }
    let s := if i = 2 then s.wr pgClk0 CLK_STATUS.XA_OK 0 else if i = 3 then s.wr pgClk0 CLK_STATUS.XB_OK 0 else s
    let s := s.raiseClk CLK_EVENT.LOST
    (((List.range 198) ++ (List.range 54).map (· + 262)).filter (s.domLoses i)).foldl State.failOver s

/-- PLL_LOCK_LOSS (R410): the lock detector of PLL `src` falls: 4 SYS A, 5 SYS B, 8 + p fabric PLL p. -/
def execPllLockLoss (src : Nat) (s : State) : Host.Outcome State Fault Refusal :=
  guardUnit (src == 4 || src == 5 || (8 ≤ src && src < 32))
    ((if src = 4 then s.wr pgClk0 CLK_STATUS.SYSA_LOCK 0
      else if src = 5 then s.wr pgClk0 CLK_STATUS.SYSB_LOCK 0
      else s.wrPll (src - 8) FPLL_STATUS.LOCKED 0).loseSource src)

/-- The expected frequency of a monitored source in Hz, times 65,536 (R400 to R403); 0 for a source that is not monitored. -/
def State.expected (s : State) (i : Nat) : Nat :=
  match i with
  | 0 => 400000000 * 65536
  | 1 => 40000 * 65536
  | 2 => xaHz s.straps.xaSel * 65536
  | 3 => s.xbHz * 65536
  | 4 => 6400000000 * 65536
  | 5 => 6000000000 * 65536
  | _ => if 8 ≤ i ∧ s.rdPll (i - 8) FPLL_CTRL.ENABLE = 1 then s.vcoScaled (i - 8) / s.rdPll (i - 8) FPLL_CTRL.R else 0

/-- The reference of HFOSC is LFOSC (R410): XA is not OK, and XB is absent or lost. -/
def State.hfoscOnLfosc (s : State) : Bool := !s.on pgClk0 CLK_STATUS.XA_OK && (s.xbHz == 0 || s.srcLost 3)

/-- The tolerance of source `i` in percent (R410). -/
def State.tolerance (s : State) (i : Nat) : Nat :=
  if i = 0 ∧ s.hfoscOnLfosc = true then 25 else s.rd pgClk0 CLK_MON_LIMIT.PCT

/-- A window of source `i` ends with `hz` counted (R410). -/
def State.monitorOne (s : State) (i hz : Nat) : State :=
  let e := s.expected i
  let f := hz * 65536
  if e = 0 then s
  else
    let s := if 8 ≤ i then s.wrPll (i - 8) FPLL_STATUS.VCO_KHZ (hz / 1000) else s
    if (if e ≤ f then f - e else e - f) * 100 > s.tolerance i * e then
      { s with monGood := nset s.monGood i 0 }.loseSource i
    else if s.srcLost i then
      let n := nget s.monGood i + 1
      if n < 8 then { s with monGood := nset s.monGood i n }
      else
        let s := { s.setSrcLost i false with monGood := nset s.monGood i 0 }
        let s := if i = 2 then s.wr pgClk0 CLK_STATUS.XA_OK 1 else if i = 3 then s.wr pgClk0 CLK_STATUS.XB_OK 1 else s
        s.raiseClk CLK_EVENT.RESTORED
    else if i = 3 then s.wr pgClk0 CLK_STATUS.XB_OK 1 else s

/-- MONITOR_WINDOW (R410): a window ends; `counts` gives, for each source counted in it, its frequency in Hz. -/
def execMonitorWindow (counts : List (Nat × Nat)) (s : State) : Host.Outcome State Fault Refusal :=
  guardUnit (counts.all (fun c => c.1 < 6 || (8 ≤ c.1 && c.1 < 32))) (counts.foldl (fun s c => s.monitorOne c.1 c.2) s)

/-! ### Start-up of the system PLLs (R402, R413) -/

/-- XA_STABLE (R402): XA runs, where it is present. -/
def execXaStable (s : State) : Host.Outcome State Fault Refusal :=
  .next (if xaHz s.straps.xaSel = 0 then s else s.wr pgClk0 CLK_STATUS.XA_OK 1)

/-- XA_TIMEOUT (R402): XA absent, or not stable 20 ms after power good. -/
def execXaTimeout (s : State) : Host.Outcome State Fault Refusal :=
  .next (if s.on pgClk0 CLK_STATUS.XA_OK = true ∨ (s.straps.xaSel ≠ 7 ∧ s.ns < 20000000) then s
         else s.wr pgClk0 CLK_STATUS.SYS_REF 1)

/-- SYS_PLL_LOCK (R402, R413): the system PLLs lock on XA or on HFOSC; the first lock after P or C takes every system domain to
its default source, the clock pages read READY (R464), and the regulator groups start to ramp up (R420, log entry 71). -/
def execSysPllLock (s : State) : Host.Outcome State Fault Refusal :=
  .next
    (if s.on pgClk0 CLK_STATUS.XA_OK = false ∧ s.on pgClk0 CLK_STATUS.SYS_REF = false then s
     else
       let t := (s.wr pgClk0 CLK_STATUS.SYSA_LOCK 1).wr pgClk0 CLK_STATUS.SYSB_LOCK 1
       if t.on pgReady READY_SUM.CLOCKS then t
       else (((List.range 320).filter isSystemDomain).foldl
         (fun s i => s.wrDom i CLK_DOM_SWITCH.LIVE_SRC (s.rdDom i CLK_DOM_SWITCH.DEFAULT_SRC)) t).bootRamps.reachStage READY_SUM.CLOCKS)

/-! ### Gates (R408, R409) -/

/-- Gate commands to the node report NOGATE (R408): lane leaves, the leaves of the supervisor, the rigging spine, the CLK and PWR
blocks (log entry 10) and the Bridle, and the branches and the root above these. -/
def isNoGate (n : Nat) : Bool :=
  (198 ≤ n && n < 262) || [262, 263, 265, 266, 315, 334, 336, 339].contains n

/-- Children of a node (R408). -/
def gateChildren (n : Nat) : List Nat := (List.range 337).filter (fun m => gateParent m == n)

/-- A child of the node is on; a lane's leaf follows the lane's ENABLE (R408). -/
def State.nodeOn (s : State) (n : Nat) : Bool :=
  if 198 ≤ n ∧ n < 262 then s.on (pgLane ((n - 198) / 2)) LANE_CTRL.ENABLE else s.gateOn n

/-- The result of a gate command (R409, R416): 1 OK, 2 REFUSED, 3 NOGATE. -/
def State.gateResult (s : State) (n : Nat) (on : Bool) : Nat :=
  if isNoGate n then 3
  else if !on && (gateChildren n).any s.nodeOn then 2
  else if on && gateParent n != 341 && !s.nodeOn (gateParent n) then 2
  else if on && (n == 337 || (320 ≤ n && n < 324)) && s.devState == devHold then 2
  else 1

/-- An accepted write of CLK_GATE_CMD (R409). -/
def gateCmdBody (v : Word) (s : State) : Option State :=
  let n := getF v 0 9
  let on := getF v 12 1 == 1
  if 340 < n then none
  else
    let r := s.gateResult n on
    let s := (s.wr pgClk1 CLK_GATE_RESULT.RESULT r).wr pgClk1 CLK_GATE_RESULT.NODE n
    some (if r = 1 then { s.setGate n on with lossGates := nset s.lossGates n 0 }
          else if r = 2 then (s.inc pgClk0 CLK_REFUSE_CNT.COUNT).raiseClk CLK_EVENT.REFUSED
          else s)

/-- GATE_OPEN (R409): a write of CLK_GATE_CMD with ON = 1. -/
def execGateOpen (a : Access) (node : BitVec 9) (s : State) : Host.Outcome State Fault Refusal :=
  let v := setF (node.setWidth 32) 12 1 1
  .next (s.gatedWrite a pgClk1 CLK_GATE_CMD.NODE.off v (gateCmdBody v))

/-- GATE_CLOSE (R409): a write of CLK_GATE_CMD with ON = 0. -/
def execGateClose (a : Access) (node : BitVec 9) (s : State) : Host.Outcome State Fault Refusal :=
  .next (s.gatedWrite a pgClk1 CLK_GATE_CMD.NODE.off (node.setWidth 32) (gateCmdBody (node.setWidth 32)))

end Sys2Proof.Machine
end

