-- ==== Sys2Proof/Machine/FieldIo.lean ====
section
/-! DEFINITION. Meanings of chapter 21's commands: inputs and their stages, trips, plug groups, pin settings, the monitor ADC and
boundary scan. -/

namespace Sys2Proof.Machine

open Sys2Proof

/-! ### Override states that begin (R497) -/

/-- Pins that are unplugged or in the power-fail state in `new` and were not in `old` keep what they drove for HOLD; tracks whose pins have become INVALID enter
FAULT with cause SOURCE (R199, R494, R497). -/
def State.afterGroups (new old : State) (pins : List Nat) : State :=
  let t := pins.foldl (fun t n =>
    if new.pinUnplugged n && !old.pinUnplugged n then t.setPin n { t.pin n with holdUnplug := heldDrive (old.pinDrive n) } else t) new
  let t := pins.foldl (fun t n =>
    if new.pinPfail n && !old.pinPfail n then t.setPin n { t.pin n with holdPfail := heldDrive (old.pinDrive n) } else t) t
  let bad := pins.filter (fun n => new.pinInvalid n && !old.pinInvalid n)
  if bad.isEmpty then t
  else ((List.range 64).filter (fun k => (t.trackPins k).any bad.contains)).foldl (fun t k => t.trackFault k 5) t

/-! ### Trips (R498) -/

/-- Trip inputs. -/
def State.tripInputs (s : State) : List Nat := (List.range 192).filter (fun n => s.rdPin n FIO_PIN_CFG.TRIP_IN == 1)

/-- A trip input reads 1. -/
def State.tripReads (s : State) : Bool := s.tripInputs.any s.filtLevel

/-- A setting of LATCHED is counted and rings (R498). -/
def State.countTrip (s : State) : State :=
  let t := s.inc pgPlug FIO_TRIP_CNT.COUNT
  t.ringFrom pgPlug (t.rd pgPlug FIO_TRIP_SRC.SOURCE) 19

/-- The trip net: it sets LATCHED while a trip input reads 1; each setting is counted and rings. -/
def State.tripNet (s : State) : State :=
  if s.on pgPlug FIO_TRIP.LATCHED || !s.tripReads then s
  else
    let t := (List.range 64).foldl (fun t k =>
      t.setPin (precPin k) { t.pin (precPin k) with holdTrip := heldDrive (s.pinDrive (precPin k)) }) s
    (t.wr pgPlug FIO_TRIP.LATCHED 1).countTrip

/-- A write of FIO_TRIP: a trip input that has risen in its cycle (`same`) keeps the latch set, and counts as a setting (R498, R501). -/
def tripBody (same v : Word) (s : State) : Option State :=
  if getF v 1 1 = 0 then some s
  else if getF same 0 1 = 1 then some s.countTrip
  else if s.tripReads then none
  else some (s.wr pgPlug FIO_TRIP.LATCHED 0)

/-- TRIP_CLEAR (R498). -/
def execTripClear (a : Access) (s : State) : Host.Outcome State Fault Refusal :=
  .next (s.gatedWrite a pgPlug FIO_TRIP.LATCHED.off 2 (tripBody a.same 2))

/-! ### Plug groups (R499) -/

/-- Group `g` loses presence, or is enabled without it. `old` is the state before. -/
def State.groupLost (s : State) (g : Nat) : State :=
  let s := (s.wrPg g FIO_PG_STATUS.HELD 1).add pgPlug (FIO_PG_STATUS.LOSS_CNT.at g) 1
  let s := s.wr pgPlug FIO_PG_EVENT.LOST (s.rd pgPlug FIO_PG_EVENT.LOST ||| 2 ^ g)
  s.ringFrom pgPlug (s.rd pgPlug FIO_PG_EVENT_SRC.SOURCE) 19

/-- Presence of group `g` is judged again after a change from `old`. -/
def State.judgeGroup (s old : State) (g : Nat) : State :=
  let was := old.pgEnabled g && old.pgPresent g
  if !s.pgEnabled g then s.wrPg g FIO_PG_STATUS.HELD 0
  else if s.pgPresent g then
    (if !was && s.rdPg g FIO_PG_CTRL.AUTO_REPLUG == 1 then s.wrPg g FIO_PG_STATUS.HELD 0 else s)
  else if was || !old.pgEnabled g then s.groupLost g
  else s

/-- Groups are judged, and what follows for their members. -/
def State.judgeGroups (s old : State) (gs : List Nat) : State :=
  let t := gs.foldl (fun t g => t.judgeGroup old g) s
  t.afterGroups old (gs.flatMap t.pgMembers)

/-- A write of FIO_PG_CTRL of group `g`. -/
def pgCtrlBody (g : Nat) (v : Word) (s : State) : Option State :=
  if getF v 0 1 = 1 ∧ s.rdPin (getF v 16 10) FIO_PIN_CFG.PG_MEMBER = 1 then none
  else some ((s.storeReg pgPlug (FIO_PG_CTRL.ENABLE.at g).off v).judgeGroups s [g])

/-- PG_ENABLE (R499): a write of FIO_PG_CTRL of group `g` with ENABLE = 1 and the other fields of `v`. -/
def execPgEnable (a : Access) (g : Nat) (v : Word) (s : State) : Host.Outcome State Fault Refusal :=
  guardUnit (g < 32) (s.gatedWrite a pgPlug (FIO_PG_CTRL.ENABLE.at g).off (v ||| 1) (pgCtrlBody g (v ||| 1)))

/-- A write of FIO_PG_REPLUG. -/
def replugBody (v : Word) (s : State) : Option State :=
  let g := getF v 0 5
  if s.pgPresent g = false ∨ s.pgHeld g = false then none else some (s.wrPg g FIO_PG_STATUS.HELD 0)

/-- PG_REPLUG (R499): a write of g to FIO_PG_REPLUG. -/
def execPgReplug (a : Access) (g : BitVec 5) (s : State) : Host.Outcome State Fault Refusal :=
  .next (s.gatedWrite a pgPlug FIO_PG_REPLUG.GROUP.off (g.setWidth 32) (replugBody (g.setWidth 32)))

/-! ### Inputs (R493) -/

/-- The debounced level of pin `n` becomes the filtered one; the groups whose presence pin it is are judged. -/
def State.debounced (s : State) (n : Nat) : State :=
  let t := s.setPin n { s.pin n with deb := s.filtLevel n }
  t.judgeGroups s ((List.range 32).filter (fun g => s.rdPg g FIO_PG_CTRL.PRES_PIN == n && s.pgEnabled g))

/-- The filtered, inverted level of pin `n` may have changed since `old`: the trip net and the debouncer see it. -/
def State.filterMoved (s old : State) (n : Nat) : State :=
  let s := if s.filtLevel n = old.filtLevel n then s else s.setPin n { s.pin n with filtAt := s.ns }
  let s := s.tripNet
  if s.rdPin n FIO_PIN_FILT.DEBOUNCE_US = 0 ∧ s.filtLevel n ≠ (s.pin n).deb then s.debounced n else s

/-- The filter output takes the synchroniser's level. -/
def State.passFilter (s : State) (n : Nat) : State := (s.setPin n { s.pin n with filt := (s.pin n).sync }).filterMoved s n

/-- PIN_INPUT (R493): pin `n` has a new level at its synchroniser. A filter of 0 ns passes it at once. -/
def execPinInput (n : Nat) (level : Bool) (s : State) : Host.Outcome State Fault Refusal :=
  guardUnit (n < 624)
    (if (s.pin n).sync = level then s
     else
       let s := s.setPin n { s.pin n with sync := level, syncAt := s.ns }
       if s.rdPin n FIO_PIN_FILT.GLITCH_NS = 0 then s.passFilter n else s)

/-- GLITCH_FILTER_PASS (R493): the synchronised level has held for GLITCH_NS samples. -/
def execGlitchFilterPass (n : Nat) (s : State) : Host.Outcome State Fault Refusal :=
  guardUnit (n < 624)
    (let x := s.pin n
     if x.sync = x.filt ∨ s.ns < x.syncAt + s.bankCycles (n / 48) (s.rdPin n FIO_PIN_FILT.GLITCH_NS) then s else s.passFilter n)

/-- DEBOUNCE_EXPIRY (R493): the filtered level has held for DEBOUNCE_US. -/
def execDebounceExpiry (n : Nat) (s : State) : Host.Outcome State Fault Refusal :=
  guardUnit (n < 624)
    (let x := s.pin n
     if s.filtLevel n = x.deb ∨ s.ns < x.filtAt + 1000 * s.rdPin n FIO_PIN_FILT.DEBOUNCE_US then s else s.debounced n)

/-! ### Pin settings (R492, R495, R498, R506) -/

/-- The pin is owned through a defined region (R495). -/
def State.ownedByRegion (s : State) (n : Nat) : Bool := (s.pin n).roles.any (fun r => r.role != 0 && s.regionDefined r.region)

/-- A write of FIO_PIN_CFG of pin `n`. -/
def pinCfgBody (n : Nat) (v : Word) (s : State) : Option State :=
  let owner := getF v 0 2
  let io := s.rd (pgFio (n / 48)) FIO_BANK_CTRL.VCCIO
  if owner ≠ s.rdPin n FIO_PIN_CFG.OWNER ∧ (owner = 1 ∨ (owner = 2 ∧ isPrec n = false) ∨ s.ownedByRegion n = true) then none
  else if getF v 11 1 = 1 ∧ (191 < n ∨ s.rdPin n FIO_PIN_FILT.GLITCH_NS < 4) then none
  else if getF v 10 1 = 1 ∧ (191 < n ∨ n % 2 = 1 ∨ (io ≠ 2 ∧ io ≠ 3)) then none
  else
    let t := s.storeReg (pgFio (n / 48)) (FIO_PIN_CFG.OWNER.at (n % 48)).off v
    let t := t.afterGroups s [n]
    let t := t.filterMoved s n
    some (if n < 192 ∧ n % 2 = 0 then t.filterMoved s (n + 1) else t)

/-- PIN_CFG_WRITE (R495, R506). -/
def execPinCfgWrite (a : Access) (n : Nat) (v : Word) (s : State) : Host.Outcome State Fault Refusal :=
  guardUnit (n < 624) (s.gatedWrite a (pgFio (n / 48)) (FIO_PIN_CFG.OWNER.at (n % 48)).off v (pinCfgBody n v))

/-- A write of FIO_PIN_FILT of pin `n` (R498). -/
def pinFiltBody (n : Nat) (v : Word) (s : State) : Option State :=
  if getF v 0 8 < 4 ∧ s.rdPin n FIO_PIN_CFG.TRIP_IN = 1 then none
  else
    let t := s.storeReg (pgFio (n / 48)) (FIO_PIN_FILT.GLITCH_NS.at (n % 48)).off v
    let t := if t.rdPin n FIO_PIN_FILT.GLITCH_NS = 0 ∧ (t.pin n).sync ≠ (t.pin n).filt then t.passFilter n else t
    some (t.filterMoved s n)

/-- A write of FIO_BANK_CTRL of bank `b`: the levels that its inputs read may change with VCCIO (R492). -/
def bankCtrlBody (b : Nat) (v : Word) (s : State) : Option State :=
  let t := s.storeReg (pgFio b) FIO_BANK_CTRL.VCCIO.off v
  some (((List.range 48).map (· + 48 * b)).foldl (fun t n => t.filterMoved s n) t)

/-- A write of FIO_OUT (R506): OUT of the REGISTER-owned pins of bank `b`; `hi` selects indices 32 to 47. -/
def fioOutBody (b : Nat) (hi : Bool) (v : Word) (s : State) : Option State :=
  let base := if hi then 32 else 0
  some ((List.range (if hi then 16 else 32)).foldl (fun s i =>
    let n := 48 * b + base + i
    if s.rdPin n FIO_PIN_CFG.OWNER = 3 then s.wrPin n FIO_PIN_CFG.OUT (getF v i 1) else s) s)

/-- FIO_OUT_WRITE (R506): a write of FIO_OUT_LO or FIO_OUT_HI of bank `b`. -/
def execFioOutWrite (a : Access) (b : Nat) (hi : Bool) (v : Word) (s : State) : Host.Outcome State Fault Refusal :=
  guardUnit (b < 13) (s.gatedWrite a (pgFio b) (if hi then FIO_OUT_HI.OUT.off else FIO_OUT_LO.OUT.off) v (fioOutBody b hi v))

/-! ### The monitor ADC (R503) -/

/-- The next enabled channel in round robin. -/
def State.madcChannel (s : State) : Option Nat :=
  ((List.range 16).map (fun i => (s.madcNext + i) % 16)).find? (bitOf (s.rd pgPlug MADC_CTRL.ENABLE))

/-- MADC_CONVERSION (R503): the next enabled channel reads `code`. -/
def execMadcConversion (code : BitVec 12) (s : State) : Host.Outcome State Fault Refusal :=
  .next
    (match s.madcChannel with
     | none => s
     | some ch =>
       let s := { (s.wr pgPlug (MADC_DATA.CODE.at ch) code.toNat).wr pgPlug (MADC_DATA.VALID.at ch) 1 with madcNext := (ch + 1) % 16 }
       if s.rd pgPlug (MADC_WIN.LO.at ch) ≤ code.toNat ∧ code.toNat ≤ s.rd pgPlug (MADC_WIN.HI.at ch) then s
       else if bitOf (s.rd pgPlug MADC_EVENT.OUT) ch then s
       else
         let s := s.wr pgPlug MADC_EVENT.OUT (s.rd pgPlug MADC_EVENT.OUT + 2 ^ ch)
         s.ringFrom pgPlug (s.rd pgPlug MADC_EVENT_SRC.SOURCE) 19)

/-! ### Boundary scan (R504) -/

/-- The three cells of pin `n` as they are captured: input level, output level and output enable. What the fabric drives, and
the output cell of a pin that drives no level, are free; a value that is kept is that of the last edge that the pin's panel received
(R535). -/
def State.captureCell (r : Nat × State) (n : Nat) : Nat × State :=
  let f := r.2.free 2
  let d := r.2.pinDrive n
  let c := match d with
    | .low => 4
    | .high => 6
    | .fabric => 2 * (Config.slotValue n r.2.ns).toNat
    | .kept => 2 * (Config.slotValue n (r.2.slotEdge n)).toNat
    | _ => 2 * (f.1 % 2)
  (r.1 + (bnat (r.2.pin n).sync + c) * 2 ^ (3 * n), f.2)

/-- The boundary register captures the pins and takes `load`. -/
def State.scan (s : State) (load : BitVec 1872) : State :=
  let r := (List.range 624).foldl State.captureCell (0, s)
  { r.2 with jtag := { r.2.jtag with cells := load, out := r.1 } }

/-- The instruction in force; EXTEST and HIGHZ act as BYPASS unless the JTAG_EXT strap was high at power-on. -/
def State.setInstr (s : State) (i : JtagInstr) : State :=
  let i := if (i = .extest ∨ i = .highz) ∧ s.straps.jtagExt = false then .bypass else i
  { s with jtag := { s.jtag with instr := i, out := if i = .bypass then 0 else s.jtag.out } }

/-- JTAG_BYPASS (R504). -/
def execJtagBypass (s : State) : Host.Outcome State Fault Refusal := .next (s.setInstr .bypass)

/-- JTAG_IDCODE (R504). -/
def execJtagIdcode (s : State) : Host.Outcome State Fault Refusal :=
  let t := s.setInstr .idcode
  .next { t with jtag := { t.jtag with out := 0x05A24E1B } }

/-- JTAG_SAMPLE_PRELOAD (R504): the boundary register captures the pins and is loaded with `load`. -/
def execJtagSamplePreload (load : BitVec 1872) (s : State) : Host.Outcome State Fault Refusal :=
  .next ((s.setInstr .samplePreload).scan load)

/-- JTAG_EXTEST (R504): honoured, the pins are captured and then driven from the boundary register, loaded with `load`. -/
def execJtagExtest (load : BitVec 1872) (s : State) : Host.Outcome State Fault Refusal :=
  .next (if s.straps.jtagExt then (s.scan load).setInstr .extest else s.setInstr .extest)

/-- JTAG_HIGHZ (R504). -/
def execJtagHighz (s : State) : Host.Outcome State Fault Refusal := .next (s.setInstr .highz)

end Sys2Proof.Machine
end

