-- ==== Sys2Proof/Machine/RetStore.lean ====
section
/-! DEFINITION. The retained store (R473 to R477) and the TRACKS record (R203, R205). -/

namespace Sys2Proof.Machine

open Sys2Proof

/-! ### Records and buffers (R473, R474) -/

/-- Record numbers. -/
def recLane (l : Nat) : Nat := 0x10 + l
def recPort (p : Nat) : Nat := 0x30 + p
def recTracks : Nat := 0x40

/-- The store has a record of that ID. -/
def isRecord (id : Nat) : Bool := (0x10 ≤ id && id < 0x38) || id == 0x40 || (0x50 ≤ id && id < 0x5D)

/-- A record that COMMIT may write (R477). -/
def isUserRecord (id : Nat) : Bool := 0x50 ≤ id && id < 0x5D

def zeroBuf : RsBuf := {}
def State.rsBuf (s : State) (id b : Nat) : RsBuf := mget (fun _ => zeroBuf) s.store (2 * id + b)
def State.setRsBuf (s : State) (id b : Nat) (x : RsBuf) : State := { s with store := mset (fun _ => zeroBuf) s.store (2 * id + b) x }

/-- The CRC-32C of a buffer (R474): words 0 and 1 and the payload. -/
def bufCrc (w0 w1 : Word) (data : List Byte) : Nat := crc32c (bytesLE 4 w0.toNat ++ bytesLE 4 w1.toNat ++ data)

/-- The buffer is valid for record `id` (R474). -/
def RsBuf.valid (x : RsBuf) (id : Nat) : Bool := getF x.w0 0 8 == id && bufCrc x.w0 x.w1 x.data == x.w2.toNat

/-- The current buffer of a record: the valid one, or of two the one with the higher GEN (R474). -/
def State.currentBuf (s : State) (id : Nat) : Option Nat :=
  let a := s.rsBuf id 0
  let b := s.rsBuf id 1
  match a.valid id, b.valid id with
  | true, true => some (if a.w1.toNat < b.w1.toNat then 1 else 0)
  | true, false => some 0
  | false, true => some 1
  | false, false => none

/-- The current version of a record; none when it is EMPTY or VBAT is absent (R474, R475). -/
def State.record (s : State) (id : Nat) : Option RsBuf := if s.vbat then (s.currentBuf id).map (s.rsBuf id) else none

/-- A record is present but no buffer passes its check (R203). -/
def State.recordBad (s : State) (id : Nat) : Bool := (s.record id).isNone && (s.rsBuf id 0 != zeroBuf || s.rsBuf id 1 != zeroBuf)

/-- A buffer of record `id` with generation `gen`. -/
def makeBuf (id gen : Nat) (data : List Byte) (saved : List (Nat × Nat × Word)) : RsBuf :=
  let w0 := BitVec.ofNat 32 (id + 2 ^ 8 + data.length * 2 ^ 16)
  let w1 := BitVec.ofNat 32 gen
  ⟨w0, w1, BitVec.ofNat 32 (bufCrc w0 w1 data), 0, data, saved⟩

/-! ### Commits and erases (R475) -/

/-- RS_STATUS.RESULT codes (R477). -/
def rsOk : Nat := 1
def rsEmpty : Nat := 2
def rsNoStore : Nat := 3
def rsPfRefused : Nat := 4

/-- The requester learns how its commit or erase ended (R366, R205, R475, R477). -/
def State.rsReport (s : State) (w : RsWho) (result : Nat) : State :=
  match w with
  | .host => (s.wr pgReset RS_STATUS.BUSY 0).wr pgReset RS_STATUS.RESULT result
  | .lane l => s.wr (pgLane l) LANE_CAL_RESULT.RESULT (if result = rsOk then 1 else 6)
  | .port _ | .silent => s
  | .tracks => (s.wr pgBridle BRIDLE_STATUS.SAVE_BUSY 0).wr pgBridle BRIDLE_STATUS.SAVE_RESULT (if result = rsOk then 1 else 2)

/-- Commits whose turn comes and that cannot start are refused, one after the other (R475). -/
def State.rsStartFrom (s : State) : List RsJob → State
  | [] => { s with jobs := [] }
  | j :: t =>
    if j.erase then { s with jobs := j :: t, jobAt := s.ns }
    else if !s.vbat then (s.rsReport j.who rsNoStore).rsStartFrom t
    else if s.pfBlocked then (s.rsReport j.who rsPfRefused).rsStartFrom t
    else { s with jobs := j :: t, jobAt := s.ns }

/-- PF_WARN has risen: a commit that started in the same cycle is refused, and those behind it in turn (R427). -/
def State.rsPfRise (s : State) : State :=
  match s.jobs with
  | j :: t => if j.erase ∨ s.jobAt ≠ s.ns then s else (s.rsReport j.who rsPfRefused).rsStartFrom t
  | [] => s

/-- A request for a commit or an erase: it starts at once when none is in progress. -/
def State.rsRequest (s : State) (j : RsJob) : State :=
  match s.jobs with
  | [] => s.rsStartFrom [j]
  | js => { s with jobs := js ++ [j] }

/-- The commit in progress ends: the other buffer becomes the current version, with GEN one above the old one. The GEN of a first
version is not given, and is free (log entry 2). -/
def State.rsWrite (s : State) (j : RsJob) : State :=
  match s.currentBuf j.id with
  | some b => s.setRsBuf j.id (1 - b) (makeBuf j.id (((s.rsBuf j.id b).w1.toNat + 1) % 2 ^ 32) j.data j.saved)
  | none =>
    let f := s.free 32
    f.2.setRsBuf j.id 0 (makeBuf j.id f.1 j.data j.saved)

/-- RS_COMMIT_DONE (R475): the commit in progress completes and the next request starts. -/
def execRsCommitDone (s : State) : Host.Outcome State Fault Refusal :=
  .next
    (match s.jobs with
     | j :: t => if j.erase then s else ((s.rsWrite j).rsReport j.who rsOk).rsStartFrom t
     | [] => s)

/-- RS_ERASE_DONE (R475): the erase in progress completes with both buffers invalid. -/
def execRsEraseDone (s : State) : Host.Outcome State Fault Refusal :=
  .next
    (match s.jobs with
     | j :: t => if j.erase then (((s.setRsBuf j.id 0 {}).setRsBuf j.id 1 {}).rsReport j.who rsOk).rsStartFrom t else s
     | [] => s)

/-! ### The host's commands (R477) -/

/-- The first `n` payload bytes that RS_BUF holds. -/
def State.rsBytes (s : State) (n : Nat) : List Byte :=
  ((List.range 128).flatMap (fun w => bytesLE 4 (s.rd pgReset (RS_BUF.DATA.at w)))).take n

/-- Payload bytes go into RS_BUF; bytes of the last word beyond them stay. -/
def State.fillRsBuf (s : State) (data : List Byte) : State :=
  (List.range 128).foldl (fun s w =>
    let d := (data.drop (4 * w)).take 4
    s.wr pgReset (RS_BUF.DATA.at w)
      (s.rd pgReset (RS_BUF.DATA.at w) / 2 ^ (8 * d.length) * 2 ^ (8 * d.length) + natLE d)) s

/-- READ into RS_BUF. -/
def State.rsRead (s : State) (id : Nat) : State :=
  match s.record id with
  | none => (s.wr pgReset RS_STATUS.RESULT rsEmpty).wr pgReset RS_RLEN.BYTES 0
  | some b =>
    let s := ((s.wr pgReset RS_STATUS.RESULT rsOk).wr pgReset RS_GEN.GEN b.w1.toNat).wr pgReset RS_RLEN.BYTES (getF b.w0 16 16)
    s.fillRsBuf (b.data.take 512)

/-- An accepted write of RS_CMD (R477). -/
def rsCmdBody (v : Word) (s : State) : Option State :=
  let id := s.rd pgReset RS_SEL.ID
  let op := getF v 0 2
  if s.on pgReset RS_STATUS.BUSY ∨ op = 0 ∨ (op = 2 ∧ isUserRecord id = false) then none
  else if op = 1 then some (s.rsRead id)
  else
    let t := s.wr pgReset RS_STATUS.BUSY 1
    some (t.rsRequest ⟨id, .host, op == 3, if op = 2 then s.rsBytes (s.rd pgReset RS_LEN.BYTES) else [], []⟩)

/-- A write of RS_CMD with operation `op`. -/
def State.rsCmd (s : State) (a : Access) (op : Nat) : Host.Outcome State Fault Refusal :=
  .next (s.gatedWrite a pgReset RS_CMD.OP.off (BitVec.ofNat 32 op) (rsCmdBody (BitVec.ofNat 32 op)))

/-- RS_READ (R477). -/
def execRsRead (a : Access) (s : State) : Host.Outcome State Fault Refusal := s.rsCmd a 1
/-- RS_COMMIT (R475). -/
def execRsCommit (a : Access) (s : State) : Host.Outcome State Fault Refusal := s.rsCmd a 2
/-- RS_ERASE (R475). -/
def execRsErase (a : Access) (s : State) : Host.Outcome State Fault Refusal := s.rsCmd a 3

/-! ### Zeroising (R476) -/

/-- The cells of the store and of key RAM are zeroed, and a commit in progress is abandoned: its requester's busy indication
ends. Log entry 21. -/
def State.zeroise (s : State) : State :=
  let js := s.jobs
  js.foldl (fun s j => s.rsReport j.who rsNoStore) { s with store := [], kram := [], jobs := [] }

/-- An accepted write of RS_ZEROISE. -/
def rsZeroiseBody (v : Word) (s : State) : Option State := if v.toNat = 0x5A0F then some s.zeroise else none

/-- RS_ZEROISE (R476): a keyed write. -/
def execRsZeroise (a : Access) (v : Word) (s : State) : Host.Outcome State Fault Refusal :=
  .next (s.gatedWrite a pgReset RS_ZEROISE.KEY.off v (rsZeroiseBody v))

/-- TAMPER (R476): TAMPER_N low for at least 10 µs, with main power present or absent. -/
def execTamper (s : State) : Host.Outcome State Fault Refusal := .next (s.zeroise.wr pgReset RS_STATUS.TAMPERED 1)

/-! ### The TRACKS record (R203, R205) -/

/-- The RW bits of the register at offset `off` of a track page. -/
def trackRwMask (off : Nat) : Word :=
  rowsTrack.foldl (fun w r => if r.acc = .rw ∧ r.covers off = true then w ||| maskF r.fld.lo r.fld.len else w) 0

/-- Offsets of the registers of a track page that hold RW fields. -/
def trackOffs : List Nat := (rowsTrack.filter (fun r => r.acc == .rw)).map (fun r => r.fld.off)

/-- The filter registers of the pins that a track's source names. -/
def State.trackFilters (s : State) (k : Nat) : List Nat :=
  (s.trackPins k).map (fun n => pgFio (n / 48) * 4096 + (FIO_PIN_FILT.GLITCH_NS.at (n % 48)).off)

/-- What the TRACKS record holds of track `k`: its RW fields, PAGE_WORLD.SECURE and the glitch filters of its pins. -/
def State.trackEntry (s : State) (k : Nat) : List (Nat × Nat × Word) :=
  let base := pgTrack k * 4096
  trackOffs.map (fun off => (k, base + off, s.reg (base + off) &&& trackRwMask off)) ++
  [(k, base + PAGE_WORLD.SECURE.off, s.reg (base + PAGE_WORLD.SECURE.off) &&& 1)] ++
  (s.trackFilters k).map (fun a => (k, a, s.reg a &&& maskF 0 8))

/-- Apply one saved register. -/
def State.applySaved (s : State) (k addr : Nat) (w : Word) : State :=
  let base := pgTrack k * 4096
  let mask := if addr / 4096 ≠ pgTrack k then maskF 0 8
              else if addr = base + PAGE_WORLD.SECURE.off then 1 else trackRwMask (addr - base)
  s.setReg addr ((s.reg addr &&& ~~~ mask) ||| (w &&& mask))

/-- The entry of track `k` in a record is applied (R203, R204): a track that it enables enters ACQUIRE. -/
def State.applyTrack (s : State) (saved : List (Nat × Nat × Word)) (k : Nat) : State :=
  let s := (saved.filter (fun e => e.1 == k)).foldl (fun s e => s.applySaved k e.2.1 e.2.2) s
  if s.rdTrk k TRK_CTRL.ENABLE = 1 ∧ s.trState k = trDisabled then s.startTrack k else s

/-- The TRACKS record is applied to all tracks at the start of counting (R203). -/
def State.restoreTracks (s : State) : State :=
  match s.record recTracks with
  | some b => ((List.range 64).foldl (fun s k => s.applyTrack b.saved k) s).wr pgBridle BRIDLE_STATUS.RESTORED 1
  | none => if s.recordBad recTracks then s.wr pgBridle BRIDLE_STATUS.RESTORE_BAD 1 else s

/-- SAVE_TRACKS asks for the commit of the TRACKS record. The layout of its bytes is not given: they are free (log entry 20). -/
def State.saveTracks (s : State) : State :=
  let saved := (List.range 64).flatMap s.trackEntry
  let f := s.free (8 * 6144)
  (f.2.wr pgBridle BRIDLE_STATUS.SAVE_BUSY 1).rsRequest ⟨recTracks, .tracks, false, bytesLE 6144 f.1, saved⟩

/-- An accepted write of BRIDLE_CTRL (R205). With both bits set, the save goes first. -/
def bridleCtrlBody (v : Word) (s : State) : Option State :=
  if s.on pgBridle BRIDLE_STATUS.SAVE_BUSY ∧ getF v 4 2 ≠ 0 then none
  else
    let s := s.storeReg pgBridle BRIDLE_CTRL.KEEP_ON_WARM.off v
    let s := if getF v 4 1 = 1 then s.saveTracks else s
    some (if getF v 5 1 = 1 then (s.wr pgBridle BRIDLE_STATUS.SAVE_BUSY 1).rsRequest ⟨recTracks, .tracks, true, [], []⟩ else s)

/-- BRIDLE_CTRL as it is, with `bit` of its commands written 1. -/
def State.bridleCtrl (s : State) (a : Access) (bit : Nat) : State :=
  let v := setF (s.reg (pgBridle * 4096 + BRIDLE_CTRL.KEEP_ON_WARM.off)) bit 1 1
  s.gatedWrite a pgBridle BRIDLE_CTRL.KEEP_ON_WARM.off v (bridleCtrlBody v)

/-- SAVE_TRACKS (R205). -/
def execSaveTracks (a : Access) (s : State) : Host.Outcome State Fault Refusal := .next (s.bridleCtrl a 4)

/-- ERASE_TRACKS (R205). -/
def execEraseTracks (a : Access) (s : State) : Host.Outcome State Fault Refusal := .next (s.bridleCtrl a 5)

/-- BRIDLE_START (R203): 20 ms after power good the Bridle starts counting and the TRACKS record is applied; the windows of the
governor start with it (R233, R243). -/
def execBridleStart (s : State) : Host.Outcome State Fault Refusal :=
  .next
    (if s.on pgBridle BRIDLE_STATUS.COUNTING ∨ s.ns < 20000000 then s
     else
       let s := { s.wr pgBridle BRIDLE_STATUS.COUNTING 1 with bridleNs := 0, gov := { s.gov with align := 0, start := 0, len := s.rd pgPwr GOV_WINDOW.US } }
       s.restoreTracks.reachStage READY_SUM.BRIDLE)

end Sys2Proof.Machine
end

