-- ==== Sys2Proof/Machine/LinkOps.lean ====
section
/-! DEFINITION. Serial lanes and Tether ports: ownership, stages, starting values, walks, restarts (R353 to R376, R384 to R387). -/

namespace Sys2Proof.Machine

open Sys2Proof

def zeroLane : Lane := {}
def zeroPort : Port := {}
def State.lane (s : State) (l : Nat) : Lane := mget (fun _ => zeroLane) s.lanes l
def State.setLane (s : State) (l : Nat) (x : Lane) : State := { s with lanes := mset (fun _ => zeroLane) s.lanes l x }
def State.port (s : State) (p : Nat) : Port := mget (fun _ => zeroPort) s.ports p
def State.setPort (s : State) (p : Nat) (x : Port) : State := { s with ports := mset (fun _ => zeroPort) s.ports p x }

def State.rdLane (s : State) (l : Nat) (f : Fld) : Nat := s.rd (pgLane l) f
def State.wrLane (s : State) (l : Nat) (f : Fld) (v : Nat) : State := s.wr (pgLane l) f v
def State.raiseLane (s : State) (l : Nat) (bit : Fld) : State := s.raise (pgLane l) bit LANE_EVENT_MASK.MASK LANE_EVENT_SRC.SOURCE
def State.rdPort (s : State) (p : Nat) (f : Fld) : Nat := s.rd (pgTether p) f
def State.wrPort (s : State) (p : Nat) (f : Fld) (v : Nat) : State := s.wr (pgTether p) f v
def State.raisePort (s : State) (p : Nat) (bit : Fld) : State :=
  s.raise (pgTether p) bit TETHER_EVENT_MASK.MASK TETHER_EVENT_SRC.SOURCE

/-! ### Who owns a lane (R371, R375) -/

/-- Lanes of the PCI Express link at the maximum width of the PCIE_W balls. -/
def State.pcieLanes (s : State) : Nat :=
  match s.straps.pcieW with
  | 0 => 16
  | 1 => 8
  | 2 => 4
  | _ => 1

def State.isPcie (s : State) (l : Nat) : Bool := l < s.pcieLanes

/-- The lane is in quads 0 to 3: those that hold a PCI Express lane carry no Tether lane, and what the width leaves unused stays DISABLED
(R371, R375). DEDUCED, log entry 73. -/
def inPcieQuad (l : Nat) : Bool := l < 16

/-- Lanes of Tether port `p`, by its settings. -/
def laneCount (code : Nat) : Nat := if code = 0 then 1 else if code = 1 then 2 else 4
def State.portLanes (s : State) (p : Nat) : List Nat :=
  (List.range (laneCount (s.rdPort p TETHER_CTRL.LANES))).map (· + s.rdPort p TETHER_CTRL.BASE_LANE)

def State.portOn (s : State) (p : Nat) : Bool := s.rdPort p TETHER_CTRL.ENABLE == 1

/-- The enabled port that holds the lane. -/
def State.lanePort (s : State) (l : Nat) : Option Nat := (List.range 8).find? (fun p => s.portOn p && (s.portLanes p).contains l)

/-- LANE_CTRL.OWNER (R374). -/
def State.laneOwner (s : State) (l : Nat) : Nat := if s.isPcie l then 1 else if (s.lanePort l).isSome then 2 else 0

/-- The band that serves a RATE (R353). -/
def bandOf (rate : Nat) : Nat := if rate = 0 then 0 else if rate = 1 then 1 else if rate < 6 then 2 else 3

def State.laneOn (s : State) (l : Nat) : Bool := s.rdLane l LANE_CTRL.ENABLE == 1

/-- An enabled lane of the quad of `l`, `l` itself included, uses another band. -/
def State.bandClash (s : State) (l rate : Nat) : Bool :=
  (List.range 4).any (fun i => s.laneOn (4 * (l / 4) + i) && bandOf (s.rdLane (4 * (l / 4) + i) LANE_CTRL.RATE) != bandOf rate)

/-! ### PAM4 and precoding (R355, R356) -/

/-- The level of a bit pair, the first bit the more significant: symbol value x, and level 2 x − 3. -/
def pam4Symbol (first second : Bool) : Nat := if first then (if second then 2 else 3) else bnat second
def pam4Level (x : Nat) : Int := 2 * x - 3

/-- The precoded symbol y(n) and the recovered x(n) (R356). -/
def precode (x yPrev : Nat) : Nat := (x + 4 - yPrev) % 4
def unprecode (y yPrev : Nat) : Nat := (y + yPrev) % 4

/-- PAM4 symbols of a lane's bits, two to a symbol (R355). -/
def symbolsOf : List Bool → List Nat
  | a :: b :: t => pam4Symbol a b :: symbolsOf t
  | _ => []

/-- The precoded symbols of a stream, from precoder state `y`; the receiver's symbols of a precoded stream, from decoder state `y`. -/
def precodeAll (y : Nat) : List Nat → List Nat
  | [] => []
  | x :: xs => precode x y :: precodeAll (precode x y) xs
def unprecodeAll (y : Nat) : List Nat → List Nat
  | [] => []
  | z :: zs => unprecode z y :: unprecodeAll z zs

/-! ### Training (R368) -/

/-- `n` bits of PRBS31 (x^31 + x^28 + 1) from a generator's register, and the register after them. -/
def prbsBits (r : BitVec 31) : Nat → List Bool × BitVec 31
  | 0 => ([], r)
  | n + 1 =>
    let b := r.getLsbD 30 ^^ r.getLsbD 27
    let t := prbsBits (r.shiftConcat b) n
    (b :: t.1, t.2)

/-- The bits of one marker period, 16,384 UI of two bits (R368): the marker, then PRBS31 from where `run` bits have left it. DESIGN CHOICE:
the marker takes the place of no PRBS31 bit, and goes first, bit 127 ahead. -/
def trainingBits (lane stage run : Nat) : List Bool :=
  (List.range 128).map (fun i => (Config.marker lane stage).getLsbD (127 - i)) ++ (prbsBits (prbsBits (Config.prbsSeed lane) run).2 32640).1

/-- Bits per lane in 100 ns at a Tether RATE (R354). -/
def rateBits (rate : Nat) : Nat := if rate = 0 then 11200 else if rate = 1 then 10625 else 6400

/-! ### Transmit taps (R357) -/

/-- The five signed taps of a LANE_TX_FFE word: PRE2, PRE1, MAIN, POST1, POST2. MAIN is at most 63 and has no sign. -/
def ffeTaps (v : Word) : List Int :=
  [sint 6 (getF v 0 6), sint 6 (getF v 6 6), (getF v 12 6 : Nat), sint 6 (getF v 18 6), sint 6 (getF v 24 6)]

/-- The ranges of R357 and the sum of exactly 63. -/
def ffeAccepted (v : Word) : Bool :=
  match ffeTaps v with
  | [a, b, m, c, d] =>
    -7 ≤ a && a ≤ 0 && -16 ≤ b && b ≤ 0 && 24 ≤ m && -24 ≤ c && c ≤ 0 && -7 ≤ d && d ≤ 7 &&
    (a.natAbs + b.natAbs + m.natAbs + c.natAbs + d.natAbs == 63)
  | _ => false

/-- The low-frequency limit 16 of link equalisation (R357): what the taps leave of a constant level. PRESUMED from the PCI Express standard:
the signed sum of the taps. -/
def ffeLow (v : Word) : Bool := 16 ≤ (ffeTaps v).foldl (· + ·) 0

/-! ### Stages (R368) -/

def stDetect : Nat := 1
def stTrain : Nat := 2
def stLock : Nat := 3
def stExchange : Nat := 4
def stActive : Nat := 5
def stBackoff : Nat := 6
def stPcie : Nat := 7

def State.stage (s : State) (l : Nat) : Nat := s.rdLane l LANE_STATUS.STAGE
def State.setStage (s : State) (l st : Nat) : State :=
  (s.wrLane l LANE_STATUS.STAGE st).setLane l { s.lane l with since := s.ns }

/-- The data path is to go to a PEAK and an LF_GAIN (R358): step by step in a powered lane, at once in one without power. -/
def State.walkTo (s : State) (l peak lf : Nat) : State :=
  let s := (s.wrLane l LANE_RX_LIVE.TARGET peak).setLane l { s.lane l with lfTarget := lf, stepAt := s.ns }
  if s.rdLane l LANE_STATUS.POWER = 0 then
    (s.wrLane l LANE_RX_LIVE.PEAK peak).wrLane l LANE_RX_LIVE.LF_GAIN lf
  else if s.rdLane l LANE_RX_LIVE.PEAK = peak ∧ s.rdLane l LANE_RX_LIVE.LF_GAIN = lf then
    (s.wrLane l LANE_STATUS.TRIM_MOVING 0).setLane l { s.lane l with walkDone := s.ns }
  else s.wrLane l LANE_STATUS.TRIM_MOVING 1

/-- Motion stops where it stands, and a check in progress is abandoned (R370, R373). -/
def State.stopWalk (s : State) (l : Nat) : State :=
  let s := (s.wrLane l LANE_RX_LIVE.TARGET (s.rdLane l LANE_RX_LIVE.PEAK)).wrLane l LANE_STATUS.TRIM_MOVING 0
  s.setLane l { s.lane l with lfTarget := s.rdLane l LANE_RX_LIVE.LF_GAIN, prop := none }

/-- A check in progress is abandoned; TARGET and the motion towards it stay (R358, R372, R374). -/
def State.dropProp (s : State) (l : Nat) : State := s.setLane l { s.lane l with prop := none }

/-- The taps in force (R357). -/
def State.takeFfe (s : State) (l : Nat) : State :=
  s.wrLane l LANE_TX_FFE_LIVE.FFE (getF (s.reg (pgLane l * 4096 + LANE_TX_FFE.PRE2.off)) 0 30)

/-- LANE_TX_FFE and LANE_RX_CTLE. -/
def State.laneRegs (s : State) (l : Nat) : LaneRegs :=
  ⟨s.reg (pgLane l * 4096 + LANE_TX_FFE.PRE2.off), s.reg (pgLane l * 4096 + LANE_RX_CTLE.PEAK.off)⟩
def State.setLaneRegs (s : State) (l : Nat) (r : LaneRegs) : State :=
  (s.setReg (pgLane l * 4096 + LANE_TX_FFE.PRE2.off) r.ffe).setReg (pgLane l * 4096 + LANE_RX_CTLE.PEAK.off) r.ctle

/-- The starting values at an entry to TRAIN (R359). -/
def State.startValues (s : State) (l : Nat) : State :=
  let x := s.lane l
  match x.blob with
  | some b => (s.walkTo l b.peak b.lf).wrLane l LANE_STATUS.START 1
  | none =>
    if x.board then (s.walkTo l (s.rdLane l LANE_RX_CTLE.PEAK) (s.rdLane l LANE_RX_CTLE.LF_GAIN)).wrLane l LANE_STATUS.START 2
    else
      let s := s.wrLane l LANE_STATUS.START 0
      s.setLane l { s.lane l with adapting := true }

/-- Entry to TRAIN: from starting values, or with the live values (R370). -/
def State.enterTrain (s : State) (l : Nat) (live : Bool) : State :=
  let s := if live then s.stopWalk l else s.dropProp l
  let s := ((s.wrLane l LANE_STATUS.CDR_LOCK 0).wrLane l LANE_STATUS.PRECODE_LIVE 0).setStage l stTrain
  let s := s.setLane l { s.lane l with bitLock := false, flitLock := false, trained := false, adapting := false, adapted := false
                                       run := 0, rxSym := 0, txSym := 0 }
  let s := s.takeFfe l
  if live then s else s.startValues l

/-- Entry to DETECT. Taps written in ACTIVE wait for TRAIN (R357). -/
def State.enterDetect (s : State) (l : Nat) : State :=
  let s := (((s.dropProp l).wrLane l LANE_STATUS.CDR_LOCK 0).wrLane l LANE_STATUS.PRECODE_LIVE 0).setStage l stDetect
  s.setLane l { s.lane l with bitLock := false, flitLock := false, trained := false, adapting := false, adapted := false }

/-- The backoff returns to 1 ms (R369, R372). -/
def State.clearBackoff (s : State) (l : Nat) : State :=
  (s.wrLane l LANE_BACKOFF.MS 1).setLane l { s.lane l with consec := 0 }

/-- A lane reset (R372): bring-up restarts from DETECT; LANE_EYE, LANE_BER and the backoff are cleared. A PCI Express lane stays with
its controller, without lock and with the table's taps (R357). -/
def State.laneReset (s : State) (l : Nat) : State :=
  let s := s.setReg (pgLane l * 4096 + LANE_EYE.WIDTH.off) 0
  let s := (s.setReg (pgLane l * 4096 + LANE_BER.EXP.off) 0).clearBackoff l
  if s.isPcie l then ((s.wrLane l LANE_STATUS.CDR_LOCK 0).wrLane l LANE_STATUS.PRECODE_LIVE 0).takeFfe l else s.enterDetect l

/-- Bring-up of lane `l` restarts from DETECT at W or F (R372, R396): LANE_EYE, LANE_BER and the backoff, which no class clears, stay. -/
def State.redetect (s : State) (l : Nat) : State :=
  if s.isPcie l then ((s.wrLane l LANE_STATUS.CDR_LOCK 0).wrLane l LANE_STATUS.PRECODE_LIVE 0).takeFfe l else s.enterDetect l

/-- The lane is powered and bring-up starts (R372). A quad whose other lanes are off locks its PLL anew (R353). -/
def State.powerLane (s : State) (l : Nat) : State :=
  let q := 4 * (l / 4)
  let others := (List.range 4).any (fun i => q + i != l && s.rdLane (q + i) LANE_STATUS.POWER == 1)
  let band := bandOf (s.rdLane l LANE_CTRL.RATE)
  let s := (List.range 4).foldl (fun s i => s.wrLane (q + i) LANE_PLL.BAND band) s
  let s := if others then s else (List.range 4).foldl (fun s i => s.wrLane (q + i) LANE_PLL.LOCKED 0) s
  (s.wrLane l LANE_STATUS.POWER 1).laneReset l

/-- The lane is DISABLED, its calibration kept (R373). -/
def State.unpowerLane (s : State) (l : Nat) : State :=
  let s := (((s.dropProp l).wrLane l LANE_STATUS.TRIM_MOVING 0).clearBackoff l).wrLane l LANE_STATUS.POWER 0
  let s := ((s.wrLane l LANE_STATUS.CDR_LOCK 0).wrLane l LANE_STATUS.PRECODE_LIVE 0).setStage l 0
  let s := s.setLane l { s.lane l with bitLock := false, flitLock := false, trained := false, adapting := false }
  let q := 4 * (l / 4)
  if (List.range 4).any (fun i => s.rdLane (q + i) LANE_STATUS.POWER == 1) then s
  else (List.range 4).foldl (fun s i => s.wrLane (q + i) LANE_PLL.LOCKED 0) s

/-- Loss of lock in ACTIVE (R370). -/
def State.loseLock (s : State) (l : Nat) : State :=
  if s.stage l = stActive then
    ((s.enterTrain l true).inc (pgLane l) LANE_LOCK_LOST_CNT.COUNT).raiseLane l LANE_EVENT.LOCK_LOST
  else s

/-! ### Ports (R375, R376, R384 to R386) -/

/-- TETHER_STATUS.STATE codes (R398). -/
def tpDisabled : Nat := 0
def tpBringup : Nat := 1
def tpActive : Nat := 2
def tpWaiting : Nat := 3
def tpDown : Nat := 4

def State.portState (s : State) (p : Nat) : Nat := s.rdPort p TETHER_STATUS.STATE

/-- All lanes of the port, as a mask by port lane. -/
def State.fullMask (s : State) (p : Nat) : Nat := 2 ^ laneCount (s.rdPort p TETHER_CTRL.LANES) - 1

/-- The largest aligned width inside a mask of port lanes (R376): all of them, the lower or the upper pair, or the lowest lane. -/
def alignedMask (full m : Nat) : Nat :=
  if m % 16 = full then full
  else if m % 4 = 3 then 3
  else if full = 15 ∧ m / 4 % 4 = 3 then 12
  else if m % 2 = 1 then 1
  else if m / 2 % 2 = 1 then 2
  else if m / 4 % 2 = 1 then 4
  else if m / 8 % 2 = 1 then 8
  else 0

/-- TETHER_STATUS.WIDTH of a mask. -/
def widthCode (m : Nat) : Nat := if m = 15 then 2 else if m = 3 ∨ m = 12 then 1 else 0

/-- Lanes of port `p` in a mask by port lane. -/
def State.lanesIn (s : State) (p m : Nat) : List Nat := ((List.range 4).filter (bitOf m)).map (· + s.rdPort p TETHER_CTRL.BASE_LANE)

/-- Lanes of the port that are in use. -/
def State.lanesUsed (s : State) (p : Nat) : List Nat :=
  s.lanesIn p (s.port p).lanesOn

/-- The port offers these lanes. -/
def State.offer (s : State) (p m : Nat) : State :=
  (s.setPort p { s.port p with offered := m, lanesOn := m, widthFail := false }).wrPort p TETHER_STATUS.WIDTH (widthCode m)

/-- A lane that its port has narrowed away from is set aside (R376). DESIGN CHOICE: it stays powered in stage 0, without bring-up. -/
def State.setAside (s : State) (l : Nat) : State := (s.enterDetect l).setStage l 0

/-- The port keeps the lanes of `m` and offers no others until it regains its width (R376). -/
def State.narrow (s : State) (p m : Nat) : State :=
  ((s.portLanes p).filter (fun l => !(s.lanesIn p m).contains l)).foldl State.setAside
    (s.setPort p { s.port p with offered := m, lanesOn := m })

/-- The port offers all its lanes again (R376): those set aside start their bring-up. -/
def State.regain (s : State) (p : Nat) : State :=
  ((s.portLanes p).filter (fun l => s.stage l == 0)).foldl State.enterDetect (s.offer p (s.fullMask p))

/-- The replay buffer is discarded and SEQ, ACK and EXPECT return to 0 (R385). -/
def State.discardReplay (s : State) (p : Nat) : State :=
  let s := ((s.wrPort p TETHER_TX_SEQ.NEXT 0).wrPort p TETHER_TX_SEQ.ACKED 0).wrPort p TETHER_RX_SEQ.EXPECT 0
  s.setPort p { s.port p with buf := [], partial_ := [], replayAt := none, replays := 0 }

/-- The port is out of ACTIVE, or of an exchange (R386): it offers what it offered before. -/
def State.leaveActive (s : State) (p : Nat) : State :=
  let x := s.port p
  let s := s.setPort p { x with accepts := false, peerAccepts := false, refused := false, sentAccept := false, busy := 0
                                replayAt := none, replays := 0, lanesOn := x.offered }
  if s.portState p = tpActive then
    (s.wrPort p TETHER_STATUS.STATE tpWaiting).setPort p
      { s.port p with left := some s.ns
                      before := some (s.rdPort p TETHER_STATUS.PARTNER_DEV, s.rdPort p TETHER_STATUS.PARTNER_PORT) }
  else s

/-- A lane of the port goes back to TRAIN. -/
def State.backToTrain (s : State) (l : Nat) : State :=
  let st := s.stage l
  if st = stActive then s.loseLock l
  else if st = stTrain ∨ st = stLock ∨ st = stExchange then s.enterTrain l false else s

/-- The port restarts (R384): its lanes return to TRAIN under R370; the replay buffer is kept (R385). -/
def State.portRestart (s : State) (p : Nat) : State :=
  let s := ((s.lanesIn p (s.port p).offered).foldl State.backToTrain s).leaveActive p
  (s.inc (pgTether p) TETHER_RETRAIN_CNT.COUNT).raisePort p TETHER_EVENT.RETRAIN

/-- The port restarts from DETECT at full width with its buffer discarded and its delays cleared: W, F (R396, R398). -/
def State.portFromDetect (s : State) (p : Nat) : State :=
  let s := ((s.portLanes p).foldl State.redetect s).leaveActive p
  let s := s.setPort p { s.port p with delays := [] }
  (s.discardReplay p).offer p (s.fullMask p)

/-- A lane of an enabled port has been reset (R396): the port restarts, with its buffer kept. -/
def State.laneResetPort (s : State) (l : Nat) : State :=
  match s.lanePort l with
  | some p => s.portRestart p
  | none => s

/-- The rules of R375 that a port's lanes must keep to be enabled. -/
def State.portEnableBad (s : State) (p : Nat) : Bool :=
  let n := laneCount (s.rdPort p TETHER_CTRL.LANES)
  let b := s.rdPort p TETHER_CTRL.BASE_LANE
  let ls := s.portLanes p
  let rate := s.rdPort p TETHER_CTRL.RATE
  b % n != 0 || ls.any (fun l => 31 < l || inPcieQuad l) ||
  (List.range 8).any (fun q => q != p && s.portOn q && (s.portLanes q).any ls.contains) ||
  (List.range 4).any (fun i =>
    let l := 4 * (b / 4) + i
    s.laneOn l && s.rdLane l LANE_CTRL.RATE != rate)

/-- The port is enabled with its lanes (R375). -/
def State.enablePort (s : State) (p : Nat) : State :=
  let rate := s.rdPort p TETHER_CTRL.RATE
  let s := s.wrPort p TETHER_STATUS.STATE tpBringup
  let s := (s.discardReplay p).offer p (s.fullMask p)
  (s.portLanes p).foldl (fun s l =>
    let was := s.laneOn l && s.rdLane l LANE_CTRL.RATE == rate && s.stage l == stDetect
    let s := ((s.wrLane l LANE_CTRL.ENABLE 1).wrLane l LANE_CTRL.PRECODE 1).wrLane l LANE_CTRL.RATE rate
    if was then s else s.powerLane l) s

/-- The port is disabled with its lanes. -/
def State.disablePort (s : State) (p : Nat) (lanes : List Nat) : State :=
  let s := lanes.foldl (fun s l => (s.wrLane l LANE_CTRL.ENABLE 0).unpowerLane l) s
  let s := (s.discardReplay p).setPort p {}
  s.wrPort p TETHER_STATUS.STATE tpDisabled

/-- Bytes of the port's stored entry (R473): the TETHER_CTRL fields and TRUST. -/
def State.portEntry (s : State) (p : Nat) : List Byte :=
  bytesLE 4 ((s.reg (pgTether p * 4096 + TETHER_CTRL.ENABLE.off)).toNat) ++
  bytesLE 4 (bnat (bitOf (s.rd pgWorld WORLD_TETHER_TRUST.TRUSTED) p)) ++ bytesLE 8 0

/-- The stored entry is written at each write of TETHER_CTRL and at each change of the port's trust bit, while autosave is enabled on
BASE_LANE (R398). -/
def State.savePort (s : State) (p : Nat) : State :=
  if s.rdLane (s.rdPort p TETHER_CTRL.BASE_LANE) LANE_CAL_AUTOSAVE.ENABLE = 1 then
    s.rsRequest ⟨recPort p, .port p, false, s.portEntry p, []⟩
  else s

/-- An accepted write of TETHER_CTRL (R375, R376, R398). -/
def tetherCtrlBody (p : Nat) (v : Word) (s : State) : Option State :=
  let a := pgTether p * 4096 + TETHER_CTRL.ENABLE.off
  let old := s.reg a
  let rest (w : Word) : Word := w &&& 0x000633F6
  let on := s.portOn p
  if (on = true ∧ rest v ≠ rest old) ∨ (getF v 16 1 = 1 ∧ on = false) then none
  else
    let t := s.storeReg (pgTether p) TETHER_CTRL.ENABLE.off v
    if on = false ∧ getF v 0 1 = 1 then (if t.portEnableBad p then none else some ((t.enablePort p).savePort p))
    else if on = true ∧ getF v 0 1 = 0 then some ((t.disablePort p (s.portLanes p)).savePort p)
    else if getF v 16 1 = 1 then some (((t.portRestart p).regain p).savePort p)
    else some (t.savePort p)

end Sys2Proof.Machine
end

