-- ==== Sys2Proof/Machine/PowerOps.lean ====
section
/-! DEFINITION. Regulator outputs (R420), and the steps between RUN, HOLD and PARK that several commands share (R135, R176, R240,
R421, R471). -/

namespace Sys2Proof.Machine

open Sys2Proof

/-! ### Leaving RUN (R471) -/

/-- Root 337 closes (R409); what it was is kept for the return. -/
def State.closeRoot (s : State) : State :=
  let s := if s.devState = devRun then { s with root337Was := !s.gateOn 337 } else s
  s.setGate 337 false

/-- Root 337 returns to its earlier state (R409). -/
def State.reopenRoot (s : State) : State := s.setGate 337 (!s.root337Was)

/-- Panels with a state of their own. -/
def State.livePanels (s : State) : List Nat := s.panels.map (·.1)

/-- The edges that remain when each of some panels has had the first of its own. -/
def edgesAfter (es : List PanelEdge) (ps : List Nat) : List PanelEdge :=
  ps.foldl (fun es p => match es.find? (fun e => e.panel == p) with | some e => es.erase e | none => es) es

/-- Switches that are ready reach their edges, and the others are discarded (R471). Each edge of a panel is one of those that `es` lists for
it, in turn; what is left is for the edges that follow. -/
def State.settleSwitches (s : State) (es : List PanelEdge) : State × List PanelEdge :=
  let r := (s.switches.filter (fun r => !r.pending)).foldl (fun a r => (a.1.switchEdge r a.2, edgesAfter a.2 (a.1.reqPanels r))) (s, es)
  (r.1.switches.foldl State.discardSwitch r.1, r.2)

/-- Pending swaps of panel `p` are discarded, and its accepted ones reach their edges (R471), each the next that `es` lists for the panel. -/
def State.settleSwaps (s : State) (p : Nat) (es : List PanelEdge) : State :=
  let s := (s.skipPendings p).contextLoad p []
  ((s.acceptedMasks p).foldl (fun a m =>
    (a.1.swapEdge p m ((a.2.find? (fun e => e.panel == p)).getD { panel := p }), edgesAfter a.2 [p])) (s, es)).1

/-- The steps of HOLD (R471): slices are aborted first (R485), accepted work reaches its edges, pending work is discarded, and root
337 closes. -/
def State.holdSteps (s : State) (es : List PanelEdge) : State :=
  let r := (s.abortSlices pcPanelState true).settleSwitches es
  (r.1.livePanels.foldl (fun s p => s.settleSwaps p r.2) r.1).closeRoot

/-- The device enters HOLD. -/
def State.enterHold (s : State) (cause : Nat) (es : List PanelEdge) : State :=
  ((s.holdSteps es).wr pgReset DEV_STATE.STATE devHold).wr pgReset DEV_STATE.CAUSE cause

/-! ### PARK (R135, R176, R240) -/

/-- Pending and accepted work of every panel is discarded and counted, as at PARK entry (R135, R176). -/
def State.discardWork (s : State) : State :=
  let s := s.switches.foldl State.discardSwitch s
  s.livePanels.foldl (fun s p => (if (s.panel p).heldPf.isSome then (s.unholdPf p).pfDrop p else s).skipSwaps p) { s with planeNow := [], planeWait := [] }

/-- What panel `p` loses with its supply (R82, R135, R176): its banks, cells and pocket RAMs; a shadow that was not READY becomes
EMPTY; its pins park. DESIGN CHOICE: the output registers of its RAMs and word ports, of which the spec says nothing, keep their values. -/
def State.losePanel (s : State) (p : Nat) : State :=
  let s := if s.shadowState p = shReady then s else s.wr (pgPanel p) PANEL_PLANE_STATE.SHADOW_STATE shEmpty
  s.setPanel p { s.panel p with
    upset0 := [], upset1 := [], fillExplicit := false, cells := [], shadow := [], quarters := [], pram := [], cellsLost := true,
    parked := true }

/-- The Sails are without supply: every panel loses what it holds, their riser drivers are off, and the device reads PARK. -/
def State.sailsDown (s : State) : State :=
  let t := (s.livePanels.foldl State.losePanel s).sailRegsOff.wr pgReset DEV_STATE.STATE devPark
  ((s.livePanels.map colOf).eraseDups).foldl (fun t c => t.catchKeepers s c) t

/-- The Sails turn off without saving (R240, R421): slices end without restore (R485), pending work is discarded, and the Sail
domains turn off without draining (R305). `cause` is 1 TRIP or 2 REG_FAULT. -/
def State.dropSails (s : State) (cause : Nat) : State :=
  let s := (s.abortSlices pcTrip false).discardWork.closeRoot.sailsDown
  sailRegs.foldl State.tripDomain (s.wr pgReset DEV_STATE.CAUSE cause)

/-- The Sails start to wake (R471): the groups ramp and the domains power up. -/
def State.startWake (s : State) : State :=
  let s := sailRegs.foldl (fun s g => s.startRamp g 0) s
  s.wr pgReset DEV_STATE.STATE devWaking

/-- Panel `p` wakes (R82, R135, R176): its banks are refilled (R241), its pocket RAMs are zero, its contexts reload, its pins leave park, the
border holds that an aborted slice left engaged release (R124). -/
def State.wakePanel (s : State) (p : Nat) : State :=
  let x := s.panel p
  let s := s.setPanel p { x with cellsLost := false, pram := [], parked := !s.committed p }
  if s.committed p && x.grounded == 0 then
    ((s.refillBanks p (s.shadowState p == shReady)).reloadLive p).releaseHold p
  else s

/-- The Sails have woken: the panels have their state again, root 337 reopens, the device is in RUN, and a HOT panel owns its column where
no panel does (R234). -/
def State.finishWake (s : State) : State :=
  let s := ((s.livePanels.foldl State.wakePanel s).reopenRoot).wr pgReset DEV_STATE.STATE devRun
  s.livePanels.foldl State.takeOwner s

end Sys2Proof.Machine
end

