-- ==== Sys2Proof/Machine/LoadOps.lean ====
section
/-! DEFINITION. The configuration loader's shared operations (R435 to R461): attempts and their ends, the container, the keys, the
record codes, frame writes, and the parking of regions. -/

namespace Sys2Proof.Machine

open Sys2Proof

/-! ### Attempts (R454 to R458) -/

/-- LOAD_STATUS.STATE codes (R462). -/
def ldIdle : Nat := 0
def ldHeader : Nat := 1
def ldStream : Nat := 2
def ldBackoff : Nat := 3
def ldDone : Nat := 4
def ldHalted : Nat := 5

/-- LOAD_STATUS.RESULT codes (R454). -/
def lrNone : Nat := 0
def lrNoSource : Nat := 1
def lrBadMagic : Nat := 2
def lrBadHeader : Nat := 3
def lrWrongDevice : Nat := 4
def lrKeyPolicy : Nat := 5
def lrNoKey : Nat := 6
def lrBadPubkey : Nat := 7
def lrBadSignature : Nat := 8
def lrBadTag : Nat := 9
def lrStream : Nat := 10
def lrIdle : Nat := 11
def lrAborted : Nat := 12

def State.loadState (s : State) : Nat := s.rd pgLoad LOAD_STATUS.STATE
def State.setLoadState (s : State) (v : Nat) : State := s.wr pgLoad LOAD_STATUS.STATE v
def State.raiseLoad (s : State) (bit : Fld) : State := s.raise pgLoad bit LOAD_EVENT_MASK.MASK LOAD_EVENT_SRC.SOURCE

/-- An attempt is in progress. -/
def State.attempting (s : State) : Bool := s.loadState == ldHeader || s.loadState == ldStream

/-- ZY12 load-failure behaviour (R62, R458). -/
def State.loadLegacy (s : State) : Bool := s.on pgLoad PAGE_COMPAT.LEGACY

/-- CFG_ERR_N is asserted (R457, R458). -/
def State.cfgErr (s : State) : Bool :=
  s.halted || (s.load.failed && !(List.range 64).any s.regionCommitted)

/-- An attempt starts from SRC (R455): FLASH attempts take the slots in turn. -/
def State.startAttempt (s : State) : State :=
  let src := s.rd pgLoad LOAD_CTRL.SRC
  let f := s.load.nextFlash
  let x := { s.load with
    hdr := none, src := src, flash := f, nextFlash := if src = 0 then (f + 1) % 3 else f, seg := 0, buf := [], ended := false,
    addr := none, dict := [], stream := [], defined := [], parked := [], since := s.ns, forwarded := 0,
    noForward := [], blocks := [], origins := s.load.origins.map (fun e => (e.1, { e.2 with frames := 0 })) }
  let s := ({ s with load := x }.setLoadState ldHeader).wr pgLoad LOAD_STATUS.SLOT (if src = 0 then f else 3)
  (s.wr pgLoad LOAD_STATUS.REFUSED 0).inc pgLoad LOAD_ATTEMPTS.COUNT

/-- The attempt ends with failure `code` (R454, R455, R458): ABORTED leaves the loader IDLE; a ZY12 failure halts it; any other failure
is retried after the backoff, which doubles. -/
def State.failLoad (s : State) (code : Nat) : State :=
  let s := (s.wr pgLoad LOAD_STATUS.RESULT code).raiseLoad LOAD_EVENT.FAIL
  let x := { s.load with failed := true, buf := [], dict := [], addr := none }
  if code = lrAborted then { s with load := x }.setLoadState ldIdle
  else if s.loadLegacy then { s with load := x, halted := true }.setLoadState ldHalted
  else
    let ms := s.rd pgLoad LOAD_BACKOFF.MS
    ({ s with load := { x with since := s.ns, wait := ms } }.setLoadState ldBackoff).wr pgLoad LOAD_BACKOFF.MS (min 1000 (2 * ms))

/-- An ABORT (R455): an attempt in progress ends with ABORTED; a retry that waits is dropped. -/
def State.abortLoad (s : State) : State :=
  if s.attempting then s.failLoad lrAborted else if s.loadState = ldBackoff then s.setLoadState ldIdle else s

/-- The attempt reached END (R454, R455, R464). -/
def State.finishLoad (s : State) : State :=
  let s := { s with load := { s.load with ended := true, buf := [] } }
  let s := ((s.wr pgLoad LOAD_STATUS.RESULT lrNone).setLoadState ldDone).wr pgLoad LOAD_BACKOFF.MS 10
  (s.raiseLoad LOAD_EVENT.DONE).reachStage READY_SUM.PLANES

/-! ### The container (R439 to R441) -/

/-- Bytes `off` to `off + n - 1`. -/
def bytesAt (bs : List Byte) (off n : Nat) : List Byte := (bs.drop off).take n

/-- A little-endian field. -/
def fieldAt (bs : List Byte) (off n : Nat) : Nat := natLE (bytesAt bs off n)

def allZero (bs : List Byte) : Bool := bs.all (fun b => b == 0)

/-- The header has the field values that step 2 of R440 asks for. -/
def headerSound (h : List Byte) : Bool :=
  fieldAt h 4 2 == 1 && allZero (bytesAt h 6 2) && allZero (bytesAt h 0x29 7) && allZero (bytesAt h 0x78 136) &&
  allZero (bytesAt h 0x160 64) &&
  (let k := fieldAt h 0x10 4
   (k % 4 == 1 || k % 4 == 2) && k / 16 % 4 < 3 && k - k % 4 - k / 16 % 4 * 16 == 0) &&
  (1 ≤ fieldAt h 0x14 4 && fieldAt h 0x14 4 ≤ 65535) && (12 ≤ fieldAt h 0x18 4 && fieldAt h 0x18 4 ≤ 20) &&
  (1 ≤ fieldAt h 0x1C 4 && fieldAt h 0x1C 4 ≤ 2 ^ fieldAt h 0x18 4)

/-- The bytes of a key RAM slot, most significant word first (R462). -/
def keyBytes (ws : List Word) : List Byte := ws.flatMap (fun w => (bytesLE 4 w.toNat).reverse)

/-- The key that KSRC names, if it is present (R440, R441). -/
def State.rootKey (s : State) (ksrc : Nat) : Option (List Byte) :=
  if ksrc = 0 then s.fuses.key else (lget s.kram (ksrc - 1)).map keyBytes

/-- Steps 1 to 6 of R440, on the 512-byte header. -/
def State.headerFault (s : State) (h : List Byte) : Option Nat :=
  let k := fieldAt h 0x10 4
  let pub := bytesAt h 0x100 96
  if fieldAt h 0 4 ≠ 0x1A58514F then some lrBadMagic
  else if headerSound h = false then some lrBadHeader
  else if fieldAt h 8 4 ≠ 0x5A240001 then some lrWrongDevice
  else if bitOf s.fuses.policy (k / 16 % 4) = false ∨ (bitOf s.fuses.policy 3 = true ∧ k % 4 ≠ 2) then some lrKeyPolicy
  else if (s.rootKey (k / 16 % 4)).isNone then some lrNoKey
  else if bitOf s.fuses.policy 4 = false ∨ Config.sha384 pub ≠ s.fuses.keyHash then some lrBadPubkey
  else none

/-- The image digest: header bytes 0x000 to 0x19F, then the tag table (R440). -/
def imageDigest (bs : List Byte) (segs : Nat) : List Byte := Config.sha384 (bytesAt bs 0 0x1A0 ++ bytesAt bs 0x200 (16 * segs))

/-- What the loader keeps of the header. -/
def parseHeader (bs : List Byte) : ImgHeader :=
  let n := fieldAt bs 0x14 4
  { rolled := fieldAt bs 0x10 4 % 4 == 2, ksrc := fieldAt bs 0x10 4 / 16 % 4, segs := n, size := fieldAt bs 0x18 4,
    last := fieldAt bs 0x1C 4, nonce := bytesAt bs 0x20 8, planes := fieldAt bs 0x28 1,
    panels := BitVec.ofNat 576 (fieldAt bs 0x30 72), tags := (List.range n).map (fun i => bytesAt bs (0x200 + 16 * i) 16) }

/-- SEG_OFFSET (R439). -/
def segOffset (segs : Nat) : Nat := (0x200 + 16 * segs + 4095) / 4096 * 4096

/-- Offset and bytes of segment `i` (R439). -/
def ImgHeader.segPlace (h : ImgHeader) (i : Nat) : Nat × Nat :=
  (segOffset h.segs + (i - 1) * 2 ^ h.size, if i = h.segs then h.last else 2 ^ h.size)

/-- `n` bytes of a number, highest byte first. -/
def bytesBE (n v : Nat) : List Byte := (bytesLE n v).reverse

/-- K(i) under ROLLED (R441). -/
def rolledKey (k0 : List Byte) : Nat → List Byte
  | 0 => k0
  | i + 1 =>
    (Config.hmac384 (rolledKey k0 i)
      (bytesBE 4 1 ++ [0x4F, 0x51, 0x58, 0x2D, 0x53, 0x45, 0x47].map (BitVec.ofNat 8) ++ [0] ++ bytesBE 4 (i + 1) ++ bytesBE 4 256)).take 32

/-- The plaintext of segment `i`, if its tag matches (R441). -/
def ImgHeader.openSeg (h : ImgHeader) (k0 : List Byte) (i : Nat) (c : List Byte) : Option (List Byte) :=
  let key := if h.rolled then rolledKey k0 i else k0
  let r := Config.gcmOpen key (h.nonce ++ bytesBE 4 i) [] c
  if h.tags[i - 1]? = some r.2 then some r.1 else none

/-! ### Records (R442 to R446) -/

/-- What stands at the front of the plaintext: nothing, a record that cannot be one, or a record of a type with its body. -/
inductive LoadFront where
  | empty
  | bad
  | record (type : Nat) (body rest : List Byte)
  deriving DecidableEq, Repr

/-- The shortest LENGTH of a record type (R444). -/
def minLength (t : Nat) : Nat := if t = 8 then 4 else 8

/-- The next record of a plaintext (R443). -/
def loadFront (buf : List Byte) : LoadFront :=
  if buf.isEmpty then .empty
  else
    let t := fieldAt buf 0 1
    let n := fieldAt buf 1 3
    if buf.length < 4 ∨ n < 4 ∨ n % 4 ≠ 0 ∨ buf.length < n ∨ t < 1 ∨ 8 < t ∨ n < minLength t then .bad
    else .record t (bytesAt buf 4 (n - 4)) (buf.drop n)

/-- The zero-run code (R445): `n` bytes decoded, and what follows them. -/
def runDecode : Nat → Nat → List Byte → Option (List Byte × List Byte)
  | _, 0, bs => some ([], bs)
  | 0, _, _ => none
  | _, _, [] => none
  | fuel + 1, n, t :: bs =>
    let k := if t.toNat < 128 then t.toNat + 1 else t.toNat - 0x7F
    if k > n ∨ (t.toNat < 128 ∧ bs.length < k) then none
    else if t.toNat < 128 then (runDecode fuel (n - k) (bs.drop k)).map (fun r => (bs.take k ++ r.1, r.2))
    else (runDecode fuel (n - k) bs).map (fun r => (List.replicate k 0 ++ r.1, r.2))

/-- Coded data of exactly `n` bytes, after which the body holds zeros only (R443, R445). -/
def decodeExact (n : Nat) (bs : List Byte) : Option (List Byte) :=
  match runDecode (bs.length + 1) n bs with
  | some (d, rest) => if allZero rest then some d else none
  | none => none

/-- `n` frames of 576 bytes (R133). -/
def framesOf : Nat → List Byte → List (BitVec 4608)
  | 0, _ => []
  | n + 1, bs => BitVec.ofNat 4608 (natLE (bs.take 576)) :: framesOf n (bs.drop 576)

def State.origin (s : State) (p n : Nat) : SlotOrigin := mget (fun _ => ({} : SlotOrigin)) s.load.origins (8 * p + n)
def State.setOrigin (s : State) (p n : Nat) (x : SlotOrigin) : State :=
  { s with load := { s.load with origins := mset (fun _ => ({} : SlotOrigin)) s.load.origins (8 * p + n) x } }

/-- The flash slot or host address that a slot's frames come from (R459). -/
def State.sourceBase (s : State) : Nat :=
  if s.load.src = 0 then s.load.flash
  else if s.load.src = 1 then s.rd pgLoad LOAD_HOST_BASE_LO.BASE * 4096 + s.rd pgLoad LOAD_HOST_BASE_HI.BASE * 2 ^ 32
  else 0

/-- The panel's region is one that this attempt has defined (R446, R448). -/
def State.inDefined (s : State) (p : Nat) : Bool := (s.panel p).region.any s.load.defined.contains

/-- The header of frame 0 is refused (R132, R446). -/
def headerRefused (d : BitVec 4608) : Bool :=
  d.extractLsb' 1025 2 == 3 || d.extractLsb' 1027 29 != 0

/-- The slot becomes invalid (R446, R451). -/
def State.invalidateSlot (s : State) (p n : Nat) : State := s.wr (pgPanel p) (PANEL_PLANE_SLOT.VALID.at n) 0

/-- All 128 frames have been written: the slot is valid, with the header fields of frame 0 (R130, R132). -/
def State.validateSlot (s : State) (p n : Nat) : State :=
  let d := (s.frame (frameAddr p n 0)).data
  let s := s.wr (pgPanel p) (PANEL_PLANE_SLOT.VALID.at n) 1
  let s := s.wr (pgPanel p) (PANEL_PLANE_SLOT.QUARTER.at n) (d.extractLsb' 1024 1).toNat
  s.wr (pgPanel p) (PANEL_PLANE_SLOT.HEAT.at n) (d.extractLsb' 1025 2).toNat

/-- A frame write (R446): none where it is a stream error; a frame to a valid slot written under the same digest is skipped. -/
def State.writeFrame (s : State) (a : Nat) (d : BitVec 4608) : Option State :=
  match s.load.hdr, s.load.digest with
  | some h, some dig =>
    let p := framePanel a
    let n := frameSlot a
    if 288 ≤ a / 2 ^ 10 % 2 ^ 9 ∨ h.panels.getLsbD p = false ∨ bitOf h.planes n = false ∨ s.inDefined p = false then none
    else if a % 128 = 0 ∧ headerRefused d = true then none
    else if s.slotValid p n then (if (s.origin p n).digest = dig then some s else none)
    else if (s.column (colOf p)).off then some s
    else
      let o := s.origin p n
      let bit := BitVec.ofNat 128 (2 ^ (a % 128))
      let first := if o.frames = 0 then s.load.seg else o.first
      let o' : SlotOrigin := { src := s.load.src, base := s.sourceBase, digest := dig, first := first, last := s.load.seg,
                               frames := o.frames ||| bit }
      let s := ((s.invalidateSlot p n).setFrame a { data := d, sig := BitVec.ofNat 32 (crc32c (frameBytes d)) }).setOrigin p n o'
      let s := s.recountBad p n
      some (if o'.frames = BitVec.allOnes 128 then s.validateSlot p n else s)
  | _, _ => none

/-- Frames written in turn from address `a` (R444): the address counts modulo 2^20. -/
def State.writeFrames (s : State) (a : Nat) : List (BitVec 4608) → Option State
  | [] => some s
  | d :: ds =>
    match s.writeFrame a d with
    | some t => t.writeFrames ((a + 1) % 2 ^ 20) ds
    | none => none

/-- A record has been applied: the plaintext moves on. At the end of a segment APPLIED moves on (R456); a last segment that ends
without END is a stream error (R442). -/
def State.afterRecord (s : State) (rest : List Byte) : State :=
  let s := { s with load := { s.load with buf := rest } }
  if !rest.isEmpty then s
  else if s.load.hdr.any (fun h => s.load.seg = h.segs) then s.failLoad lrStream
  else s.wr pgLoad LOAD_PROGRESS.APPLIED s.load.seg

/-- Apply the next record, if it is of type `t` (R443): `f` gives what it leaves, or none for a stream error, which leaves the state
before the record. A front that is no record is a stream error too. -/
def State.applyRecord (s : State) (t : Nat) (f : State → List Byte → Option State) : State :=
  if s.loadState ≠ ldStream then s
  else
    match loadFront s.load.buf with
    | .empty => s
    | .bad => s.failLoad lrStream
    | .record t' body rest =>
      if t' ≠ t then s
      else
        match f s body with
        | some u => u.afterRecord rest
        | none => s.failLoad lrStream

/-! ### Parking (R450, R451) -/

/-- Panels of region `r`. -/
def State.regionPanels (s : State) (r : Nat) : List Nat := (List.range 576).filter (fun p => (s.panel p).region == some r)

/-- Switches that address panel `p` are discarded and counted (R135). DESIGN CHOICE (log entry 63): those still on their way to their edge too,
at a park of the region and at F of the panel's page. -/
def State.discardPanelSwitches (s : State) (p : Nat) : State :=
  (s.switches.filter (fun r => (s.reqPanels r).contains p)).foldl State.discardSwitch s

/-- Responses to the accesses of the panel's bank port that are in flight will be discarded (R258). -/
def State.dropResponses (s : State) (p : Nat) : State :=
  let b := if p < 288 then 2 * p else 2 * (p - 288) + 1
  s.setBank b { s.bank b with port := (s.bank b).port.map (fun r => { r with dropped := true }) }

/-- Panel `p` of a committed region is parked (R451): a slice on it is aborted first (R485); its borders hold, its pending work is
discarded, its live context is saved, and its shadow becomes EMPTY. -/
def State.parkPanel (s : State) (p : Nat) : State :=
  let s := ((s.abortSlice p pcPanelState true).engageHold p).discardPanelSwitches p
  let s := (if (s.panel p).heldPf.isSome then (s.unholdPf p).pfDrop p else s).skipSwaps p
  let s := if s.committed p && (s.panel p).grounded == 0 && !s.sailsOff then s.saveLive p else s
  let s := (s.wr (pgPanel p) PANEL_PLANE_STATE.SHADOW_STATE shEmpty).dropResponses p
  s.setPanel p { s.panel p with parked := true, cells := [], shadow := [], quarters := [], upset0 := [], upset1 := [], fillExplicit := false }

/-- Region `r` is parked (R451). Panels whose commit edge is still due lose it. -/
def State.parkRegion (s : State) (r : Nat) : State :=
  let ps := s.regionPanels r
  let s := ps.foldl State.parkPanel s
  let s := { s with load := { s.load with edges := s.load.edges.filter (fun p => !ps.contains p) } }
  s.wr pgReset (REGION_MAP.COMMITTED.at r) 0

end Sys2Proof.Machine
end

