-- ==== Sys2Proof/Machine/LoadRegion.lean ====
section
/-! DEFINITION. The REGION record (R448, R449, R496): its items, its checks, and what it does. -/

namespace Sys2Proof.Machine

open Sys2Proof

/-- A REGION record that its items spell (R448): ports are numbered as in `State.fabPorts`; borders carry panel, wire, index and
choice; fabric PLLs carry FPLL_CTRL, FPLL_FRAC and FPLL_DIV. -/
structure RegionDef where
  region : Nat
  part : Nat
  group : Nat
  ns : Bool
  panels : List Nat
  groups : List (Nat × Nat) := []
  ctrl : List (Nat × PanelImage) := []
  border : List (Nat × Nat × Nat × Nat) := []
  ports : List (Nat × Nat) := []
  plls : List (Nat × Word × Word × Word) := []
  doms : List (Nat × Nat) := []
  pins : List (Nat × PinRole) := []
  deriving DecidableEq, Repr

/-- Bits `[lo + len - 1 : lo]` of a number. -/
def bitsOf (v lo len : Nat) : Nat := v / 2 ^ lo % 2 ^ len

/-- The items of a REGION body: ITEM and its bytes (R448). -/
def regionItems : Nat → List Byte → Option (List (Nat × List Byte))
  | _, [] => some []
  | 0, _ => none
  | fuel + 1, bs =>
    let n := fieldAt bs 1 3
    if bs.length < 4 ∨ n < 4 ∨ n % 4 ≠ 0 ∨ bs.length < n then none
    else (regionItems fuel (bs.drop n)).map (fun r => (fieldAt bs 0 1, bytesAt bs 4 (n - 4)) :: r)

/-- Entries of `k` bytes; none where the bytes do not divide. -/
def entriesOf (k : Nat) (bs : List Byte) : Option (List (List Byte)) :=
  if bs.length % k = 0 then some ((List.range (bs.length / k)).map (fun i => bytesAt bs (k * i) k)) else none

/-- A word of an entry. -/
def wordAt (bs : List Byte) (i : Nat) : Nat := fieldAt bs (4 * i) 4

/-- Panels of a 72-byte mask (R439). -/
def maskPanels (bs : List Byte) : List Nat := (List.range 576).filter (fun p => bitOf (fieldAt bs (p / 8) 1) (p % 8))

/-- The entries of a CLOCKS item (R448). -/
def clockEntries : Nat → List Byte → Option (List (Nat × Word × Word × Word) × List (Nat × Nat))
  | _, [] => some ([], [])
  | 0, _ => none
  | fuel + 1, bs =>
    let w := wordAt bs 0
    if w % 256 = 1 then
      if bs.length < 16 then none
      else (clockEntries fuel (bs.drop 16)).map (fun r =>
        ((bitsOf w 8 5, BitVec.ofNat 32 (wordAt bs 1), BitVec.ofNat 32 (wordAt bs 2), BitVec.ofNat 32 (wordAt bs 3)) :: r.1, r.2))
    else if w % 256 = 2 then
      if bs.length < 4 then none
      else (clockEntries fuel (bs.drop 4)).map (fun r => (r.1, (bitsOf w 8 8, bitsOf w 16 8) :: r.2))
    else none

/-- A PANEL_CTRL entry (R448). -/
def ctrlEntry (e : List Byte) : Nat × PanelImage :=
  let w := wordAt e 1
  (bitsOf (wordAt e 0) 0 10, { late := bitsOf w 0 1, defer := bitsOf w 8 8, cool := bitsOf w 16 3, coolValid := bitOf w 19, ctxDefer := bitsOf w 24 8 })

/-- A PORTS entry (R448): ports above 127 do not exist. -/
def portEntry (e : List Byte) : Nat × Nat :=
  let w := wordAt e 0
  (if bitOf w 7 then 100 + bitsOf w 0 7 else bitsOf w 0 7, bitsOf w 16 10)

/-- A PINS entry of region `r` (R496). -/
def pinEntry (r : Nat) (e : List Byte) : Nat × PinRole :=
  let w := wordAt e 0
  (bitsOf w 0 10, ⟨r, bitsOf w 17 2, bitsOf w 10 7, bitsOf w 19 10⟩)

/-- One item joins the definition (R448). -/
def addItem (d : RegionDef) (it : Nat × List Byte) : Option RegionDef :=
  match it.1 with
  | 1 => if it.2.length = 72 ∧ d.panels = [] ∧ maskPanels it.2 ≠ [] then some { d with panels := maskPanels it.2 } else none
  | 2 => (entriesOf 4 it.2).map (fun es => { d with groups := d.groups ++ es.map (fun e => (bitsOf (wordAt e 0) 0 10, bitsOf (wordAt e 0) 16 8)) })
  | 3 => (entriesOf 8 it.2).map (fun es => { d with ctrl := d.ctrl ++ es.map ctrlEntry })
  | 4 => (entriesOf 4 it.2).map (fun es => { d with border := d.border ++ es.map (fun e =>
      let w := wordAt e 0
      (bitsOf w 0 10, bitsOf w 10 4, bitsOf w 14 11, bitsOf w 25 2)) })
  | 5 => (entriesOf 4 it.2).map (fun es => { d with ports := d.ports ++ es.map portEntry })
  | 6 => (clockEntries (it.2.length + 1) it.2).map (fun c => { d with plls := d.plls ++ c.1, doms := d.doms ++ c.2 })
  | 7 => (entriesOf 4 it.2).map (fun es => { d with pins := d.pins ++ es.map (pinEntry d.region) })
  | _ => none

/-- The definition that a REGION body spells (R448). -/
def parseRegion (body : List Byte) : Option RegionDef :=
  let w := wordAt body 0
  let d : RegionDef := { region := bitsOf w 0 6, part := bitsOf w 8 3, group := bitsOf w 16 5, ns := bitOf w 24, panels := [] }
  match regionItems (body.length + 1) (body.drop 4) with
  | none => none
  | some its =>
    match its.foldl (fun d it => d.bind (fun d => addItem d it)) (some d) with
    | some d => if d.panels = [] then none else some d
    | none => none

/-! ### Checks -/

/-- INDEX range of a WIRE code (R448). -/
def wireRange (w : Nat) : Nat := if w < 4 then 1024 else if w < 8 then 256 else if w = 8 then 1024 else if w = 9 then 64 else 0

/-- The register takes the value (R4, R7, R8). -/
def State.regTakes (s : State) (pg off : Nat) (v : Word) : Bool :=
  match pageOf pg with
  | some (k, i) => valueAccepted (rowsAt k i off) false (s.reg (pg * 4096 + off)) v
  | none => false

/-- Registers of fabric PLL `p`. -/
def pllRegs (p : Nat) : List Nat := [(FPLL_CTRL.ENABLE.at (p % 12)).off, (FPLL_FRAC.FRAC.at (p % 12)).off, (FPLL_DIV.D0.at (p % 12)).off]

/-- The settings of a PLL entry are in force. -/
def State.pllIs (s : State) (e : Nat × Word × Word × Word) : Bool :=
  (pllRegs e.1).map (fun o => s.reg (pgPll e.1 * 4096 + o)) == [e.2.1, e.2.2.1, e.2.2.2]

/-- They are written; a PLL whose settings change searches for lock again (R403). -/
def State.setPll (s : State) (e : Nat × Word × Word × Word) : State :=
  if s.pllIs e then s
  else
    let s := ((pllRegs e.1).zip [e.2.1, e.2.2.1, e.2.2.2]).foldl (fun s x => s.setReg (pgPll e.1 * 4096 + x.1) x.2) s
    s.wrPll e.1 FPLL_STATUS.LOCKED 0

/-- The CLOCKS entries lie in the ranges of their registers (R403, R404, R448). -/
def State.clocksSound (s : State) (d : RegionDef) : Bool :=
  d.plls.all (fun e => e.1 < 24 && getF e.2.1 0 1 == 1 &&
    ((pllRegs e.1).zip [e.2.1, e.2.2.1, e.2.2.2]).all (fun x => s.regTakes (pgPll e.1) x.1 x.2)) &&
  (let t := d.plls.foldl State.setPll s
   d.plls.all (fun e => t.fpllInRange e.1) &&
   d.doms.all (fun e => e.1 < 144 && (e.2 == 0 || e.2 == 1 || (isFpllOutput e.2 && t.outputSlowEnough e.2))))

/-- The pin is named in an OUT, OE or BRIDLE entry of a defined region other than `r` (R496). -/
def State.ownedElsewhere (s : State) (r n : Nat) : Bool :=
  (s.pin n).roles.any (fun x => x.role != 0 && x.region != r && s.regionDefined x.region)

/-- The PINS entries hold (R496). -/
def State.pinsSound (s : State) (d : RegionDef) : Bool :=
  let slots := (d.pins.filter (fun e => e.2.role != 3)).map (fun e => (e.2.panel, e.2.slot))
  let named := (d.pins.filter (fun e => e.2.role != 0)).map (fun e => (e.1, e.2.role))
  slots == slots.eraseDups && named == named.eraseDups &&
  d.pins.all (fun e => e.1 < 624 && e.2.slot < 96 && d.panels.contains e.2.panel &&
    (e.2.role != 3 || (isPrec e.1 && e.2.slot == 0)) && (e.2.role == 0 || !s.ownedElsewhere d.region e.1))

/-- The port number exists (R448). -/
def portExists (n : Nat) : Bool := (26 ≤ n && n < 90) || (136 ≤ n && n < 200)

/-- The checks of R448. -/
def State.regionSound (s : State) (d : RegionDef) : Bool :=
  let other (p : Nat) : Bool := (s.panel p).region.any (fun r => r != d.region && s.regionDefined r)
  d.panels.all (fun p => s.load.hdr.any (fun h => h.panels.getLsbD p) && !other p) &&
  d.groups.all (fun e => d.panels.contains e.1 &&
    (s.members e.2).all (fun q => d.panels.contains q || (s.panel q).region == some d.region)) &&
  d.ctrl.all (fun e => d.panels.contains e.1 && e.2.defer != 0 && e.2.ctxDefer != 0) &&
  d.border.all (fun e => d.panels.contains e.1 && e.2.2.1 < wireRange e.2.1 && e.2.2.2 != 0) &&
  d.ports.all (fun e => portExists e.1 && d.panels.contains e.2 &&
    (match (mget (fun _ => ({} : FabPort)) s.fabPorts e.1).panel with
     | some q => d.panels.contains q || !other q
     | none => true)) &&
  s.clocksSound d && s.pinsSound d

/-! ### What the record does (R449) -/

/-- A fabric domain serves a panel of another committed region (R449). -/
def State.domServesOther (s : State) (r i : Nat) : Bool :=
  (List.range 576).any (fun p => clockRegion p == i && (s.panel p).region != some r && s.committed p)

/-- A PLL or domain of the item already serves another committed region with different settings (R449). -/
def State.clockConflict (s : State) (d : RegionDef) : Bool :=
  d.plls.any (fun e => !s.pllIs e && (List.range 144).any (fun i =>
    codeSource (s.rdDom i CLK_DOM_SEL.SRC) == some (8 + e.1) && s.domServesOther d.region i)) ||
  d.doms.any (fun e => s.rdDom e.1 CLK_DOM_SEL.SRC != e.2 && s.domServesOther d.region e.1)

/-- The settings of the CLOCKS item are written (R449). -/
def State.writeClocks (s : State) (d : RegionDef) : State :=
  let s := d.plls.foldl State.setPll s
  d.doms.foldl (fun s e =>
    (((s.wrDom e.1 CLK_DOM_SEL.SRC e.2).wrDom e.1 CLK_DOM_SEL.ARM 0).wrDom e.1 CLK_DOM_SWITCH.FAILOVER 0).startSwitch e.1) s

/-- Panel `p` is in no group. -/
def State.clearMembers (s : State) (p : Nat) : State :=
  (List.range 8).foldl (fun s i => s.wr (pgPanel p) (PANEL_GROUP.MEMBER.at i) 0) s

/-- Panel `p` leaves its region: no groups, no settings, no hold choices (R449). -/
def State.clearPanelDef (s : State) (p : Nat) : State :=
  let s := s.clearMembers p
  (s.rechoose p []).setPanel p { (s.rechoose p []).panel p with region := none, image := {}, portsNs := false }

/-- The PLANE_MASK slots of panel `p` become invalid, and its shadow EMPTY (R449, R451). -/
def State.invalidatePanel (s : State) (planes p : Nat) : State :=
  ((List.range 8).filter (bitOf planes)).foldl (fun s n => s.invalidateSlot p n) (s.wr (pgPanel p) PANEL_PLANE_STATE.SHADOW_STATE shEmpty)

/-- A panel takes its entries (R448). -/
def State.setPanelDef (s : State) (d : RegionDef) (p : Nat) : State :=
  let s := (d.groups.filter (fun e => e.1 == p)).foldl (fun s e =>
    let f := PANEL_GROUP.MEMBER.at (e.2 / 32)
    s.wr (pgPanel p) f (putBit (s.rd (pgPanel p) f) (e.2 % 32) true)) s
  let image := ((d.ctrl.filter (fun e => e.1 == p)).getLast?.map (·.2)).getD {}
  let border := (d.border.filter (fun e => e.1 == p)).foldl (fun m e =>
    let c := e.2.2.2
    nset m (1024 * e.2.1 + e.2.2.1) (if c = 1 then 0 else c)) []
  let s := s.rechoose p border
  s.setPanel p { s.panel p with region := some d.region, image := image, portsNs := d.ns }

/-- Pins that the region no longer names lose their owner (R496). -/
def State.settlePins (s : State) (named : List Nat) : State :=
  named.foldl (fun s n => if (s.pin n).roles.any (fun x => x.role != 0 && s.regionDefined x.region) then s else s.wrPin n FIO_PIN_CFG.OWNER 0) s

/-- Pins with an entry of region `r`. -/
def State.regionPins (s : State) (r : Nat) : List Nat := (List.range 624).filter (fun n => (s.pin n).roles.any (fun x => x.region == r))

/-- The definition of a region is written (R61, R448, R449). -/
def State.defineRegion (s : State) (d : RegionDef) : State :=
  let r := d.region
  let old := s.regionPanels r
  let replaced := s.regionDefined r
  let planes := (s.load.hdr.map (·.planes)).getD 0
  let oldPins := s.regionPins r
  let s0 := s
  let s := if s.regionCommitted r || old.any s.load.edges.contains then s.parkRegion r else s
  let s := (old.filter (fun p => !d.panels.contains p)).foldl State.clearPanelDef s
  let s := (d.panels.filter old.contains).foldl State.clearMembers s
  let s := d.panels.foldl (fun s p => s.setPanelDef d p) s
  let s := if replaced then (old ++ d.panels).eraseDups.foldl (fun s p => s.invalidatePanel planes p) s else s
  let ports := s.fabPorts.filter (fun e => !e.2.panel.any old.contains)
  let s := { s with fabPorts := d.ports.foldl (fun (m : SMap FabPort) (e : Nat × Nat) => mset (fun _ => ({} : FabPort)) m e.1 ⟨some e.2, !d.ns⟩) ports }
  let s := oldPins.foldl (fun s n => s.setPin n { s.pin n with roles := (s.pin n).roles.filter (fun x => x.region != r) }) s
  let s := d.pins.foldl (fun s e => s.setPin e.1 { s.pin e.1 with roles := (s.pin e.1).roles ++ [e.2] }) s
  let s := (s.wr pgReset (REGION_MAP.DEFINED.at r) 1).wr pgReset (REGION_MAP.COMMITTED.at r) 0
  let s := (s.wr pgReset (REGION_MAP.GROUP.at r) d.group).wr pgReset (REGION_MAP.PARTITION.at r) d.part
  let s := ((old ++ d.panels).map colOf).eraseDups.foldl (fun t c => t.splitHolds s0 c) s
  let s := s.settlePins oldPins
  let clash := s.clockConflict d
  let s := if clash then s else s.writeClocks d
  let x := s.load
  { s with load := { x with
    defined := if x.defined.contains r then x.defined else x.defined ++ [r]
    parked := if x.parked.contains r then x.parked else x.parked ++ [r]
    noClock := if clash then (if x.noClock.contains r then x.noClock else x.noClock ++ [r]) else x.noClock.filter (· != r)
    regDigests := lset x.regDigests r (x.digest.getD []) } }

/-- A REGION record (R448, R449); none where it is a stream error. -/
def State.regionRecord (s : State) (body : List Byte) : Option State :=
  match parseRegion body with
  | none => none
  | some d =>
    if s.regionSound d = false then none
    else if s.regionCommitted d.region ∧ lget s.load.regDigests d.region = s.load.digest then
      some { s with load := { s.load with defined := if s.load.defined.contains d.region then s.load.defined else s.load.defined ++ [d.region] } }
    else some (s.defineRegion d)

end Sys2Proof.Machine
end

