-- ==== Sys2Proof/Machine/Load.lean ====
section
/-! DEFINITION. Meanings of chapter 18's commands. -/

namespace Sys2Proof.Machine

open Sys2Proof

/-! ### Commands of the LOAD page (R455, R462) -/

/-- A START past the access checks (R437, R455): rejected in HEADER, STREAM and HALTED, and with no host bytes. -/
def State.loadStartBody (s : State) : Option State :=
  if s.attempting = true ∨ s.loadState = ldHalted ∨ (s.rd pgLoad LOAD_CTRL.SRC = 1 ∧ s.rd pgLoad LOAD_HOST_LEN.BYTES = 0) then none
  else some (s.wr pgLoad LOAD_BACKOFF.MS 10).startAttempt

/-- A write of LOAD_CMD past the access checks. -/
def loadCmdBody (v : Word) (s : State) : Option State :=
  match getF v 0 2 with
  | 1 => s.loadStartBody
  | 2 => some s.abortLoad
  | _ => none

/-- LOAD_START (R455). -/
def execLoadStart (a : Access) (s : State) : Host.Outcome State Fault Refusal :=
  .next (s.gatedWrite a pgLoad LOAD_CMD.OP.off 1 (loadCmdBody 1))

/-- LOAD_ABORT (R455). -/
def execLoadAbort (a : Access) (s : State) : Host.Outcome State Fault Refusal :=
  .next (s.gatedWrite a pgLoad LOAD_CMD.OP.off 2 (loadCmdBody 2))

/-- BOOT_ATTEMPT (R461, R464): after the census of a P or C reset the first attempt starts. -/
def execBootAttempt (s : State) : Host.Outcome State Fault Refusal :=
  .next (if s.on pgReady READY_SUM.CENSUS && !s.on pgReady READY_SUM.LOAD_STARTED then s.startAttempt.reachStage READY_SUM.LOAD_STARTED
         else s)

/-! ### The header and the segments (R439 to R442, R456) -/

/-- The source runs out at byte `n` (R437). -/
def State.sourceEnds (s : State) (n : Nat) : Bool := s.load.src == 1 && s.rd pgLoad LOAD_HOST_LEN.BYTES < n

/-- The header has passed: the attempt streams, from segment APPLIED + 1 where the digest is that of the last attempt (R456), which
LEGACY rules out (R458). Regions defined under that digest count as defined by this attempt; a resumed image that was applied whole is
at its end. -/
def State.headerPassed (s : State) (h : ImgHeader) (dig : List Byte) (version : Nat) : State :=
  let same := s.load.digest == some dig && !s.loadLegacy
  let mine := (List.range 64).filter (fun r => s.regionDefined r && lget s.load.regDigests r == some dig)
  let s := if same then s else s.wr pgLoad LOAD_PROGRESS.APPLIED 0
  let x := { s.load with
    hdr := some h, digest := some dig, seg := s.rd pgLoad LOAD_PROGRESS.APPLIED
    defined := if same then mine else []
    parked := if same then mine.filter (fun r => !s.regionCommitted r) else [] }
  let s := ({ s with load := x }.wr pgLoad LOAD_PROGRESS.SEGS h.segs).wr pgLoad LOAD_IMAGE_VERSION.VERSION version
  let s := s.setLoadState ldStream
  if s.load.seg = h.segs then s.finishLoad else s

/-- The header and the tag table, `bs` (R440). -/
def State.checkHeader (s : State) (bs : List Byte) : State :=
  let h := bs.take 512
  if s.sourceEnds 512 then s.failLoad lrStream
  else if h.length < 512 then s
  else
    let s := { s with load := { s.load with since := s.ns } }
    match s.headerFault h with
    | some code => s.failLoad code
    | none =>
      let segs := fieldAt h 0x14 4
      if s.sourceEnds (512 + 16 * segs) then s.failLoad lrStream
      else if bs.length < 512 + 16 * segs then s
      else
        let dig := imageDigest bs segs
        if Config.ecdsaVerify (bytesAt h 0x100 96) dig (bytesAt h 0x1A0 96) then s.headerPassed (parseHeader bs) dig (fieldAt h 0xC 4)
        else s.failLoad lrBadSignature

/-- A piece of the image passes the loader (R395). -/
def State.passBlock (s : State) (off : Nat) (bytes : List Byte) : State :=
  { s with load := { s.load with blocks := s.load.blocks ++ [(off, bytes)] } }

/-- HEADER_CHECK (R436, R440): `sfdp` says whether both flash devices gave a valid SFDP header; `bytes` is what a FLASH or HOST source
gave. A HUB source gives what LOAD_STREAM has received. -/
def execHeaderCheck (sfdp : Bool) (bytes : List Byte) (s : State) : Host.Outcome State Fault Refusal :=
  .next
    (if s.loadState ≠ ldHeader then s
     else if s.load.src = 0 ∧ sfdp = false then s.failLoad lrNoSource
     else if s.load.src = 2 then s.checkHeader s.load.stream
     else (s.passBlock 0 bytes).checkHeader bytes)

/-- The next segment, `bytes` (R441). -/
def State.takeSegment (s : State) (h : ImgHeader) (bytes : List Byte) : State :=
  let i := s.load.seg + 1
  let pl := h.segPlace i
  let c := if s.load.src = 2 then bytesAt s.load.stream pl.1 pl.2 else bytes
  if s.sourceEnds (pl.1 + pl.2) then s.failLoad lrStream
  else if c.length ≠ pl.2 then s
  else
    let s := if s.load.src = 2 then s else s.passBlock pl.1 c
    match (s.rootKey h.ksrc).bind (fun k => h.openSeg k i c) with
    | some p => { s with load := { s.load with seg := i, buf := p, addr := none, dict := [], since := s.ns } }
    | none => s.failLoad lrBadTag

/-- SEGMENT_VERIFY (R441, R442): the next segment is decrypted once every record of the one before it has been applied. What is left of
a plaintext and is no record is a stream error. -/
def execSegmentVerify (bytes : List Byte) (s : State) : Host.Outcome State Fault Refusal :=
  .next
    (match s.load.hdr with
     | none => s
     | some h =>
       if s.loadState ≠ ldStream then s
       else
         match loadFront s.load.buf with
         | .empty => s.takeSegment h bytes
         | .bad => s.failLoad lrStream
         | .record _ _ _ => s)

/-- LOAD_IDLE_TIMEOUT (R454). -/
def execLoadIdleTimeout (s : State) : Host.Outcome State Fault Refusal :=
  .next (if s.attempting && s.ns - s.load.since ≥ 1000000 * s.rd pgLoad LOAD_IDLE_TIMEOUT.MS then s.failLoad lrIdle else s)

/-- LOAD_BACKOFF_EXPIRY (R455): a HOST or HUB attempt falls back to flash slot A where FLASH_FALLBACK = 1. -/
def execLoadBackoffExpiry (s : State) : Host.Outcome State Fault Refusal :=
  .next
    (if s.loadState = ldBackoff ∧ s.ns - s.load.since ≥ 1000000 * s.load.wait then
       let s := if s.load.src ≠ 0 ∧ s.on pgLoad LOAD_CTRL.FLASH_FALLBACK = true then
                  { s.wr pgLoad LOAD_CTRL.SRC 0 with load := { s.load with nextFlash := 0 } }
                else s
       s.startAttempt
     else s)

/-! ### Flock (R438) -/

/-- Image bytes written to LOAD_STREAM at page offset `off`, past the access checks (R438): from the hub port's Tether initiator alone.
Bytes that do not continue the stream end the attempt. -/
def loadStreamBody (who : Who) (off : Nat) (bs : List Byte) (s : State) : Option State :=
  if s.rd pgLoad LOAD_CTRL.SRC ≠ 2 ∨ whoInit who ≠ 11 + s.rd pgLoad LOAD_CTRL.HUB_PORT then none
  else if s.attempting = false ∨ s.load.src ≠ 2 then some s
  else if off ≠ 0x200 + s.load.stream.length % 512 then some (s.failLoad lrStream)
  else some { s with load := { s.load with stream := s.load.stream ++ bs, since := s.ns } }

/-- LOAD_STREAM_WRITE (R438): whole words at page offset `off`. -/
def execLoadStreamWrite (a : Access) (off : Nat) (words : List Word) (s : State) : Host.Outcome State Fault Refusal :=
  let bs := words.flatMap (fun w => bytesLE 4 w.toNat)
  guardUnit (0x200 ≤ off && off + 4 * words.length ≤ 0x400 && off % 4 == 0) (s.gatedWrite a pgLoad off 0 (loadStreamBody a.who off bs))

/-- `bytes` are those of the image from byte `n` on, as far as this loader knows them (R395): a HUB source has received them, and every
piece that another source has given agrees with them. -/
def State.imageHas (s : State) (n : Nat) (bytes : List Byte) : Bool :=
  if s.rd pgLoad LOAD_CTRL.SRC = 2 then (s.load.stream.drop n).take bytes.length == bytes
  else s.load.blocks.all (fun b =>
    let lo := max n b.1
    let hi := min (n + bytes.length) (b.1 + b.2.length)
    hi ≤ lo || (bytes.drop (lo - n)).take (hi - lo) == (b.2.drop (lo - b.1)).take (hi - lo))

/-- Port `p` is to get flock images and has not stopped (R395, R438). -/
def State.flocks (s : State) (p : Nat) : Bool := s.on (pgTether p) TETHER_CTRL.FLOCK && !s.load.noForward.contains p

/-- FLOCK_FORWARD (R395, R438): the next bytes of the image go to every port with FLOCK = 1, whether or not the loader loads them.
`answers` are the codes that the partners answer, and a port that answers other than OK gets no more of this attempt; so does one that is
disabled or DOWN, whose writes are answered NO_ROUTE. While a port is on its way to ACTIVE its write waits (R386), and the row does
nothing. -/
def execFlockForward (bytes : List Byte) (answers : List (Nat × Nat)) (s : State) : Host.Outcome State Fault Refusal :=
  let ports := (List.range 8).filter s.flocks
  let up := ports.filter (fun p => s.portState p == tpActive)
  let bad := ports.filter (fun p => s.portState p != tpActive || answers.any (fun e => e.1 == p && e.2 != 0))
  let x := { s.load with forwarded := s.load.forwarded + bytes.length, noForward := s.load.noForward ++ bad }
  .next
    (if s.imageHas s.load.forwarded bytes = false ∨ ports.any (fun p => s.portState p == tpBringup || s.portState p == tpWaiting) = true then s
     else { s with load := x, out := s.out ++ up.map (fun p => OutMsg.flock p (0x200 + s.load.forwarded % 512) bytes) })

/-! ### Records (R444, R447, R452) -/

/-- SET_ADDR (R444). -/
def execSetAddr (s : State) : Host.Outcome State Fault Refusal :=
  .next (s.applyRecord 1 (fun s b =>
    if allZero (b.drop 4) then some { s with load := { s.load with addr := some (fieldAt b 0 4 % 2 ^ 20) } } else none))

/-- LITERAL (R444 to R446). -/
def execLiteral (s : State) : Host.Outcome State Fault Refusal :=
  .next (s.applyRecord 2 (fun s b =>
    let n := fieldAt b 0 2
    match s.load.addr, decodeExact (576 * n) (b.drop 4) with
    | some a, some d =>
      if n = 0 then none
      else (s.writeFrames a (framesOf n d)).map (fun s => { s with load := { s.load with addr := some ((a + n) % 2 ^ 20) } })
    | _, _ => none))

/-- DICT_DEFINE (R444). -/
def execDictDefine (s : State) : Host.Outcome State Fault Refusal :=
  .next (s.applyRecord 3 (fun s b =>
    match decodeExact 576 (b.drop 4) with
    | some d =>
      if 1023 < fieldAt b 0 2 then none
      else some { s with load := { s.load with dict := lset s.load.dict (fieldAt b 0 2) (BitVec.ofNat 4608 (natLE d)) } }
    | none => none))

/-- One frame is written to each of the addresses (R444). -/
def State.writeCopies (s : State) (d : BitVec 4608) : List Nat → Option State
  | [] => some s
  | a :: as =>
    match s.writeFrame a d with
    | some t => t.writeCopies d as
    | none => none

/-- DICT_WRITE (R444). -/
def execDictWrite (s : State) : Host.Outcome State Fault Refusal :=
  .next (s.applyRecord 4 (fun s b =>
    let n := fieldAt b 2 2
    match lget s.load.dict (fieldAt b 0 2) with
    | some d =>
      if n = 0 ∨ b.length < 4 + 4 * n ∨ allZero (b.drop (4 + 4 * n)) = false then none
      else s.writeCopies d ((List.range n).map (fun i => fieldAt b (4 + 4 * i) 4 % 2 ^ 20))
    | none => none))

/-- The quarters of a seed are stored with fresh CRCs (R447, R158). -/
def State.storeSeed (s : State) (c i : Nat) (d : List Byte) (qs : List Nat) : State :=
  qs.zipIdx.foldl (fun s e =>
    let row (k : Nat) : Row := BitVec.ofNat 2048 (natLE (bytesAt d (512 * e.2 + 256 * k) 256))
    (s.storeRow c i (2 * e.1) (row 0)).storeRow c i (2 * e.1 + 1) (row 1)) s

/-- A CONTEXT_SEED record (R447). -/
def State.seedRecord (s : State) (b : List Byte) : Option State :=
  let w := fieldAt b 0 4
  let p := bitsOf w 0 10
  let t := bitsOf w 12 2
  let i := bitsOf w 16 8
  let qs := quartersOf (bitsOf w 28 4)
  let allowed := p < 576 && s.load.hdr.any (fun h => h.panels.getLsbD p) && (s.panel p).region.any s.load.parked.contains
  if allowed = false ∨ 1 < t ∨ qs = [] ∨ (t = 0 ∧ s.share p ≤ i) then none
  else
    match decodeExact (512 * qs.length) (b.drop 4) with
    | some d => some (s.storeSeed (colOf p) (if t = 0 then s.slotOf p i else fallbackSlot p) d qs)
    | none => none

/-- CONTEXT_SEED (R447). -/
def execContextSeed (s : State) : Host.Outcome State Fault Refusal := .next (s.applyRecord 5 State.seedRecord)

/-- REGION (R448, R449). -/
def execRegion (s : State) : Host.Outcome State Fault Refusal := .next (s.applyRecord 6 State.regionRecord)

/-- REASON of a refused commit of region `r` (R452); 0 where it is accepted. -/
def State.commitRefusal (s : State) (r : Nat) : Nat :=
  let ps := s.regionPanels r
  let dead (p : Nat) : Bool := (List.range 16).any (fun g =>
    bitOf (s.column (colOf p)).deadGroups g && (s.risersOf p).extractLsb' (64 * g) 64 != 0)
  let partner (p : Nat) : Nat := if p < 288 then p + 288 else p - 288
  let meets (p : Nat) : Bool := (s.panel (partner p)).region.any (· != r) && (s.risersOf p &&& s.risersOf (partner p)) != 0
  if s.load.defined.contains r = false ∨ s.regionCommitted r = true ∨ ps.any s.load.edges.contains = true then 6
  else if ps.any (fun p => (s.panel p).grounded != 0) then 1
  else if ps.any dead then 2
  else if ps.any meets then 3
  else if ps.any (fun p => !s.slotValid p 0) then 4
  else if s.load.noClock.contains r then 5
  else 0

/-- A COMMIT record (R452, R453): refused, or delivered to the region's panels. -/
def State.commitRecord (s : State) (b : List Byte) : Option State :=
  let r := fieldAt b 0 4 % 64
  if !allZero (b.drop 4) then none
  else
    let why := s.commitRefusal r
    if why = 0 then
      some { s with load := { s.load with edges := s.load.edges ++ s.regionPanels r, parked := s.load.parked.filter (· != r) } }
    else
      let s := ((s.wr pgLoad LOAD_REFUSE.REGION r).wr pgLoad LOAD_REFUSE.REASON why).wr pgLoad LOAD_REFUSE.VALID 1
      some ((s.wr pgLoad LOAD_STATUS.REFUSED 1).raiseLoad LOAD_EVENT.COMMIT_REFUSED)

/-- COMMIT (R452). -/
def execCommit (s : State) : Host.Outcome State Fault Refusal := .next (s.applyRecord 7 State.commitRecord)

/-- END (R442, R444): it must lie in the last segment, with zeros after it. -/
def execEndRecord (s : State) : Host.Outcome State Fault Refusal :=
  .next
    (if s.loadState ≠ ldStream then s
     else
       match loadFront s.load.buf with
       | .empty => s
       | .bad => s.failLoad lrStream
       | .record t body rest =>
         if t ≠ 8 then s
         else if s.load.hdr.any (fun h => h.segs = s.load.seg) && allZero body && allZero rest then
           (s.wr pgLoad LOAD_PROGRESS.APPLIED s.load.seg).finishLoad
         else s.failLoad lrStream)

/-! ### Commit edges (R453) -/

/-- The image's settings of panel `p` are in force (R150, R453): where `live`, a panel
without a valid COOL slot has no COOL plane. -/
def State.applyImage (s : State) (live : Bool) (p : Nat) : State :=
  let x := (s.panel p).image
  let pg := pgPanel p
  let ok := x.coolValid && (!live || s.slotValid p x.cool && s.slotHeat p x.cool == 0)
  let s := (s.wr pg PANEL_PLANE_CTRL.LATE_POLICY x.late).wr pg PANEL_PLANE_CTRL.DEFER_LIMIT x.defer
  let s := (s.wr pg PANEL_PLANE_CTRL.COOL_PLANE x.cool).wr pg PANEL_PLANE_CTRL.COOL_VALID (bnat ok)
  s.wr pg PANEL_CTX_CTRL.DEFER_LIMIT x.ctxDefer

/-- Committing a region sets the owners of its pins (R496). -/
def State.ownPins (s : State) (r : Nat) : State :=
  (s.regionPins r).foldl (fun s n =>
    let roles := (s.pin n).roles.filter (fun x => x.region == r)
    if roles.any (fun x => x.role == 3) then s.wrPin n FIO_PIN_CFG.OWNER 2
    else if roles.any (fun x => x.role == 1 || x.role == 2) then s.wrPin n FIO_PIN_CFG.OWNER 1
    else s) s

/-- The commit edge of panel `p` in region `r` (R453). -/
def State.commitEdge (s : State) (p r : Nat) : State :=
  let pg := pgPanel p
  let s := { s with load := { s.load with edges := s.load.edges.filter (· != p) }, firstCommit := true }
  let s := (s.wr pg PANEL_PLANE_STATE.ACTIVE 0).wr pg PANEL_PLANE_STATE.SHADOW_STATE shEmpty
  let s := s.setPanel p { s.panel p with
    upset0 := [], upset1 := [], fillExplicit := false, parked := false, cellsLost := false, quarters := [] }
  let s := ((s.commitContext p).applyImage true p).releaseHold p
  let s := if s.regionCommitted r then s else (s.wr pgReset (REGION_MAP.COMMITTED.at r) 1).ownPins r
  let s := (s.takeOwner p).raiseLoad LOAD_EVENT.COMMIT
  if s.allCommitted then s.reachStage READY_SUM.PLANE0 else s

/-- COMMIT_EDGE (R453): edge t + 3 of the clock of panel `p`; in HOLD and PARK it waits until RUN (R460). A panel grounded since
its COMMIT goes live no more. -/
def execCommitEdge (p : Nat) (s : State) : Host.Outcome State Fault Refusal :=
  guardUnit (p < 576)
    (match (s.panel p).region with
     | some r =>
       if s.load.edges.contains p = false ∨ s.devState ≠ devRun then s
       else if (s.panel p).grounded ≠ 0 then { s with load := { s.load with edges := s.load.edges.filter (· != p) } }
       else s.commitEdge p r
     | none => s)

/-! ### Repair from the source (R459) -/

/-- The slot's source still holds the image that wrote it: `hdr` are the header and tag table read there, `segs` the segments of the
slot's range. -/
def State.sourceGood (s : State) (o : SlotOrigin) (hdr : List Byte) (segs : List (List Byte)) : Bool :=
  let h := parseHeader hdr
  o.src != 2 && (o.src == 0 || o.base == s.rd pgLoad LOAD_HOST_BASE_LO.BASE * 4096 + s.rd pgLoad LOAD_HOST_BASE_HI.BASE * 2 ^ 32) &&
  imageDigest hdr h.segs == o.digest && segs.length == o.last + 1 - o.first &&
  segs.zipIdx.all (fun e => ((s.rootKey h.ksrc).bind (fun k => h.openSeg k (o.first + e.2) e.1)).isSome)

/-- SOURCE_REPAIR (R459): the loader re-reads frame `a` for a repair in progress. The tags vouch that it is the frame that wrote the
slot; the scrubber completes the repair (R149). -/
def execSourceRepair (a : Nat) (hdr : List Byte) (segs : List (List Byte)) (s : State) : Host.Outcome State Fault Refusal :=
  let f := s.frame a
  guardUnit (a < 2 ^ 20 && a / 2 ^ 10 % 2 ^ 9 < 288)
    (if f.bad && f.repairing.isSome && s.slotValid (framePanel a) (frameSlot a) &&
        s.sourceGood (s.origin (framePanel a) (frameSlot a)) hdr segs then s.setFrame a { f with fromSource := true }
     else s)

/-! ### Key RAM (R462) -/

/-- The key that KRAM_DATA holds. -/
def State.kramData (s : State) : List Word := (List.range 8).map (fun w => s.reg (pgLoad * 4096 + (KRAM_DATA.KEY.at w).off))

/-- A write of KRAM_CMD past the access checks: WRITE is rejected without VBAT, and clears KRAM_DATA. -/
def kramCmdBody (v : Word) (s : State) : Option State :=
  let k := getF v 0 1
  match getF v 4 2 with
  | 1 =>
    if s.vbat then
      some ((List.range 8).foldl (fun t w => t.setReg (pgLoad * 4096 + (KRAM_DATA.KEY.at w).off) 0)
        { s with kram := lset s.kram k s.kramData })
    else none
  | 2 => some { s with kram := ldel s.kram k }
  | _ => none

/-- KRAM_WRITE (R462): a write of KRAM_CMD with OP = 1. -/
def execKramWrite (a : Access) (slot : Bool) (s : State) : Host.Outcome State Fault Refusal :=
  let v := BitVec.ofNat 32 (16 + bnat slot)
  .next (s.gatedWrite a pgLoad KRAM_CMD.SLOT.off v (kramCmdBody v))

/-- KRAM_ERASE (R462): a write of KRAM_CMD with OP = 2. -/
def execKramErase (a : Access) (slot : Bool) (s : State) : Host.Outcome State Fault Refusal :=
  let v := BitVec.ofNat 32 (32 + bnat slot)
  .next (s.gatedWrite a pgLoad KRAM_CMD.SLOT.off v (kramCmdBody v))

end Sys2Proof.Machine
end

