-- ==== Sys2Proof/Machine/RigPackets.lean ====
section
/-! DEFINITION. Packets and flits of the rigging: header layout, classes, injection, responses, and what a node does with a packet that
has no route (R290 to R295). -/

namespace Sys2Proof.Machine

open Sys2Proof

/-! ### Status codes (R293) -/

/-- Status codes of R293 beyond the bank codes. -/
def rcDecode : Nat := 8
def rcWorld : Nat := 9
def rcDomainOff : Nat := 10
def rcResetAbort : Nat := 11
def rcBusyReset : Nat := 12
def rcNoRoute : Nat := 13
def rcTimeout : Nat := 14

/-- The completion of a transaction of initiator `i` with status `code`: through PCI Express for the host's (R42, R267). -/
def rigStatus (i code : Nat) : BusStatus :=
  if i = 4 then bankStatus (.pf 0) code else if code = 0 then .ok else .code code

/-! ### The header (R291) -/

/-- The 256 bits of the header flit. -/
def Packet.header (p : Packet) : Nat :=
  p.dstNode % 128 + p.dstPort % 8 * 2 ^ 7 + p.dstDev % 64 * 2 ^ 10 + p.srcInit % 128 * 2 ^ 16 + p.srcDev % 64 * 2 ^ 23 +
  p.tag % 64 * 2 ^ 29 + p.gen % 4 * 2 ^ 35 + p.opc % 16 * 2 ^ 37 + p.epoch % 2 * 2 ^ 41 + bnat p.ns * 2 ^ 42 +
  p.bytes % 1024 * 2 ^ 43 + p.status % 16 * 2 ^ 53 + p.la % 8 * 2 ^ 57 + p.addr % 2 ^ 64 * 2 ^ 64 +
  (if p.carried ≤ 16 then natLE (p.data.take p.carried) * 2 ^ 128 else 0)

/-- A field of a header. -/
def hdrField (h lo len : Nat) : Nat := h / 2 ^ lo % 2 ^ len

/-! ### Slots (R290, R379) -/

/-- The slot of one flit: DATA, CHECK, VALID and CLASS. -/
def makeSlot (data check cls : Nat) : Slot := BitVec.ofNat 272 (data % 2 ^ 256 + check % 2 ^ 10 * 2 ^ 256 + 2 ^ 266 + cls % 4 * 2 ^ 267)

def Slot.check (x : Slot) : Nat := x.toNat / 2 ^ 256 % 2 ^ 10
def Slot.data (x : Slot) : Nat := x.toNat % 2 ^ 256
def Slot.valid (x : Slot) : Bool := x.getLsbD 266
def Slot.cls (x : Slot) : Nat := x.toNat / 2 ^ 267 % 4

/-- CHECK of a flit: the SECDED code over its DATA (R290, R294), which the spec does not give. -/
def checkOf (data : Nat) : Nat := (Config.secded (BitVec.ofNat 256 data)).toNat

/-- Pieces of `n` bytes. -/
def pieces (n : Nat) : Nat → List Byte → List (List Byte)
  | 0, _ => []
  | k + 1, bs => bs.take n :: pieces n k (bs.drop n)

/-- DATA of the flits of a packet, its header first (R291, R292). -/
def Packet.flitData (p : Packet) : List Nat := p.header :: (pieces 32 p.payloadFlits (p.data.take p.carried)).map natLE

/-- The slot of the `k`-th flit of a packet. CHECK of a payload flit travels unchanged (R298, R379); that of a header is its code. -/
def Packet.slot (p : Packet) (k : Nat) : Slot :=
  let d := p.flitData.getD k 0
  makeSlot d ((lget p.checks k).getD (checkOf d)) p.cls

/-- The slots of a packet. -/
def Packet.slots (p : Packet) : List Slot := (List.range p.flits).map p.slot

/-! ### Routes and injection (R291, R295, R301) -/

/-- The table entry that a destination uses at a device. -/
def State.entryOf (s : State) (dev node : Nat) : Nat := if dev = s.devNumber then node else 128 + dev

/-- The output for a packet at node `n`. -/
def State.routePort (s : State) (n : Nat) (p : Packet) : Nat := s.route n p.epoch (s.entryOf p.dstDev p.dstNode) % 8

/-- A packet enters the network at its node; the first LA_PORT comes from the node's own table (R295). -/
def State.inject (s : State) (p : Packet) : State :=
  { s with rig := { s.rig with packets := s.rig.packets ++ [{ p with la := s.routePort p.node p, inj := s.ns, arr := s.rig.arrivals }]
                               arrivals := s.rig.arrivals + 1 } }

/-- The response to a request, from node `n`: it carries TAG, GEN, SRC_INIT, SRC_DEV and ADDR, and returns to the node and port of
SRC_INIT (R291). -/
def responseOf (q : Packet) (n status : Nat) (data : List Byte) : Packet :=
  { q with node := n, la := 7, dstNode := (initPlace q.srcInit).1, dstPort := (initPlace q.srcInit).2, dstDev := q.srcDev
           opc := if q.opc = opRd then opRdResp else opWrResp, status := status, data := data, pass := .fresh, spoiled := false, inPort := 6, trail := []
           got := 0, crossed := [], ingress := none, checks := [] }

/-- A request. -/
def Packet.isRequest (p : Packet) : Bool := p.opc == opRd || p.opc == opWr

/-- A packet leaves the list, and its buffers are free. -/
def State.dropPacket (s : State) (p : Packet) : State := (s.owe (p.dues (fun _ => true))).setPackets (s.rig.packets.erase p)

/-- A node cannot forward a packet (R295): a request is answered NO_ROUTE, another is discarded. -/
def State.noRoute (s : State) (n : Nat) (p : Packet) : State :=
  let s := ((s.dropPacket p).inc (pgNode n) RIGN_NO_ROUTE.COUNT).raiseRig RIG_EVENT.NO_ROUTE
  if p.isRequest then s.inject (responseOf p n rcNoRoute []) else s

/-- The target at a node and local port. -/
def targetAt (node port : Nat) : Option Nat := (List.range 156).find? (fun t => targetPlace t == (node, port))

end Sys2Proof.Machine
end

