-- ==== Sys2Proof/Machine/ResetOps.lean ====
section
/-! DEFINITION. Function, partition, warm and cold resets (R5, R48, R60, R467 to R472, and the reset rules of each chapter). -/

namespace Sys2Proof.Machine

open Sys2Proof

/-! ### Scopes -/

def isIntc (k : PageKind) : Bool := k = .intc0 || k = .intc1 || k = .intcT

/-- Page `q` holds registers that a function reset of page `pg` returns (R48, R348, R470): the page itself; all four pages and the
sources for the interrupt controller; the windows of registers that the page shows through a selector. -/
def resetScope (pg q : Nat) : Bool :=
  match pageOf pg, pageOf q with
  | some (k, _), some (kq, _) =>
    if isIntc k then isIntc kq || kq == .winSrc
    else q == pg ||
      (match kq with
       | .winRig => k == .rigHead
       | .winFray => k == .fray
       | .winRail => k == .pwrMon
       | .winMirror | .winBankLog => k == .ballast
       | _ => false)
  | _, _ => false

/-- A Keel block (R307): neither on the upper dies nor a device-wide register page. A reset of the RIGGING pages leaves traffic alone. -/
def isKeel (k : PageKind) : Bool :=
  match k with
  | .ident | .world | .reset | .ready | .ballast | .sailHead | .sparCtl | .tile | .panel | .sparBlk | .winMirror | .winBankLog
  | .rigHead | .node | .winRig => false
  | _ => true

/-- Pages whose PAGE_COMPAT.LEGACY exists (R62). -/
def legacyPages : List Nat := [pgLoad, pgIntc 0, pgEngine 0, pgEngine 1, pgEngine 2, pgEngine 3]

/-- LEGACY takes its reset value, the sampled COMPAT_MODE, in those of the pages (R62). -/
def State.legacyReset (s : State) (pages : Nat → Bool) : State :=
  legacyPages.foldl (fun s p => if pages p then s.wr p PAGE_COMPAT.LEGACY (bnat s.straps.compatMode) else s) s

/-- A reset of class F of those pages' registers. -/
def State.clearF (s : State) (pages : Nat → Bool) : State := (s.clearClass 8 pages).legacyReset pages

/-! ### Blocks (R122, R135, R176, R204, R229, R307, R329, R349, R372, R396, R461, R486) -/

/-- Fabric initiator ports have their transactions to the pages answered RESET_ABORT by their shadow trackers (R307); what the block
answers later is discarded. -/
def State.abortFabric (s : State) (pages : Nat → Bool) : State :=
  let mine (p : Packet) : Bool :=
    p.opc != opMsg && 26 ≤ p.srcInit && p.srcDev == s.devNumber && (pageTarget p.target p.addr).any pages
  (s.rig.packets.filter mine).foldl (fun s p =>
    let r := { responseOf p (initPlace p.srcInit).1 rcResetAbort [] with opc := if p.opc == opRd || p.opc == opRdResp then opRdResp else opWrResp }
    (s.dropPacket p).inject r) s

/-- What a reset of panel `p` under W or F discards (R135, R176). -/
def State.quietPanel (s : State) (p : Nat) : State := (s.discardPanelSwitches p).skipPendings p

/-- No doorbell rings for what a reset discards whose counters and event bits it clears (R5): the panel's sources are cleared first. -/
def State.muted (s : State) (p : Nat) : State :=
  (s.wr (pgPanel p) PANEL_PLANE_EVENT_SRC.SOURCE 0).wr (pgPanel p) PANEL_CTX_EVENT_SRC.SOURCE 0

/-- Panel `p` belongs to a defined region, whose REGION record gives its settings (R150). -/
def State.imaged (s : State) (p : Nat) : Bool := (s.panel p).region.any s.regionDefined

/-- F of a panel page (R135, R150, R176, R453): the image's settings come back. -/
def State.resetPanel (s : State) (p : Nat) : State :=
  let s := ((s.muted p).quietPanel p).clearF (· == pgPanel p)
  if s.imaged p then s.applyImage (s.committed p) p else s

/-- A track stops, its marks are disarmed, and its scheduled edges are cancelled and counted (R204, R229). -/
def State.quietTrack (s : State) (k : Nat) : State :=
  let r := s.cancelEdges (fun e => e.track == k)
  let s := if r.2 = 0 then r.1 else (r.1.add pgBridle BRIDLE_OP_DROP_CNT.COUNT r.2).raiseBridle BRIDLE_MEVENT.OP_DROP
  if s.trState k = trDisabled then s.disarm k else s.stopTrack k

/-- The page of a stopped track returns to its reset values, and the track's entry in a valid TRACKS record is applied (R204). The
levels at its decoder and the firings on their way to the queue stay. -/
def State.clearTrack (s : State) (k : Nat) : State :=
  let t := s.track k
  let s := (s.clearF (· == pgTrack k)).setTrack k { ab := t.ab, heldMarks := t.heldMarks, lastEnq := t.lastEnq }
  match s.record recTracks with
  | some b => s.applyTrack b.saved k
  | none => s

/-- Every sync subscription is lost (R391). -/
def State.dropSubs (s : State) : State :=
  { s with bridle := { s.bridle with subs := [] } }.wr (pgTether 0) TETHER_SYNC.SUBS 0

/-- F of the Bridle control page (R209, R229, R391): the subscriptions are lost, queued actions go to the miss log, and every scheduled edge is cancelled. -/
def State.resetBridle (s : State) : State :=
  let q := s.bridle.queue
  let s := q.foldl (fun s e =>
    let s := s.logMiss e true
    match e.mark with
    | some i => ((s.putMarkBit i mMissed true).putMarkBit i mCommitted false).dropPred i
    | none => s) (s.setQueue [])
  let r := s.cancelEdges (fun _ => true)
  let s := if r.2 = 0 then r.1 else (r.1.add pgBridle BRIDLE_OP_DROP_CNT.COUNT r.2).raiseBridle BRIDLE_MEVENT.OP_DROP
  (s.dropSubs.clearF (· == pgBridle)).releaseTags 6

/-- The row buffer of a column is cleared, and has no holder (R41, R178). -/
def State.emptyBuf (s : State) (c : Nat) : State := s.setColumn c { s.column c with buf := [], holder := none }

/-- F of a tile page (R176, R178): an access to the context store that is in progress ends with OK or is not started; which of the two is
open (log entry 2). -/
def State.resetTile (s : State) (c : Nat) : State :=
  let s := match (s.column c).accCmd with
    | none => s
    | some _ =>
      let f := s.free 1
      let t := f.2.accDone c
      if f.1 = 1 ∧ t.rd (pgTile c) CTX_ACC_STATUS.RESULT = 0 then t
      else (f.2.setColumn c { f.2.column c with accCmd := none }).wr (pgTile c) CTX_ACC_STATUS.BUSY 0
  (s.emptyBuf c).clearF (· == pgTile c)

/-- Every source is IDLE, and every interrupt register is cleared as the class `cls` has it (R349). -/
def State.resetIntc (s : State) (cls : Nat) : State :=
  let idle (a : Nat) (w : Word) : Word :=
    match pageOf (a / 4096) with
    | some (.winSrc, _) => if a % 4096 = SRC_STATE.STATE.off then 0 else w
    | _ => w
  let s := { s with regs := mmap regReset idle s.regs, lastTgt := [], srcSel := [] }
  ((s.clearClass cls (resetScope (pgIntc 0))).legacyReset (· == pgIntc 0)).releaseTags 5

/-- F of a channel: as ABORT, then the fields of its page (R329). -/
def State.resetChannel (s : State) (ch : Nat) : State := (s.disableChan ch).clearF (· == pgChannel ch)

/-- F of an engine: its channels, its page and its tags (R329). -/
def State.resetEngine (s : State) (e : Nat) : State :=
  let s := ((List.range 16).map (· + 16 * e)).foldl State.resetChannel s
  (s.clearF (· == pgEngine e)).releaseTags (7 + e)

/-- F restarts the bring-up of a powered lane, and with it the port that holds it (R372, R396). -/
def State.restartLane (s : State) (l : Nat) : State :=
  if s.rdLane l LANE_STATUS.POWER = 1 then (s.redetect l).laneResetPort l else s

/-- W and F restart an enabled port from DETECT (R396). -/
def State.restartPort (s : State) (p : Nat) : State := if s.portOn p then s.portFromDetect p else s

/-- F of the PCIE page (R529): the link goes down with the lanes of the controller. -/
def State.resetPcie (s : State) : State :=
  ((List.range s.pcieLanes).foldl State.laneReset ({ s.clearF (· == pgPcie) with linkUp := false })).releaseTags 4

/-- What F of page `pg` does (R470). -/
def State.resetBlock (s : State) (pg : Nat) : State :=
  match pageOf pg with
  | some (.panel, p) => s.resetPanel p
  | some (.track, k) => (s.quietTrack k).clearTrack k
  | some (.bridle, _) => s.resetBridle
  | some (.tile, c) => s.resetTile c
  | some (.intc0, _) | some (.intc1, _) | some (.intcT, _) => s.resetIntc 8
  | some (.channel, ch) => s.resetChannel ch
  | some (.engine, e) => s.resetEngine e
  | some (.lane, l) => ((s.wr pg LANE_EVENT_SRC.SOURCE 0).restartLane l).clearF (· == pg)
  | some (.tether, p) => (((s.wr pg TETHER_EVENT_SRC.SOURCE 0).restartPort p).clearF (· == pg)).releaseTags (11 + p)
  | some (.pcie, _) => s.resetPcie
  | some (.load, _) => (s.abortLoad.clearF (· == pg)).releaseTags 1
  | some (.supvMbox, _) => (s.clearF (· == pg)).releaseTags 0
  | some (.sparBlk, c) => (s.clearF (resetScope pg)).unholdRisers s c
  | some (.scrub, _) => (s.clearF (· == pg)).releaseTags 2
  | some (.preflight, _) =>
    let s := s.abortSlices pcSoftware true
    ({ s with pf := { s.pf with starts := [] } }.clearF (· == pg)).releaseTags 3
  | some _ => s.clearF (resetScope pg)
  | none => s

/-- BUSY of the pages of the block (R48, R332). -/
def State.setBusy (s : State) (pg v : Nat) : State :=
  match pageOf pg with
  | some (k, _) =>
    if isIntc k then (List.range 4).foldl (fun s i => s.wr (pgIntc i) PAGE_RESET.BUSY v) s else s.wr pg PAGE_RESET.BUSY v
  | none => s

/-- A function reset of the block of page `pg` starts (R48, R307, R470). -/
def State.startReset (s : State) (pg : Nat) : State :=
  let keel := match pageOf pg with
    | some (k, _) => isKeel k
    | none => false
  let s := if keel then s.abortFabric (resetScope pg) else s
  (s.resetBlock pg).setBusy pg 1

/-! ### Partitions (R60, R349, R470) -/

/-- Panel and channel pages of partition `n`. -/
def State.partitionPages (s : State) (n : Nat) : List Nat :=
  ((List.range 576).filter (fun p => s.panelInPart p n)).map pgPanel ++
  ((List.range 64).filter (fun c => s.rdCh c CH_PART.PART == n)).map pgChannel

/-- A target of the partition acts as if disabled, and its fields cleared by F return (R347, R349). -/
def State.resetTarget (s : State) (t : Nat) : State :=
  let s := s.releaseTarget t
  let base := pgTgt t * 4096
  let clear (s : State) (f : Fld) : State :=
    let a := base + (tgtFld f t).off
    s.setReg a (clearWord 8 a (s.reg a))
  [TGT_CTRL.ENABLE, TGT_CPR.CPR, TGT_ADDR_LO.ADDR, TGT_ADDR_HI.ADDR, TGT_DATA.DATA, TGT_MSG_CNT.COUNT, TGT_MSG_ERR_CNT.COUNT].foldl clear s

/-- A source of the partition becomes IDLE, and its fields cleared by F return (R5, R349, R351). -/
def State.resetSource (s : State) (v : Nat) : State :=
  let s := s.idleSource v
  [SRC_CFG.ENABLE, SRC_TMASK.MASK, SRC_STATE.OVF].foldl (fun s f =>
    let a := pgSrc v * 4096 + f.off
    s.setReg a (clearWord 8 a (s.reg a))) s

/-- The sources and targets of the partition (R349). -/
def State.resetPartIntc (s : State) (n : Nat) : State :=
  let s := ((List.range 4096).filter (fun v => s.rd (pgSrc v) SRC_CFG.PART == n)).foldl State.resetSource s
  ((List.range 32).filter (fun t => s.rdTgt t TGT_CTRL.PART == n)).foldl State.resetTarget s

/-- A reset of partition `n` starts (R60, R470): the function state of PF `n` goes with FLR and PART_RESET alike. -/
def State.startPartReset (s : State) (n : Nat) : State :=
  let pages := s.partitionPages n
  let s := (s.abortFabric pages.contains).resetPartIntc n
  let s := pages.foldl (fun s pg => (s.resetBlock pg).wr pg PAGE_RESET.BUSY 1) s
  let m := s.rd pgReset PART_RESET.BUSY
  { s.wr pgReset PART_RESET.BUSY (if bitOf m n then m else m + 2 ^ n) with
    srcSel := nset s.srcSel (whoKey (.pf n)) 0, partPages := lset s.partPages n pages }

/-! ### Warm restart (R469) -/

/-- Work that the W discards, recorded before the counters clear (R5, R135, R176, R219, R461, R486), and what it restarts: lanes and ports go
back to DETECT (R372, R396). -/
def State.warmDiscards (s : State) (keep : Bool) : State :=
  let st := s.devState
  let s := if st = devRun ∨ st = devHold then s.holdSteps [] else s
  let s := if st = devRun ∨ st = devHold then s.livePanels.foldl State.quietPanel s else s
  let s := if keep then s else (List.range 64).foldl State.quietTrack s
  let s := (List.range 64).foldl (fun s ch => if s.chState ch = chDisabled then s else s.disableChan ch) s
  let s := s.abortLoad
  let s := (List.range 32).foldl (fun s l => if s.rdLane l LANE_STATUS.POWER = 1 then s.redetect l else s) s
  let s := (List.range 8).foldl State.restartPort s
  { s with pf := { s.pf with starts := [] } }

/-- Every register returns as its "Cleared by" column has it for W; the track pages are left alone where KEEP_ON_WARM = 1. -/
def State.warmClear (s : State) (keep : Bool) : State :=
  let pages (pg : Nat) : Bool := !(keep && (match pageOf pg with | some (.track, _) => true | _ => false))
  (((List.range 288).foldl State.emptyBuf (s.clearClass 4 pages)).resetIntc 4).legacyReset pages |>.notePeak

/-- A warm restart takes effect (R467, R469): `src` is the cause. -/
def State.warmReset (s : State) (src : Nat) : State :=
  let keep := s.on pgBridle BRIDLE_CTRL.KEEP_ON_WARM
  let st := s.devState
  let s := s.abortFabric (fun pg => match pageOf pg with | some (k, _) => isKeel k | none => false)
  let d := s.warmDiscards keep
  let s := (List.range 288).foldl (fun t c => t.unholdRisers d c) (d.warmClear keep)
  let s := if keep then s else ((List.range 64).foldl State.clearTrack s).dropSubs
  let s := (List.range 26).foldl State.releaseTags { s with linkUp := false, worldSeq := 0, engLast := [], warm := 1 }
  let s := { s with rig := { s.rig with inits := mmap (fun _ => zeroInit) (fun _ x => { x with bytes := 0 }) s.rig.inits } }
  let s := (s.livePanels.filter s.imaged).foldl (fun t p => t.applyImage (s.committed p) p) s
  let s := if st = devRun ∨ st = devHold then (s.wr pgReset DEV_STATE.STATE devHold).wr pgReset DEV_STATE.CAUSE 3 else s
  ((s.wr pgReset RESET_CAUSE.CLASS 2).wr pgReset RESET_CAUSE.SRC src).inc pgReset RESET_CAUSE.WARM_CNT

/-! ### Cold reset and power-on (R401, R429, R467, R468, R472, R477) -/

/-- Registers that take their reset values from the straps and the fuses (R62, R389, R420, R435, R462); the PCIE page stays under F while
PERST_N is low (R529). -/
def State.bootRegs (s : State) : State :=
  let s := (s.legacyReset (fun _ => true)).wr pgLoad LOAD_CTRL.SRC (if s.straps.bootSrc = 3 then 0 else s.straps.bootSrc)
  let s := s.wr (pgTether 0) TETHER_ARRAY.DEVNUM s.straps.devId
  let s := if s.perstLow then s.wr pgPcie PAGE_RESET.BUSY 1 else s
  let s := ((List.range 32).filter (fun l => (s.record (recLane l)).isSome)).foldl (fun s l => s.wr (pgLane l) LANE_CAL_AUTOSAVE.ENABLE 1) s
  let s := (List.range 3).foldl (fun s i => s.wr pgLoad (LOAD_SLOT_BASE.BASE.at i) (nget s.fuses.slotBase i)) s
  (List.range 16).foldl (fun s g =>
    (s.wr pgPwr (PWR_REG.VSET.at g) (nget s.fuses.vset g)).wr pgPwr (PWR_REG.VMIN.at g) (nget s.fuses.vmin g)) s

/-- An input pin as the reset finds it: the level at the ball. -/
def resetPins (ps : SMap Pin) : SMap Pin := mmap (fun _ => zeroPin) (fun _ x => { sync := x.sync }) ps

/-- What P and C have in common: everything returns to its power-on state but fuses, VBAT cells, straps and what lies outside. -/
def State.blank (s : State) : State :=
  { pending := s.pending, freeCtr := s.freeCtr, resp := s.resp, out := s.out, straps := s.straps, fuses := s.fuses,
    store := s.store, kram := s.kram, vbat := s.vbat, pins := resetPins s.pins, perstLow := s.perstLow, powerGood := s.powerGood }

/-- The VBAT-domain bits of the RESET page (R477). -/
def State.keepVbatBits (t s : State) : State :=
  (t.wr pgReset RESET_CAUSE.PF_SEEN (s.rd pgReset RESET_CAUSE.PF_SEEN)).wr pgReset RS_STATUS.TAMPERED (s.rd pgReset RS_STATUS.TAMPERED)

/-- The state of a regulator group through C (R468): a group that is on moves from its present output to the fused set point. -/
def State.keepRegulator (t s : State) (g : Nat) : State :=
  let st := s.regState g
  if st = rgRamping ∨ st = rgOn then t.startRamp g (s.rampNow g) else t

/-- Registers that no reset class clears and that stay measured through C (R5): the fray windows, and the rail monitor's readings and maps
(R433). -/
def uncleared (pg off : Nat) : Bool :=
  match pageOf pg with
  | some (.winFray, _) => true
  | some (.winRail, _) => off == PWRMON_DATA.MV.off
  | some (.pwrMon, _) =>
    [PWRMON_UV_MAP_LO.UV.off, PWRMON_UV_MAP_HI.UV.off, PWRMON_OV_MAP_LO.OV.off, PWRMON_OV_MAP_HI.OV.off].contains off
  | _ => false

/-- A cold reset (R467, R468): `src` is the cause. Fray counters and trackers are kept (R429). -/
def State.coldReset (s : State) (src : Nat) : State :=
  let kept := s.regs.filter (fun e => uncleared (e.1 / 4096) (e.1 % 4096))
  let t := { s.blank with regs := kept, fray := s.fray, jtag := s.jtag }
  let t := (t.wr pgFray FRAY_ODO.PENDING (s.rd pgFray FRAY_ODO.PENDING)).bootRegs.keepVbatBits s
  let t := (t.wr pgPwr PWR_STATUS.PF_WARN (s.rd pgPwr PWR_STATUS.PF_WARN)).wr pgSpar STACK_FUSEMAP.VFUSE_OK (s.rd pgSpar STACK_FUSEMAP.VFUSE_OK)
  let t := (List.range 16).foldl (fun t g => t.keepRegulator s g) t
  (t.wr pgReset RESET_CAUSE.CLASS 1).wr pgReset RESET_CAUSE.SRC src

/-- The rise of power good (R463, R467, R472): the straps are sampled, FRAY_UNITS restart at the odometer floor (R429), and without VBAT
the retained store, key RAM and the VBAT bits are lost (R475, R477). -/
def State.powerOn (s : State) (straps : Straps) (vbat : Bool) : State :=
  let t := { s.blank with straps := straps, vbat := vbat, powerGood := true
                          store := if vbat then s.store else [], kram := if vbat then s.kram else [] }
  let t := t.bootRegs
  let t := if vbat then t.keepVbatBits s
           else
             let f := t.free 2
             (f.2.wr pgReset RESET_CAUSE.PF_SEEN (f.1 % 2)).wr pgReset RS_STATUS.TAMPERED (f.1 / 2)
  (List.range 288).foldl (fun t c => t.wr (pgFrayCol c) FRAY_UNITS.UNITS (8192 * t.fuses.odo)) t

end Sys2Proof.Machine
end

