-- ==== Sys2Proof/Machine/Power.lean ====
section
/-! DEFINITION. Meanings of chapter 17's power commands, and the thermal trip and its end (R240, R420 to R427). -/

namespace Sys2Proof.Machine

open Sys2Proof

def State.raisePwr (s : State) (bit : Fld) : State := s.raise pgPwr bit PWR_EVENT_MASK.MASK PWR_EVENT_SRC.SOURCE

/-! ### Regulators (R420, R421) -/

/-- An accepted write of PWR_REG[g] (R420): a group that is on moves from its present output to the new set point. -/
def vsetBody (g : Nat) (v : Word) (s : State) : Option State :=
  let f := PWR_REG.VSET.at g
  if getF v 0 6 < s.rd pgPwr (PWR_REG.VMIN.at g) ∨ 60 < getF v 0 6 then none
  else
    let mv := s.rampNow g
    let t := s.storeReg pgPwr f.off v
    some (if s.regState g = rgOn ∨ s.regState g = rgRamping then t.startRamp g mv else t)

/-- VSET_WRITE (R420). -/
def execVsetWrite (a : Access) (g : Nat) (v : Word) (s : State) : Host.Outcome State Fault Refusal :=
  guardUnit (g < 16) (s.gatedWrite a pgPwr (PWR_REG.VSET.at g).off v (vsetBody g v))

/-- The group is at its set point. -/
def State.regOn (s : State) (g : Nat) : State :=
  { s with ramps := mset (fun _ => ({} : Ramp)) s.ramps g ⟨s.setPoint g, s.ns⟩ }.setRegState g rgOn

/-- REG_RAMP_DONE (R420, R464): a ramp ends when the output has reached the set point; with all 16 groups on, REGULATORS is reached. -/
def execRegRampDone (g : Nat) (s : State) : Host.Outcome State Fault Refusal :=
  let st := s.regState g
  let t := if st = rgRamping ∧ s.rampNow g = s.setPoint g then s.regOn g else s
  guardUnit (g < 16) (if (List.range 16).all (fun g => t.regState g == rgOn) then t.reachStage READY_SUM.REGULATORS else t)

/-- REG_FAULT (R421): a Sail group takes the Sails down without saving; another group makes a C reset. A group that is off cannot
fault. -/
def execRegFault (g : Nat) (s : State) : Host.Outcome State Fault Refusal :=
  guardUnit (g < 16)
    (if s.regState g = rgOff ∨ s.regState g = rgFault then s
     else
       let s := (s.wr pgPwr PWR_STATUS.REG_FAULT 1).raisePwr PWR_EVENT.REG_FAULT
       if isSailReg g then (s.setRegState g rgFault).dropSails 2 else s.coldReset 3)

/-- The Sails wake once neither a trip nor a regulator fault keeps them off (R240, R421, R427, R471). -/
def State.wakeIfClear (s : State) : State :=
  if s.devState = devPark ∧ s.rd pgReset DEV_STATE.CAUSE ≠ 0 ∧ s.on pgPwr GOV_STATUS.TRIPPED = false ∧ s.on pgPwr PWR_STATUS.REG_FAULT = false
  then s.startWake else s

/-- An accepted write of PWR_CTRL (R421): `showing` says that a Sail group still shows its fault condition. -/
def regResumeBody (showing : Bool) (v : Word) (s : State) : Option State :=
  if getF v 0 1 = 0 then some s
  else if s.on pgPwr PWR_STATUS.REG_FAULT = false ∨ showing = true then none
  else
    let s := s.wr pgPwr PWR_STATUS.REG_FAULT 0
    some (sailRegs.foldl (fun s g => if s.regState g = rgFault then s.setRegState g rgOff else s) s).wakeIfClear

/-- REG_RESUME (R421). -/
def execRegResume (a : Access) (showing : Bool) (s : State) : Host.Outcome State Fault Refusal :=
  .next (s.gatedWrite a pgPwr PWR_CTRL.REG_RESUME.off 1 (regResumeBody showing 1))

/-! ### Rail monitors (R422) and what a sample does to slices (R483, R485) -/

/-- Level in mV of a VCCIO code (R492); 0 for an undeclared bank. -/
def vccioMv (code : Nat) : Nat :=
  match code with
  | 1 => 1200
  | 2 => 1800
  | 3 => 2500
  | 4 => 3300
  | _ => 0

/-- The window of rail `i` in mV times 100; none where it has none: an undeclared bank, a group that is off. -/
def State.railWindow (s : State) (i : Nat) : Option (Nat × Nat) :=
  let uv := s.rd (pgRail i) PWRMON_LIMIT.UV_PCT
  let ov := s.rd (pgRail i) PWRMON_LIMIT.OV_PCT
  let about (mv : Nat) : Option (Nat × Nat) := if mv = 0 then none else some (mv * (100 - uv), mv * (100 + ov))
  if i = 0 then about 1800 else if i = 1 then about 750 else if i = 2 then about 900 else if i = 3 then about 1200
  else if i = 4 then some (120000, 360000)
  else if i = 5 then some (171000, 189000)
  else if i < 19 then about (vccioMv (s.rd (pgFio (i - 6)) FIO_BANK_CTRL.VCCIO))
  else about (s.rampNow (i - 19))

/-- Put a bit into one of the rail maps. -/
def State.setRailBit (s : State) (lo hi : Fld) (i : Nat) (b : Bool) : State :=
  let f := if i < 32 then lo else hi
  let m := s.rd pgPwrMon f
  if bitOf m (i % 32) = b then s else s.wr pgPwrMon f (if b then m + 2 ^ (i % 32) else m - 2 ^ (i % 32))

/-- One reading (R422). -/
def State.railReading (s : State) (i mv : Nat) : State :=
  let under := (s.railWindow i).any (fun w => mv * 100 < w.1)
  let high := (s.railWindow i).any (fun w => w.2 < mv * 100)
  let s := ((s.wr (pgRail i) PWRMON_DATA.MV mv).wr (pgRail i) PWRMON_DATA.UV (bnat under)).wr (pgRail i) PWRMON_DATA.OV (bnat high)
  let s := (s.setRailBit PWRMON_UV_MAP_LO.UV PWRMON_UV_MAP_HI.UV i under).setRailBit PWRMON_OV_MAP_LO.OV PWRMON_OV_MAP_HI.OV i high
  if i = 5 then s.wr pgSpar STACK_FUSEMAP.VFUSE_OK (bnat (!under && !high))
  else if i = 4 then s
  else
    let s := if under then s.raisePwr PWR_EVENT.RAIL_UV else s
    if high then s.raisePwr PWR_EVENT.RAIL_OV else s

/-- The voltage preconditions of a slice of panel `p`, at the latest samples (R483). -/
def State.pfVoltOk (s : State) (p : Nat) : Bool :=
  let near (mv nom pct : Nat) : Bool := nom * (100 - pct) ≤ mv * 100 && mv * 100 ≤ nom * (100 + pct)
  let g := panelReg p
  near (s.rd (pgRail 0) PWRMON_DATA.MV) 1800 3 && near (s.rd (pgRail (19 + g)) PWRMON_DATA.MV) (s.setPoint g) 2

/-- The clock precondition (R483): SYS A is locked and not LOST, and no system domain that selects an output of SYS A has failed
over. -/
def State.pfClkOk (s : State) : Bool :=
  s.on pgClk0 CLK_STATUS.SYSA_LOCK && !s.srcLost 4 &&
  (List.range 320).all (fun i => !isSystemDomain i || codeSource (s.rdDom i CLK_DOM_SEL.SRC) != some 4 || s.rdDom i CLK_DOM_SWITCH.FAILOVER == 0)

/-- Slices whose preconditions fail at a sample are aborted (R485). -/
def State.checkSlices (s : State) : State :=
  (s.pf.running.map (·.1)).foldl (fun s p =>
    if !s.pfVoltOk p then s.abortSlice p pcVolt true else if !s.pfClkOk then s.abortSlice p pcClk true else s) s

/-- RAIL_SAMPLE (R422): readings, in mV, of the rails given. -/
def execRailSample (mv : List (Nat × Nat)) (s : State) : Host.Outcome State Fault Refusal :=
  guardUnit (mv.all (fun e => e.1 < 35 && e.2 < 8192)) (mv.foldl (fun s e => s.railReading e.1 e.2) s).checkSlices

/-! ### Power-fail notice (R424, R426) -/

/-- The outputs of every enabled plug group enter their power-fail state (R424, R500); HOLD keeps what they drive now. -/
def State.holdPfail (s : State) : State :=
  if s.on pgPwr PWR_STATUS.PF_HELD then s
  else
    let ns := (List.range 624).filter (fun n => (s.pinGroup n).isSome)
    (ns.foldl (fun t n => t.setPin n { t.pin n with holdPfail := heldDrive (s.pinDrive n) }) s).wr pgPwr PWR_STATUS.PF_HELD 1

/-- PF_WARN (R424, R427). -/
def execPfWarn (s : State) : Host.Outcome State Fault Refusal :=
  .next
    (if s.on pgPwr PWR_STATUS.PF_WARN then s
     else
       let s := ((s.wr pgPwr PWR_STATUS.PF_WARN 1).raisePwr PWR_EVENT.PF_WARN).inc pgPwr PWR_PF_CNT.COUNT
       (s.ringFrom pgPwr (s.rd pgPwr PWR_PF_SRC.SOURCE) 20).rsPfRise.holdPfail)

/-- PF_CLEAR (R426). -/
def execPfClear (s : State) : Host.Outcome State Fault Refusal :=
  .next
    (if s.on pgPwr PWR_STATUS.PF_WARN = false then s
     else
       let s := (s.wr pgPwr PWR_STATUS.PF_WARN 0).raisePwr PWR_EVENT.PF_CLEAR
       if s.on pgPwr PWR_PF_CTRL.AUTO_RELEASE then s.wr pgPwr PWR_STATUS.PF_HELD 0 else s)

/-- An accepted write of PWR_PF_RELEASE (R426). -/
def pfReleaseBody (v : Word) (s : State) : Option State :=
  if getF v 0 1 = 0 then some s
  else if s.on pgPwr PWR_STATUS.PF_WARN ∨ s.on pgPwr PWR_STATUS.PF_HELD = false then none
  else some (s.wr pgPwr PWR_STATUS.PF_HELD 0)

/-- PF_RELEASE (R426). -/
def execPfRelease (a : Access) (s : State) : Host.Outcome State Fault Refusal :=
  .next (s.gatedWrite a pgPwr PWR_PF_RELEASE.RELEASE.off 1 (pfReleaseBody 1))

/-! ### Trips (R240) -/

/-- THERMAL_TRIP (R240): the Sails go to PARK without saving. -/
def execThermalTrip (s : State) : Host.Outcome State Fault Refusal :=
  .next (((s.dropSails 1).wr pgPwr GOV_STATUS.TRIPPED 1).raiseGov GOV_EVENT.TRIP)

/-- Every working sensor of every column reads below WARN (R240). -/
def State.sensorsCool (s : State) : Bool :=
  (List.range 288).all (fun c => (List.range 4).all (fun i =>
    let x := s.sensor c (i + 1)
    x.failed || !x.seen || x.last < (s.rd pgPwr GOV_TEMP_LIMITS.WARN : Int)))

/-- An accepted write of GOV_CTRL (R233, R240, R244). -/
def govCtrlBody (v : Word) (s : State) : Option State :=
  let resume := getF v 8 1 == 1
  if resume = true ∧ (s.on pgPwr GOV_STATUS.TRIPPED = false ∨ s.sensorsCool = false) then none
  else
    let s := s.storeReg pgPwr GOV_CTRL.MODE.off v
    let s := if getF v 4 1 = 1 then s.alignWindow s.bridleNs else s
    some (if resume then (s.wr pgPwr GOV_STATUS.TRIPPED 0).wakeIfClear else s)

/-- GOV_RESUME (R240): a write of GOV_CTRL with RESUME = 1 and the given MODE. -/
def execGovResume (a : Access) (mode : Bool) (s : State) : Host.Outcome State Fault Refusal :=
  let v := BitVec.ofNat 32 (256 + bnat mode)
  .next (s.gatedWrite a pgPwr GOV_CTRL.MODE.off v (govCtrlBody v))

end Sys2Proof.Machine
end

