-- ==== Sys2Proof/Machine/Startup.lean ====
section
/-! DEFINITION. Meanings of chapter 19's commands: power good, resets, device states, the start of the supervisor; and of the PCI Express
link (R341, R371, R463 to R471, R529). -/

namespace Sys2Proof.Machine

open Sys2Proof

/-! ### Power good (R463, R467) -/

/-- POWER_GOOD (R463): the rise of power good is the P reset. `vbat` says whether VBAT has been present (R475). -/
def execPowerGood (straps : Straps) (vbat : Bool) (s : State) : Host.Outcome State Fault Refusal :=
  .next (if s.powerGood then s else s.powerOn straps vbat)

/-- POWER_GOOD_FALL (R425, R463): everything volatile is lost; PF_SEEN keeps whether PF_WARN was 1 (R477). -/
def execPowerGoodFall (s : State) : Host.Outcome State Fault Refusal :=
  .next
    (if s.powerGood then
       ({ s.blank with powerGood := false }.keepVbatBits s).wr pgReset RESET_CAUSE.PF_SEEN (s.rd pgPwr PWR_STATUS.PF_WARN)
     else s)

/-! ### Resets (R467 to R469) -/

/-- RESET_N (R467): low for at least 1 µs; it acts at the release. -/
def execResetN (lowNs : Nat) (s : State) : Host.Outcome State Fault Refusal :=
  .next (if 1000 ≤ lowNs ∧ s.powerGood = true then s.coldReset 1 else s)

/-- A requested C is pending (R467). -/
def State.coldPending (s : State) : Bool := s.resets.any (·.1)

/-- An accepted write of RESET_REQ (R467, R477, R478): C by PF0 alone. The reset acts 1 µs later; a W is dropped while a C is pending. -/
def resetReqBody (w : Who) (v : Word) (s : State) : Option State :=
  let k := getF v 16 16
  let req (cold : Bool) : State := { s with resets := s.resets ++ [(cold, s.ns + 1000)] }
  if k = 0x5A03 then some (if s.coldPending then s else req false) else if k = 0x5A04 ∧ w = .pf 0 then some (req true) else none

/-- A requested reset whose instant has come acts (R467). -/
def State.takeReset (s : State) : State :=
  match s.resets with
  | (cold, at_) :: t =>
    if s.ns < at_ then s
    else if cold then s.coldReset 2
    else { s with resets := t }.warmReset 4
  | [] => s

/-- COLD_RESET_REQ (R467). -/
def execColdResetReq (a : Access) (s : State) : Host.Outcome State Fault Refusal :=
  .next (s.gatedWrite a pgReset RESET_REQ.KEY.off 0x5A040000 (resetReqBody a.who 0x5A040000))

/-- WARM_RESET_REQ (R467). -/
def execWarmResetReq (a : Access) (s : State) : Host.Outcome State Fault Refusal :=
  .next (s.gatedWrite a pgReset RESET_REQ.KEY.off 0x5A030000 (resetReqBody a.who 0x5A030000))

/-- WATCHDOG_EXPIRY (R467, R478). -/
def execWatchdogExpiry (s : State) : Host.Outcome State Fault Refusal := .next (if s.powerGood && !s.coldPending then s.warmReset 5 else s)

/-- HOLD ends (R409, R471). -/
def State.leaveHold (s : State) : State := s.reopenRoot.wr pgReset DEV_STATE.STATE devRun

/-- WARM_RESTART_DONE (R469, R478): the supervisor returns the device to RUN, or wakes it from a PARK that was requested. -/
def execWarmRestartDone (s : State) : Host.Outcome State Fault Refusal :=
  .next
    (if s.warm ≠ 2 then s
     else
       let t := { s with warm := 0 }
       if t.devState = devHold then t.leaveHold
       else if t.devState = devPark ∧ t.rd pgReset DEV_STATE.CAUSE = 0 then t.startWake
       else t)

/-! ### Device states (R471) -/

/-- Entry to PARK (R176, R471): accepted and pending swaps are discarded and counted, the steps of HOLD follow, then the live contexts are
saved; the rigging domains are to drain. -/
def State.enterPark (s : State) (es : List PanelEdge) : State :=
  let s := (s.livePanels.foldl State.skipSwaps s).holdSteps es
  let s := (s.livePanels.filter (fun p => s.committed p && (s.panel p).grounded == 0)).foldl State.saveLive s
  (s.wr pgReset DEV_STATE.STATE devEntering).wr pgReset DEV_STATE.CAUSE 0

/-- An accepted write of DEV_STATE (R471, R478); `es` says what the panels receive at the edges that accepted work reaches. -/
def devStateBody (v : Word) (es : List PanelEdge) (s : State) : Option State :=
  let req := getF v 8 3
  let st := s.devState
  if s.warm ≠ 0 ∨ st = devEntering ∨ st = devWaking ∨ (st = devPark ∧ s.rd pgReset DEV_STATE.CAUSE ≠ 0) then none
  else if req = 1 then some (if st = devHold then s.leaveHold else if st = devPark then s.startWake else s)
  else if req = 2 then (if st = devPark then none else some (if st = devRun then s.enterHold 0 es else s))
  else if req = 3 then some (if st = devPark then s else s.enterPark es)
  else none

/-- A DEV_STATE write with request `req`. -/
def State.devStateReq (s : State) (a : Access) (req : Nat) (es : List PanelEdge) : Host.Outcome State Fault Refusal :=
  let v := BitVec.ofNat 32 (req * 256)
  .next (s.gatedWrite a pgReset DEV_STATE.STATE.off v (devStateBody v es))

/-- DEV_RUN_REQ (R471). -/
def execDevRunReq (a : Access) (s : State) : Host.Outcome State Fault Refusal := s.devStateReq a 1 []
/-- DEV_HOLD_REQ (R471). -/
def execDevHoldReq (req : HoldReq) (s : State) : Host.Outcome State Fault Refusal := s.devStateReq req.a 2 req.edges
/-- DEV_PARK_REQ (R471). -/
def execDevParkReq (req : HoldReq) (s : State) : Host.Outcome State Fault Refusal := s.devStateReq req.a 3 req.edges

/-- PARK_ENTRY_DONE (R471): with the Sail domains drained and off, the Sail groups turn off. -/
def execParkEntryDone (s : State) : Host.Outcome State Fault Refusal :=
  .next (if s.devState = devEntering ∧ sailRegs.all (fun g => s.domainState g == dmOff) = true then s.discardWork.sailsDown else s)

/-- WAKE_DONE (R471): the Sail groups and domains are on; the panels have their state again. -/
def execWakeDone (s : State) : Host.Outcome State Fault Refusal :=
  .next
    (if s.devState = devWaking ∧ sailRegs.all (fun g => s.regState g == rgOn && s.domainState g == dmOn) = true then s.finishWake
     else s)

/-! ### The supervisor (R464, R469) -/

/-- SUPERVISOR_RUNNING (R464, R469): after P or C it sets both route tables (`routes`: node, entry, value; R302, R472); after a W the
Keel's pages accept accesses again. -/
def execSupervisorRunning (routes : List (Nat × Nat × Nat)) (s : State) : Host.Outcome State Fault Refusal :=
  guardUnit (routes.all (fun r => r.1 < 128 && r.2.1 < 192))
    (if s.warm = 1 then { s with warm := 2 }
     else if s.on pgReady READY_SUM.SUPV then s
     else (routes.foldl (fun s r => (s.setRoute r.1 0 r.2.1 r.2.2).setRoute r.1 1 r.2.1 r.2.2) s).reachStage READY_SUM.SUPV)

end Sys2Proof.Machine
end

