-- ==== Sys2Proof/Machine/HostView.lean ====
section
/-! DEFINITION. Meanings of chapter 02's commands on page headers and partitions (R46, R48, R50, R60, R63). The plain register write stands
in `Machine/RegWrite.lean`. -/

namespace Sys2Proof.Machine

open Sys2Proof

/-! ### The page header -/

/-- A write to PAGE_RESET past the access checks (R48): further keys have no effect while a reset is in progress or the page still
initialises (R465). -/
def pageResetBody (pg : Nat) (v : Word) (s : State) : Option State :=
  match pageOf pg with
  | some (k, _) =>
    if v.toNat ≠ 0x5A01 ∨ capResettable k = false then none
    else if s.on pg PAGE_RESET.BUSY ∨ s.initialising pg = true then some s
    else some (s.startReset pg)
  | none => none

/-- The page has a header (R46). -/
def headed (pg : Nat) : Bool := assigned pg && (match pageOf pg with | some (k, _) => hasHeader k | none => false)

/-- A write can name the header of page `pg`: the page has one, or is not assigned, where the access ends with Unsupported Request (R42). -/
def headerAt (pg : Nat) : Bool := headed pg || !assigned pg

/-- PAGE_RESET (R48): a write of the key. -/
def execPageReset (a : Access) (pg : Nat) (s : State) : Host.Outcome State Fault Refusal :=
  guardUnit (headerAt pg) (s.gatedWrite a pg PAGE_RESET.KEY.off 0x5A01 (pageResetBody pg 0x5A01))

/-- PAGE_RESET_DONE (R48): the function reset of the page's block completes. The PCIE page stays under it while PERST_N is low (R529). -/
def execPageResetDone (pg : Nat) (s : State) : Host.Outcome State Fault Refusal :=
  guardUnit (headed pg) (if s.on pg PAGE_RESET.BUSY = false ∨ (pg = pgPcie ∧ s.perstLow = true) then s else s.setBusy pg 0)

/-- A write to PAGE_EXPERT past the access checks (R46, R50). -/
def expertBody (pg : Nat) (v : Word) (s : State) : Option State :=
  match pageOf pg with
  | some (k, _) =>
    if v.toNat = 0 then some (s.wr pg PAGE_EXPERT.UNLOCKED 0)
    else if v.toNat = 0xE0E0 ∧ capExpert k = true then some (s.wr pg PAGE_EXPERT.UNLOCKED 1)
    else none
  | none => none

/-- EXPERT_UNLOCK (R50). -/
def execExpertUnlock (a : Access) (pg : Nat) (s : State) : Host.Outcome State Fault Refusal :=
  guardUnit (headerAt pg) (s.gatedWrite a pg PAGE_EXPERT.KEY.off 0xE0E0 (expertBody pg 0xE0E0))

/-- EXPERT_LOCK (R50). -/
def execExpertLock (a : Access) (pg : Nat) (s : State) : Host.Outcome State Fault Refusal :=
  guardUnit (headerAt pg) (s.gatedWrite a pg PAGE_EXPERT.KEY.off 0 (expertBody pg 0))

/-- A write to PAGE_WORLD past the access checks (R46): SECURE first, then LOCK. -/
def pageWorldBody (pg : Nat) (v : Word) (s : State) : Option State :=
  match pageOf pg with
  | some (k, _) =>
    if capWorldSet k = false ∧ getF v 0 1 ≠ s.rd pg PAGE_WORLD.SECURE then none else some (s.storeReg pg PAGE_WORLD.SECURE.off v)
  | none => none

/-- PAGE_WORLD_WRITE (R46). -/
def execPageWorldWrite (a : Access) (pg : Nat) (v : Word) (s : State) : Host.Outcome State Fault Refusal :=
  guardUnit (headerAt pg) (s.gatedWrite a pg PAGE_WORLD.SECURE.off v (pageWorldBody pg v))

/-! ### ZY12 compatibility (R62, R63) -/

/-- A change of LEGACY of page `pg` is admitted now (R63). -/
def State.legacyAdmitted (s : State) (pg : Nat) : Bool :=
  match pageOf pg with
  | some (.intc0, _) => !s.on pg INTC_GLOBAL.DELIVER
  | some (.engine, e) => (List.range 16).all (fun i => s.chState (16 * e + i) == chDisabled)
  | _ => false

/-- Event counters above 15 become 15 (R63). -/
def State.clipCounters (s : State) : State :=
  let clip (a : Nat) (w : Word) : Word :=
    match pageOf (a / 4096) with
    | some (.winSrc, _) =>
      if a % 4096 = SRC_STATE.COUNT.off ∧ 15 < getF w SRC_STATE.COUNT.lo SRC_STATE.COUNT.len then
        setF (setF w SRC_STATE.COUNT.lo SRC_STATE.COUNT.len 15) SRC_STATE.OVF.lo 1 1
      else w
    | _ => w
  { s with regs := mmap regReset clip s.regs }

/-- A write to PAGE_COMPAT past the access checks (R46, R62, R63). LEGACY of the LOAD page is RO: a write of it has no effect (R4). -/
def pageCompatBody (pg : Nat) (v : Word) (s : State) : Option State :=
  match pageOf pg with
  | some (k, _) =>
    let new := getF v 0 1
    if k = .load then some s
    else if new = 1 ∧ capLegacy k = false then none
    else if new = s.rd pg PAGE_COMPAT.LEGACY then some s
    else if s.legacyAdmitted pg = false then none
    else
      let s := s.wr pg PAGE_COMPAT.LEGACY new
      some (if k = .intc0 ∧ new = 1 then s.clipCounters else s)
  | none => none

/-- LEGACY_CHANGE (R63): a write of PAGE_COMPAT. -/
def execLegacyChange (a : Access) (pg : Nat) (legacy : Bool) (s : State) : Host.Outcome State Fault Refusal :=
  let v := BitVec.ofNat 32 (bnat legacy)
  guardUnit (headerAt pg) (s.gatedWrite a pg PAGE_COMPAT.LEGACY.off v (pageCompatBody pg v))

/-! ### Partitions (R60) -/

/-- A write to PART_RESET past the access checks (R60). A partition that is already resetting is left to it. -/
def partResetBody (v : Word) (s : State) : Option State :=
  let n := getF v PART_RESET.PART.lo PART_RESET.PART.len
  if getF v PART_RESET.KEY.lo PART_RESET.KEY.len ≠ 0x5A02 ∨ n = 0 then none
  else some (if bitOf (s.rd pgReset PART_RESET.BUSY) n then s else s.startPartReset n)

/-- PART_RESET (R60). -/
def execPartReset (a : Access) (v : Word) (s : State) : Host.Outcome State Fault Refusal :=
  .next (s.gatedWrite a pgReset PART_RESET.KEY.off v (partResetBody v))

/-- FUNCTION_LEVEL_RESET (R60, R470): FLR of PF `n` resets partition `n` and its function state. -/
def execFunctionLevelReset (n : Nat) (s : State) : Host.Outcome State Fault Refusal :=
  guardUnit (n < 8) (if bitOf (s.rd pgReset PART_RESET.BUSY) n then s else s.startPartReset n)

/-- PART_RESET_DONE (R60): the reset of partition `n` completes. -/
def execPartResetDone (n : Nat) (s : State) : Host.Outcome State Fault Refusal :=
  let m := s.rd pgReset PART_RESET.BUSY
  guardUnit (n < 8)
    (if bitOf m n then
       let t := ((lget s.partPages n).getD []).foldl (fun s pg => s.wr pg PAGE_RESET.BUSY 0) s
       { t.wr pgReset PART_RESET.BUSY (m - 2 ^ n) with partPages := ldel s.partPages n }
     else s)

end Sys2Proof.Machine
end

