-- ==== Sys2Proof/Machine/RigIssue.lean ====
section
/-! DEFINITION. Requests at an initiator interface: decode, split, tags, stalls and injection (R288, R289, R299, R300, R302). -/

namespace Sys2Proof.Machine

open Sys2Proof

/-! ### Decode (R288, R348) -/

/-- The device whose target 100 takes host space: the device itself while it has a host link or no way to another's. Log entry 26. -/
def State.hostDev (s : State) : Nat :=
  if !s.linkUp && (List.range 8).any (fun p => s.rdPort p TETHER_CTRL.UPLINK == 1 && (s.port p).hostward) then Config.hostDevice % 64
  else s.devNumber

/-- A destination `n` bytes further on. -/
def destPlus (d : RigDest) (n : Nat) : RigDest :=
  match d with
  | .host a => .host (a + n)
  | .array a => .array (a + n)
  | .port t a => .port t (a + n)

/-- The address by which a request is cut at 512-byte boundaries. -/
def destAddr (d : RigDest) : Nat :=
  match d with
  | .host a => a
  | .array a => a
  | .port _ a => a

/-- Device, target and target address of a destination, as the interface at `node` decodes it (R40, R42, R288); none where it is
unassigned. -/
def State.aim (s : State) (node : Nat) (d : RigDest) : Option (Nat × Nat × Nat) :=
  match d with
  | .host a => if a < 2 ^ 64 then some (s.hostDev, 100, a) else none
  | .array a =>
    let n := a / 2 ^ 30
    if 64 ≤ n then none
    else if n ≠ s.devNumber ∧ s.route node s.epoch (128 + n) % 8 = 7 then none
    else (decodeLocal (a % 2 ^ 30)).map (fun x => (n, x.1, x.2))
  | .port t a => if 36 ≤ t ∧ t < 100 then some (s.devNumber, t, a) else none

/-- The pieces of an access of `size` bytes from `addr`: offset and length, none across a 512-byte boundary (R289). -/
def cuts : Nat → Nat → Nat → Nat → List (Nat × Nat)
  | 0, _, _, _ => []
  | fuel + 1, addr, off, size =>
    if size = 0 then []
    else
      let n := min size (512 - addr % 512)
      (off, n) :: cuts fuel (addr + n) (off + n) (size - n)

def cutAll (addr size : Nat) : List (Nat × Nat) := cuts (size / 512 + 2) addr 0 size

/-! ### Tags and injection (R299, R300, R302) -/

/-- The class of a piece. -/
def RigPiece.cls (q : RigPiece) : Nat := classOf (if q.write then opWr else opRd) q.bytes

/-- The class code that each PCI Express function reports (R39). -/
def pcieClassCode : Nat := 0x118000

/-- A BAR of the endpoint (R39): its function, its number, its size in bytes, and whether it is prefetchable. -/
structure Bar where
  function : Nat
  bar : Nat
  size : Nat
  prefetch : Bool
  deriving DecidableEq, Repr

/-- The BARs of R39: PF0 has registers, scratchpad window and array window, PF1 to PF7 the first two. -/
def pcieBars : List Bar :=
  ⟨0, 4, 2 ^ 36, true⟩ :: (List.range 8).flatMap (fun n => [⟨n, 0, 2 ^ 26, false⟩, ⟨n, 2, 2 ^ 29, true⟩])

/-- Link-level limits of the endpoint (R39): payload bytes, bytes of a read request, non-posted requests outstanding. -/
def pcieMaxPayload : Nat := 512
def pcieMaxReadRequest : Nat := 4096
def pcieMaxNonPosted : Nat := 768

/-- Non-posted requests of the device that are outstanding at the host (R39). -/
def State.hostReads (s : State) : Nat :=
  (s.rig.inits.map (fun e => (e.2.tags.filter (fun t =>
    !t.2.quarantined && !t.2.write && t.2.target == 100 && t.2.dev == s.devNumber)).length)).foldl (· + ·) 0

/-- The tag that a piece may take now; none while its interface stalls: an old-epoch transaction outstanding (R302), an outstanding
write to the same target in another class (R300), 768 reads outstanding at the host (R39), or no free tag (R299). -/
def State.canInject (s : State) (i : Nat) (q : RigPiece) : Option Nat :=
  let x := s.rigInit i
  let live := x.tags.filter (fun t => !t.2.quarantined)
  if live.any (fun t => t.2.epoch != s.epoch) then none
  else if live.any (fun t => t.2.write && t.2.dev == q.dev && t.2.target == q.target && t.2.cls != q.cls) then none
  else if q.target = 100 ∧ q.dev = s.devNumber ∧ q.write = false ∧ pcieMaxNonPosted ≤ s.hostReads then none
  else (List.range 64).find? (fun k => (lget x.tags k).isNone)

/-- The request packet of a piece. -/
def State.pieceOf (s : State) (i tag : Nat) (q : RigPiece) : Packet :=
  let pl := targetPlace q.target
  { node := (initPlace i).1, la := 7, dstNode := pl.1, dstPort := pl.2, dstDev := q.dev, srcInit := i, srcDev := s.devNumber, who := q.who
    tag := tag, gen := nget (s.rigInit i).gens tag, opc := if q.write then opWr else opRd, epoch := s.epoch, ns := !s.whoSecure q.who
    bytes := q.bytes, addr := q.addr, data := q.data, target := q.target, inj := s.ns }

/-- A piece is injected with `tag`; the first data read of a descriptor shows whether it starts late (R318). -/
def State.injectPiece (s : State) (i tag : Nat) (q : RigPiece) : State :=
  let x := s.rigInit i
  let t : RigTag := { at_ := s.ns, dev := q.dev, target := q.target, note := q.note, cls := q.cls, write := q.write, epoch := s.epoch, bytes := q.bytes }
  let s := (s.setRigInit i { x with tags := lset x.tags tag t }).inject (s.pieceOf i tag q)
  match q.note with
  | some (.spool ch id) => s.judgeStart ch id
  | _ => s

/-- The transaction of a block of the device has ended with `code` (R325, R341). -/
def State.noteAnswer (s : State) (note : Option RigNote) (code : Nat) (data : List Byte) : State :=
  match note with
  | some (.message t) => if code = 0 then s else s.messageFailed t
  | some (.spool ch id) => s.spoolAnswer ch id code data
  | none => s

/-- Waiting pieces of initiator `i` are injected in order until one stalls. -/
def pumpN : Nat → State → Nat → State
  | 0, s, _ => s
  | n + 1, s, i =>
    match (s.rigInit i).queue with
    | [] => s
    | q :: rest =>
      match s.canInject i q with
      | none => s
      | some tag => pumpN n ((s.setRigInit i { s.rigInit i with queue := rest }).injectPiece i tag q) i

def State.pump (s : State) (i : Nat) : State := pumpN (s.rigInit i).queue.length s i

/-- Pieces are presented at the interface of initiator `i`. -/
def State.present (s : State) (i : Nat) (qs : List RigPiece) : State :=
  (s.setRigInit i { s.rigInit i with queue := (s.rigInit i).queue ++ qs }).pump i

/-- A request of initiator `i` waits: at its interface (R299), or at a bank for the end of a handover (R261). -/
def State.stalls (s : State) (i : Nat) : Bool :=
  !(s.rigInit i).queue.isEmpty ||
  s.rig.packets.any (fun p => p.pass != .fresh && p.srcInit == i && p.srcDev == s.devNumber) ||
  s.handover.any (fun h => h.held.any (fun q => whoInit q.who == i))

/-- Each cycle in which a request waits, or a MSG without a token, is counted (R261, R297, R299): `n` cycles pass. -/
def State.countStalls (s : State) (n : Nat) : State :=
  let s := ((List.range 90).filter s.stalls).foldl (fun s i => s.addInit i RIG_ST_STALL.CYCLES n) s
  ((List.range 90).filter (fun i => !s.hasToken i && s.rig.msgs.any (fun m => m.srcInit == i))).foldl
    (fun s i => s.addInit i RIG_ST_TOKSTALL.CYCLES n) s

/-! ### A request is presented (R289, R292, R304, R307) -/

/-- The fabric port's panel may issue requests (R287, R450, R481): assigned, in a committed region, not grounded, not under test. -/
def State.fabricLive (s : State) (i : Nat) : Bool :=
  match (mget (fun _ => ({} : FabPort)) s.fabPorts i).panel with
  | some p => s.committed p && (s.panel p).grounded == 0 && !(s.panel p).underTest
  | none => false

/-- The answer that the interface itself gives to a request of `w` for target `t` of device `dev` (R304, R307): a fabric port in a
domain that is not ON, or whose tracker knows the block to be under function reset. -/
def State.interfaceCode (s : State) (w : Who) (dev t addr : Nat) : Nat :=
  match w with
  | .fabric i =>
    if s.nodeDomainState (initPlace i).1 ≠ dmOn then rcDomainOff
    else if dev = s.devNumber ∧ (pageTarget t addr).any (fun pg => s.on pg PAGE_RESET.BUSY) = true then rcBusyReset
    else 0
  | _ => 0

/-- The request is a doorbell write, which travels as MSG (R292). -/
def isDoorbell (write : Bool) (size t addr : Nat) : Bool :=
  write && size == 4 && t == 110 && (addr == pgIntc 0 * 4096 + 0x40 || addr == pgIntc 1 * 4096 + 0x40)

/-- The sender reaches the destination: of the physical functions PF0 alone has the array window, BAR4, and none has another (R39). -/
def hasWindow (w : Who) (d : RigDest) : Bool :=
  match w, d with
  | .pf n, .array _ => pcieBars.any (fun b => b.function == n && b.bar == 4)
  | .pf _, _ => false
  | _, _ => true

/-- A request from `w` is presented at its interface. -/
def State.rigRequest (s : State) (w : Who) (d : RigDest) (write : Bool) (size : Nat) (data : List Byte) (note : Option RigNote) : State :=
  let i := whoInit w
  let idle := match w with | .fabric j => !s.fabricLive j | _ => false
  if idle then s.respond .none 0
  else if size = 0 ∨ hasWindow w d = false then s.respond (rigStatus i rcDecode) 0
  else
    let node := (initPlace i).1
    let ps := (cutAll (destAddr d) size).map (fun c => (c, s.aim node (destPlus d c.1)))
    if ps.any (fun p => p.2.isNone) then s.respond (rigStatus i rcDecode) 0
    else
      let qs := ps.filterMap (fun p => p.2.map (fun x =>
        ({ who := w, dev := x.1, target := x.2.1, addr := x.2.2, write := write, bytes := p.1.2, data := if write then (data.drop p.1.1).take p.1.2 else []
           note := note } : RigPiece)))
      match qs with
      | [] => s
      | q :: _ =>
        let c := s.interfaceCode w q.dev q.target q.addr
        let c := if c = rcBusyReset ∧ isDoorbell write size q.target q.addr = true then 0 else c
        if c ≠ 0 then s.respond (rigStatus i c) 0
        else if isDoorbell write size q.target q.addr then
          (s.respond .ok 0).postMsg w i q.dev 109 q.addr 0 0 (!s.whoSecure w) (q.data)
        else (s.respond .none 0).present i qs

end Sys2Proof.Machine
end

