-- ==== Sys2Proof/Machine/Interrupts.lean ====
section
/-! DEFINITION. Meanings of chapter 13's commands: doorbells, routing rounds, claims and completions. -/

namespace Sys2Proof.Machine

open Sys2Proof

/-- A write of a doorbell register (R335): INTC_DOORBELL_S where `secure`, else INTC_DOORBELL_NS. INTC page 0 is not visible
to PF1 to PF7 (R334). The controller checks the write itself. -/
def State.ringDoorbell (s : State) (w : Who) (secure : Bool) (v : Nat) : State :=
  if secure && !s.visible w (pgIntc 0) then s.respond .ur 0
  else (s.takeDoorbell secure (s.whoSecure w) v (whoInit w) 0).respond .ok 0

/-- DOORBELL (R335). -/
def execDoorbell (w : Who) (secure : Bool) (v : Word) (s : State) : Host.Outcome State Fault Refusal :=
  .next (s.ringDoorbell w secure v.toNat)

/-- The message of a HOST target (R341): a 4-byte write of initiator 5 to host space, in the target's world. Its failure shows at
RIG_RESPONSE or RIG_TIMEOUT. -/
def State.sendMessage (s : State) (t : Nat) : State :=
  let s := s.wrTgt t TGT_MSG_CNT.COUNT (satAdd (2 ^ 32 - 1) (s.rdTgt t TGT_MSG_CNT.COUNT) 1)
  let addr := 4 * s.rdTgt t TGT_ADDR_LO.ADDR + 2 ^ 32 * s.rdTgt t TGT_ADDR_HI.ADDR
  s.rigRequest (.intc (s.onTgt t TGT_CTRL.SECURE)) (.host addr) true 4 (bytesLE 4 (s.rdTgt t TGT_DATA.DATA)) (some (.message t))

/-- Source `v` is routed to target `t` (R340, R341). -/
def State.deliver (s : State) (v t : Nat) : State :=
  let s := (s.wr (pgSrc v) SRC_STATE.STATE srcDelivered).wr (pgSrc v) SRC_STATE.TARGET t
  let s := { s with lastTgt := nset s.lastTgt v (t + 1), gotPrio := nset s.gotPrio v (s.srcPrio v) }
  if s.onTgt t TGT_CTRL.KIND then s else s.sendMessage t

/-- A routing round (R340, R342): the best PENDING source for which an eligible target exists is delivered. -/
def State.intcRound (s : State) : State :=
  if !s.on (pgIntc 0) INTC_GLOBAL.DELIVER || s.intcBusy then s
  else
    match bestSource s.srcPrio (fun v => s.srcState v == srcPending && s.on (pgSrc v) SRC_CFG.ENABLE && (s.chooseTarget v).isSome) with
    | some v => (match s.chooseTarget v with | some t => s.deliver v t | none => s)
    | none => s

/-- INTC_ROUND (R340). -/
def execIntcRound (s : State) : Host.Outcome State Fault Refusal := .next s.intcRound

/-- A read of TGT_CLAIM past the access checks (R334, R343). -/
def State.claimBody (s : State) (a : Access) (t : Nat) : State :=
  if partSeen a.who (s.rdTgt t TGT_CTRL.PART) then
    let (w, s) := s.claimSource t
    s.respond .ok w
  else s.respond .ok 0

/-- TGT_CLAIM (R343). -/
def execTgtClaim (a : Access) (t : Nat) (s : State) : Host.Outcome State Fault Refusal :=
  let off := (tgtFld TGT_CLAIM.VALUE t).off
  guardUnit (t < 32)
    (s.gatedReadW a (pgTgt t) off (fun s => s.denyOwn a false (pgTgt t) off (s.onTgt t TGT_CTRL.SECURE)) (fun s => s.claimBody a t))

/-- A write of TGT_COMPLETE past the access checks (R334, R344). -/
def State.completeBody (s : State) (a : Access) (t : Nat) (v : Word) : Option State :=
  let src := getF v TGT_COMPLETE.SOURCE.lo TGT_COMPLETE.SOURCE.len
  if src = 0 ∨ partSeen a.who (s.rdTgt t TGT_CTRL.PART) = false then none else some (s.completeSource src t)

/-- TGT_COMPLETE (R344). -/
def execTgtComplete (a : Access) (t : Nat) (v : Word) (s : State) : Host.Outcome State Fault Refusal :=
  let off := (tgtFld TGT_COMPLETE.SOURCE t).off
  guardUnit (t < 32)
    (s.gatedWriteW a (pgTgt t) off v (fun s => s.denyOwn a true (pgTgt t) off (s.onTgt t TGT_CTRL.SECURE))
      (fun s => s.completeBody a t v))

/-- PORT_CLAIM (R345): CLAIM = 1 at an edge that the panel receives, with CPR; CSRC, CCOUNT and CVALID show four
received edges later. -/
def execPortClaim (p cpr : Nat) (s : State) : Host.Outcome State Fault Refusal :=
  guardUnit (p < 576 && cpr < 16)
    (if s.clkRun p then
       let s := s.sampleCpr p cpr
       let (w, s) := match s.portTarget p with | some t => s.claimSource t | none => (0, s)
       s.setPanel p { s.panel p with claimDue := (s.panel p).claimDue ++ [⟨4, w⟩] }
     else s)

/-- PORT_COMPLETE (R345): COMPLETE = 1 at an edge that the panel receives, with CMPSRC and CPR. -/
def execPortComplete (p src cpr : Nat) (s : State) : Host.Outcome State Fault Refusal :=
  guardUnit (p < 576 && cpr < 16 && src < 4096)
    (if s.clkRun p then
       let s := s.sampleCpr p cpr
       match s.portTarget p with | some t => s.completeSource src t | none => s
     else s)

/-- TARGET_DISABLE (R347): a TGT_CTRL write that disables target `t` or changes its KIND. -/
def execTargetDisable (a : Access) (t : Nat) (v : Word) (s : State) : Host.Outcome State Fault Refusal :=
  guardUnit (t < 32) (s.tgtCtrlWrite a t v)

end Sys2Proof.Machine
end

