-- ==== Sys2Proof/Machine/Lanes.lean ====
section
/-! DEFINITION. Meanings of chapter 14's commands: bring-up, equalisation, trim and the calibration blob of the serial lanes. -/

namespace Sys2Proof.Machine

open Sys2Proof

/-! ### LANE_CTRL (R353, R354, R356, R371, R374, R375) -/

/-- An accepted write of LANE_CTRL. -/
def laneCtrlBody (l : Nat) (v : Word) (s : State) : Option State :=
  let old := s.reg (pgLane l * 4096 + LANE_CTRL.ENABLE.off)
  let on := s.laneOn l
  let en := getF v 0 1 == 1
  let rate := getF v 1 3
  if (s.laneOwner l ≠ 0 ∧ getF v 0 5 ≠ getF old 0 5) ∨ (getF v 7 1 = 1 ∧ on = false) then none
  else if s.isPcie l = false ∧ (2 < rate ∨ getF v 4 1 = 0 ∨ (en = true ∧ inPcieQuad l = true)) then none
  else if rate ≠ getF old 1 3 ∧ s.bandClash l rate = true ∨ (en = true ∧ on = false ∧ s.bandClash l rate = true) then none
  else
    let t := s.storeReg (pgLane l) LANE_CTRL.ENABLE.off v
    some (
      if on = false ∧ en = true then t.powerLane l
      else if on = true ∧ en = false then t.unpowerLane l
      else if getF v 7 1 = 1 then (t.laneReset l).laneResetPort l
      else t)

def State.laneWrite (s : State) (a : Access) (l : Nat) (v : Word) : Host.Outcome State Fault Refusal :=
  guardUnit (l < 32) (s.gatedWrite a (pgLane l) LANE_CTRL.ENABLE.off v (laneCtrlBody l v))

/-- The RW fields of LANE_CTRL as they stand. -/
def State.laneCtrlNow (s : State) (l : Nat) : Word := s.reg (pgLane l * 4096 + LANE_CTRL.ENABLE.off) &&& 0x7F

/-- LANE_ENABLE (R372): a write of LANE_CTRL with ENABLE = 1 and the other fields of `v`. -/
def execLaneEnable (a : Access) (l : Nat) (v : Word) (s : State) : Host.Outcome State Fault Refusal := s.laneWrite a l (v ||| 1)

/-- LANE_DISABLE (R373): a write of LANE_CTRL with ENABLE = 0 and its other fields as they are. -/
def execLaneDisable (a : Access) (l : Nat) (s : State) : Host.Outcome State Fault Refusal :=
  s.laneWrite a l (s.laneCtrlNow l &&& ~~~ 1)

/-- LANE_RETRAIN (R372): a write of LANE_CTRL with RETRAIN = 1 and its other fields as they are. -/
def execLaneRetrain (a : Access) (l : Nat) (s : State) : Host.Outcome State Fault Refusal :=
  s.laneWrite a l (s.laneCtrlNow l ||| 0x80)

/-! ### Settings of the equalisers (R357, R358, R373) -/

/-- A write of LANE_TX_FFE. -/
def txFfeBody (l : Nat) (v : Word) (s : State) : Option State :=
  if ffeAccepted v then
    let t := s.storeReg (pgLane l) LANE_TX_FFE.PRE2.off v
    some (if s.stage l = stActive then t else t.takeFfe l)
  else none

/-- The value nearest to `x` within 4 steps of the table value and in 0 to 40. -/
def nearTable (table x : Nat) : Nat := min 40 (min (table + 4) (max (table - 4) x))

/-- A write of LANE_RX_CTLE (R358, R359, R373): while trim moves, the data path goes to the nearest value within the new table ± 4;
otherwise it goes to the table value. -/
def rxCtleBody (l : Nat) (v : Word) (s : State) : Option State :=
  let moving := s.stage l = stActive ∧ s.rdLane l LANE_STATUS.TRIM_MOVING = 1
  let t := s.storeReg (pgLane l) LANE_RX_CTLE.PEAK.off v
  let t := if getF v 31 1 = 1 then t.setLane l { t.lane l with board := true } else t
  let peak := t.rdLane l LANE_RX_CTLE.PEAK
  let t := t.setLane l { t.lane l with prop := none }
  some (t.walkTo l (if moving then nearTable peak (s.rdLane l LANE_RX_LIVE.PEAK) else peak) (t.rdLane l LANE_RX_CTLE.LF_GAIN))

/-- A write of LANE_PLL: REF changes only on the quad's first lane while all its lanes are DISABLED (R374). -/
def lanePllBody (l : Nat) (v : Word) (s : State) : Option State :=
  if getF v 8 1 ≠ s.rdLane l LANE_PLL.REF ∧ (l % 4 ≠ 0 ∨ (List.range 4).any (fun i => s.rdLane (l + i) LANE_STATUS.POWER == 1)) then none
  else some (s.storeReg (pgLane l) LANE_PLL.BAND.off v)

/-! ### Eyes and limits (R362, R363) -/

/-- The smallest eye height at a RATE: NRZ has the single eye H0. -/
def eyeHeight (rate : Nat) (e : Eye) : Nat :=
  if 2 < rate then e.h0.toNat else min e.h0.toNat (min e.h1.toNat e.h2.toNat)

/-- The eye passes the lane's limits. -/
def State.eyePasses (s : State) (l : Nat) (e : Eye) : Bool :=
  s.rdLane l LANE_CAL_LIMITS.EYE_W_MIN ≤ e.width.toNat &&
  s.rdLane l LANE_CAL_LIMITS.EYE_H_MIN ≤ eyeHeight (s.rdLane l LANE_CTRL.RATE) e

/-- LANE_EYE is updated at the end of a dwell. -/
def State.showEye (s : State) (l : Nat) (e : Eye) : State :=
  let nrz := 2 < s.rdLane l LANE_CTRL.RATE
  let s := (s.wrLane l LANE_EYE.WIDTH e.width.toNat).wrLane l LANE_EYE.H0 e.h0.toNat
  (s.wrLane l LANE_EYE.H1 (if nrz then 0 else e.h1.toNat)).wrLane l LANE_EYE.H2 (if nrz then 0 else e.h2.toNat)

/-- A proposal failed a check (R362). -/
def State.rejectCal (s : State) (l : Nat) : State := (s.inc (pgLane l) LANE_CAL_REJ_CNT.COUNT).raiseLane l LANE_EVENT.CAL_REJECTED

/-- Candidates of greatest height among those given as (value, eye). -/
def bestOf (rate : Nat) (cs : List (Nat × Eye)) : List Nat :=
  let h := (cs.map (fun c => eyeHeight rate c.2)).foldl max 0
  (cs.filter (fun c => eyeHeight rate c.2 == h)).map (·.1)

/-- One of several candidates of equal height: the spec does not say which, so a free value chooses. -/
def State.pick (s : State) (cs : List Nat) : Option Nat × State :=
  match cs with
  | [] => (none, s)
  | [c] => (some c, s)
  | cs => let f := s.free 16; (cs[f.1 % cs.length]?, f.2)

/-! ### Bring-up (R368 to R370) -/

/-- Lanes that enter a stage together with lane `l`. -/
def State.partners (s : State) (l : Nat) : List Nat :=
  match s.lanePort l with
  | some p => if (s.lanesUsed p).contains l then s.lanesUsed p else [l]
  | none => [l]

/-- DETECT_PROBE (R368): in DETECT, the far receiver is or is not detected. -/
def execDetectProbe (l : Nat) (found : Bool) (s : State) : Host.Outcome State Fault Refusal :=
  guardUnit (l < 32) (if s.stage l = stDetect ∧ found = true then s.enterTrain l false else s)

/-- The lanes of a port enter LOCK together once each has passed TRAIN. -/
def State.toLock (s : State) (l : Nat) : State :=
  if (s.partners l).all (fun m => s.stage m == stTrain && (s.lane m).trained) then (s.partners l).foldl (fun s m => s.setStage m stLock) s
  else s

/-- CDR_LOCK (R368): the CDR locks in TRAIN and the values in use are checked on the eye monitor. A failure of these is left to the
stage's timeout (R362). -/
def execCdrLock (l : Nat) (eye : Eye) (s : State) : Host.Outcome State Fault Refusal :=
  guardUnit (l < 32)
    (if s.stage l ≠ stTrain then s
     else
       let s := ((s.wrLane l LANE_STATUS.CDR_LOCK 1).wrLane l LANE_STATUS.PRECODE_LIVE (s.rdLane l LANE_CTRL.PRECODE)).showEye l eye
       if ((s.lane l).adapting = true ∧ (s.lane l).adapted = false) ∨ s.eyePasses l eye = false then s
       else (s.setLane l { s.lane l with trained := true }).toLock l)

/-- BIT_LOCK (R368): 10^6 PRBS bits without error in LOCK. Flits follow, through precoders that stand where PRBS31 has left them, which is
not given (log entry 2). -/
def execBitLock (l : Nat) (s : State) : Host.Outcome State Fault Refusal :=
  guardUnit (l < 32)
    (if s.stage l = stLock ∧ (s.lane l).bitLock = false then
       let f := s.free 4
       f.2.setLane l { f.2.lane l with bitLock := true, rxSym := f.1 % 4, txSym := f.1 / 4 }
     else s)

/-- FLIT_LOCK (R368): three valid flits after deskew; the lanes of a port enter EXCHANGE together. -/
def execFlitLock (l : Nat) (s : State) : Host.Outcome State Fault Refusal :=
  guardUnit (l < 32)
    (if s.stage l = stLock ∧ (s.lane l).bitLock = true then
       let s := s.setLane l { s.lane l with flitLock := true }
       if (s.partners l).all (fun m => s.stage m == stLock && (s.lane m).flitLock) then
         (s.partners l).foldl (fun s m => s.setStage m stExchange) s
       else s
     else s)

/-- The timeout of a lane's stage in ns; none where the stage has none. -/
def State.stageLimit (s : State) (l : Nat) : Option Nat :=
  let ms (f : Fld) : Option Nat := some (s.rdLane l f * 1000000)
  match s.stage l with
  | 1 => ms LANE_TIMEOUTS.DETECT_MS
  | 2 => if (s.lane l).adapting then some 15000000000 else ms LANE_TIMEOUTS.TRAIN_MS
  | 3 => ms LANE_TIMEOUTS.LOCK_MS
  | 4 => ms LANE_TIMEOUTS.EXCH_MS
  | _ => none

/-- The lane enters BACKOFF (R369): the first backoff is 1 ms, each further timeout in a row doubles it. -/
def State.backOff (s : State) (l : Nat) : State :=
  let n := (s.lane l).consec
  let s := if n = 0 then s.wrLane l LANE_BACKOFF.MS 1 else s.wrLane l LANE_BACKOFF.MS (min 1000 (2 * s.rdLane l LANE_BACKOFF.MS))
  let s := ((s.dropProp l).setLane l { (s.dropProp l).lane l with consec := n + 1 }).setStage l stBackoff
  ((s.wrLane l LANE_STATUS.CDR_LOCK 0).inc (pgLane l) LANE_RETRY_CNT.COUNT).raiseLane l LANE_EVENT.STAGE_TIMEOUT

/-- What a port offers after a timeout (R376): after LOCK, the lanes with bit lock in an aligned width; after an exchange that failed
with WIDTH, the full width. -/
def State.offerAfter (s : State) (p st : Nat) : State :=
  if st = stLock then
    let b := s.rdPort p TETHER_CTRL.BASE_LANE
    let m := alignedMask (s.fullMask p) (((List.range 4).filter (fun i => bitOf (s.port p).offered i && (s.lane (b + i)).bitLock)).map (2 ^ ·)).sum
    if m = 0 then s else (s.offer p m).narrow p m
  else if st = stExchange ∧ (s.port p).widthFail = true then s.regain p
  else s

/-- STAGE_TIMEOUT (R369): the lane backs off; every other lane of its port restarts bring-up (R368). A lane that the port has narrowed away
from concerns the port no more (R376). -/
def execStageTimeout (l : Nat) (s : State) : Host.Outcome State Fault Refusal :=
  guardUnit (l < 32)
    (match s.stageLimit l with
     | none => s
     | some d =>
       if s.ns < (s.lane l).since + d then s
       else
         match s.lanePort l with
         | none => s.backOff l
         | some p =>
           if (s.lanesIn p (s.port p).offered).contains l = false then s.backOff l
           else
             let t := (s.backOff l).offerAfter p (s.stage l)
             let t := ((t.lanesIn p (t.port p).offered).filter (fun m => m != l && s.stage m != stBackoff)).foldl State.enterDetect t
             t.leaveActive p)

/-- BACKOFF_EXPIRY (R369): after LANE_BACKOFF.MS the lane restarts at DETECT. -/
def execBackoffExpiry (l : Nat) (s : State) : Host.Outcome State Fault Refusal :=
  guardUnit (l < 32)
    (if s.stage l = stBackoff ∧ (s.lane l).since + s.rdLane l LANE_BACKOFF.MS * 1000000 ≤ s.ns then s.enterDetect l else s)

/-- LOCK_LOST (R370): the lane returns to TRAIN with its live values; the other lanes of its port train again with it. -/
def execLockLost (l : Nat) (s : State) : Host.Outcome State Fault Refusal :=
  guardUnit (l < 32)
    (if s.stage l ≠ stActive then s
     else
       let t := s.loseLock l
       match s.lanePort l with
       | none => t
       | some p =>
         (((s.portLanes p).filter (fun m => m != l && s.stage m == stActive)).foldl (fun t m => t.enterTrain m true) t).leaveActive p)

/-! ### Adaptation and trim (R358 to R363) -/

/-- One step toward a target. -/
def stepToward (x target : Nat) : Nat := if x < target then x + 1 else if target < x then x - 1 else x

/-- CTLE_STEP (R358): PEAK and LF_GAIN move by one step each, at most once in a millisecond. -/
def execCtleStep (l : Nat) (s : State) : Host.Outcome State Fault Refusal :=
  guardUnit (l < 32)
    (if s.rdLane l LANE_STATUS.TRIM_MOVING = 0 ∨ s.ns < (s.lane l).stepAt + 1000000 then s
     else
       let pk := stepToward (s.rdLane l LANE_RX_LIVE.PEAK) (s.rdLane l LANE_RX_LIVE.TARGET)
       let lf := stepToward (s.rdLane l LANE_RX_LIVE.LF_GAIN) (s.lane l).lfTarget
       let s := (s.wrLane l LANE_RX_LIVE.PEAK pk).wrLane l LANE_RX_LIVE.LF_GAIN lf
       let s := s.setLane l { s.lane l with stepAt := s.ns }
       if pk = s.rdLane l LANE_RX_LIVE.TARGET ∧ lf = (s.lane l).lfTarget then
         (s.wrLane l LANE_STATUS.TRIM_MOVING 0).setLane l { s.lane l with walkDone := s.ns }
       else s)

/-- A proposal is applied (R362): what it replaces is kept, and the data path walks to it. -/
def State.propose (s : State) (l peak lf : Nat) : State :=
  let old : LaneProp := { peak := s.rdLane l LANE_RX_LIVE.PEAK, lf := s.rdLane l LANE_RX_LIVE.LF_GAIN }
  (s.setLane l { s.lane l with prop := some old }).walkTo l peak lf

/-- FULL_ADAPTATION (R360): the sweep of the 533 combinations ends; `evals` holds their eyes, PEAK by PEAK. The best is walked to and
checked; DATA_PATH_CHECK then writes it into LANE_RX_CTLE. -/
def execFullAdaptation (l : Nat) (evals : List Eye) (s : State) : Host.Outcome State Fault Refusal :=
  guardUnit (l < 32 && evals.length == 533)
    (if s.stage l ≠ stTrain ∨ (s.lane l).adapting = false ∨ (s.lane l).adapted = true ∨ (s.lane l).prop.isSome = true then s
     else
       let cs := ((List.range 533).zip evals).filter (fun c => s.eyePasses l c.2)
       match s.pick (bestOf (s.rdLane l LANE_CTRL.RATE) cs) with
       | (none, s) => s.raiseLane l LANE_EVENT.CAL_REJECTED
       | (some c, s) =>
         (s.propose l (c / 13) (c % 13)).showEye l (evals.getD c {}))

/-- Candidates of a trim run (R361): the live PEAK and one step on either side, within the table value ± 4, without those left out;
each with its eye. -/
def State.trimCandidates (s : State) (l : Nat) (below at_ above : Eye) : List (Nat × Eye) :=
  let live := s.rdLane l LANE_RX_LIVE.PEAK
  let table := s.rdLane l LANE_RX_CTLE.PEAK
  let cs := (if live = 0 then [] else [(live - 1, below)]) ++ [(live, at_), (live + 1, above)]
  cs.filter (fun c => c.1 ≤ 40 && c.1 ≤ table + 4 && table ≤ c.1 + 4 && !(s.lane l).avoid.any (fun x => x.1 == c.1))

/-- The instant at which the trim run began that has dwelt on `n` candidates by now (R361): a whole number of periods after entry to ACTIVE,
and after the runs that have begun or been skipped. -/
def State.trimBegan (s : State) (l n : Nat) : Option Nat :=
  let since := (s.lane l).since
  let period := 1000000 * s.rdLane l LANE_TRIM.PERIOD_MS
  let k := (s.ns - 22000000 * n - since) / period
  let t := since + k * period
  if 0 < k ∧ t + 22000000 * n ≤ s.ns ∧ (s.lane l).trimAt < t then some t else none

/-- TRIM_RUN (R361): a run, of 22 ms for each candidate, has evaluated PEAK and its neighbours and proposes the best that passes. One that
began while a proposal was in progress has been skipped. -/
def execTrimRun (l : Nat) (below at_ above : Eye) (s : State) : Host.Outcome State Fault Refusal :=
  guardUnit (l < 32)
    (if s.stage l ≠ stActive ∨ s.rdLane l LANE_RX_CTLE.TRIM_EN = 0 ∨ (s.lane l).prop.isSome = true ∨
        s.rdLane l LANE_STATUS.TRIM_MOVING = 1 ∨ s.trimBegan l (s.trimCandidates l below at_ above).length = none then s
     else
       let cs := (s.trimCandidates l below at_ above).filter (fun c => s.eyePasses l c.2)
       let x := s.lane l
       let s := s.setLane l { x with trimAt := s.ns, avoid := (x.avoid.filter (fun a => 1 < a.2)).map (fun a => (a.1, a.2 - 1)) }
       match s.pick (bestOf (s.rdLane l LANE_CTRL.RATE) cs) with
       | (none, s) => s.showEye l at_
       | (some c, s) =>
         let s := s.showEye l at_
         if c = s.rdLane l LANE_RX_LIVE.PEAK then s else s.propose l c (s.rdLane l LANE_RX_LIVE.LF_GAIN))

/-- The result of full adaptation is written as the table value (R360). -/
def State.keepAdapted (s : State) (l : Nat) : State :=
  let s := (s.wrLane l LANE_RX_CTLE.PEAK (s.rdLane l LANE_RX_LIVE.PEAK)).wrLane l LANE_RX_CTLE.LF_GAIN (s.rdLane l LANE_RX_LIVE.LF_GAIN)
  (s.wrLane l LANE_RX_CTLE.TABLE_VALID 1).setLane l { s.lane l with board := true, adapted := true }

/-- What a proposal that fails a check has set returns to what it was (R362): a blob's registers, and the blob in force. -/
def State.undoProp (s : State) (l : Nat) (p : LaneProp) : State :=
  let s := s.setLane l { s.lane l with prop := none, trimAt := s.ns }
  match p.undo with
  | some u => (s.setLaneRegs l u.1).setLane l { s.lane l with blob := u.2 }
  | none => s

/-- DATA_PATH_CHECK (R362): after a dwell of 22 ms the eye monitor has judged a blob before its application, which then is walked to; or the
data path has been measured at the proposal: the proposal stays, or the data path walks back. -/
def execDataPathCheck (l : Nat) (eye : Eye) (s : State) : Host.Outcome State Fault Refusal :=
  guardUnit (l < 32)
    (match (s.lane l).prop with
     | none => s
     | some old =>
       if s.rdLane l LANE_STATUS.TRIM_MOVING = 1 ∨ s.ns < (s.lane l).walkDone + 22000000 then s
       else
         let s := s.showEye l eye
         let tried := s.rdLane l LANE_RX_LIVE.PEAK
         match old.next with
         | some n =>
           if s.eyePasses l eye then (s.setLane l { s.lane l with prop := some { old with next := none } }).walkTo l n.1 n.2
           else (s.undoProp l old).rejectCal l
         | none =>
         if s.eyePasses l eye then
           let s := s.setLane l { s.lane l with prop := none, saveDue := true, trimAt := s.ns }
           if s.stage l = stTrain ∧ (s.lane l).adapting = true then
             let s := s.keepAdapted l
             if s.rdLane l LANE_STATUS.CDR_LOCK = 1 then (s.setLane l { s.lane l with trained := true }).toLock l else s
           else s
         else
           let s := s.undoProp l old
           let x := s.lane l
           let s := s.setLane l { x with avoid := (x.avoid.filter (fun a => a.1 != tried)) ++ [(tried, 10)] }
           (s.walkTo l old.peak old.lf).rejectCal l)

/-- MANT and EXP of `n` errors in `bits` bits: the largest decimal mantissa below 10, rounded down, and whether it is exact. -/
def berDigits (n bits : Nat) : Nat × Nat × Bool :=
  match (List.range 32).find? (fun e => bits ≤ n * 10 ^ e) with
  | some e => (min 9 (n * 10 ^ e / bits), e, n * 10 ^ e % bits == 0)
  | none => (0, 0, true)

/-- LANE_BER of a Tether lane (R363, R381): FEC-corrected symbols of the last second against its bits. DESIGN CHOICE: a symbol counts as one
error. Which way the mantissa is rounded is open (log entry 2). -/
def State.tetherBer (s : State) (l : Nat) : State :=
  let n := ((s.lane l).corrected.filter (fun t => s.ns < t + 1000000000)).length
  let d := berDigits n (10000000 * rateBits (s.rdLane l LANE_CTRL.RATE))
  let f := if d.2.2 || d.1 == 9 then (0, s) else s.free 1
  (f.2.wrLane l LANE_BER.EXP d.2.1).wrLane l LANE_BER.MANT (d.1 + f.1)

/-- QUALITY_UPDATE (R363): LANE_EYE and LANE_BER (mantissa 0 to 9 and exponent) are updated. `mant` and `exp` are what the PCI Express
controller's lanes give; a Tether lane counts for itself. -/
def execQualityUpdate (l : Nat) (eye : Eye) (mant : Nat) (exp : BitVec 5) (s : State) : Host.Outcome State Fault Refusal :=
  guardUnit (l < 32 && mant < 10)
    (if s.rdLane l LANE_STATUS.POWER = 0 then s
     else if s.laneOwner l = 2 then (s.showEye l eye).tetherBer l
     else ((s.showEye l eye).wrLane l LANE_BER.EXP exp.toNat).wrLane l LANE_BER.MANT mant)

/-- PLL_RELOCK (R353): the PLL of quad `q` locks in the band of its enabled lanes. -/
def execPllRelock (q : Nat) (s : State) : Host.Outcome State Fault Refusal :=
  guardUnit (q < 8)
    (match (List.range 4).find? (fun i => s.rdLane (4 * q + i) LANE_STATUS.POWER == 1) with
     | none => s
     | some i =>
       let band := bandOf (s.rdLane (4 * q + i) LANE_CTRL.RATE)
       (List.range 4).foldl (fun s j => (s.wrLane (4 * q + j) LANE_PLL.BAND band).wrLane (4 * q + j) LANE_PLL.LOCKED 1) s)

/-! ### The calibration blob (R365 to R367) -/

/-- Words 0 to 14 of the blob of the lane's present state (R365), with capture number `n`. A PCI Express lane gives the values for
64 GT/s. -/
def State.blobWords (s : State) (l n : Nat) : List Word :=
  let c := s.reg (pgLane l * 4096 + LANE_CTRL.ENABLE.off)
  let rate := if s.isPcie l then 2 else getF c 1 3
  let w0 := 1 + l * 2 ^ 8 + rate * 2 ^ 16 + getF c 4 3 * 2 ^ 24 + getF c 0 1 * 2 ^ 27
  let w2 := s.rdLane l LANE_RX_CTLE.PEAK + s.rdLane l LANE_RX_CTLE.LF_GAIN * 2 ^ 8 + s.rdLane l LANE_RX_LIVE.PEAK * 2 ^ 16 +
    s.rdLane l LANE_RX_CTLE.TRIM_EN * 2 ^ 24
  let w5 := match s.lanePort l with
    | some p => if s.rdPort p TETHER_STATUS.PARTNER_VALID = 1 then
        s.rdPort p TETHER_STATUS.PARTNER_DEV + s.rdPort p TETHER_STATUS.PARTNER_PORT * 2 ^ 8 + 2 ^ 31 else 0
    | none => 0
  [BitVec.ofNat 32 w0, BitVec.ofNat 32 (getF (s.reg (pgLane l * 4096 + LANE_TX_FFE.PRE2.off)) 0 30), BitVec.ofNat 32 w2,
   s.reg (pgLane l * 4096 + LANE_EYE.WIDTH.off), BitVec.ofNat 32 (s.rdLane l LANE_BER.EXP + s.rdLane l LANE_BER.MANT * 2 ^ 8),
   BitVec.ofNat 32 w5, BitVec.ofNat 32 n] ++ List.replicate 8 0

def wordsBytes (ws : List Word) : List Byte := ws.flatMap (fun w => bytesLE 4 w.toNat)

/-- CAPTURE: the blob of the present state, with a fresh CRC. -/
def State.capture (s : State) (l : Nat) : State :=
  let n := ((s.lane l).captures + 1) % 2 ^ 32
  let ws := s.blobWords l n
  let ws := ws ++ [BitVec.ofNat 32 (crc32c (wordsBytes ws))]
  let s := s.setLane l { s.lane l with captures := n }
  ((List.range 16).zip ws).foldl (fun s w => s.wrLane l (LANE_CAL_BLOB.WORD.at w.1) w.2.toNat) s

/-- The words of LANE_CAL_BLOB. -/
def State.blobRegs (s : State) (l : Nat) : List Word :=
  (List.range 16).map (fun i => s.reg (pgLane l * 4096 + (LANE_CAL_BLOB.WORD.at i).off))

/-- The checks of a blob (R366): a LANE_CAL_RESULT code, 1 for OK. -/
def State.checkBlob (s : State) (l : Nat) (ws : List Word) : Nat :=
  let w0 := ws.getD 0 0
  if crc32c (wordsBytes (ws.take 15)) ≠ (ws.getD 15 0).toNat then 2
  else if getF w0 0 8 ≠ 1 then 3
  else if getF w0 8 5 ≠ l then 4
  else if s.laneOn l ∧ getF w0 16 3 ≠ s.rdLane l LANE_CTRL.RATE then 5
  else 1

/-- A checked blob is applied (R366): LANE_CTRL fields if the lane is DISABLED, the taps under R357, the CTLE under R358. In ACTIVE its
values wait for the check before application, and the data path is checked after it, as for every proposal (R362). -/
def State.applyBlob (s : State) (l : Nat) (ws : List Word) : State :=
  let w0 := ws.getD 0 0
  let w2 := ws.getD 2 0
  let w5 := ws.getD 5 0
  let was := s.laneRegs l
  let s := if s.laneOn l then s
    else
      let s := (s.wrLane l LANE_CTRL.RATE (getF w0 16 3)).wrLane l LANE_CTRL.PRECODE (getF w0 24 1)
      (s.wrLane l LANE_CTRL.TX_INVERT (getF w0 25 1)).wrLane l LANE_CTRL.RX_INVERT (getF w0 26 1)
  let a := pgLane l * 4096 + LANE_TX_FFE.PRE2.off
  let s := s.setReg a (setF (s.reg a) 0 30 (getF (ws.getD 1 0) 0 30))
  let s := if s.stage l = stActive then s else s.takeFfe l
  let s := (s.wrLane l LANE_RX_CTLE.PEAK (getF w2 0 6)).wrLane l LANE_RX_CTLE.LF_GAIN (getF w2 8 4)
  let s := s.wrLane l LANE_RX_CTLE.TRIM_EN (getF w2 24 1)
  let peak := nearTable (getF w2 0 6) (getF w2 16 6)
  let partner := if getF w5 31 1 = 1 then some (getF w5 0 6, getF w5 8 3) else none
  let s := s.stopWalk l
  let x := s.lane l
  let first := match x.blob with | some b => b.old | none => was
  let s := s.setLane l { x with blob := some ⟨peak, getF w2 8 4, partner, s.laneRegs l, first⟩ }
  if s.stage l = stActive then
    s.setLane l { s.lane l with walkDone := s.ns
                                prop := some ⟨s.rdLane l LANE_RX_LIVE.PEAK, s.rdLane l LANE_RX_LIVE.LF_GAIN, some (peak, getF w2 8 4), some (was, x.blob)⟩ }
  else s.walkTo l peak (getF w2 8 4)

/-- LOAD of the blob `ws`: checked, then applied; a blob that fails changes nothing but BLOB_BAD (R366, R367). -/
def State.loadBlob (s : State) (l : Nat) (ws : List Word) : State :=
  if s.checkBlob l ws = 1 then s.applyBlob l ws else s.raiseLane l LANE_EVENT.BLOB_BAD

/-- The blob is committed as the lane's entry (R366, R475): LANE_CAL_RESULT reads BUSY until the commit ends. -/
def State.saveBlob (s : State) (l : Nat) (ws : List Word) : State :=
  (s.wrLane l LANE_CAL_RESULT.RESULT 7).rsRequest ⟨recLane l, .lane l, false, wordsBytes ws, []⟩

/-- An accepted write of LANE_CAL_CMD (R366). -/
def calCmdBody (l : Nat) (v : Word) (s : State) : Option State :=
  let op := getF v 0 2
  let ws := s.blobRegs l
  if op = 0 ∨ s.rdLane l LANE_CAL_RESULT.RESULT = 7 then none
  else if op = 1 then some ((s.capture l).wrLane l LANE_CAL_RESULT.RESULT 1)
  else
    let r := s.checkBlob l ws
    let s := s.wrLane l LANE_CAL_RESULT.RESULT r
    some (if op = 2 then s.loadBlob l ws else if r = 1 then s.saveBlob l ws else s)

def State.calCmd (s : State) (a : Access) (l op : Nat) : Host.Outcome State Fault Refusal :=
  guardUnit (l < 32) (s.gatedWrite a (pgLane l) LANE_CAL_CMD.OP.off (BitVec.ofNat 32 op) (calCmdBody l (BitVec.ofNat 32 op)))

/-- CAL_CAPTURE (R366). -/
def execCalCapture (a : Access) (l : Nat) (s : State) : Host.Outcome State Fault Refusal := s.calCmd a l 1
/-- CAL_LOAD (R366). -/
def execCalLoad (a : Access) (l : Nat) (s : State) : Host.Outcome State Fault Refusal := s.calCmd a l 2
/-- CAL_SAVE (R366). -/
def execCalSave (a : Access) (l : Nat) (s : State) : Host.Outcome State Fault Refusal := s.calCmd a l 3

/-- CAL_AUTOSAVE (R367): a lasting change is captured and saved, at most once per second; not during a power-fail notice (R427). -/
def execCalAutosave (l : Nat) (s : State) : Host.Outcome State Fault Refusal :=
  guardUnit (l < 32)
    (let x := s.lane l
     let soon := match x.savedAt with | some t => s.ns < t + 1000000000 | none => false
     if x.saveDue = false ∨ s.rdLane l LANE_CAL_AUTOSAVE.ENABLE = 0 ∨ soon = true ∨ s.pfBlocked = true ∨
        s.rdLane l LANE_CAL_RESULT.RESULT = 7 then s
     else
       let s := (s.setLane l { x with saveDue := false, savedAt := some s.ns }).capture l
       s.saveBlob l (s.blobRegs l))

/-- A write of LANE_CAL_AUTOSAVE (R367): ENABLE = 0 erases the lane's entry. -/
def autosaveBody (l : Nat) (v : Word) (s : State) : Option State :=
  let t := s.storeReg (pgLane l) LANE_CAL_AUTOSAVE.ENABLE.off v
  some (if getF v 0 1 = 0 then t.rsRequest ⟨recLane l, .silent, true, [], []⟩ else t)

/-- The words of a payload. -/
def bytesWords (bs : List Byte) (n : Nat) : List Word := (List.range n).map (fun i => BitVec.ofNat 32 (natLE ((bs.drop (4 * i)).take 4)))

/-- A stored lane entry is applied as a LOAD; a lane whose blob carries ENABLE = 1 is enabled at once (R367). -/
def State.restoreLane (s : State) (l : Nat) : State :=
  match s.record (recLane l) with
  | none => if s.recordBad (recLane l) then s.raiseLane l LANE_EVENT.BLOB_BAD else s
  | some b =>
    let ws := bytesWords b.data 16
    let ok := s.checkBlob l ws = 1
    let s := s.loadBlob l ws
    if ok ∧ getF (ws.getD 0 0) 27 1 = 1 ∧ s.laneOwner l = 0 ∧ inPcieQuad l = false ∧
       s.bandClash l (s.rdLane l LANE_CTRL.RATE) = false then
      (s.wrLane l LANE_CTRL.ENABLE 1).powerLane l
    else s

/-- A stored port entry is applied: the TETHER_CTRL fields, and TRUST unless the WORLD page is locked (R56, R398). -/
def State.restorePort (s : State) (p : Nat) : State :=
  match s.record (recPort p) with
  | none => s
  | some b =>
    let ws := bytesWords b.data 2
    let v := ws.getD 0 0
    let t := s.storeReg (pgTether p) TETHER_CTRL.ENABLE.off v
    let t := if getF v 0 1 = 0 then t
             else if t.portEnableBad p then t.wrPort p TETHER_CTRL.ENABLE 0
             else t.enablePort p
    if t.on pgWorld PAGE_WORLD.LOCK then t
    else t.wr pgWorld (WORLD_TETHER_TRUST.TRUSTED) (setF (BitVec.ofNat 32 (t.rd pgWorld WORLD_TETHER_TRUST.TRUSTED)) p 1 (getF (ws.getD 1 0) 0 1)).toNat

/-- BLOB_RESTORE (R367, R398): at 26 ms after P or C, the stored lane blobs and then the port entries are applied. -/
def execBlobRestore (s : State) : Host.Outcome State Fault Refusal :=
  .next
    (if s.restored = true ∨ s.ns < 26000000 ∨ s.on pgReady READY_SUM.CENSUS = false then s
     else { (List.range 8).foldl State.restorePort ((List.range 32).foldl State.restoreLane s) with restored := true })

end Sys2Proof.Machine
end

