-- ==== Sys2Proof/Machine/Arbiter.lean ====
section
/-! DEFINITION. Input buffers, credits and output arbitration of the rigging's nodes, flit by flit (R290, R294, R296, R300). Log entry 61. -/

namespace Sys2Proof.Machine

open Sys2Proof

/-! ### Input buffers and credits (R294) -/

/-- Flits of the input buffer of a class at a link input (R294). -/
def bufDepth (cls : Nat) : Nat := if cls = 0 then 2 else 8

/-- Flits in the buffer of class `c` at link input `ip` of node `n`. -/
def State.bufFill (s : State) (n ip c : Nat) : Nat := ((s.rig.packets.filter (fun p => p.cls == c)).map (fun p => p.flitsIn n ip)).sum

/-- The credits of class `c` that the sender holds for link input `ip` of node `n`: the buffer's slots, less those in use and those whose
credits have still to return. -/
def State.credits (s : State) (n ip c : Nat) : Nat :=
  bufDepth c - (s.bufFill n ip c + (s.rig.owed.filter (· == (8 * n + ip, c))).length)

/-! ### The flits of a packet on the move -/

/-- Buffers that the last flit has left are given up. -/
def trimPlaces (ts : List (Nat × Nat × Nat)) : List (Nat × Nat × Nat) := (ts.reverse.dropWhile (fun t => t.2.2 == 0)).reverse

/-- `ts` with `f` applied to the flits of its `k`-th buffer. -/
def atPlace (f : Nat → Nat) : Nat → List (Nat × Nat × Nat) → List (Nat × Nat × Nat)
  | _, [] => []
  | 0, (n, ip, c) :: rest => (n, ip, f c) :: rest
  | k + 1, t :: rest => t :: atPlace f k rest

/-- The credit that is due when a flit leaves the buffer `t`. -/
def dueOf (t : Nat × Nat × Nat) (c : Nat) : List (Nat × Nat) := if t.2.1 < 6 then [(8 * t.1 + t.2.1, c)] else []

/-- The number of the flit that leaves the packet's `k`-th buffer next. -/
def Packet.flitNo (p : Packet) (k : Nat) : Nat := p.got + ((p.places.take k).map (fun t => t.2.2)).sum

/-! ### Order within an input, and outputs in use (R296, R300) -/

/-- The local port of its node at which a packet enters the rigging, numbered from 6. -/
def Packet.localInput (p : Packet) : Nat :=
  if p.opc == opRd || p.opc == opWr || p.opc == opMsg then 6 + (initPlace p.srcInit).2 else 14 + (targetPlace p.target).2

/-- The input of its node at which a packet's flits in a buffer of input `ip` wait: a link, or 6 and above for a local port. -/
def Packet.inputOf (p : Packet) (ip : Nat) : Nat := if ip < 6 then ip else p.localInput

/-- The input of its node at which the packet's header waits. -/
def Packet.input (p : Packet) : Nat := p.inputOf p.inPort

/-- The packet's `k`-th buffer has been left by the header: what is there, or still to come, follows it. -/
def Packet.bodyPlace (p : Packet) (k : Nat) : Bool := k < p.places.length && (0 < k || 0 < p.got)

/-- Packet `p` stands before `q` in the same input buffer: its header arrived earlier, or its flits follow its header from there. -/
def Packet.before (p q : Packet) : Bool :=
  p != q && p.cls == q.cls &&
  ((p.got == 0 && p.node == q.node && p.input == q.input && p.arr < q.arr) ||
   (List.range p.places.length).any (fun k => p.bodyPlace k &&
     (match p.places[k]? with | some t => t.1 == q.node && p.inputOf t.2.1 == q.input | none => false)))

/-- The packet's header is the first of its class at its input. -/
def State.isHead (s : State) (q : Packet) : Bool := !s.rig.packets.any (fun p => p.before q)

/-- The packet holds output `o` of node `n`: its header has gone through, and the rest of it has not (R296). -/
def Packet.streams (p : Packet) (n o : Nat) : Option Nat :=
  (List.range p.places.length).find? (fun k => p.bodyPlace k &&
    (match p.places[k]? with | some t => t.1 == n && p.outOf k == o | none => false))

/-- There is a credit for the flit that leaves the packet's `k`-th buffer next, or it leaves by LOCAL. -/
def State.creditFor (s : State) (p : Packet) (k : Nat) : Bool :=
  match k, p.places[k]? with
  | 0, some (n, _, _) =>
    if 0 < p.got ∨ 6 ≤ p.la then true
    else (match nodeNext n p.la with | some m => 0 < s.credits m (backPort p.la) p.cls | none => true)
  | k + 1, some _ => (match p.places[k]? with | some (m, ip, _) => 0 < s.credits m ip p.cls | none => false)
  | _, none => false

/-- The buffer from which a flit of `p` asks for output `o` of node `n` now: the header, first at its input, of an output that no other
packet of its class holds; or the next flit of the packet that holds it; either with a credit. A header at LOCAL asks only where its
target takes it (`ready`). -/
def State.asks (s : State) (ready : Packet → Bool) (p : Packet) (n o : Nat) : Option Nat :=
  match p.streams n o with
  | some k =>
    (match p.places[k]? with
     | some t => if 0 < t.2.2 && s.creditFor p k then some k else none
     | none => none)
  | none =>
    if p.got == 0 && p.node == n && p.la == o && s.isHead p && s.creditFor p 0 && (o < 6 || ready p) &&
       !s.rig.packets.any (fun r => r != p && r.cls == p.cls && (r.streams n o).isSome) then some 0 else none

/-! ### Arbitration (R296) -/

/-- The round of classes: RESPONSE, REQUEST, BULK. -/
def roundClass (k : Nat) : Nat := if k % 3 = 0 then 2 else if k % 3 = 1 then 1 else 3

/-- RIG_WEIGHT of a class. -/
def State.weight (s : State) (c : Nat) : Nat :=
  if c = 2 then s.rd pgRig RIG_WEIGHT.RESPONSE else if c = 1 then s.rd pgRig RIG_WEIGHT.REQUEST else s.rd pgRig RIG_WEIGHT.BULK

def zeroArb : Arb := {}
def State.arb (s : State) (n o : Nat) : Arb := mget (fun _ => zeroArb) s.rig.arbs (8 * n + o)

/-- How many places the round moves on to reach a class that asks: none while the class whose turn it is has flits left. -/
def State.roundStep (s : State) (a : Arb) (asking : Nat → Bool) : Option Nat :=
  (List.range 4).find? (fun k => asking (roundClass (a.turn + k)) && (k != 0 || a.sent < s.weight (roundClass a.turn)))

/-- The class that wins an output among the packets that ask for it. -/
def State.classWon (s : State) (a : Arb) (qs : List Packet) : Option Nat :=
  if qs.any (fun p => p.cls == 0) then some 0
  else (s.roundStep a (fun c => qs.any (fun p => p.cls == c))).map (fun k => roundClass (a.turn + k))

/-- Distance of an input from the one served last, in round robin. -/
def rrDist (last input : Nat) : Nat := (input + 32 - last) % 32

/-- The packet with the least value of `f`. -/
def leastBy (f : Packet → Nat) : List Packet → Option Packet
  | [] => none
  | p :: rest => match leastBy f rest with
    | some q => if f q < f p then some q else some p
    | none => some p

/-- The packet whose flit wins output `o` of node `n`: its class by R296; within the class the packet that holds the output, which
alone asks, or else round robin over the inputs. -/
def State.winner (s : State) (ready : Packet → Bool) (n o : Nat) : Option Packet :=
  let qs := s.rig.packets.filter (fun p => (s.asks ready p n o).isSome)
  let a := s.arb n o
  match s.classWon a qs with
  | none => none
  | some c => leastBy (fun p => rrDist (nget a.last c) p.input) (qs.filter (fun p => p.cls == c))

/-- The flit in the `k`-th buffer of packet `p` wins its output (R296). -/
def State.wins (s : State) (ready : Packet → Bool) (p : Packet) (k : Nat) : Bool :=
  match p.places[k]? with
  | some (n, _, _) => s.winner ready n (p.outOf k) == some p && s.asks ready p n (p.outOf k) == some k
  | none => false

/-- The arbiter of an output after a flit of `p` has gone through; a header moves the round robin of its class on. -/
def State.arbAfter (s : State) (p : Packet) (n o : Nat) (header : Bool) : Arb :=
  let a := s.arb n o
  let last := if header then nset a.last p.cls (p.input + 1) else a.last
  if p.cls = 0 then { a with last := last }
  else
    let k := ((List.range 4).find? (fun k => roundClass (a.turn + k) == p.cls && (k != 0 || a.sent < s.weight p.cls))).getD 0
    if k = 0 then { a with sent := a.sent + 1, last := last }
    else { turn := (a.turn + k) % 3, sent := 1, last := last }

/-! ### What a link carries (R290) -/

/-- DATA, CHECK, VALID and CLASS of a link take the values of a flit; what it returns as a credit stays. -/
def flitOnLink (old flit : Slot) : Slot := BitVec.ofNat 272 (flit.toNat % 2 ^ 269 + old.toNat / 2 ^ 269 * 2 ^ 269)

/-- CR_VALID and CR_CLASS of a link take the values of a credit of class `c`; the flit on it stays. -/
def creditOnLink (old : Slot) (c : Nat) : Slot := BitVec.ofNat 272 (old.toNat % 2 ^ 269 + 2 ^ 269 + c % 4 * 2 ^ 270)

def State.link (s : State) (k : Nat) : Slot := mget (fun _ => (0 : Slot)) s.rig.links k
def State.setLink (s : State) (k : Nat) (x : Slot) : State :=
  { s with rig := { s.rig with links := mset (fun _ => (0 : Slot)) s.rig.links k x } }

/-- The oldest credit that is due at each link, and the rest. -/
def firstDues : List (Nat × Nat) → List (Nat × Nat) × List (Nat × Nat)
  | [] => ([], [])
  | d :: rest =>
    let r := firstDues rest
    if r.1.any (fun x => x.1 == d.1) then (d :: r.1.filter (fun x => x.1 != d.1), r.1.filter (fun x => x.1 == d.1) ++ r.2) else (d :: r.1, r.2)

/-- A rigging cycle begins (R294): each link returns the oldest credit that is due on it. -/
def State.returnCredits (s : State) : State :=
  let r := firstDues s.rig.owed
  r.1.foldl (fun s d => s.setLink d.1 (creditOnLink (s.link d.1) d.2)) { s with rig := { s.rig with owed := r.2 } }

/-- `n` rigging cycles pass: the flits and credits of the last ones are off the links, and credits return. -/
def State.rigTick (s : State) : Nat → State
  | 0 => s
  | n + 1 =>
    let s := { s with rig := { s.rig with links := [], packets := s.rig.packets.map (fun (p : Packet) => { p with crossed := [] }) } }
    (s.returnCredits).rigTick n

end Sys2Proof.Machine
end

