-- ==== Sys2Proof/Machine/Panels.lean ====
section
/-! DEFINITION. Meanings of chapter 03's commands: host access to pocket RAM (R83, R103). -/

namespace Sys2Proof.Machine

open Sys2Proof

/-- Pocket RAM is open to the host: the panel clock does not reach the panel (R83), and the panel is not grounded (R82:
the RAMs of a grounded panel are not reachable). -/
def State.pramOpen (s : State) (p : Nat) : Bool := !s.clkRun p && (s.panel p).grounded == 0

/-- AUTOINC of PRAM_HOST_ADDR (R103). -/
def State.pramAdvance (s : State) (p : Nat) : State :=
  let pg := pgPanel p
  if s.on pg PRAM_HOST_ADDR.AUTOINC then
    let w := s.rd pg PRAM_HOST_ADDR.WORD
    let m := s.rd pg PRAM_HOST_ADDR.RAM
    if w = 1023 then (s.wr pg PRAM_HOST_ADDR.WORD 0).wr pg PRAM_HOST_ADDR.RAM ((m + 1) % 4)
    else s.wr pg PRAM_HOST_ADDR.WORD (w + 1)
  else s

/-- A read of PRAM_HOST_DATA past the access checks (R83). DESIGN CHOICE: a refused read does not advance WORD (R103). -/
def State.pramReadBody (s : State) (p : Nat) : State :=
  let pg := pgPanel p
  if s.pramOpen p then
    let m := s.rd pg PRAM_HOST_ADDR.RAM
    let w := s.rd pg PRAM_HOST_ADDR.WORD
    let d := pramDelivered (pramWord (s.panel p) (1024 * m + w))
    ((s.pramChecked p m w).pramAdvance p).respond .ok d.toNat
  else (s.wr pg PAGE_ERRSUM.REJECT 1).respond .ok 0

/-- A write of PRAM_HOST_DATA past the access checks; `none` is the rejection of R83. -/
def State.pramWriteBody (s : State) (p : Nat) (v : Word) : Option State :=
  let pg := pgPanel p
  if s.pramOpen p then
    some ((s.pramStore p (s.rd pg PRAM_HOST_ADDR.RAM) (s.rd pg PRAM_HOST_ADDR.WORD) v).pramAdvance p)
  else none

/-- PRAM_HOST_READ (R83). -/
def execPramHostRead (a : Access) (p : Nat) (s : State) : Host.Outcome State Fault Refusal :=
  guardUnit (p < 576) (s.gatedRead a (pgPanel p) PRAM_HOST_DATA.DATA.off (fun s => s.pramReadBody p))

/-- PRAM_HOST_WRITE (R83). -/
def execPramHostWrite (a : Access) (p : Nat) (v : Word) (s : State) : Host.Outcome State Fault Refusal :=
  guardUnit (p < 576) (s.gatedWrite a (pgPanel p) PRAM_HOST_DATA.DATA.off v (fun s => s.pramWriteBody p v))

end Sys2Proof.Machine
end

