-- ==== Sys2Proof/Machine/Preflight.lean ====
section
/-! DEFINITION. Meanings of chapter 20's commands: preflight slices and sweeps. -/

namespace Sys2Proof.Machine

open Sys2Proof

/-! ### Eligibility and preconditions (R482, R483) -/

/-- A preflight window is open for a group of which the panel is a member, its PF_IDLE bit is 1, or its region is not committed. -/
def State.pfOpen (s : State) (p : Nat) : Bool :=
  (List.range 256).any (fun g => bitOf (s.rd pgPreflight (PF_WINDOW.OPEN.at (g / 32))) (g % 32) && s.isMember g p) ||
  bitOf (s.rd pgPreflight (PF_IDLE.IDLE.at (p / 32))) (p % 32) || !s.committed p

/-- The panel is eligible for a slice (R482). -/
def State.pfEligible (s : State) (p : Nat) : Bool :=
  (s.panel p).grounded == 0 && s.devState == devRun && !(s.panel p).govHeld && s.pfOpen p

/-- The outcome of the checks of R483: started, turned away for now (BUSY, and no code of R488), or refused with a code. -/
inductive PfCheck where
  | ok | busy
  | refused (code : Nat)
  deriving DecidableEq, Repr

/-- The other panel of the column. -/
def otherPanel (p : Nat) : Nat := if p < 288 then p + 288 else p - 288

/-- The preconditions of R483, in the order of its table. -/
def State.pfCheck (s : State) (p : Nat) : PfCheck :=
  if !s.pfVoltOk p then .refused pcVolt
  else if !s.pfClkOk then .refused pcClk
  else if (s.panel p).underTest || (s.panel (otherPanel p)).underTest then .busy
  else if s.rd pgPreflight PF_CTRL.CONCURRENT ≤ s.pf.running.length then .busy
  else if s.on pgPwr GOV_CTRL.MODE && s.windowsRun && nget s.gov.owner (colOf p) == sailOf (otherPanel p) + 1 then .refused pcStagger
  else if !s.pfEligible p then .refused pcNotEligible
  else .ok

/-- A refusal that is recorded (R483, R490). -/
def State.pfRefuse (s : State) (p code : Nat) : State :=
  ((s.pfResult p pfRefused code 0).inc pgPreflight PF_REFUSE_CNT.COUNT).raisePf PF_EVENT.REFUSED

/-! ### Commands (R484, R487) -/

/-- A write of PF_CMD past the access checks (R487). -/
def pfCmdBody (v : Word) (s : State) : Option State :=
  let p := getF v 0 10
  match getF v 12 2 with
  | 1 =>
    if 575 < p ∨ s.rd pgPreflight PF_CTRL.MODE = 0 then none
    else some (if s.pf.starts.contains p then s else s.setPf { s.pf with starts := s.pf.starts ++ [p] })
  | 2 => if 575 < p then none else some (s.abortSlice p pcSoftware true)
  | _ => none

/-- PF_START (R484): a PF_CMD write of START. -/
def execPfStart (a : Access) (p : BitVec 10) (s : State) : Host.Outcome State Fault Refusal :=
  let v := BitVec.ofNat 32 (p.toNat + 2 ^ 12)
  .next (s.gatedWrite a pgPreflight PF_CMD.PANEL.off v (pfCmdBody v))

/-- PF_ABORT (R485): a PF_CMD write of ABORT. -/
def execPfAbort (a : Access) (p : BitVec 10) (s : State) : Host.Outcome State Fault Refusal :=
  let v := BitVec.ofNat 32 (p.toNat + 2 ^ 13)
  .next (s.gatedWrite a pgPreflight PF_CMD.PANEL.off v (pfCmdBody v))

/-! ### Sweeps (R484) -/

/-- The next sweep falls due while one is in progress: waiting panels are recorded REFUSED, and the sweep ends once its slices have. -/
def State.overrunSweep (s : State) : State :=
  let wait := s.sweepWaiting
  let s := wait.foldl (fun s p => s.pfRefuse p pcNotEligible) s
  (s.setPf { s.pf with finished := s.pf.finished ++ wait ++ s.pf.running.map (·.1), overdue := true }).judgeSweep

/-- SWEEP_START (R484): in AUTO mode a sweep begins every PF_SWEEP_PERIOD seconds. -/
def execSweepStart (s : State) : Host.Outcome State Fault Refusal :=
  let due := match s.pf.sweepAt with
    | some t => decide (10 ^ 9 * s.rd pgPreflight PF_SWEEP_PERIOD.S ≤ s.ns - t)
    | none => true
  .next
    (if s.rd pgPreflight PF_CTRL.MODE ≠ 2 ∨ due = false ∨ s.pf.overdue = true then s
     else if s.on pgPreflight PF_STATUS.SWEEPING then s.overrunSweep
     else s.beginSweep)

/-! ### Slices (R481, R483) -/

/-- The sweep moves on past panel `p`: NEXT names the next panel of the pass. -/
def State.sweepPast (s : State) (p : Nat) : State := s.wr pgPreflight PF_STATUS.NEXT ((p + 1) % 576)

/-- A START command for panel `p` is served (R483, R484): in AUTO mode it waits while the check answers BUSY or STAGGER. -/
def State.commandSlice (s : State) (p : Nat) : State :=
  let taken := s.setPf { s.pf with starts := s.pf.starts.erase p }
  let auto := s.rd pgPreflight PF_CTRL.MODE == 2
  match s.pfCheck p with
  | .ok => taken.beginSlice p false
  | .busy =>
    if auto then s
    else
      let f := taken.free 4
      f.2.pfRefuse p f.1
  | .refused code => if auto && code == pcStagger then s else (taken.pfRefuse p code).sweepDone p

/-- The sweep comes to panel `p` (R483, R484): a panel that is not eligible is passed over and tried again in the next pass. -/
def State.sweepSlice (s : State) (p : Nat) : State :=
  match s.pfCheck p with
  | .ok => (s.sweepPast p).beginSlice p true
  | .busy => s
  | .refused code =>
    if code = pcStagger then s
    else if code = pcNotEligible then s.sweepPast p
    else (((s.pfRefuse p code).sweepPast p)).sweepDone p

/-- It is panel `p`'s turn in the sweep's pass, which goes on from panel `next` and wraps (R484). -/
def State.sweepTurn (s : State) (next p : Nat) : Bool :=
  s.sweepWaiting.all (fun q => (q + 576 - next) % 576 ≥ (p + 576 - next) % 576)

/-- SLICE_START (R481): a START command for the panel, or else its turn in the sweep. -/
def execSliceStart (p : Nat) (s : State) : Host.Outcome State Fault Refusal :=
  let mode := s.rd pgPreflight PF_CTRL.MODE
  guardUnit (p < 576)
    (if mode = 0 then s
     else if s.pf.starts.contains p then s.commandSlice p
     else if mode = 2 && s.on pgPreflight PF_STATUS.SWEEPING && s.sweepWaiting.contains p && s.sweepTurn (s.rd pgPreflight PF_STATUS.NEXT) p then s.sweepSlice p
     else s)

/-- Nanoseconds of the scan (R479). -/
def scanNs : Nat := 1320960

/-- SLICE_END (R480, R481, R488 to R490): the scan has ended with `misr`: the result is recorded and the panel is restored. -/
def execSliceEnd (p : Nat) (misr : BitVec 64) (s : State) : Host.Outcome State Fault Refusal :=
  guardUnit (p < 576)
    (match lget s.pf.running p with
     | none => s
     | some x =>
       if s.ns - x.at_ < scanNs then s
       else
         let pass := misr == (if p < 288 then s.fuses.misr0 else s.fuses.misr1)
         let s := (s.dropSlice p).restorePanel p x
         let s := s.pfResult p (if pass then pfPass else pfFail) 0 (s.pfDuration x)
         let s := (s.wr (pgPfPanel p) PF_MISR_LO.MISR misr.toNat).wr (pgPfPanel p) PF_MISR_HI.MISR (misr.toNat / 2 ^ 32)
         let s :=
           if pass then s.inc pgPreflight PF_PASS_CNT.COUNT
           else
             let f := PF_FAIL_MAP.FAIL.at (p / 32)
             let m := s.rd pgPreflight f
             let s := if bitOf m (p % 32) then s else s.wr pgPreflight f (m + 2 ^ (p % 32))
             (s.inc pgPreflight PF_FAIL_CNT.COUNT).raisePf PF_EVENT.FAIL
         s.sweepDone p)

end Sys2Proof.Machine
end

