-- ==== Sys2Proof/Machine/Routes.lean ====
section
/-! DEFINITION. Meanings of chapter 11's commands on tables, epochs, nodes, links, domains and tags (R299 to R309). -/

namespace Sys2Proof.Machine

open Sys2Proof

/-! ### Route tables and epochs (R301, R302) -/

/-- The entry `v` may stand in a table of node `n` (R302): its port exists there, and its link is neither disabled nor dead. -/
def State.entryOk (s : State) (n v : Nat) : Bool := hasPort n (v % 8) && (5 < v % 8 || !s.linkBarred n (v % 8))

/-- The table writes of the present nanosecond. -/
def State.editsNow (s : State) : List (Nat × Nat × Nat × Nat) := if s.rig.editNs = s.ns then s.rig.edits else []

/-- A table write of entry `e` of table `t` of node `n` (R302); `none` where it is rejected. -/
def State.tableWrite (s : State) (n t e v : Nat) : Option State :=
  if t = s.epoch ∨ s.on pgRig RIG_EPOCH.OLD_BUSY = true ∨ s.entryOk n v = false then none
  else
    let s' := s.setRoute n t e v
    some { s' with rig := { s'.rig with edits := s.editsNow ++ [(n, t, e, s.route n t e)], editNs := s.ns } }

/-- The table writes of the cycle of a flip are checked after it, and so rejected (R308): their entries are put back. -/
def State.undoEdits (s : State) : State :=
  let s' := s.editsNow.reverse.foldl (fun s x => (s.setRoute x.1 x.2.1 x.2.2.1 x.2.2.2).rejectWrite (pgNode x.1)) s
  { s' with resp := s.resp, rig := { s'.rig with edits := [] } }

/-- An accepted write of RIGN_TBL_DATA. -/
def tableBody (n : Nat) (v : Word) (s : State) : Option State :=
  s.tableWrite n (s.rdNode n RIGN_TBL_INDEX.TABLE) (s.rdNode n RIGN_TBL_INDEX.ENTRY) (getF v 0 6)

/-- ROUTE_TABLE_WRITE (R302). -/
def execRouteTableWrite (a : Access) (n : Nat) (v : Word) (s : State) : Host.Outcome State Fault Refusal :=
  guardUnit (n < 128) (s.gatedWrite a (pgNode n) RIGN_TBL_DATA.ENTRY.off v (tableBody n v))

/-- An entry of table `t` satisfies `bad`, which sees the node and the entry's port. -/
def State.anyRoute (s : State) (t : Nat) (bad : Nat → Nat → Bool) : Bool :=
  s.rig.tables.any (fun e => e.1 / 192 % 2 == t && bad (e.1 / 384) (e.2 % 8))

/-- The link of port `port` of node `n` has been disabled at either end. -/
def State.linkDisabled (s : State) (n port : Nat) : Bool :=
  bitOf (s.rdNode n RIGN_LINK.DISABLE) port || (nodeNext n port).any (fun m => bitOf (s.rdNode m RIGN_LINK.DISABLE) (backPort port))

/-- The epoch changes (R302, R308): not while old-epoch flits remain, nor while the new table names a disabled link. -/
def State.flip (s : State) : Option State :=
  let t := 1 - s.epoch
  if s.on pgRig RIG_EPOCH.OLD_BUSY = true ∨ s.anyRoute t (fun n p => p < 6 && s.linkDisabled n p) = true then none
  else some ((s.wr pgRig RIG_EPOCH.CURRENT t).wr pgRig RIG_EPOCH.OLD_BUSY 1)

/-- An accepted write of RIG_EPOCH; table writes of its cycle are undone (R308). -/
def flipBody (v : Word) (s : State) : Option State := if getF v 1 1 = 0 then some s else s.undoEdits.flip

/-- EPOCH_FLIP (R302): a write of 1 to RIG_EPOCH.FLIP. -/
def execEpochFlip (a : Access) (s : State) : Host.Outcome State Fault Refusal :=
  .next (s.gatedWrite a pgRig RIG_EPOCH.CURRENT.off 2 (flipBody 2))

/-- EPOCH_DONE (R302): no old-epoch flit remains in any node. -/
def execEpochDone (s : State) : Host.Outcome State Fault Refusal :=
  .next
    (if s.on pgRig RIG_EPOCH.OLD_BUSY = true ∧ s.rig.packets.all (fun p => p.epoch == s.epoch) = true then
       (s.wr pgRig RIG_EPOCH.OLD_BUSY 0).raiseRig RIG_EVENT.EPOCH_DONE
     else s)

/-- A link of the device is dead. -/
def State.anyDead (s : State) : Bool := (List.range 128).any (fun n => s.rdNode n RIGN_LINK.DEAD != 0)

/-- SUPV_REROUTE (R302, R303): around a dead mast crossing, the supervisor writes the inactive tables (`edits`: node, entry, value) and
flips. An edit that R302 rejects is not stored. -/
def execSupvReroute (edits : List (Nat × Nat × Nat)) (s : State) : Host.Outcome State Fault Refusal :=
  guardUnit (edits.all (fun e => e.1 < 128 && e.2.1 < 192 && e.2.2 < 64))
    (if s.anyDead = false ∨ s.on pgRig RIG_EPOCH.OLD_BUSY = true then s
     else
       let s := edits.foldl (fun s e => (s.tableWrite e.1 (1 - s.epoch) e.2.1 e.2.2).getD s) s
       s.flip.getD s)

/-! ### Disabling nodes and links (R303) -/

/-- An accepted write of RIGN_CTRL of node `n`. -/
def nodeCtrlBody (n : Nat) (v : Word) (s : State) : Option State :=
  let old := s.rdNode n RIGN_CTRL.DISABLE
  if getF v 0 1 = old then some s
  else if getF v 0 1 = 0 then some ((s.wrNode n RIGN_CTRL.DISABLE 0).wrNode n RIGN_STATE.STATE 0)
  else if s.anyRoute s.epoch (fun m p => nodeNext m p == some n) then none
  else some ((s.wrNode n RIGN_CTRL.DISABLE 1).wrNode n RIGN_STATE.STATE 1)

/-- NODE_DISABLE (R303): a write of RIGN_CTRL.DISABLE = 1. -/
def execNodeDisable (a : Access) (n : Nat) (s : State) : Host.Outcome State Fault Refusal :=
  guardUnit (n < 128) (s.gatedWrite a (pgNode n) RIGN_CTRL.DISABLE.off 1 (nodeCtrlBody n 1))

/-- An accepted write of RIGN_LINK of node `n`: links newly disabled drain. -/
def nodeLinkBody (n : Nat) (v : Word) (s : State) : Option State :=
  let old := s.rdNode n RIGN_LINK.DISABLE
  let m := getF v 0 6
  let new := (List.range 6).filter (fun p => bitOf m p && !bitOf old p)
  let uses (q p : Nat) : Bool := new.any (fun x => (q == n && p == x) || (nodeNext n x == some q && p == backPort x))
  if s.anyRoute s.epoch uses then none
  else
    let kept := s.rig.draining.filter (fun k => k / 8 != n || bitOf m (k % 8))
    some ({ s with rig := { s.rig with draining := kept ++ new.map (fun p => 8 * n + p) } }.wrNode n RIGN_LINK.DISABLE m)

/-- LINK_DISABLE (R303): a write of RIGN_LINK. -/
def execLinkDisable (a : Access) (n : Nat) (v : Word) (s : State) : Host.Outcome State Fault Refusal :=
  guardUnit (n < 128) (s.gatedWrite a (pgNode n) RIGN_LINK.DISABLE.off v (nodeLinkBody n v))

/-- A flit of the old epoch stands in node `n`, with its output among `port` (all ports where none is given). -/
def State.holdsOld (s : State) (n : Nat) (port : Option Nat) : Bool :=
  s.rig.packets.any (fun p => 0 < p.flitsAt n && p.epoch != s.epoch && port.all (fun o => p.outAt n == some o))

/-- NODE_DRAINED (R303): a draining node, or the draining link of its port `port`, holds no old-epoch flit and turns off. -/
def execNodeDrained (n : Nat) (port : Option Nat) (s : State) : Host.Outcome State Fault Refusal :=
  guardUnit (n < 128 && port.all (· < 6))
    (match port with
     | none => if s.rdNode n RIGN_STATE.STATE = 1 ∧ s.holdsOld n none = false then s.wrNode n RIGN_STATE.STATE 2 else s
     | some p =>
       let far := match nodeNext n p with | some m => s.holdsOld m (some (backPort p)) | none => false
       if s.holdsOld n (some p) = false ∧ far = false then
         { s with rig := { s.rig with draining := s.rig.draining.filter (· != 8 * n + p) } }
       else s)

/-! ### Power domains (R304, R306) -/

/-- DOMAIN_DRAIN (R304): on PARK entry or at a request of the PWR block, a domain starts to drain. -/
def execDomainDrain (g : Nat) (s : State) : Host.Outcome State Fault Refusal :=
  guardUnit (4 ≤ g && g < 16)
    (if s.domainState g = dmOn then
       { s.setDomainState g dmDraining with rig := { s.rig with drainAt := lset s.rig.drainAt g s.ns } }
     else s)

/-- The wait of step 2 ends: what is unanswered is given up (R304). -/
def State.endDrain (s : State) (g : Nat) : State := { s with rig := { s.rig with drainAt := ldel s.rig.drainAt g } }.giveUp g

/-- DRAIN_TIMEOUT (R304): RIG_DRAIN_TIMEOUT has passed since the domain began to drain. -/
def execDrainTimeout (g : Nat) (s : State) : Host.Outcome State Fault Refusal :=
  guardUnit (4 ≤ g && g < 16)
    (match lget s.rig.drainAt g with
     | some t =>
       if s.domainState g = dmDraining ∧ 1000 * s.rd pgRig RIG_DRAIN_TIMEOUT.US ≤ s.ns - t then s.endDrain g else s
     | none => s)

/-- A packet with flits inside domain `g` leaves it for a node outside. -/
def State.leaving (s : State) (g : Nat) (p : Packet) : Bool := p.inside g && (p.dstDev != s.ownDev || nodeDomain p.dstNode != some g)

/-- DOMAIN_CLAMP (R304): the wait has ended, or nothing is unanswered, and every flit leaving the domain has left: the clamps close. -/
def execDomainClamp (g : Nat) (s : State) : Host.Outcome State Fault Refusal :=
  guardUnit (4 ≤ g && g < 16)
    (let waiting := (lget s.rig.drainAt g).isSome
     if s.domainState g ≠ dmDraining ∨ (waiting = true ∧ s.inDomain g ≠ 0) ∨ s.rig.packets.any (s.leaving g) = true then s
     else
       let s := if waiting then s.endDrain g else s
       (s.losePackets (fun p => p.inside g)).setDomainState g dmOff)

/-- DOMAIN_POWER_UP (R306): while its regulator group is not on yet the domain reads POWERING; then its tables are reloaded from the
supervisor's copy, which equals what was last written, and it is ON. -/
def execDomainPowerUp (g : Nat) (s : State) : Host.Outcome State Fault Refusal :=
  guardUnit (4 ≤ g && g < 16)
    (if s.domainState g = dmOff ∨ s.domainState g = dmPowering then
       s.setDomainState g (if s.regState g = rgOn then dmOn else dmPowering)
     else s)

/-! ### Tags (R299) -/

/-- RIG_INIT_TIMEOUT of an initiator, in ns. -/
def State.initTimeout (s : State) (i : Nat) : Nat := 1000 * s.rd (pgRigInit i) RIG_INIT_TIMEOUT.US

/-- A request of initiator `i` has timed out (R299): the tag is quarantined. -/
def State.timeOut (s : State) (i tag : Nat) : State :=
  let x := s.rigInit i
  let s := s.setRigInit i { x with tags := x.tags.map (fun t => if t.1 = tag then (tag, { t.2 with quarantined := true, at_ := s.ns }) else t) }
  let s := s.addInit i RIG_ST_TIMEOUT.COUNT 1
  let s := match s.initPage i with | some pg => s.wr pg PAGE_ERRSUM.TIMEOUT 1 | none => s
  let s := s.noteAnswer ((lget x.tags tag).bind (·.note)) rcTimeout []
  ((s.raiseRig RIG_EVENT.TIMEOUT).respond (rigStatus i rcTimeout) 0).pump i

/-- A response of the tag stands at the initiator's interface, to be delivered in this cycle. -/
def State.responseHere (s : State) (i tag : Nat) : Bool :=
  s.rig.packets.any (fun p => (p.opc == opRdResp || p.opc == opWrResp) && p.la == 6 && p.got == p.flits && p.dstDev == s.devNumber && p.srcInit == i && p.tag == tag &&
    p.gen == nget (s.rigInit i).gens tag && initPlace i == (p.node, p.dstPort))

/-- RIG_TIMEOUT (R299, R308): a response and the expiry in one cycle deliver the response. -/
def execRigTimeout (i tag : Nat) (s : State) : Host.Outcome State Fault Refusal :=
  guardUnit (i < 90 && tag < 64)
    (match lget (s.rigInit i).tags tag with
     | some t => if t.quarantined = false ∧ s.initTimeout i ≤ s.ns - t.at_ ∧ (s.responseHere i tag && !t.abandoned) = false then s.timeOut i tag else s
     | none => s)

/-- TAG_QUARANTINE_END (R299): one further timeout after the first. -/
def execTagQuarantineEnd (i tag : Nat) (s : State) : Host.Outcome State Fault Refusal :=
  guardUnit (i < 90 && tag < 64)
    (match lget (s.rigInit i).tags tag with
     | some t =>
       if t.quarantined = true ∧ s.initTimeout i ≤ s.ns - t.at_ then (s.setRigInit i ((s.rigInit i).release tag true)).pump i else s
     | none => s)

/-! ### Counters (R309) -/

/-- A read of RIG_ST_BYTES_LO past the access checks: the HI word is captured. -/
def State.bytesBody (s : State) : State :=
  let i := s.rd pgRig RIG_INIT_SEL.INIT
  let b := (s.rigInit i).bytes
  (s.wr (pgRigInit i) RIG_ST_BYTES_HI.BYTES (b / 2 ^ 32)).respond .ok (b % 2 ^ 32)

/-- RIG_BYTES_CAPTURE (R309). -/
def execRigBytesCapture (a : Access) (s : State) : Host.Outcome State Fault Refusal :=
  .next (s.gatedRead a pgRig RIG_ST_BYTES_LO.BYTES.off (fun s => s.bytesBody))

end Sys2Proof.Machine
end

