-- ==== Sys2Proof/Machine/SpoolCmds.lean ====
section
/-! DEFINITION. Spool channels: accesses, CH_CTRL, and commands (R313, R316, R323 to R327), and their meanings. -/

namespace Sys2Proof.Machine

open Sys2Proof

/-! ### Accesses (R288, R289, R299) -/

/-- Space and address of a Spool access (R313, R319, R322). -/
def spoolDest (host : Bool) (addr : Nat) : RigDest := if host then .host addr else .array addr

/-- Access `e` of channel `ch` is presented at the engine's interface. One to an unassigned address is answered there (R42), and a
doorbell write leaves as MSG (R292), which has no response. -/
def State.presentIo (s : State) (ch : Nat) (e : SpoolIo) : State :=
  let w : Who := .spool ch
  let i := whoInit w
  match s.aim (initPlace i).1 (spoolDest e.host e.addr) with
  | none => s.spoolAnswer ch e.id rcDecode []
  | some (dev, t, addr) =>
    if isDoorbell e.write e.bytes t addr then (s.postMsg w i dev 109 addr 0 0 (!s.whoSecure w) e.data).spoolAnswer ch e.id 0 []
    else s.present i [{ who := w, dev := dev, target := t, addr := addr, write := e.write, bytes := e.bytes
                        data := if e.write then e.data else [], note := some (.spool ch e.id) }]

/-- The channel makes a new access. A channel that has just halted issues nothing further (R325). -/
def State.issueIo (s : State) (ch : Nat) (e : SpoolIo) : State :=
  let live := s.chState ch != chHalted
  let e := { e with id := s.rig.ios, out := live }
  let s := { s with rig := { s.rig with ios := s.rig.ios + 1 } }
  let s := s.setChan ch { s.chan ch with io := (s.chan ch).io ++ [e] }
  if live then s.presentIo ch e else s

/-- The channel issues an access again (R326). -/
def State.reissueIo (s : State) (ch : Nat) (e : SpoolIo) : State :=
  if s.chState ch = chHalted then s
  else (s.setIo ch e.id (fun x => some { x with out := true, answer := none })).presentIo ch e

/-! ### CH_CTRL and the ring registers (R312, R313, R327) -/

/-- An accepted write of CH_CTRL. -/
def chCtrlBody (ch : Nat) (v : Word) (s : State) : Option State :=
  let st := s.chState ch
  let old := s.reg (pgChannel ch * 4096 + CH_CTRL.ENABLE.off)
  let en := getF v 0 1 == 1
  let others (w : Word) : Nat := getF w 1 2 + 4 * getF w 8 4
  if st ≠ chDisabled ∧ others v ≠ others old then none
  else if en = false ∧ st ≠ chDisabled ∧ st ≠ chIdle ∧ st ≠ chWait then none
  else if en = true ∧ st = chDisabled ∧
          (s.ringBase ch % s.descSize ch ≠ 0 ∨ s.rdCh ch CH_RING_SIZE.SIZE ≤ s.rdCh ch CH_HEAD.INDEX) then none
  else
    let t := s.storeReg (pgChannel ch) CH_CTRL.ENABLE.off v
    some (
      if en = false then (if st = chDisabled then t else t.disableChan ch)
      else if st = chDisabled then (t.setChan ch zeroChan).setChState ch (if t.triggered ch then chActive else chIdle)
      else t)

/-- CHANNEL_ENABLE (R313): a write of CH_CTRL with ENABLE = 1 and the other fields of `v`. -/
def execChannelEnable (a : Access) (ch : Nat) (v : Word) (s : State) : Host.Outcome State Fault Refusal :=
  guardUnit (ch < 64) (s.gatedWrite a (pgChannel ch) CH_CTRL.ENABLE.off (v ||| 1) (chCtrlBody ch (v ||| 1)))

/-- CHANNEL_DISABLE (R327): a write of CH_CTRL with ENABLE = 0 and its other fields as they are. -/
def execChannelDisable (a : Access) (ch : Nat) (s : State) : Host.Outcome State Fault Refusal :=
  let v := setF (s.reg (pgChannel ch * 4096 + CH_CTRL.ENABLE.off)) 0 1 0
  guardUnit (ch < 64) (s.gatedWrite a (pgChannel ch) CH_CTRL.ENABLE.off v (chCtrlBody ch v))

/-- A write of a ring register, accepted only while DISABLED (R313); CH_HEAD must lie below SIZE (R332). -/
def chRingBody (ch off : Nat) (v : Word) (s : State) : Option State :=
  if s.chState ch ≠ chDisabled ∨ (off = CH_HEAD.INDEX.off ∧ s.rdCh ch CH_RING_SIZE.SIZE ≤ getF v 0 16) ∨
     (off = CH_RING_BASE_LO.BASE.off ∧ s.engLegacy (ch / 16) = false ∧ getF v 5 1 = 1) then none
  else some (s.storeReg (pgChannel ch) off v)

/-- A write of CH_PART (R312): by a secure initiator; a change only while DISABLED. -/
def chPartBody (who : Who) (ch : Nat) (v : Word) (s : State) : Option State :=
  if s.whoSecure who = false ∨ (s.chState ch ≠ chDisabled ∧ getF v 0 3 ≠ s.rdCh ch CH_PART.PART) then none
  else some (s.storeReg (pgChannel ch) CH_PART.PART.off v)

/-- A write of ENG_CTRL (R324). -/
def engCtrlBody (e : Nat) (v : Word) (s : State) : Option State :=
  if (List.range 16).any (fun k => s.chState (16 * e + k) == chActive) then none
  else some (s.storeReg (pgEngine e) ENG_CTRL.ARB.off v)

/-! ### Commands (R316, R317, R326, R327) -/

/-- RESUME (R326): every access of the descriptor that has not received OK is issued again. -/
def State.resumeChan (s : State) (ch : Nat) : State :=
  let again := (s.chan ch).io.filter (fun e => !e.out && !e.dead && e.answer != some 0)
  (again.foldl (fun s e => s.reissueIo ch e) (s.setChState ch chActive)).afterBurst ch

/-- SKIP of a halted channel, by the phase in which it halted (R326). Accesses that are still outstanding are given up. -/
def State.skipChan (s : State) (ch : Nat) : State :=
  let c := s.chan ch
  let c := { c with io := (c.io.filter (·.out)).map (fun e => { e with dead := true }) }
  let s := (s.setChan ch c).setChState ch chActive
  if c.halted = 0 ∨ c.halted = 2 then s.setChan ch { c with stage := .back1, status := 4, started := none }
  else
    let s := s.advanceHead ch
    if s.on (pgChannel ch) CH_STATUS.STOP_PENDING then s.disableChan ch else s.nextFetch ch

/-- An accepted write of CH_CMD (R326, R327, R332): 1 KICK, 2 RESUME, 3 SKIP, 4 ABORT, 5 STOP, 6 TRIGGER. -/
def chCmdBody (ch : Nat) (v : Word) (s : State) : Option State :=
  let st := s.chState ch
  match getF v 0 3 with
  | 1 => some (s.kickChan ch)
  | 2 => if st = chHalted then some (s.resumeChan ch) else none
  | 3 => if st = chHalted then some (s.skipChan ch) else none
  | 4 => some (if st = chDisabled then s else s.disableChan ch)
  | 5 => if st = chActive then some (s.wrCh ch CH_STATUS.STOP_PENDING 1)
         else if st = chIdle ∨ st = chWait then some (s.disableChan ch)
         else none
  | 6 => some (s.triggerChan ch s.ns)
  | _ => none

/-- A write of CH_CMD with code `c`. -/
def State.chCmd (s : State) (a : Access) (ch : Nat) (c : Nat) : Host.Outcome State Fault Refusal :=
  guardUnit (ch < 64) (s.gatedWrite a (pgChannel ch) CH_CMD.CMD.off (BitVec.ofNat 32 c) (chCmdBody ch (BitVec.ofNat 32 c)))

/-- CH_KICK (R316). -/
def execChKick (a : Access) (ch : Nat) (s : State) : Host.Outcome State Fault Refusal := s.chCmd a ch 1
/-- CH_RESUME (R326). -/
def execChResume (a : Access) (ch : Nat) (s : State) : Host.Outcome State Fault Refusal := s.chCmd a ch 2
/-- CH_SKIP (R326). -/
def execChSkip (a : Access) (ch : Nat) (s : State) : Host.Outcome State Fault Refusal := s.chCmd a ch 3
/-- CH_ABORT (R326). -/
def execChAbort (a : Access) (ch : Nat) (s : State) : Host.Outcome State Fault Refusal := s.chCmd a ch 4
/-- CH_STOP (R327). -/
def execChStop (a : Access) (ch : Nat) (s : State) : Host.Outcome State Fault Refusal := s.chCmd a ch 5
/-- CH_TRIGGER (R317): a CH_CMD write of TRIGGER. The SPOOL operation of an action triggers in the same way (ACTION_DISPATCH). -/
def execChTrigger (a : Access) (ch : Nat) (s : State) : Host.Outcome State Fault Refusal := s.chCmd a ch 6

end Sys2Proof.Machine
end

