-- ==== Sys2Proof/Machine/Stack.lean ====
section
/-! DEFINITION. Meanings of chapter 01's commands: parity and probes of the bond groups, repairs, exhaustion and grounding, clock triads,
the fuse map and the census (R21 to R38). -/

namespace Sys2Proof.Machine

open Sys2Proof

/-! ### Bond groups (R21 to R24) -/

def clsPlane : Nat := 0
def clsRow : Nat := 1
def clsBankPort : Nat := 2
def clsMemory : Nat := 3
def clsRiser : Nat := 4
def clsControl : Nat := 5
def clsMast : Nat := 6
def clsTriad : Nat := 7

/-- The column that mast `m` stands in (R22). -/
def mastColumn (m : Nat) : Nat := 16 * (4 * (m / 4) + (if m / 4 < 2 then 2 else 3)) + 4 * (m % 4) + 2

/-- The mast of a column (R22). -/
def columnMast (c : Nat) : Option Nat := (List.range 16).find? (fun m => mastColumn m == c)

/-- The group exists (R21, R23). -/
def groupOk (g : GroupId) : Bool :=
  g.column < 288 && g.crossing < 4 &&
  match g.cls with
  | 0 => g.index < 128 && 2 ≤ g.crossing
  | 1 => g.index < 32 && 1 ≤ g.crossing
  | 2 => (g.index < 24 && g.crossing == 1) || (24 ≤ g.index && g.index < 48 && 1 ≤ g.crossing)
  | 3 => g.index < 48 && g.crossing == 0
  | 4 => g.index < 16 && 2 ≤ g.crossing
  | 5 => (g.index < 12 && g.crossing < 2) || (12 ≤ g.index && g.index < 24) ||
         (24 ≤ g.index && g.index < 26 && g.crossing < 3) || (26 ≤ g.index && g.index < 28 && g.crossing == 0)
  | 6 => g.index < 9 && (columnMast g.column).isSome
  | _ => false

/-- The number of a group in the tables of the model. -/
def groupKey (g : GroupId) : Nat := ((g.column * 4 + g.crossing) * 8 + g.cls) * 256 + g.index

def zeroGroup : BondGroup := {}
def State.group (s : State) (g : GroupId) : BondGroup := mget (fun _ => zeroGroup) s.stack.groups (groupKey g)
def State.setGroup (s : State) (g : GroupId) (x : BondGroup) : State :=
  { s with stack := { s.stack with groups := mset (fun _ => zeroGroup) s.stack.groups (groupKey g) x } }

/-- Spares that work and carry no signal (R24). -/
def BondGroup.working (x : BondGroup) : List Nat :=
  [64, 65, 66, 67].filter (fun w => !x.failed.contains w && !x.moved.any (·.2 == w))

/-- The bond that carries signal `i`. -/
def BondGroup.carrier (x : BondGroup) (i : Nat) : Nat := (lget x.moved i).getD i

/-- The signal that bond `b` carries, if it carries one. -/
def BondGroup.signalOf (x : BondGroup) (b : Nat) : Option Nat :=
  if b < 64 then (if (lget x.moved b).isNone then some b else none) else (x.moved.find? (·.2 == b)).map (·.1)

/-- A working spare that a failed bond's signal may move to: the lowest. The spec names one only where the probe has steered a copy (R27);
DESIGN CHOICE elsewhere. -/
def BondGroup.freeSpare (x : BondGroup) : Option Nat := x.working.head?

/-- The group is exhausted (R30). -/
def BondGroup.exhausted (x : BondGroup) : Bool := x.working.isEmpty

/-! ### Events and the fuse map (R29) -/

def State.raiseStack (s : State) (bit : Fld) : State := s.raise pgSpar bit STACK_EVENT_MASK.MASK STACK_EVENT_SRC.SOURCE

/-- A new entry of the fuse map waits to be burnt; with the map full it stays volatile (R29). -/
def State.addFuse (s : State) (e : FuseEntry) : State :=
  if s.fuses.map.length + s.stack.pendingFuses.length < 4096 then
    { s with stack := { s.stack with pendingFuses := s.stack.pendingFuses ++ [e] } }
  else s.raiseStack STACK_EVENT.FUSE_FULL

/-- An entry of the dead-bond map (R38). -/
def deadWord (cls crossing column group failed : Nat) : Word :=
  BitVec.ofNat 32 (2 ^ 31 + cls % 16 * 2 ^ 27 + crossing % 4 * 2 ^ 25 + column % 512 * 2 ^ 16 + group % 256 * 2 ^ 8 + failed % 16 * 2 ^ 4)

/-- The dead-bond map holds 1,024 entries (R38). -/
def State.addDead (s : State) (w : Word) : State :=
  if s.stack.dead.length < 1024 then { s with stack := { s.stack with dead := s.stack.dead ++ [w] } } else s

def State.addTask (s : State) (t : GroundTask) : State :=
  { s with stack := { s.stack with toGround := s.stack.toGround ++ [t] } }

/-! ### Fates (R34) -/

/-- The fate of an exhausted group (R34): risers and mast crossings at once, groundings at their edge. -/
def State.groupFate (s : State) (g : GroupId) : State :=
  let c := g.column
  match g.cls with
  | 0 => s.addTask (.panel (if g.crossing = 2 then c else 288 + c) 0x10)
  | 1 => if g.crossing = 1 then (s.addTask (.panel c 0x11)).addTask (.panel (288 + c) 0x11) else s.addTask (.panel (288 + c) 0x11)
  | 2 => s.addTask (.bank (2 * c + g.index / 24) 0x14)
  | 3 => s.addTask (.retire (2 * c + g.index / 24))
  | 4 => s.killRisers c (2 ^ g.index)
  | 5 =>
    if g.index < 24 then s.addTask (.panel (288 * (g.index / 12) + c) 0x12)
    else if g.index < 26 then (s.addTask (.panel c 0x12)).addTask (.panel (288 + c) 0x12)
    else s.addTask (.column c 0x12 0x12)
  | 6 =>
    match columnMast c with
    | some m => s.killMast (if g.crossing < 2 then mastFoot m else 80 + 3 * m + (g.crossing - 2))
    | none => s
  | _ => s

/-- A group is exhausted (R30). -/
def State.exhaust (s : State) (g : GroupId) : State :=
  ((((s.addFuse (.exhausted g)).addDead (deadWord g.cls g.crossing g.column g.index 4)).raiseStack STACK_EVENT.EXHAUSTED)).groupFate g

/-- Bond `b` of a group is declared failed (R26, R27, R30): the signal it carries moves to spare `w`, which carries its copy, and the
group without a working spare is exhausted. -/
def State.failBond (s : State) (g : GroupId) (b : Nat) (w : Option Nat) : State :=
  let x := s.group g
  if x.exhausted || x.failed.contains b || 67 < b then s
  else
    let y := { x with failed := x.failed ++ [b] }
    let s := match x.signalOf b, w.filter y.working.contains with
      | some i, some w =>
        ((s.setGroup g { y with moved := lset y.moved i w }).raiseStack STACK_EVENT.REPAIR).addFuse (.repair g i w)
      | _, _ => s.setGroup g y
    if (s.group g).exhausted then s.exhaust g else s

/-! ### Parity and probes (R25, R26) -/

/-- PARITY_MISMATCH (R25, R28): not in RISER groups, nor in a group without a check spare. A row that crosses a ROW group at that instant is
corrupt. -/
def execParityMismatch (g : GroupId) (s : State) : Host.Outcome State Fault Refusal :=
  guardUnit (groupOk g)
    (if g.cls = clsRiser ∨ (s.group g).exhausted = true then s
     else
       let s := if g.cls = clsRow then s.setColumn g.column { s.column g.column with mismatch := some (s.ns, g.crossing) } else s
       let s := (s.inc pgSpar STACK_PARITY_CNT.COUNT).raiseStack STACK_EVENT.PARITY
       { s with stack := { s.stack with probes := if s.stack.probes.contains g then s.stack.probes else s.stack.probes ++ [g] } })

/-- Signals that the probe declares failed while two or more spares work: two spares agree against them (R26). -/
def probeSignals (w : List Nat) (misses : List (Nat × Nat)) : List Nat :=
  ((misses.map (·.1)).eraseDups).filter (fun i => i < 64 && 2 ≤ (w.filter (fun p => misses.contains (i, p))).length)

/-- Spares that disagree with two or more of the signals left over (R26). -/
def probeSpares (w : List Nat) (misses : List (Nat × Nat)) : List Nat :=
  w.filter (fun p => 2 ≤ ((misses.filter (fun m => m.2 == p && m.1 < 64)).map (·.1)).eraseDups.length)

/-- With one working spare: the signal that alone disagrees with it in four intervals (R26). -/
def probeLast (p : Nat) (misses : List (Nat × Nat)) : List Nat :=
  let mine := misses.filter (fun m => m.2 == p && m.1 < 64)
  match (mine.map (·.1)).eraseDups with
  | [i] => if 4 ≤ mine.length then [i] else []
  | _ => []

/-- The spare that carries the copy of signal `i` when its bond is declared failed (R27): the second of `w` that disagreed with it, or the
only one. DEDUCED: the copy stands on the spare of the last comparison. -/
def probeSpare (w : List Nat) (misses : List (Nat × Nat)) (i : Nat) : Option Nat :=
  let ps := ((misses.filter (fun m => m.1 == i && w.contains m.2)).map (·.2)).eraseDups
  if 2 ≤ w.length then ps[1]? else ps.head?

/-- The probe passes over signal `i` of the group (R26, R121): in a RISER group over a riser that is held or whose drivers are both off. -/
def State.probeSkips (s : State) (g : GroupId) (i : Nat) : Bool :=
  let r := 64 * g.index + i
  g.cls == clsRiser && (s.riserHeld g.column r || !(s.driven g.column).getLsbD r)

/-- One pass of the probe over a group (R26): each entry of `misses` is one interval in which the copy of a signal on a spare disagreed, in
their order. -/
def State.probe (s : State) (g : GroupId) (all : List (Nat × Nat)) : State :=
  let x := s.group g
  let misses := all.filter (fun m => !s.probeSkips g m.1)
  let w := x.working
  let sigs := if 2 ≤ w.length then probeSignals w misses else (w.flatMap (fun p => probeLast p misses))
  let spares := probeSpares w (misses.filter (fun m => !sigs.contains m.1))
  let s := sigs.foldl (fun s i =>
    s.failBond g ((s.group g).carrier i) (probeSpare ((s.group g).working) misses i)) s
  -- a spare found bad that has taken over a signal in this pass fails like any bond that carries one
  spares.foldl (fun s p => s.failBond g p (s.group g).freeSpare) s

/-- GROUP_PROBE (R26, R27, R30). -/
def execGroupProbe (g : GroupId) (misses : List (Nat × Nat)) (s : State) : Host.Outcome State Fault Refusal :=
  guardUnit (groupOk g) ({ s with stack := { s.stack with probes := s.stack.probes.erase g } }.probe g misses)

/-! ### Grounding (R34 to R36) -/

/-- Contexts whose save was in progress at the grounding edge are LOST (R35). -/
def State.loseSaves (s : State) (p : Nat) : State :=
  let qs := (List.range 4).filterMap (fun q => (s.qswap p q).saving.map (fun v => (q, v.slot)))
  if s.quarterMode p then qs.foldl (fun s x => s.recordLost p x.1 1 (some x.2) false) s
  else ((qs.map (·.2)).eraseDups).foldl (fun s i => s.recordLost p 0 (qs.filter (·.2 == i)).length (some i) true) s

/-- Context swaps and a held prefetch of a grounded panel are discarded (R35). -/
def State.dropSwaps (s : State) (p : Nat) : State :=
  let s := s.unpend p [0, 1, 2, 3]
  let s := if (s.panel p).heldPf.isSome then s.unholdPf p else s
  s.setPanel p { s.panel p with inbox := [], quarters := [] }

/-- Accesses of the bank port in flight end with FAILED (R35, R36). -/
def State.failPort (s : State) (b : Nat) : State :=
  let x := s.bank b
  s.setBank b { x with port := x.port.map (fun r => if r.done.isNone then { r with done := some (3, []) } else r) }

/-- A PORT owner, present or on its way by a handover, becomes NONE (R35, R263). -/
def State.losePort (s : State) (b : Nat) : State :=
  let s := s.setBank b { s.bank b with kind := if (s.bank b).kind = 1 then 0 else (s.bank b).kind }
  { s with handover := s.handover.map (fun h => if h.bank = b ∧ h.kind = 1 then { h with kind := 0 } else h) }

/-- The fabric initiator ports of panel `p` release their tags (R35). -/
def State.releasePorts (s : State) (p : Nat) : State :=
  ((List.range 64).filter (fun i => (mget (fun _ => ({} : FabPort)) s.fabPorts (26 + i)).panel == some p)).foldl
    (fun s i => s.releaseTags (26 + i)) s

/-- The flip-flops are held in reset (R126): the even rows of the record hold them (R155). -/
def resetFlops (cells : SMap Row) : SMap Row := cells.filter (fun e => e.1 % 2 == 1)

/-- Panel `p` is grounded (R35). -/
def State.groundPanel (s : State) (p reason : Nat) : State :=
  if (s.panel p).grounded ≠ 0 then s
  else
    let b := portBank p
    let s := (((s.abortSlice p pcPanelState false).engageHold p).loseSaves p).dropSwaps p
    let x := s.panel p
    let s := s.setPanel p { x with grounded := reason, cells := resetFlops x.cells }
    let s := ((s.failPort b).losePort b).releasePorts p
    { s with load := { s.load with edges := s.load.edges.filter (· != p) } }.judgeSweep

/-- Bank `b` is grounded (R36, R277). -/
def State.groundBank (s : State) (b reason : Nat) : State :=
  if (s.bank b).grounded ≠ 0 then s
  else
    let s := s.failPort b
    let waiting := (s.bank b).held
    let s := s.setBank b { s.bank b with grounded := reason, kind := 0, testing := none, held := [] }
    let s := waiting.foldl (fun (s : State) (q : HeldAccess) => s.respond (bankStatus q.who 3) 0) s
    let s := match s.handover with
      | some h =>
        if h.bank = b then
          let s := ({ s with handover := none } : State).wr pgBallast BANK_HANDOVER_STATUS.BUSY 0
          h.held.foldl (fun (s : State) (q : HeldAccess) => s.respond (bankStatus q.who 3) 0) s
        else s
      | none => s
    let s : State := { s with repairs := s.repairs.filter (·.1 != b) }
    s.loseMirrorOf b (if isTwin b then 255 else s.rd (pgMirror (b / 16)) BANK_MIRROR_CTRL.SYNCED)

/-- A bank lost to its MEMORY groups is retired whole, as by BANK_RETIRE (R34, R277). -/
def State.retireLost (s : State) (b : Nat) : State :=
  if (s.bank b).failed then s
  else match s.handover with
    | some h => if h.bank = b then { s with handover := some { h with retire := h.retire ++ [8] } } else s.retireWhole b
    | none => s.retireWhole b

/-- Column `c` is grounded (R34): both panels, both banks, the Spar block and the context-store slice, and its riser groups. -/
def State.groundColumn (s : State) (c reason bankReason : Nat) : State :=
  let s := (s.groundPanel c reason).groundPanel (288 + c) reason
  let s := ((s.groundBank (2 * c) bankReason).groundBank (2 * c + 1) bankReason).killRisers c 0xFFFF
  (s.setColumn c { s.column c with off := true, accCmd := none }).wr (pgTile c) CTX_ACC_STATUS.BUSY 0

/-- One task takes effect. -/
def State.ground (s : State) (t : GroundTask) : State :=
  match t with
  | .panel p reason => s.groundPanel p reason
  | .bank b reason => s.groundBank b reason
  | .retire b => s.retireLost b
  | .column c reason bankReason => s.groundColumn c reason bankReason

/-- GROUNDING (R34): the oldest waiting grounding takes effect. -/
def execGrounding (s : State) : Host.Outcome State Fault Refusal :=
  match s.stack.toGround with
  | [] => .next s
  | t :: ts => .next ({ s with stack := { s.stack with toGround := ts } }.ground t)

/-! ### Clock triads (R31) -/

/-- Failed copies of a triad at a crossing, as a mask: each receiving face votes on the three bonds of its crossing. -/
def State.triad (s : State) (c t x : Nat) : Nat := nget s.stack.triads (32 * c + 4 * t + x)

def State.setTriad (s : State) (c t x m : Nat) : State :=
  { s with stack := { s.stack with triads := nset s.stack.triads (32 * c + 4 * t + x) m } }

/-- A triad has lost two copies. -/
def triadLost (m : Nat) : Bool := m == 3 || m == 5 || m == 6 || m == 7

/-- A copy of a triad at a crossing is declared failed (R31). -/
def State.failCopy (s : State) (c t : Nat) (k : TriadBond) : State :=
  let m := s.triad c t k.crossing
  if bitOf m k.copy then s
  else
    let s := s.setTriad c t k.crossing (m + 2 ^ k.copy)
    if m = 0 then s.raiseStack STACK_EVENT.CLOCK_DEGRADED
    else if triadLost m then s
    else
      (((s.addFuse (.triadLost c t k.crossing)).addDead (deadWord clsTriad k.crossing c t 2)).raiseStack STACK_EVENT.CLOCK_LOST).addTask
        (.column c 0x13 0x13)

/-- The copy exists: triads 0 to 5, of which triad 0 does not pass crossing 3 (R31). -/
def triadOk (t : Nat) (k : TriadBond) : Bool := t < 6 && k.copy < 3 && k.crossing < (if t = 0 then 3 else 4)

/-- CLOCK_COPY_FAILED (R31): a copy of a triad of a column, at one of its crossings. -/
def execClockCopyFailed (c triad : Nat) (copy : TriadBond) (s : State) : Host.Outcome State Fault Refusal :=
  guardUnit (c < 288 && triadOk triad copy) (s.failCopy c triad copy)

/-! ### Fuses and the census (R29, R33, R424) -/

/-- FUSE_BURN (R29): not while PF_WARN or PF_HELD keeps new burns out. -/
def execFuseBurn (s : State) : Host.Outcome State Fault Refusal :=
  match s.stack.pendingFuses with
  | [] => .next s
  | e :: es =>
    .next
      (if s.on pgSpar STACK_FUSEMAP.VFUSE_OK = true ∧ s.pfBlocked = false then
         { s with fuses := { s.fuses with map := s.fuses.map ++ [e] }, stack := { s.stack with pendingFuses := es } }
       else s)

/-- Step 1 of the census: an entry of the fuse map is applied (R33). A group that its repairs alone exhaust, its exhaustion never having
been burnt, is exhausted now (R30). -/
def State.applyFuse (s : State) (e : FuseEntry) : State :=
  match e with
  | .repair g i w =>
    let x := s.group g
    let s := s.setGroup g { failed := x.failed ++ [x.carrier i], moved := lset x.moved i w }
    if (s.group g).exhausted && !s.fuses.map.contains (.exhausted g) then s.exhaust g else s
  | .exhausted g =>
    let x := s.group g
    ((s.setGroup g { x with failed := x.failed ++ x.working }).addDead (deadWord g.cls g.crossing g.column g.index 4)).groupFate g
  | .triadLost c t x => ((s.setTriad c t x 7).addDead (deadWord clsTriad x c t 2)).addTask (.column c 0x13 0x13)

/-- Every waiting grounding takes effect. -/
def State.groundAll (s : State) : State :=
  s.stack.toGround.foldl State.ground { s with stack := { s.stack with toGround := [] } }

/-- Repairs that the census makes for newly failed bonds (R33). -/
def State.censusBond (s : State) (f : GroupId × Nat) : State :=
  let repaired := !(s.group f.1).exhausted && !(s.group f.1).failed.contains f.2 && ((s.group f.1).signalOf f.2).isSome
  let x := s.group f.1
  let s := s.failBond f.1 f.2 (x.working.find? (· != f.2))
  if repaired then s.inc pgSpar STACK_CENSUS.NEW_REPAIRS else s

/-- The census (R33): `found` lists newly failed bonds, `copies` failed clock copies as (column, triad, copy). -/
def State.census (s : State) (found : List (GroupId × Nat)) (copies : List (Nat × Nat × TriadBond)) : State :=
  let s := { s with stack := { groups := [], triads := [], dead := [], toGround := [], pendingFuses := s.stack.pendingFuses, probes := [] } }
  let s1 := (s.fuses.map.foldl State.applyFuse s).groundAll
  let s2 := copies.foldl (fun s x => s.failCopy x.1 x.2.1 x.2.2) (found.foldl State.censusBond s1)
  let unburnt := s.fuses.map.any (fun e => match e with
    | .repair g _ _ => (s1.group g).exhausted && !s.fuses.map.contains (.exhausted g)
    | _ => false)
  let lost := unburnt || found.any (fun f => (s2.group f.1).exhausted && !(s1.group f.1).exhausted) ||
    copies.any (fun x => triadLost (s2.triad x.1 x.2.1 x.2.2.crossing) && !triadLost (s1.triad x.1 x.2.1 x.2.2.crossing))
  (s2.groundAll.wr pgSpar STACK_CENSUS.STATE (if lost then 3 else 2)).reachStage READY_SUM.CENSUS

/-- BOND_CENSUS (R33): once after P and C, when the upper-die regulators are up. -/
def execBondCensus (found : List (GroupId × Nat)) (copies : List (Nat × Nat × TriadBond)) (s : State) : Host.Outcome State Fault Refusal :=
  guardUnit (found.all (fun f => groupOk f.1 && f.2 < 68) && copies.all (fun x => x.1 < 288 && triadOk x.2.1 x.2.2))
    (if s.on pgReady READY_SUM.REGULATORS = true ∧ s.rd pgSpar STACK_CENSUS.STATE = 0 then s.census found copies else s)

end Sys2Proof.Machine
end

