-- ==== Sys2Proof/Machine/TetherOps.lean ====
section
/-! DEFINITION. The flits of a Tether port: coding, acknowledgement, credits, replay, and packets in and out (R377 to R390). -/

namespace Sys2Proof.Machine

open Sys2Proof

/-! ### Coding (R377 to R381) -/

/-- The elements at even, and at odd, places. -/
def evens {α : Type} : List α → List α
  | a :: _ :: t => a :: evens t
  | [a] => [a]
  | [] => []

/-- Merge two lists, element by element. -/
def interleave {α : Type} : List α → List α → List α
  | a :: as, b :: bs => a :: b :: interleave as bs
  | _, _ => []

/-- The 256 bytes of a flit with its CRC-64 and FEC parity. `body` is the header and the payload, 244 bytes. -/
def sealFlit (body : List Byte) : List Byte :=
  let d := body ++ bytesLE 8 (crc64 body)
  let n := d.map (·.toNat)
  d ++ (interleave (rsParity (evens n)) (rsParity (evens (n.drop 1)))).map (BitVec.ofNat 8 ·)

/-- A received flit after the FEC: its 256 bytes and the bytes corrected; none where a codeword is uncorrectable or the CRC fails.
The count of corrected bytes is given either way. -/
def openFlit (bytes : List Byte) : Option (List Byte) × Nat :=
  let n := bytes.map (·.toNat)
  match rsDecode (evens n), rsDecode (evens (n.drop 1)) with
  | some a, some b =>
    let d := (interleave a.1 b.1).map (BitVec.ofNat 8 ·)
    (if crc64 (d.take 244) = natLE ((d.drop 244).take 8) then some d else none, a.2 + b.2)
  | some a, none => (none, a.2)
  | none, some b => (none, b.2)
  | none, none => (none, 0)

/-- Places at which two lists differ. -/
def diffs {α : Type} [DecidableEq α] : Nat → List α → List α → List Nat
  | i, a :: as, b :: bs => if a = b then diffs (i + 1) as bs else i :: diffs (i + 1) as bs
  | _, _, _ => []

/-- The bytes of a received flit that the FEC corrects (R381). -/
def correctedPlaces (bytes : List Byte) : List Nat :=
  let n := bytes.map (·.toNat)
  let half (xs : List Nat) (k : Nat) : List Nat :=
    match rsDecode xs with
    | some a => (diffs 0 xs a.1).map (fun i => 2 * i + k)
    | none => []
  half (evens n) 0 ++ half (evens (n.drop 1)) 1

/-! ### Bytes on lanes (R355, R356, R377) -/

/-- The bytes that the `k`-th of `w` lanes carries (R377): byte b goes on lane (b div 2) mod w. -/
def laneBytes (w k : Nat) (bs : List Byte) : List Byte := (bs.zipIdx.filter (fun b => b.2 / 2 % w == k)).map (·.1)

/-- Bits in their order on a lane: within a byte, bit 7 goes first (R377). -/
def serialBits (bs : List Byte) : List Bool := bs.flatMap (fun b => (List.range 8).map (fun i => b.getLsbD (7 - i)))

/-- The symbols of the `k`-th of `w` lanes before precoding. -/
def laneSymbols (w k : Nat) (bs : List Byte) : List Nat := symbolsOf (serialBits (laneBytes w k bs))

/-- The levels of precoded symbols on lane `l` (R355): inverted where TX_INVERT has it (R374). -/
def State.levelsOn (s : State) (l : Nat) (ys : List Nat) : List Int :=
  ys.map (fun y => if s.on (pgLane l) LANE_CTRL.TX_INVERT then -pam4Level y else pam4Level y)

/-- The lanes of port `p` in use send a flit: what each sends, and where its precoder stands then. -/
def State.sendOn (s : State) (p : Nat) (bytes : List Byte) : List (Nat × List Int) × State :=
  let ls := s.lanesUsed p
  ls.zipIdx.foldl (fun (r : List (Nat × List Int) × State) e =>
    let x := r.2.lane e.1
    let ys := precodeAll x.txSym (laneSymbols ls.length e.2 bytes)
    (r.1 ++ [(e.1, s.levelsOn e.1 ys)], r.2.setLane e.1 { x with txSym := ys.getLastD x.txSym })) ([], s)

/-- A flit has come in on the lanes of port `p`: where each decoder stands then, and the corrected symbols of the last second (R363,
R381). -/
def State.cameOn (s : State) (p : Nat) (bytes : List Byte) : State :=
  let ls := s.lanesUsed p
  let bad := correctedPlaces bytes
  ls.zipIdx.foldl (fun s e =>
    let x := s.lane e.1
    let n := (bad.filter (fun b => b / 2 % ls.length == e.2)).length
    s.setLane e.1 { x with rxSym := (precodeAll x.rxSym (laneSymbols ls.length e.2 bytes)).getLastD x.rxSym
                           corrected := x.corrected.filter (fun t => s.ns < t + 1000000000) ++ List.replicate n s.ns }) s

/-- Buffer size of a class at the receiving port (R382). -/
def classSlots (c : Nat) : Nat := if c = 0 then 16 else 128

/-- TYPE codes (R378). -/
def tyNull : Nat := 0
def tyData : Nat := 1
def tyReplay : Nat := 2
def tyEcho : Nat := 3
def tyCap : Nat := 4

/-! ### Sending (R378, R382, R383) -/

/-- Slots of class `c` that the ingress buffer of port `p` holds (R382): those of packets not yet whole, and those of whole packets that
have not moved on into the rigging. -/
def State.ingressSlots (s : State) (p c : Nat) : Nat :=
  ((s.port p).partial_.filter (fun x => x.cls == c)).length +
  ((s.rig.packets.filter (fun q => q.ingress == some p && q.cls == c)).map (fun q => q.count (fun t => t.2.1 == 6))).sum

/-- Slots of class `c` that have become free and are not yet returned as credits. -/
def State.freedSlots (s : State) (p c : Nat) : Nat := nget (s.port p).used c - s.ingressSlots p c

/-- The header of a flit sent now: SEQ, ACK, TYPE, and in ACTIVE a credit return of the first class with a group of four slots freed. -/
def State.flitHeader (s : State) (p seq ty : Nat) : Nat × State :=
  let ack := (s.rdPort p TETHER_RX_SEQ.EXPECT + 4095) % 4096
  let x := s.port p
  let h := seq + ack * 2 ^ 12 + ty * 2 ^ 24
  match if s.portState p = tpActive then (List.range 4).find? (fun c => 4 ≤ s.freedSlots p c) else none with
  | none => (h, s)
  | some c =>
    let n := min 3 (s.freedSlots p c / 4)
    (h + n * 2 ^ 28 + c * 2 ^ 30, s.setPort p { x with used := nset x.used c (nget x.used c - 4 * n) })

/-- A flit of header and payload `body` leaves the port on its lanes; `msg` is what is sent. -/
def State.sendFlit (s : State) (p : Nat) (body : List Byte) (msg : List Byte → List (Nat × List Int) → OutMsg) : State :=
  let f := sealFlit body
  let r := s.sendOn p f
  let t := r.2.setPort p { r.2.port p with busy := (s.port p).busy + 1 }
  { t with out := t.out ++ [msg f r.1] }

/-- A flit with a zero payload leaves the port. -/
def State.sendPlain (s : State) (p ty : Nat) : State :=
  let h := s.flitHeader p 0 ty
  h.2.sendFlit p (bytesLE 4 h.1 ++ bytesLE 240 0) (.flit p)

/-- Flit places of 2,048 bits that have begun on the lanes of port `p` by instant `n` (R376). DESIGN CHOICE: they are counted from instant
0. -/
def State.flitsBy (s : State) (p n : Nat) : Nat := n * (s.lanesUsed p).length * rateBits (s.rdPort p TETHER_CTRL.RATE) / 204800

/-- Port `p` sends flits: in ACTIVE, in EXCHANGE, and in LOCK once its lanes have bit lock (R368). -/
def State.flitting (s : State) (p : Nat) : Bool :=
  s.portState p == tpActive ||
  (!(s.lanesUsed p).isEmpty && (s.lanesUsed p).all (fun l => s.stage l == stExchange || (s.stage l == stLock && (s.lane l).bitLock)))

/-- A flit's place begins on the lanes of port `p` (R378): a flit that has left takes it, or a NULL flit where no other is ready. -/
def State.fillPlace (s : State) (p : Nat) : State :=
  if s.flitting p = false ∨ s.flitsBy p s.ns = s.flitsBy p (s.ns - 1) then s
  else
    let s := if (s.port p).busy = 0 then s.sendPlain p tyNull else s
    s.setPort p { s.port p with busy := (s.port p).busy - 1 }

/-- The device has the host port, or a way to it (R387). -/
def State.hostward (s : State) : Bool :=
  s.linkUp || (List.range 8).any (fun q => s.portState q == tpActive && s.rdPort q TETHER_CTRL.UPLINK == 1 && (s.port q).hostward)

/-- Free slots of a class in the port's ingress buffer. -/
def State.freeSlots (s : State) (p c : Nat) : Nat := classSlots c - s.ingressSlots p c

/-- The capability record of port `p` (R387), 20 bytes. -/
def State.capRecord (s : State) (p : Nat) : List Byte :=
  [1, s.devNumber, p, (s.port p).offered, s.rdPort p TETHER_CTRL.RATE,
   1 + 2 * s.rdPort p TETHER_CTRL.UPLINK + 4 * bnat s.hostward].map (BitVec.ofNat 8) ++
  bytesLE 2 (s.rdPort p TETHER_RX_SEQ.EXPECT) ++
  bytesLE 4 (s.rd (pgTether 0) TETHER_ARRAY_ID_LO.ID) ++ bytesLE 4 (s.rd (pgTether 0) TETHER_ARRAY_ID_HI.ID) ++
  (List.range 4).map (fun c => BitVec.ofNat 8 (s.freeSlots p c))

/-- A CAP flit leaves the port. The slots that it does not report as free are owed as credits once they are. -/
def State.sendCap (s : State) (p : Nat) : State :=
  let h := s.flitHeader p 0 tyCap
  let x := s.port p
  let used := (List.range 4).foldl (fun m c => nset m c (s.ingressSlots p c)) []
  let t := h.2.setPort p { x with used := used, sentAccept := x.sentAccept || x.accepts }
  t.sendFlit p (bytesLE 4 h.1 ++ s.capRecord p ++ bytesLE 220 0) (.cap p x.accepts)

/-- A whole number of microseconds has passed since the last of the port's lanes entered EXCHANGE (R387). -/
def State.capDue (s : State) (p : Nat) : Bool :=
  (s.port p).lanesOn != 0 && (s.lanesUsed p).all (fun l => s.stage l == stExchange) &&
  (s.ns - ((s.lanesUsed p).map (fun l => (s.lane l).since)).foldl max 0) % 1000 == 0

/-- The stamp of a port or of the Bridle on the 0.25 ns grid (R388, R393): `sub` is the quarter of the present nanosecond. -/
def State.grid (s : State) (sub : Nat) : Nat := 4 * s.bridleNs + sub % 4

/-- AGE of the sync message in a header slot grows by `d`, modulo 2^16, and CHECK is regenerated (R379, R393). -/
def Slot.addAge (x : Slot) (d : Nat) : Slot :=
  let age := hdrField x.data 225 16
  let v := x.data - age * 2 ^ 225 + (age + d) % 65536 * 2 ^ 225
  makeSlot v (checkOf v) x.cls

/-- A DATA flit leaves the port, now or again (R378, R383). AGE takes the departure stamp of this transmission (R393). -/
def State.sendData (s : State) (p : Nat) (f : TetherFlit) : State :=
  let h := s.flitHeader p f.seq tyData
  let slots := f.slots.zipIdx.map (fun e => if f.stamped.contains e.2 then e.1.addAge (s.grid 0) else e.1)
  let pay := (slots.flatMap (fun x => bytesLE 34 x.toNat) ++ bytesLE 238 0).take 238
  (h.2.inc (pgTether p) TETHER_TX_FLITS.COUNT).sendFlit p (bytesLE 4 h.1 ++ pay ++ bytesLE 2 0) (.flit p)

/-- A new DATA flit: it takes the next SEQ and stays in the replay buffer until an ACK covers it (R383). -/
def State.newData (s : State) (p : Nat) (slots : List Slot) (stamped : List Nat) : State :=
  let seq := s.rdPort p TETHER_TX_SEQ.NEXT
  let x := s.port p
  let f : TetherFlit := ⟨seq, slots, stamped⟩
  let s := s.setPort p { x with buf := x.buf ++ [f], ackAt := if x.buf.isEmpty then s.ns else x.ackAt }
  (s.wrPort p TETHER_TX_SEQ.NEXT ((seq + 1) % 4096)).sendData p f

/-- Groups of at most seven slots. -/
def sevens : Nat → List Slot → List (List Slot)
  | 0, _ => []
  | k + 1, xs => if xs.isEmpty then [] else xs.take 7 :: sevens k (xs.drop 7)

/-- The packet is a sync message. -/
def Packet.isSync (p : Packet) : Bool := p.opc == 4 && p.addr == syncPort

/-- The packet is a DATA sync message, whose AGE each stage of its path adds to (R393). -/
def Packet.ages (p : Packet) : Bool := p.isSync && p.gen == 0 && p.payloadFlits == 0

/-- AGE of a DATA sync message grows by `d`, modulo 2^16 (R393). -/
def Packet.addAge (p : Packet) (d : Int) : Packet :=
  if p.ages then
    let v := natLE p.data
    let age := ((v / 2 ^ 97 % 65536 : Nat) + d) % 65536
    { p with data := bytesLE 16 (v % 2 ^ 97 + age.toNat * 2 ^ 97 + v / 2 ^ 113 * 2 ^ 113) }
  else p

/-- The port takes a packet's header now (R382, R386): it has the credits and the buffer room, or is DOWN and answers it. -/
def State.egressOpen (s : State) (p : Nat) (q : Packet) : Bool :=
  let x := s.port p
  s.portState p == tpDown || s.on (pgTether p) PAGE_RESET.BUSY ||
  (s.portState p == tpActive && q.flits ≤ nget x.credits q.cls && x.buf.length + (q.flits + 6) / 7 ≤ 128)

/-- A packet reaches the port (R382, R383, R386): in ACTIVE it leaves in DATA flits against credits and buffer room, and otherwise
waits in the rigging; in DOWN a request is answered NO_ROUTE and another is discarded; under function reset a request is answered
BUSY_RESET (R307). -/
def State.egress (s : State) (p : Nat) (q : Packet) : State :=
  if s.on (pgTether p) PAGE_RESET.BUSY = true ∧ q.isRequest = true then (s.dropPacket q).inject (responseOf q q.node rcBusyReset [])
  else if s.portState p = tpDown then
    let s := s.dropPacket q
    if q.isRequest then s.inject (responseOf q q.node rcNoRoute []) else s.inc (pgTether p) TETHER_DOWN_DROP_CNT.COUNT
  else if s.portState p ≠ tpActive then s
  else
    let x := s.port p
    let c := q.cls
    let n := q.flits
    if nget x.credits c < n ∨ 128 < x.buf.length + (n + 6) / 7 then s
    else
      let s := (s.dropPacket q).setPort p { x with credits := nset x.credits c (nget x.credits c - n) }
      (sevens n q.slots).foldl (fun s g => s.newData p g (if q.ages then [0] else [])) s

/-! ### Receiving (R382 to R384, R390) -/

/-- The world of a packet that enters at port `p` (R53, R390). -/
def State.ingressNs (s : State) (p : Nat) (ns : Bool) : Bool := ns || !bitOf (s.rd pgWorld WORLD_TETHER_TRUST.TRUSTED) p

/-- A header that enters at port `p` takes the world that the port's trust gives it now (R53, R390, R397); CHECK of one that this changes
is regenerated (R379). -/
def State.trustSlot (s : State) (p : Nat) (x : Slot) : Slot :=
  let opc := hdrField x.data 37 4
  let ns := hdrField x.data 42 1 == 1
  if (opc == opRd || opc == opWr || opc == opMsg) && s.ingressNs p ns && !ns then
    makeSlot (x.data + 2 ^ 42) (checkOf (x.data + 2 ^ 42)) x.cls
  else x

/-- The packet that a header and payload bytes spell, entering at port `p` (R390). It takes the device's own epoch. -/
def State.packetOf (s : State) (p h : Nat) (data : List Byte) (checks : SMap Nat) : Packet :=
  let f := hdrField h
  let opc := f 37 4
  let bytes := f 43 10
  let ns := f 42 1 == 1
  let node := f 0 7
  { node := (initPlace (11 + p)).1, la := 7, dstNode := node, dstPort := f 7 3, dstDev := f 10 6, srcInit := f 16 7, srcDev := f 23 6
    who := .packet (11 + p) 0 (!ns), tag := f 29 6, gen := f 35 2, opc := opc, epoch := s.epoch, ns := ns, bytes := bytes, status := f 53 4
    addr := f 64 64, data := data, target := (targetAt node (f 7 3)).getD 160, inj := s.ns
    ingress := some p, checks := checks }

/-- Payload flits that follow a header. -/
def payloadOfHeader (h : Nat) : Nat :=
  let opc := hdrField h 37 4
  let bytes := hdrField h 43 10
  let carried := if opc = opWr ∨ opc = opMsg ∨ (opc = opRdResp ∧ hdrField h 53 4 ≤ 1) then bytes else 0
  if carried ≤ 16 then 0 else (carried + 31) / 32

/-- A whole packet enters (R390, R393): one that has looped is dropped; the others go on to their target or onward. A sync message
counts the link delay and its arrival in its AGE. -/
def State.enterPacket (s : State) (p : Nat) (slots : List Slot) : State :=
  match slots with
  | [] => s
  | x :: pay =>
    let h := x.data
    let bytes := hdrField h 43 10
    let data := if payloadOfHeader h = 0 then bytesLE (min bytes 16) (h / 2 ^ 128)
                else (pay.flatMap (fun y => bytesLE 32 y.data)).take bytes
    let q := s.packetOf p h data (pay.zipIdx.map (fun y => (y.2 + 1, y.1.check)))
    if (q.isRequest || q.opc == opMsg) && q.srcDev == s.devNumber then s.inc (pgTether p) TETHER_DOWN_DROP_CNT.COUNT
    else s.inject (q.addAge ((s.rdPort p TETHER_LINK_DELAY.DELAY : Int) - s.grid 0))

/-- A slot is delivered: it joins its packet, of which a header takes its world, and the last one completes it. It stands in the ingress
buffer until its packet moves on (R382). -/
def State.takeSlot (s : State) (p : Nat) (x : Slot) : State :=
  if !x.valid then s
  else
    let y := s.port p
    let held := y.partial_.filter (fun z => z.cls == x.cls)
    let mine := held ++ [if held.isEmpty then s.trustSlot p x else x]
    let rest := y.partial_.filter (fun z => z.cls != x.cls)
    let y := { y with used := nset y.used x.cls (nget y.used x.cls + 1) }
    match mine with
    | h :: _ =>
      if mine.length = 1 + payloadOfHeader h.data then (s.setPort p { y with partial_ := rest }).enterPacket p mine
      else s.setPort p { y with partial_ := rest ++ mine }
    | [] => s

/-- The seven slots of a DATA payload. -/
def flitSlots (bytes : List Byte) : List Slot := (List.range 7).map (fun k => BitVec.ofNat 272 (natLE ((bytes.drop (4 + 34 * k)).take 34)))

/-- Buffered flits are sent again (R383). -/
def State.resend (s : State) (p : Nat) : State := (s.port p).buf.foldl (fun s f => s.sendData p f) s

/-- A replay, or the restart that follows REPLAY_LIMIT replays without progress (R384). -/
def State.replay (s : State) (p : Nat) : State :=
  let x := s.port p
  if s.rdPort p TETHER_TIMERS.REPLAY_LIMIT ≤ x.replays then s.portRestart p
  else
    let s := s.setPort p { x with replays := x.replays + 1, ackAt := s.ns }
    ((s.resend p).inc (pgTether p) TETHER_REPLAY_CNT.COUNT).raisePort p TETHER_EVENT.REPLAY

/-- A credit error restarts the port (R382, R397). -/
def State.creditError (s : State) (p : Nat) : State := (s.raisePort p TETHER_EVENT.CREDIT_ERR).portRestart p

/-- The ACK of a flit is honoured (R383, R397): how far it is from the oldest buffered flit's predecessor. One behind it changes
nothing. -/
def State.takeAck (s : State) (p ack : Nat) : State :=
  let x := s.port p
  let first := match x.buf with | f :: _ => f.seq | [] => s.rdPort p TETHER_TX_SEQ.NEXT
  let d := (ack + 1 + 4096 - first) % 4096
  if d = 0 then s
  else if d ≤ x.buf.length then
    (s.setPort p { x with buf := x.buf.drop d, ackAt := s.ns, replays := 0 }).wrPort p TETHER_TX_SEQ.ACKED ack
  else if d < 2048 then s.creditError p
  else s

/-- The CREDIT field of a flit (R382). -/
def State.takeCredit (s : State) (p f : Nat) : State :=
  let x := s.port p
  let c := f / 4
  let n := 4 * (f % 4)
  if n = 0 then s
  else if classSlots c < nget x.credits c + n then s.creditError p
  else s.setPort p { x with credits := nset x.credits c (nget x.credits c + n) }

/-- The receiver asks for a replay once (R383). -/
def State.askReplay (s : State) (p : Nat) : State :=
  if (s.port p).replayAt.isSome then s
  else (s.setPort p { s.port p with replayAt := some s.ns }).sendPlain p tyReplay

/-- A good DATA flit (R383): in sequence it is accepted and its slots are delivered. -/
def State.takeData (s : State) (p seq : Nat) (bytes : List Byte) : State :=
  if seq ≠ s.rdPort p TETHER_RX_SEQ.EXPECT then s.askReplay p
  else
    let s := (s.wrPort p TETHER_RX_SEQ.EXPECT ((seq + 1) % 4096)).inc (pgTether p) TETHER_RX_FLITS.COUNT
    (flitSlots bytes).foldl (fun s x => s.takeSlot p x) (s.setPort p { s.port p with replayAt := none })

/-! ### ECHO flits and entry to ACTIVE (R376, R385, R387, R388) -/

/-- An ECHO flit leaves the port (R378, R388). -/
def State.sendEcho (s : State) (p : Nat) (answer : Bool) (t1 t2 t3 : Nat) : State :=
  let h := s.flitHeader p 0 tyEcho
  h.2.sendFlit p (bytesLE 4 h.1 ++ bytesLE 240 (Config.echoPayload answer t1 t2 t3).toNat) (.echo p answer t1 t2 t3)

/-- An ECHO request leaves in quarter `sub` of the present nanosecond, and the next is due 100 µs later. -/
def State.echoRequest (s : State) (p sub : Nat) : State :=
  (s.setPort p { s.port p with echoAt := some s.ns }).sendEcho p false (s.grid sub) 0 0

/-- 100 µs have passed since the last ECHO request. -/
def State.echoDue (s : State) (p : Nat) : Bool :=
  s.portState p == tpActive && (match (s.port p).echoAt with | some t => t + 100000 ≤ s.ns | none => true)

/-- The ECHO requests that fall due in this nanosecond and that no command has sent. DESIGN CHOICE: they leave in its first quarter. -/
def State.sendEchoes (s : State) : State :=
  ((List.range 8).filter s.echoDue).foldl (fun s p => s.echoRequest p 0) s

/-- Slots of class `c` in buffered flits. -/
def slotsOf (fs : List TetherFlit) (c : Nat) : Nat := ((fs.flatMap (·.slots)).filter (fun x => x.valid && x.cls == c)).length

/-- The port enters ACTIVE (R376, R385, R387, R388): at the width exchanged, the lanes outside it set aside. It resumes from the partner's
EXPECT if that lies in its buffer and the partner is the same; the flits sent again take credits of those reported (R382). Otherwise the
buffer is discarded. -/
def State.enterActive (s : State) (p : Nat) : State :=
  let x := s.port p
  let s := (s.lanesUsed p).foldl (fun s l => ((s.setStage l stActive).clearBackoff l).raiseLane l LANE_EVENT.ACTIVE_REACHED) s
  let w := widthCode x.lanesOn
  let s := ((s.wrPort p TETHER_STATUS.STATE tpActive).wrPort p TETHER_STATUS.WIDTH w).narrow p x.lanesOn
  let s := if w < s.rdPort p TETHER_CTRL.LANES then s.raisePort p TETHER_EVENT.NARROW else s
  let first := match x.buf with | f :: _ => f.seq | [] => s.rdPort p TETHER_TX_SEQ.NEXT
  let d := (x.capExpect + 4096 - first) % 4096
  let same := x.before == some (s.rdPort p TETHER_STATUS.PARTNER_DEV, s.rdPort p TETHER_STATUS.PARTNER_PORT)
  let s := s.setPort p { s.port p with left := none, replayAt := none, replays := 0, ackAt := s.ns }
  let s := if same && d ≤ x.buf.length then
      let buf := x.buf.drop d
      let credits := (List.range 4).foldl (fun m c => nset m c (nget x.credits c - slotsOf buf c)) []
      ((s.setPort p { s.port p with buf := buf, credits := credits }).wrPort p TETHER_TX_SEQ.ACKED ((x.capExpect + 4095) % 4096)).resend p
    else s.discardReplay p
  s.echoRequest p 0

/-- Each end has received an accepting CAP flit (R387): this end has one, and has sent one. -/
def State.endExchange (s : State) (p : Nat) : State :=
  if (s.port p).peerAccepts && (s.port p).sentAccept && !(s.port p).refused && s.portState p != tpActive then s.enterActive p else s

/-- The lanes in TRAIN, or in LOCK before bit lock, send what follows their next marker when its place begins (R368). -/
def State.trainSends (s : State) : State :=
  ((List.range 32).filter (fun l => s.stage l == stTrain || (s.stage l == stLock && !(s.lane l).bitLock))).foldl (fun s l =>
    let x := s.lane l
    let marks (n : Nat) : Nat := (n * rateBits (s.rdLane l LANE_CTRL.RATE) + 3276799) / 3276800
    if marks s.ns = marks (s.ns - 1) then s
    else { s.setLane l { x with run := x.run + 32640 } with out := s.out ++ [.training l (s.stage l) x.run] }) s

/-- What the enabled ports send of their own accord in a nanosecond (R378, R387). -/
def State.portSends (s : State) : State :=
  ((List.range 8).filter s.portOn).foldl (fun s p =>
    (if s.capDue p then (s.sendCap p).endExchange p else s).fillPlace p) s

end Sys2Proof.Machine
end

