-- ==== Sys2Proof/Machine/Tether.lean ====
section
/-! DEFINITION. Meanings of chapter 15's commands: ports, received flits, the capability exchange, link delay and Bridle sync. -/

namespace Sys2Proof.Machine

open Sys2Proof

/-! ### TETHER_CTRL (R375, R376) -/

def State.portWrite (s : State) (a : Access) (p : Nat) (v : Word) : Host.Outcome State Fault Refusal :=
  guardUnit (p < 8) (s.gatedWrite a (pgTether p) TETHER_CTRL.ENABLE.off v (tetherCtrlBody p v))

/-- PORT_ENABLE (R375): a write of TETHER_CTRL with ENABLE = 1 and the other fields of `v`. -/
def execPortEnable (a : Access) (p : Nat) (v : Word) (s : State) : Host.Outcome State Fault Refusal := s.portWrite a p (v ||| 1)

/-- PORT_RETRAIN (R376): a write of TETHER_CTRL with RETRAIN = 1 and its other fields as they are. -/
def execPortRetrain (a : Access) (p : Nat) (s : State) : Host.Outcome State Fault Refusal :=
  s.portWrite a p ((s.reg (pgTether p * 4096 + TETHER_CTRL.ENABLE.off) &&& 0x000633F7) ||| 0x00010000)

/-! ### Capability exchange (R366, R385, R387) -/

/-- The first check that the partner's record fails (R387): an EXCH_REASON code, 0 for none. -/
def State.capReason (s : State) (p : Nat) (b : Nat → Nat) : Nat :=
  let theirs := natLE ((List.range 8).map (fun i => BitVec.ofNat 8 (b (12 + i))))
  let own := s.rd (pgTether 0) TETHER_ARRAY_ID_LO.ID + 2 ^ 32 * s.rd (pgTether 0) TETHER_ARRAY_ID_HI.ID
  if b 4 ≠ 1 then 1
  else if b 8 ≠ s.rdPort p TETHER_CTRL.RATE then 2
  else if b 9 % 2 = 0 then 3
  else if b 5 = s.devNumber then 4
  else if theirs ≠ own ∧ theirs ≠ 0 ∧ own ≠ 0 then 5
  else if alignedMask (s.fullMask p) ((s.port p).offered &&& b 7) = 0 then 6
  else 0

/-- Lanes whose applied blob names another partner than the one reported (R366). -/
def State.strangerLanes (s : State) (p dev port : Nat) : List Nat :=
  (s.lanesUsed p).filter (fun l =>
    match (s.lane l).blob with
    | some b => match b.partner with
      | some q => q != (dev, port)
      | none => false
    | none => false)

/-- The equaliser values of lane `l`'s blob are discarded (R366): a register that still holds what the blob set returns to what it held
before. DESIGN CHOICE: one written since stays. -/
def State.discardBlob (s : State) (l : Nat) : State :=
  match (s.lane l).blob with
  | none => s
  | some b =>
    let r := s.laneRegs l
    (s.setLaneRegs l ⟨if r.ffe = b.own.ffe then b.old.ffe else r.ffe, if r.ctle = b.own.ctle then b.old.ctle else r.ctle⟩).setLane l
      { s.lane l with blob := none }

/-- The partner that lane `l` of port `p` knows (R367): that of the last exchange, or before it the one that its blob names. -/
def State.knownPartner (s : State) (p l : Nat) : Option (Nat × Nat) :=
  if s.rdPort p TETHER_STATUS.PARTNER_VALID = 1 then some (s.rdPort p TETHER_STATUS.PARTNER_DEV, s.rdPort p TETHER_STATUS.PARTNER_PORT)
  else (s.lane l).blob.bind (·.partner)

/-- The partner's record is accepted (R387): its number, port, lanes, credits and EXPECT are taken. -/
def State.acceptCap (s : State) (p : Nat) (b : Nat → Nat) : State :=
  let x := s.port p
  let s := ((s.lanesUsed p).filter (fun l => s.knownPartner p l != some (b 5, b 6))).foldl
    (fun s l => s.setLane l { s.lane l with saveDue := true }) s
  let s := ((s.wrPort p TETHER_STATUS.PARTNER_DEV (b 5)).wrPort p TETHER_STATUS.PARTNER_PORT (b 6)).wrPort p TETHER_STATUS.PARTNER_VALID 1
  let m := alignedMask (s.fullMask p) (x.offered &&& b 7)
  let cr (c : Nat) : Nat := min (classSlots c) (b (20 + c))
  s.setPort p { x with accepts := true, lanesOn := m, hostward := bitOf (b 9) 2, capExpect := b 10 + b 11 % 16 * 256
                       credits := nset (nset (nset (nset [] 0 (cr 0)) 1 (cr 1)) 2 (cr 2)) 3 (cr 3) }

/-- The ACK of a CAP flit in EXCHANGE is honoured (R383) where the partner is the one before the restart and the buffer holds it; any
other ACK is left to R385. -/
def State.capAck (s : State) (p ack : Nat) : State :=
  let x := s.port p
  let d := (ack + 1 + 4096 - (match x.buf with | f :: _ => f.seq | [] => s.rdPort p TETHER_TX_SEQ.NEXT)) % 4096
  if x.before = some (s.rdPort p TETHER_STATUS.PARTNER_DEV, s.rdPort p TETHER_STATUS.PARTNER_PORT) ∧ d ≤ x.buf.length then s.takeAck p ack
  else s

/-- A CAP record in EXCHANGE (R366, R387): a refusal holds until the stage's timeout. `accepting` is the acceptance that the flit reports. -/
def State.takeCap (s : State) (p : Nat) (accepting : Bool) (bytes : List Byte) : State :=
  let b (i : Nat) : Nat := (bytes.getD i 0).toNat
  if s.portOn p = false ∨ (s.lanesUsed p).any (fun l => s.stage l != stExchange) ∨ (s.port p).lanesOn = 0 ∨ (s.port p).refused = true then s
  else
    let r := s.capReason p b
    if r ≠ 0 then
      ((s.setPort p { s.port p with widthFail := r == 6, refused := true, accepts := false }).wrPort p TETHER_STATUS.EXCH_REASON r).raisePort p TETHER_EVENT.EXCH_FAIL
    else
      match s.strangerLanes p (b 5) (b 6) with
      | [] =>
        let s := (s.acceptCap p b).capAck p (hdrField (natLE (bytes.take 4)) 12 12)
        let s := if accepting then s.setPort p { s.port p with peerAccepts := true } else s
        s.endExchange p
      | ls =>
        let s := ls.foldl (fun s l => (s.discardBlob l).setLane l { (s.discardBlob l).lane l with saveDue := true }) s
        let s := ((s.wrPort p TETHER_STATUS.PARTNER_DEV (b 5)).wrPort p TETHER_STATUS.PARTNER_PORT (b 6)).wrPort p TETHER_STATUS.PARTNER_VALID 1
        ((s.lanesUsed p).foldl (fun s l => s.enterTrain l false) s).leaveActive p

/-! ### Received flits (R378, R381 to R384) -/

/-- What a flit's bytes do not say, since the spec gives it no place in them: the acceptance that a CAP flit reports (log entry 23), and the
stamps of an ECHO flit with the quarter of the present nanosecond in which it arrives (log entry 24). -/
structure FlitNews where
  accepting : Bool := false
  answer : Bool := false
  t1 : Nat := 0
  t2 : Nat := 0
  t3 : Nat := 0
  sub : Nat := 0

/-- The delay of an exchange, in 0.25 ns units; which way a half unit is rounded is open (log entry 2). -/
def State.noteDelay (s : State) (p : Nat) (d : Int) : State :=
  let f := if d % 2 = 0 then (0, s) else s.free 1
  let h := (d / 2).toNat + f.1
  let x := f.2.port p
  let ds := ((x.delays ++ [h]).reverse.take 8).reverse
  let s := f.2.setPort p { x with delays := ds }
  (s.wrPort p TETHER_LINK_DELAY.DELAY (min (ds.foldl min h) (2 ^ 20 - 1))).wrPort p TETHER_LINK_DELAY.VALID 1

/-- A good ECHO flit (R388): a request is answered, the answer leaving at T3; an answer gives a delay. -/
def State.takeEcho (s : State) (p : Nat) (e : FlitNews) : State :=
  if e.answer then s.noteDelay p (((s.grid e.sub : Int) - e.t1) - ((e.t3 : Int) - e.t2)) else s.sendEcho p true e.t1 (s.grid e.sub) e.t3

/-- A flit arrives at the port. Its bytes pass the FEC and the CRC and are taken by their TYPE; `wanted` is the type it was sent as, which
a bad flit no longer shows. A CAP flit in ACTIVE is ignored (R397). -/
def State.receive (s : State) (p wanted : Nat) (news : FlitNews) (bytes : List Byte) : State :=
  let o := openFlit bytes
  let s := (s.cameOn p bytes).add (pgTether p) TETHER_FEC_CORR_CNT.COUNT o.2
  match o.1 with
  | none =>
    let s := s.inc (pgTether p) TETHER_CRC_ERR_CNT.COUNT
    if wanted = tyData ∧ s.portState p = tpActive then s.askReplay p else s
  | some b =>
    let h := natLE (b.take 4)
    let ty := hdrField h 24 4
    let honour (s : State) : State :=
      if s.portState p = tpActive then
        let s := s.takeAck p (hdrField h 12 12)
        if s.portState p = tpActive then s.takeCredit p (hdrField h 28 4) else s
      else s
    if 5 ≤ ty then s.inc (pgTether p) TETHER_CRC_ERR_CNT.COUNT
    else if ty = tyCap then (if s.portState p = tpActive then s else s.takeCap p news.accepting b)
    else
      let s := honour s
      if s.portState p ≠ tpActive then s
      else if ty = tyData then s.takeData p (hdrField h 0 12) b
      else if ty = tyReplay then s.replay p
      else if ty = tyEcho ∧ wanted = tyEcho then s.takeEcho p news
      else s

def flitOk (p : Nat) (bytes : List Byte) : Bool := p < 8 && bytes.length == 256

/-- DATA_FLIT (R383). -/
def execDataFlit (p : Nat) (bytes : List Byte) (s : State) : Host.Outcome State Fault Refusal :=
  guardUnit (flitOk p bytes) (s.receive p tyData {} bytes)

/-- NULL_FLIT (R378). -/
def execNullFlit (p : Nat) (bytes : List Byte) (s : State) : Host.Outcome State Fault Refusal :=
  guardUnit (flitOk p bytes) (s.receive p tyNull {} bytes)

/-- REPLAY_REQUEST (R383): a received REPLAY. -/
def execReplayRequest (p : Nat) (bytes : List Byte) (s : State) : Host.Outcome State Fault Refusal :=
  guardUnit (flitOk p bytes) (s.receive p tyReplay {} bytes)

/-- CAP_FLIT (R387). Where the record reports acceptance is not given; `accepting` says it (log entry 23). -/
def execCapFlit (p : Nat) (accepting : Bool) (bytes : List Byte) (s : State) : Host.Outcome State Fault Refusal :=
  guardUnit (flitOk p bytes) (s.receive p tyCap { accepting := accepting } bytes)

/-- ACK_TIMEOUT (R384): without ACK progress the sender replays; without an in-sequence flit since its REPLAY the receiver asks again. -/
def execAckTimeout (p : Nat) (s : State) : Host.Outcome State Fault Refusal :=
  guardUnit (p < 8)
    (let d := 1000 * s.rdPort p TETHER_TIMERS.ACK_TIMEOUT_US
     if s.portState p ≠ tpActive then s
     else
       let s := match (s.port p).replayAt with
         | some t => if t + d ≤ s.ns then (s.setPort p { s.port p with replayAt := some s.ns }).sendPlain p tyReplay else s
         | none => s
       if (s.port p).buf ≠ [] ∧ (s.port p).ackAt + d ≤ s.ns then s.replay p else s)

/-! ### Routes of a partner (R389) -/

/-- Every node's device entry of `dev` that satisfies `only`, in both tables, is set to lead to the port. -/
def State.routeDevice (s : State) (p dev : Nat) (only : Nat → Bool) : State :=
  let pl := targetPlace (101 + p)
  (List.range 128).foldl (fun s n =>
    [0, 1].foldl (fun s t =>
      if only (s.route n t (128 + dev)) then
        s.setRoute n t (128 + dev) (if n = pl.1 then 6 + 8 * pl.2 else s.route n t pl.1 % 8)
      else s) s) s

/-- PORT_ACTIVE (R389): the supervisor sets the partner's device entries; on an UPLINK port whose partner reports HOSTWARD, also every
device entry that names NONE. READY_SUM.TETHER sets when every enabled port is ACTIVE. -/
def execPortActive (p : Nat) (s : State) : Host.Outcome State Fault Refusal :=
  guardUnit (p < 8)
    (if s.portState p ≠ tpActive then s
     else
       let dev := s.rdPort p TETHER_STATUS.PARTNER_DEV
       let s := s.routeDevice p dev (fun _ => true)
       let s := if s.rdPort p TETHER_CTRL.UPLINK = 1 ∧ (s.port p).hostward = true then
           (List.range 64).foldl (fun s d => s.routeDevice p d (fun e => e % 8 == 7)) s
         else s
       if (List.range 8).all (fun q => !s.portOn q || s.portState q == tpActive) then s.reachStage READY_SUM.TETHER else s)

/-- A port out of ACTIVE for DOWN_US enters DOWN (R386, R397). -/
def State.portDown (s : State) (p : Nat) : State :=
  match (s.port p).left with
  | none => s
  | some t =>
    if s.portState p ≠ tpWaiting ∨ s.ns < t + 1000 * s.rdPort p TETHER_TIMERS.DOWN_US then s
    else
      let s := (s.wrPort p TETHER_STATUS.STATE tpDown).raisePort p TETHER_EVENT.DOWN
      (s.setPort p { s.port p with before := none }).discardReplay p

/-- PORT_DOWN (R386): DOWN_US after leaving ACTIVE. Packets that wait for the port meet it in DOWN at their next RIG_HOP. -/
def execPortDown (p : Nat) (s : State) : Host.Outcome State Fault Refusal := guardUnit (p < 8) (s.portDown p)

/-! ### Link delay (R388) -/

/-- ECHO_SEND (R388): the request that falls due in the present nanosecond leaves with T1. -/
def execEchoSend (p sub : Nat) (s : State) : Host.Outcome State Fault Refusal :=
  guardUnit (p < 8) (if s.echoDue p then s.echoRequest p sub else s)

/-- ECHO_FLIT (R388): an ECHO arrives with its stamps, whose layout is not given (log entry 24). -/
def execEchoFlit (p : Nat) (bytes : List Byte) (answer : Bool) (t1 t2 t3 sub : Nat) (s : State) : Host.Outcome State Fault Refusal :=
  guardUnit (flitOk p bytes) (s.receive p tyEcho { answer := answer, t1 := t1, t2 := t2, t3 := t3, sub := sub } bytes)

/-! ### Bridle sync (R391 to R393) -/

/-- A field of INLINE. -/
def syncField (v : BitVec 128) (lo len : Nat) : Nat := v.toNat / 2 ^ lo % 2 ^ len

/-- The subscription of a subscriber's device and track. -/
def State.findSub (s : State) (dev track : Nat) : Option Nat :=
  (s.bridle.subs.find? (fun e => e.2.dev == dev && e.2.track == track)).map (·.1)

def State.setSubs (s : State) (m : SMap Subscription) : State :=
  { s with bridle := { s.bridle with subs := m } }.wr (pgTether 0) TETHER_SYNC.SUBS m.length

/-- A SUBSCRIBE reaches the sync port (R391, R392): it replaces or takes an entry, or is refused. A new entry takes the lowest free
number (log entry 25). -/
def State.subscribe (s : State) (dev track : Nat) (ns : Bool) (inline : BitVec 128) : State :=
  let src := syncField inline 91 6
  let refused := s.inc (pgTether 0) TETHER_SYNC.REFUSED
  if syncField inline 113 15 ≠ modFold (s.trMod src) ∨ (ns = true ∧ s.on (pgTrack src) PAGE_WORLD.SECURE = true) then refused
  else
    let e : Subscription := ⟨dev, track, src, ns⟩
    match s.findSub dev track with
    | some i => s.setSubs (lset s.bridle.subs i e)
    | none =>
      match (List.range 24).find? (fun i => (lget s.bridle.subs i).isNone) with
      | some i => s.setSubs (lset s.bridle.subs i e)
      | none => refused

/-- An UNSUBSCRIBE reaches the sync port (R391). -/
def State.unsubscribe (s : State) (dev track : Nat) : State :=
  match s.findSub dev track with
  | some i => s.setSubs (ldel s.bridle.subs i)
  | none => s

/-- SUBSCRIBE (R391): from track `track` of device `dev`. -/
def execSubscribe (dev track : BitVec 6) (ns : Bool) (inline : BitVec 128) (s : State) : Host.Outcome State Fault Refusal :=
  .next (s.subscribe dev.toNat track.toNat ns inline)

/-- UNSUBSCRIBE (R391). -/
def execUnsubscribe (dev track : BitVec 6) (s : State) : Host.Outcome State Fault Refusal := .next (s.unsubscribe dev.toNat track.toNat)

/-- INLINE of a DATA message of track `k`, captured now (R392, R393). -/
def State.syncData (s : State) (k sub : Nat) : Nat :=
  let vel := max (-(2 ^ 31)) (min (2 ^ 31 - 1) (s.estVel k / 2 ^ 12))
  posWord (s.trMod k) (s.est k) / 2 ^ 8 + unsint 32 vel * 2 ^ 56 + s.trState k * 2 ^ 88 + bnat (s.core k).still * 2 ^ 90 +
  k * 2 ^ 91 + unsint 16 (-(s.grid sub : Int)) * 2 ^ 97 + modFold (s.trMod k) * 2 ^ 113

/-- SYNC_SEND (R391): subscription `i` is sent its DATA message when BRIDLE_NS mod 1,000 is 40 i. -/
def execSyncSend (i : Nat) (s : State) : Host.Outcome State Fault Refusal :=
  guardUnit (i < 24)
    (match lget s.bridle.subs i with
     | none => s
     | some e =>
       if s.bridleNs % 1000 ≠ 40 * i then s
       else s.postMsg (.bridle e.source) 6 e.dev 110 syncPort e.track 0 (!s.on (pgTrack e.source) PAGE_WORLD.SECURE)
         (bytesLE 16 (s.syncData e.source 0)))

/-- A DATA message sets the estimate of the mirror (R192, R392): its checks, and position and velocity taken directly. -/
def State.mirrorSample (s : State) (k : Nat) (inline : BitVec 128) (age : Nat) : State :=
  let acq := s.trState k = trAcquire
  let v := sint 32 (syncField inline 56 32)
  let meas := sint 56 (syncField inline 0 56) * 2 ^ 24 + v * 2 ^ 10 * age
  let s := s.keepUndo k
  let c := s.core k
  let n := s.bridleNs
  let e := wrapDiff oneCount (s.trMod k) (meas - c.pos n)
  let fast := match s.impliedSpeed k meas n with
    | some d => tooFast (s.rdTrk k TRK_VMAX.RATE) d
    | none => false
  if (¬ (acq ∧ c.acq = 0) ∧ e.natAbs > s.rdTrk k TRK_STEPMAX.COUNTS * 2 ^ 32) ∨ (¬ (acq ∧ c.acq < 2) ∧ fast = true) then s.rejectSample k
  else
    let still := syncField inline 90 1 == 1
    let c' := { c with c0 := n, p0 := if acq then meas else c.pos n + e, v0 := v * 2 ^ 12, edge := none, acq := c.acq + 1 }
    if acq then
      let s := (s.setCore k c').noteAccepted k meas n
      (s.setCore k { s.core k with still := still }).enterRun k
    else
      let s := (s.correct k c').noteAccepted k meas n
      ((s.setCore k { s.core k with still := still }).jumpScan k).checkPreds

/-- A rejected message is a sample of its cycle, which a PRESET of the cycle discards (R202). -/
def State.rejectMessage (s : State) (k : Nat) : State :=
  if (s.track k).presetAt = some s.bridleNs then s else (s.keepUndo k).rejectSample k

/-- A DATA message reaches the mirror `k` in quarter `sub` of the present nanosecond (R192, R392, R393). -/
def State.syncMessage (s : State) (k : Nat) (ns : Bool) (inline : BitVec 128) (sub : Nat) : State :=
  if s.trKind k ≠ kRemote ∨ (s.trState k ≠ trAcquire ∧ s.trState k ≠ trRun) then s
  else if ns = true ∧ s.on (pgTrack k) PAGE_WORLD.SECURE = true then s.rejectMessage k
  else if syncField inline 88 2 ≤ 1 then s
  else if syncField inline 113 15 ≠ modFold (s.trMod k) then s.rejectMessage k
  else if syncField inline 88 2 = 3 then s.trackFault k 4
  else if (s.track k).presetAt = some s.bridleNs then s
  else s.mirrorSample k inline ((syncField inline 97 16 + s.grid sub) % 65536)

/-- SYNC_MESSAGE (R392): a DATA message for track `track` of this device. -/
def execSyncMessage (track : BitVec 6) (ns : Bool) (inline : BitVec 128) (sub : Nat) (s : State) : Host.Outcome State Fault Refusal :=
  .next (s.syncMessage track.toNat ns inline sub)

/-- Any sync message that the sync port takes from the rigging (R392). -/
def State.takeSync (s : State) (q : Packet) : State :=
  let inline := BitVec.ofNat 128 (natLE q.data)
  if q.gen = 0 then s.syncMessage q.tag q.ns inline 0
  else if q.gen = 1 then s.subscribe q.srcDev q.tag q.ns inline
  else if q.gen = 2 then s.unsubscribe q.srcDev q.tag
  else s

end Sys2Proof.Machine
end

