-- ==== Sys2Proof/Machine/RegWrite.lean ====
section
/-! DEFINITION. A write to any register (R4, R7, R42): what a write does beyond storing its fields, page by page. Each `…Body` runs
once the checks of R42 have passed; `none` is a rejection by a rule of the register's own. -/

namespace Sys2Proof.Machine

open Sys2Proof

/-! ### Headers, worlds and panels -/

/-- A write to the common page header (R46). -/
def headerBody (pg off : Nat) (v : Word) (s : State) : Option State :=
  if off = PAGE_RESET.KEY.off then pageResetBody pg v s
  else if off = PAGE_COMPAT.LEGACY.off then pageCompatBody pg v s
  else if off = PAGE_WORLD.SECURE.off then pageWorldBody pg v s
  else if off = PAGE_EXPERT.KEY.off then expertBody pg v s
  else some (s.storeReg pg off v)

/-- BASE of window `w` in bytes (R56). -/
def State.winBase (s : State) (w : Nat) : Nat :=
  4096 * s.rd pgWorld (WIN_BASE_LO.BASE.at w) + 2 ^ 32 * s.rd pgWorld (WIN_BASE_HI.BASE.at w)

/-- A write to the WORLD page (R56, R398). -/
def worldBody (off : Nat) (v : Word) (s : State) : Option State :=
  let t := s.storeReg pgWorld off v
  let w := (off - 0x200) / 16
  if 0x200 ≤ off ∧ off < 0x300 ∧ off % 16 = 0x0C then
    (if getF v 0 1 = 1 ∧ s.winBase w % 2 ^ s.rd pgWorld (WIN_SIZE.LOG2.at w) ≠ 0 then none else some t)
  else if off = WORLD_TETHER_TRUST.TRUSTED.off then
    let old := s.rd pgWorld WORLD_TETHER_TRUST.TRUSTED
    some (((List.range 8).filter (fun p => bitOf old p != bitOf v.toNat p)).foldl State.savePort t)
  else some t

/-- A write of PANEL_PLANE_CTRL (R150): COOL_VALID with a slot that is invalid or not COOL is rejected. -/
def planeCtrlBody (p : Nat) (v : Word) (s : State) : Option State :=
  let n := getF v 16 3
  if getF v 19 1 = 1 ∧ (s.slotValid p n = false ∨ s.slotHeat p n ≠ 0) then none
  else some (s.storeReg (pgPanel p) PANEL_PLANE_CTRL.COOL_PLANE.off v)

/-- A write of PRAM_ERR_INJECT (R104). -/
def pramInjectBody (p : Nat) (v : Word) (s : State) : Option State :=
  if getF v 1 1 = 1 ∧ getF v 16 6 = getF v 24 6 then none else some (s.storeReg (pgPanel p) PRAM_ERR_INJECT.ARM.off v)

/-- A write to a panel page. -/
def panelBody (p off : Nat) (v : Word) (s : State) : Option State :=
  if off = PRAM_HOST_DATA.DATA.off then s.pramWriteBody p v
  else if off = PRAM_ERR_INJECT.ARM.off then pramInjectBody p v s
  else if off = PANEL_PLANE_CTRL.COOL_PLANE.off then planeCtrlBody p v s
  else if off = PANEL_PLANE_CMD.PLANE.off then s.planeCmdBody p v
  else if off = PANEL_CTX_CMD.QMASK.off then s.ctxCmdBody p v
  else some (s.storeReg (pgPanel p) off v)

/-- A write to a Spar block page (R120, R151): SPAR_SIG_INDEX names frames of the page's own column only. -/
def sparBlkBody (a : Access) (c off : Nat) (v : Word) (s : State) : Option State :=
  if off = RISER_CONFLICT.FLAG.off ∧ getF v 0 1 = 1 then some (s.riserClearBody c a.same)
  else if off = SPAR_SIG_INDEX.FRAME.off ∧ frameColumn v.toNat ≠ c then none
  else some ((s.storeReg (pgSparBlk c) off v).unholdRisers s c)

/-! ### Tile pages -/

/-- The bank of column `c` that a write to its tile page at `off` names: a bank's registers (R281) or BANK_ERR_INJECT (R282). -/
def tileBank (c off : Nat) (v : Word) : Option Nat :=
  if 0x40 ≤ off ∧ off < 0x80 then some (2 * c + (off - 0x40) / 0x20)
  else if off = BANK_ERR_INJECT.BANK.off then some (2 * c + getF v 4 1)
  else none

/-- Function PF `n` other than 0 reaches only banks of its own partition (R41). -/
def State.pfOwnsBank (s : State) (w : Who) (b : Nat) : Bool := partSeen w (s.bankPart b)

/-- A write of CTX_RING_DATA (R41, R163, R178): NEXT of the selected slot, within the share of the slot's panel. -/
def ringDataBody (w : Who) (c : Nat) (v : Word) (s : State) : Option State :=
  let i := s.rd (pgTile c) CTX_RING_INDEX.SLOT
  let n := getF v 0 8
  if s.pfOwns w (s.slotPanel c i) = false ∨ s.slotPanel c n ≠ s.slotPanel c i then none
  else some { s with ctxNext := nset s.ctxNext (260 * c + i) (n + 1) }

/-- A write of word `i` of CTX_LOST_MAP (R41): bits of slots of panels outside the function's partition are unchanged. -/
def lostMapBody (w : Who) (c i : Nat) (v : Word) (s : State) : Option State :=
  let f := CTX_LOST_MAP.LOST.at i
  let keep := (List.range 32).foldl (fun m j => if bitOf v.toNat j && s.pfOwns w (s.slotPanel c (32 * i + j)) then m + 2 ^ j else m) 0
  some (s.storeReg (pgTile c) f.off (BitVec.ofNat 32 keep))

/-- A write to a Ballast tile page. -/
def tileBody (a : Access) (c off : Nat) (v : Word) (s : State) : Option State :=
  if (tileBank c off v).any (fun b => !s.pfOwnsBank a.who b) then none
  else if off = CTX_SPLIT.LOWER.off then s.splitBody a c v
  else if off = CTX_ACC_CMD.SLOT.off then s.ctxAccBody a c v
  else if off = CTX_BUF_DATA.DATA.off then some (s.bufWriteBody a c v)
  else if off = CTX_RING_DATA.NEXT.off then ringDataBody a.who c v s
  else if 0x340 ≤ off ∧ off < 0x360 then lostMapBody a.who c ((off - 0x340) / 4) v s
  else some (s.storeReg (pgTile c) off v)

/-! ### The Bridle -/

/-- A write to the Bridle control page; the sync port takes none (R392). -/
def bridleBody (off : Nat) (v : Word) (s : State) : Option State :=
  if off = BRIDLE_CTRL.KEEP_ON_WARM.off then bridleCtrlBody v s
  else if off = BRIDLE_STAGE_DATA.VALUE.off then stageDataBody v s
  else if 0x100 ≤ off ∧ off < 0x200 then markRangeBody ((off - 0x100) / 4) v s
  else if off = syncPortOff then none
  else if off = BRIDLE_QUEUE_PEAK.PEAK.off then some (s.storeReg pgBridle off v).notePeak
  else some (s.storeReg pgBridle off v)

/-- A write to a track page (R183, R186, R206). -/
def trackBody (k off : Nat) (v : Word) (s : State) : Option State :=
  let disabled := s.trState k == trDisabled
  if off = TRK_CTRL.ENABLE.off then trkCtrlBody k v s
  else if off = TRK_SRC.KIND.off then
    (if disabled = true ∧ getF v 0 3 < 7 then some (s.storeReg (pgTrack k) off v) else none)
  else if off = TRK_SRC2.PANEL.off then (if disabled then some (s.storeReg (pgTrack k) off v) else none)
  else if isPairLo off then
    (if off = TRK_MOD_LO.M.off ∧ disabled = false then none else some (s.stageLow (pgTrack k * 4096 + off) v))
  else if isPairHi off then trackPairBody k off v s
  else if off = TRK_TIME_STEP_HI.OFFSET.off then timeStepHiBody k v s
  else if off = TRK_TIME_RATE.RATE.off then timeRateBody k v s
  else some (s.storeReg (pgTrack k) off v)

/-- A write to the mark window (R210): words 1 to 6 are staged, word 0 commits, word 7 is the status word and takes nothing. -/
def markBody (who : Who) (pg off : Nat) (v : Word) (s : State) : Option State :=
  let e := ((pg - pgMarks) * 4096 + off) / 32
  let w := off % 32 / 4
  if w = 0 then markCommitBody who e v s
  else if w = 7 then some s
  else some (s.stageWord (stageKey who false) e w v)

/-- A write to the action window (R217). -/
def actionBody (who : Who) (pg off : Nat) (v : Word) (s : State) : Option State :=
  let e := ((pg - pgActions) * 4096 + off) / 64
  let w := off % 64 / 4
  if w = 0 then actionCommitBody who e v s else some (s.stageWord (stageKey who true) e w v)

/-! ### Power, wear and the scratchpad -/

/-- A write to the PWR page. Whether a Sail group still shows its fault when REG_RESUME is written (R421) is a free value. -/
def pwrBody (off : Nat) (v : Word) (s : State) : Option State :=
  if off = GOV_CTRL.MODE.off then govCtrlBody v s
  else if off = GOV_TEMP_LIMITS.WARN.off then (if getF v 0 8 < getF v 8 8 then some (s.storeReg pgPwr off v) else none)
  else if off = PWR_PF_RELEASE.RELEASE.off then pfReleaseBody v s
  else if off = PWR_CTRL.REG_RESUME.off then regResumeBody ((s.free 1).1 == 1) v (s.free 1).2
  else if 0x100 ≤ off ∧ off < 0x140 then vsetBody ((off - 0x100) / 4) v s
  else some (s.storeReg pgPwr off v)

/-- A write to the PWR monitors page (R433): PWRMON_LIMIT is that of the selected rail. -/
def pwrMonBody (off : Nat) (v : Word) (s : State) : Option State :=
  let i := s.rd pgPwrMon PWRMON_SEL.INDEX
  if off = PWRMON_LIMIT.UV_PCT.off then (if i = 4 ∨ i = 5 then none else some (s.storeReg (pgRail i) off v))
  else some (s.storeReg pgPwrMon off v)

/-- A write to the fray page (R434): the bins are those of the selected column. -/
def frayBody (a : Access) (off : Nat) (v : Word) (s : State) : Option State :=
  if off = FRAY_UNITS.UNITS.off then s.frayWriteBody a.same.toNat v
  else if off = FRAY_BINS_LO.BIN1.off ∨ off = FRAY_BINS_HI.BIN3.off then
    some (s.storeReg (pgFrayCol (s.rd pgFray FRAY_SEL.COLUMN)) off v)
  else some (s.storeReg pgFray off v)

/-- A write to the Ballast head page. -/
def ballastBody (off : Nat) (v : Word) (s : State) : Option State :=
  if off = BANK_HANDOVER.BANK.off then s.handoverBody v
  else if off = BANK_RETIRE.BANK.off then
    s.retireBody (getF v 0 10) (if getF v 12 1 = 1 then 8 else getF v 16 3)
  else if off = BANK_MIRROR_CTRL.PARTNER.off then s.mirrorBody v
  else some (s.storeReg pgBallast off v)

/-! ### The rigging and the Spool -/

/-- A write to the rigging head page (R309): the registers at 0x050 to 0x0AF are those of the selected initiator. A write of 0 to
RIG_ST_BYTES_LO clears both words, but for the bytes moved in its cycle (`same`, R11). -/
def rigHeadBody (same : Word) (off : Nat) (v : Word) (s : State) : Option State :=
  let i := s.rd pgRig RIG_INIT_SEL.INIT
  let x := s.rigInit i
  if off = RIG_EPOCH.FLIP.off then flipBody v s
  else if off = RIG_ST_BYTES_LO.BYTES.off then
    some ((s.setRigInit i { x with bytes := min same.toNat x.bytes }).wr (pgRigInit i) RIG_ST_BYTES_HI.BYTES 0)
  else if off = RIG_ST_BYTES_HI.BYTES.off then
    some ((s.setRigInit i { x with bytes := x.bytes % 2 ^ 32 }).wr (pgRigInit i) RIG_ST_BYTES_HI.BYTES 0)
  else if off = RIG_ST_LAT.MIN.off then
    (if v = 0 then some ((s.wr (pgRigInit i) RIG_ST_LAT.MIN 0xFFFF).wr (pgRigInit i) RIG_ST_LAT.MAX 0) else none)
  else if 0x50 ≤ off ∧ off < 0xB0 then some (s.storeReg (pgRigInit i) off v)
  else some (s.storeReg pgRig off v)

/-- A write to a node page. -/
def nodeBody (n off : Nat) (v : Word) (s : State) : Option State :=
  if off = RIGN_CTRL.DISABLE.off then nodeCtrlBody n v s
  else if off = RIGN_LINK.DISABLE.off then nodeLinkBody n v s
  else if off = RIGN_TBL_DATA.ENTRY.off then tableBody n v s
  else some (s.storeReg (pgNode n) off v)

/-- A write to a channel page. -/
def channelBody (who : Who) (ch off : Nat) (v : Word) (s : State) : Option State :=
  if off = CH_CTRL.ENABLE.off then chCtrlBody ch v s
  else if off = CH_PART.PART.off then chPartBody who ch v s
  else if off = CH_RING_BASE_LO.BASE.off ∨ off = CH_RING_BASE_HI.BASE.off ∨ off = CH_RING_SIZE.SIZE.off ∨ off = CH_HEAD.INDEX.off then
    chRingBody ch off v s
  else if off = CH_CMD.CMD.off then chCmdBody ch v s
  else some (s.storeReg (pgChannel ch) off v)

/-! ### The interrupt controller -/

/-- A DELIVERED source that is disabled, or whose TMASK no longer includes TARGET, returns to PENDING (R339). -/
def State.checkDelivered (s : State) (src : Nat) : State :=
  if s.srcState src = srcDelivered ∧
     (s.on (pgSrc src) SRC_CFG.ENABLE = false ∨ bitOf (s.rd (pgSrc src) SRC_TMASK.MASK) (s.srcTarget src) = false)
  then s.undeliver src else s

/-- A write to the registers of the selected source (R334, R351). -/
def srcBody (w : Who) (off : Nat) (v : Word) (s : State) : Option State :=
  let src := s.selOf w
  let t := s.storeReg (pgSrc src) off v
  if src = 0 ∨ partSeen w (s.rd (pgSrc src) SRC_CFG.PART) = false ∨
     (s.whoSecure w = false ∧ (t.srcSecure src ≠ s.srcSecure src ∨ t.rd (pgSrc src) SRC_CFG.PART ≠ s.rd (pgSrc src) SRC_CFG.PART))
  then none
  else some (t.checkDelivered src)

/-- A write to INTC page 1. -/
def intc1Body (w : Who) (off : Nat) (v : Word) (s : State) : Option State :=
  if off = INTC_SRC_SEL.SOURCE.off then
    let src := getF v 0 12
    if src = 0 ∨ partSeen w (s.rd (pgSrc src) SRC_CFG.PART) = false then none
    else some { s with srcSel := nset s.srcSel (whoKey w) src }
  else if 0x48 ≤ off ∧ off < 0x54 then srcBody w off v s
  else some (s.storeReg (pgIntc 1) off v)

/-- The offset lies in the target blocks of its page (R352). -/
def tgtBlock (off : Nat) : Bool := 0x40 ≤ off && off < 0x340

/-- The target whose block covers offset `off` of INTC page `k` (R352). -/
def tgtAt (k off : Nat) : Nat := 16 * (k - 2) + (off - 0x40) / 0x30

/-- A write to a target block: TGT_CPR is read-only while KIND = PORT, and an address write may not leave an enabled target in a
refused state. -/
def targetBody (a : Access) (k off : Nat) (v : Word) (s : State) : Option State :=
  let t := tgtAt k off
  let r := (off - 0x40) % 0x30
  let n := s.storeReg (pgIntc k) off v
  if r = 0 then s.tgtCtrlBody a t v
  else if r = 0x18 then s.completeBody a t v
  else if partSeen a.who (s.rdTgt t TGT_CTRL.PART) = false then none
  else if (r = 4 ∨ r = 8) ∧ n.targetBad t = true then none
  else if r = 0x10 ∧ s.onTgt t TGT_CTRL.KIND = true then some s
  else some n

/-! ### Lanes, Tether and clocks -/

/-- A write to a lane page. -/
def laneBody (l off : Nat) (v : Word) (s : State) : Option State :=
  if off = LANE_CTRL.ENABLE.off then laneCtrlBody l v s
  else if off = LANE_PLL.REF.off then lanePllBody l v s
  else if off = LANE_TX_FFE.MAIN.off then txFfeBody l v s
  else if off = LANE_RX_CTLE.PEAK.off then rxCtleBody l v s
  else if off = LANE_CAL_CMD.OP.off then calCmdBody l v s
  else if off = LANE_CAL_AUTOSAVE.ENABLE.off then autosaveBody l v s
  else if off = LANE_PCIE_PRESETS.ENABLE.off ∧ l ≠ 0 then none
  else some (s.storeReg (pgLane l) off v)

/-- A write to a Tether port page (R183, R375, R399): the array registers are fixed while any port is enabled, and the two words of the
array identity are applied together. -/
def tetherBody (p off : Nat) (v : Word) (s : State) : Option State :=
  if off = TETHER_CTRL.ENABLE.off then tetherCtrlBody p v s
  else if (off = TETHER_ARRAY.DEVNUM.off ∨ off = TETHER_ARRAY_ID_LO.ID.off ∨ off = TETHER_ARRAY_ID_HI.ID.off) ∧
      (List.range 8).any s.portOn = true then none
  else if off = TETHER_ARRAY_ID_LO.ID.off then some (s.stageLow (pgTether p * 4096 + off) v)
  else if off = TETHER_ARRAY_ID_HI.ID.off then some (s.storePair (pgTether p * 4096 + off - 4) (pgTether p * 4096 + off) v)
  else some (s.storeReg (pgTether p) off v)

/-- A write to a fabric PLL's block (R417). -/
def pllBody (k off : Nat) (v : Word) (s : State) : Option State :=
  let p := 12 * (k - 2) + (off - 0x100) / 16
  let live (o : Nat) : Bool := (List.range 144).any (fun i => s.rdDom i CLK_DOM_SEL.SRC == 0x40 + 4 * p + o)
  let r := off % 16
  if r = 0 then fpllCtrlBody p v s
  else if r = 4 then
    (if s.rdPll p FPLL_CTRL.ENABLE = 1 ∧ s.fpllSelected p = true then none else some (s.storeReg (pgPll p) off v))
  else if r = 8 then
    (if (List.range 4).any (fun o => getF v (8 * o) 8 != s.rdPll p (fpllDiv o) && live o) then none else some (s.storeReg (pgPll p) off v))
  else some (s.storeReg (pgPll p) off v)

/-- A write to a domain's registers (R418). -/
def domBody (k off : Nat) (v : Word) (s : State) : Option State :=
  if off % 8 = 0 then domSelBody (80 * (k - 4) + (off - 0x100) / 8) v s else some (s.storeReg (pgClk k) off v)

/-! ### Loading, start-up, preflight and field I/O -/

/-- A write to the LOAD page (R438, R462): KRAM_DATA keeps what is written for KRAM_CMD, and reads 0. -/
def loadBody (who : Who) (off : Nat) (v : Word) (s : State) : Option State :=
  if off = LOAD_CTRL.SRC.off ∨ off = LOAD_HOST_BASE_LO.BASE.off then (if s.attempting then none else some (s.storeReg pgLoad off v))
  else if off = LOAD_CMD.OP.off then loadCmdBody v s
  else if 0xA0 ≤ off ∧ off < 0xC0 then some (s.setReg (pgLoad * 4096 + off) v)
  else if off = KRAM_CMD.OP.off then kramCmdBody v s
  else if 0x200 ≤ off ∧ off < 0x400 then loadStreamBody who off (bytesLE 4 v.toNat) s
  else some (s.storeReg pgLoad off v)

/-- A write to the RESET page. -/
def resetBody (who : Who) (off : Nat) (v : Word) (s : State) : Option State :=
  if off = PART_RESET.KEY.off then partResetBody v s
  else if off = RESET_REQ.KEY.off then resetReqBody who v s
  else if off = DEV_STATE.REQ.off then devStateBody v [] s
  else if off = RS_CMD.OP.off then rsCmdBody v s
  else if off = RS_ZEROISE.KEY.off then rsZeroiseBody v s
  else some (s.storeReg pgReset off v)

/-- A write to a field I/O bank's page. -/
def fioBody (b off : Nat) (v : Word) (s : State) : Option State :=
  if off = FIO_BANK_CTRL.VCCIO.off then bankCtrlBody b v s
  else if off = FIO_OUT_LO.OUT.off then fioOutBody b false v s
  else if off = FIO_OUT_HI.OUT.off then fioOutBody b true v s
  else if 0x100 ≤ off ∧ off < 0x280 then
    let n := 48 * b + (off - 0x100) / 8
    if off % 8 = 0 then pinCfgBody n v s else pinFiltBody n v s
  else some (s.storeReg (pgFio b) off v)

/-- A write to the plug group page (R507). -/
def plugBody (a : Access) (off : Nat) (v : Word) (s : State) : Option State :=
  if off = FIO_TRIP.CLEAR.off then tripBody a.same v s
  else if off = FIO_PG_REPLUG.GROUP.off then replugBody v s
  else if 0x80 ≤ off ∧ off < 0x180 ∧ off % 8 = 0 then pgCtrlBody ((off - 0x80) / 8) v s
  else if 0x280 ≤ off ∧ off < 0x2C0 ∧ getF v 16 12 < getF v 0 12 then none
  else some (s.storeReg pgPlug off v)

/-! ### The register write -/

/-- The effect of a write past the checks of R42, by the page's kind `k` and instance `i`. -/
def regBody (a : Access) (k : PageKind) (i pg off : Nat) (v : Word) (s : State) : Option State :=
  if hasHeader k && off < 0x40 then headerBody pg off v s
  else match k with
  | .world => worldBody off v s
  | .panel => panelBody i off v s
  | .sparBlk => sparBlkBody a i off v s
  | .tile => tileBody a i off v s
  | .bridle => bridleBody off v s
  | .track => trackBody i off v s
  | .marks => markBody a.who pg off v s
  | .actions => actionBody a.who pg off v s
  | .pwr => pwrBody off v s
  | .pwrMon => pwrMonBody off v s
  | .fray => frayBody a off v s
  | .ballast => ballastBody off v s
  | .rigHead => rigHeadBody a.same off v s
  | .node => nodeBody i off v s
  | .engine => if off = ENG_CTRL.ARB.off then engCtrlBody i v s else some (s.storeReg pg off v)
  | .channel => channelBody a.who i off v s
  | .intc1 => intc1Body a.who off v s
  | .intcT => if tgtBlock off then targetBody a i off v s else some (s.storeReg (pgIntc i) off v)
  | .lane => laneBody i off v s
  | .tether => tetherBody i off v s
  | .clk0 => if off = CLK_SWITCH_GO.GO.off then switchGoBody v s else some (s.storeReg pg off v)
  | .clk1 => if off = CLK_GATE_CMD.NODE.off then gateCmdBody v s else some (s.storeReg pg off v)
  | .clkPll => pllBody i off v s
  | .clkDom => domBody i off v s
  | .load => loadBody a.who off v s
  | .reset => resetBody a.who off v s
  | .preflight => if off = PF_CMD.OP.off then pfCmdBody v s else some (s.storeReg pg off v)
  | .fio => fioBody i off v s
  | .plug => plugBody a off v s
  | _ => some (s.storeReg pg off v)

/-- The world checks that a register makes on what it names, after its page's (R42, R179, R333, R351). -/
def regDeny (a : Access) (k : PageKind) (i pg off : Nat) (v : Word) (write : Bool) (s : State) : Option State :=
  match k with
  | .tile => if off = CTX_ACC_CMD.SLOT.off ∧ write = true then s.ctxAccDeny a i v else none
  | .intcT => if tgtBlock off then s.denyOwn a write pg off (s.onTgt (tgtAt i off) TGT_CTRL.SECURE) else none
  | .intc1 =>
    if off = INTC_SRC_SEL.SOURCE.off ∧ write = true then
      (if v.toNat = 0 ∨ 4095 < v.toNat then none else s.denyOwn a write pg off (s.srcSecure v.toNat))
    else if 0x48 ≤ off ∧ off < 0x54 ∧ s.selOf a.who ≠ 0 then s.denyOwn a write pg off (s.srcSecure (s.selOf a.who))
    else none
  | _ => none

/-- A write to a doorbell register, which makes its own checks (R335); one that is not a full word is rejected (R43), past the steps
before that (R42). -/
def State.writeDoorbell (s : State) (a : Access) (pg off : Nat) (secure : Bool) (v : Word) : State :=
  if a.be = 15 then s.ringDoorbell a.who secure v.toNat
  else
    match s.reachGate a.who true pg off with
    | .ur => s.respond .ur 0
    | .ca => (s.violatePage a.who true pg off).respond .ca 0
    | .reject | .pass => s.rejectWrite pg

/-- A write of word `v` to the register at BAR0 offset `addr` (R4, R7, R42); an address beyond the map is unassigned. -/
def State.writeReg (s : State) (a : Access) (addr : Nat) (v : Word) : State :=
  let pg := addr / 4096
  let off := addr % 4096 / 4 * 4
  if pg = pgIntc 0 ∧ off = INTC_DOORBELL_S.SOURCE.off then s.writeDoorbell a pg off true v
  else if pg = pgIntc 1 ∧ off = INTC_DOORBELL_NS.SOURCE.off then s.writeDoorbell a pg off false v
  else match pageOf pg with
    | some (k, i) => s.gatedWriteW a pg off v (regDeny a k i pg off v true) (regBody a k i pg off v)
    | none => s.respond .ur 0

/-- The address is that of a doorbell register. -/
def doorbellAt (addr : Nat) : Bool :=
  addr / 4 * 4 == pgIntc 0 * 4096 + INTC_DOORBELL_S.SOURCE.off || addr / 4 * 4 == pgIntc 1 * 4096 + INTC_DOORBELL_NS.SOURCE.off

/-- The sender's interface carries a doorbell write as MSG (R292); PF1 to PF7 do not see that of the secure world (R334). -/
def State.sendDoorbell (s : State) (w : Who) (addr : Nat) (v : Word) : State :=
  if s.visible w (addr / 4096) then
    (s.respond .ok 0).postMsg w (whoInit w) s.ownDev 109 (addr / 4 * 4) 0 0 (!s.whoSecure w) (bytesLE 4 v.toNat)
  else s.respond .ur 0

/-- REGISTER_WRITE (R4, R7, R42). -/
def execRegisterWrite (a : Access) (addr : Nat) (v : Word) (s : State) : Host.Outcome State Fault Refusal :=
  .next (if doorbellAt addr = true ∧ a.be = 15 then s.sendDoorbell a.who addr v
         else if addr < 2 ^ 26 then s.writeReg a addr v else s.respond .ur 0)

end Sys2Proof.Machine
end

