-- ==== Sys2Proof/Machine/Readback.lean ====
section
/-! DEFINITION. A read of any register (R42): what a register reads where that is the live state of the block, readiness (R49, R464 to
R466), and the reads that have an effect. -/

namespace Sys2Proof.Machine

open Sys2Proof

/-- The word that fields with their values make. -/
def wordOf (fs : List (Fld × Nat)) : Word := fs.foldl (fun w e => setF w e.1.lo e.1.len e.2) 0

/-- A word of 32 bits, bit `i` of which is `f i`. -/
def bitsWord (f : Nat → Bool) : Word := (List.range 32).foldl (fun w i => if f i then setF w i 1 1 else w) 0

/-! ### Readiness (R49, R465, R466) -/

/-- STATE and REASON of a bank (R49, R273, R276, R281). -/
def State.bankState (s : State) (b : Nat) : Nat × Nat :=
  let x := s.bank b
  if x.grounded ≠ 0 then (3, x.grounded)
  else if x.failed then (3, 0x15)
  else if !x.ready then (0, 5)
  else if x.retired ≠ 0 then (2, 8)
  else (1, 0)

/-- A panel page that is neither initialising nor under reset: grounded (R35), in HOLD or PARK (R471), in no defined region or one that is not
committed (R450), without a clock (R411). A panel under preflight reads as before the slice (R482). -/
def State.panelState (s : State) (p : Nat) : Nat × Nat :=
  let x := s.panel p
  if x.grounded ≠ 0 then (3, x.grounded)
  else if s.devState ≠ devRun ∨ s.sailsOff = true then (0, 6)
  else if x.region = none then (0, 7)
  else if s.committed p = false then (0, 4)
  else if x.govGated = true ∨ s.panelRuns p = false ∨ s.leafOn (clockRegion p) = false then (0, 3)
  else (1, 0)

/-- A tile page by its two banks (R281). -/
def State.tileState (s : State) (c : Nat) : Nat × Nat :=
  let a := s.bankState (2 * c)
  let b := s.bankState (2 * c + 1)
  if a.1 = 1 ∧ b.1 = 1 then (1, 0)
  else if a.1 = 3 ∧ b.1 = 3 then (3, a.2)
  else if a.1 = 0 ∨ b.1 = 0 then (0, 5)
  else (2, 8)

/-- A system domain is failed over (R411, R415). -/
def State.failoverAny (s : State) : Bool := (List.range 320).any (fun i => isSystemDomain i && s.rdDom i CLK_DOM_SWITCH.FAILOVER == 1)

/-- PAGE_READY.STATE and REASON of a page with a header. -/
def State.pageReady (s : State) (pg : Nat) : Nat × Nat :=
  if s.initialising pg then (0, 1)
  else if s.on pg PAGE_RESET.BUSY then (0, 2)
  else match pageOf pg with
    | some (.panel, p) => s.panelState p
    | some (.tile, c) => s.tileState c
    | some (.clk0, _) => if s.failoverAny then (2, 8) else (1, 0)
    | some (.load, _) => if s.on pgLoad LOAD_STATUS.REFUSED then (2, 8) else (1, 0)
    | _ => (1, 0)

/-- Pages with a header, in the order of their offsets (R44, R45). -/
def allPages : List Nat := (List.range 0x1B20).filter headed

/-- The page counts as NOT_READY in the READY summary (R466). -/
def State.waits (s : State) (pg : Nat) : Bool := let r := s.pageReady pg; r.1 == 0 && r.2 != 7

/-- READY_COUNTS and READY_FIRST (R466). -/
def State.readyCounts (s : State) : Word :=
  let n (f : Nat → Bool) : Nat := min 1023 (allPages.countP f)
  wordOf [(READY_COUNTS.NOT_READY, n s.waits), (READY_COUNTS.DEGRADED, n (fun pg => (s.pageReady pg).1 == 2)),
    (READY_COUNTS.FAILED, n (fun pg => (s.pageReady pg).1 == 3))]

def State.readyFirst (s : State) : Word :=
  match allPages.find? s.waits with
  | some pg => BitVec.ofNat 32 (4096 * pg)
  | none => 0xFFFFFFFF

/-! ### The header (R46, R47, R50, R62, R102) -/

def pageId (pg : Nat) (k : PageKind) (i : Nat) : Word :=
  let ty := if pg = 0x300 then 0x0300 else pageType k
  wordOf [(PAGE_ID.TYPE, ty), (PAGE_ID.INSTANCE, i)]

/-- COMPAT_LEVEL is 0x0012 where PAGE_COMPAT selects a ZY12 behaviour: INTC page 0, the Spool engines and LOAD (R46, R62). -/
def pageVer (k : PageKind) : Word :=
  wordOf [(PAGE_VER.MAJOR, 1), (PAGE_VER.COMPAT_LEVEL, if capLegacy k || k == .load then 0x0012 else 0)]

def State.pageCaps (s : State) (k : PageKind) : Word :=
  wordOf [(PAGE_CAPS.EXPERT, bnat (capExpert k)), (PAGE_CAPS.LEGACY_OK, bnat (capLegacy k)), (PAGE_CAPS.WORLD_SET, bnat (capWorldSet k)),
    (PAGE_CAPS.RESETTABLE, bnat (capResettable k)), (PAGE_CAPS.PF_VISIBLE, bnat (capPfVisible k)),
    (PAGE_CAPS.BLOCK, if k = .panel then s.fuses.grade else 0)]

def State.headerWord (s : State) (pg : Nat) (k : PageKind) (i off : Nat) : Word :=
  if off = PAGE_ID.TYPE.off then pageId pg k i
  else if off = PAGE_VER.MAJOR.off then pageVer k
  else if off = PAGE_CAPS.EXPERT.off then s.pageCaps k
  else if off = PAGE_READY.STATE.off then wordOf [(PAGE_READY.STATE, (s.pageReady pg).1), (PAGE_READY.REASON, (s.pageReady pg).2)]
  else s.reg (pg * 4096 + off)

/-! ### Live registers, block by block -/

/-- The panel page. DESIGN CHOICE: PANEL_STATUS.QUARTER reads 0 while no plane is active, in a panel that is grounded or in no committed
region (R103). -/
def State.panelWord (s : State) (p off : Nat) : Word :=
  let c := colOf p
  let live := s.committed p && (s.panel p).grounded == 0
  if off = PANEL_INFO.COLUMN.off then
    wordOf [(PANEL_INFO.COLUMN, c), (PANEL_INFO.SAIL, sailOf p), (PANEL_INFO.X, c % 16), (PANEL_INFO.Y, c / 16)]
  else if off = PANEL_STATUS.CLK_RUN.off then
    wordOf [(PANEL_STATUS.CLK_RUN, bnat (s.clkRun p)), (PANEL_STATUS.QUARTER, bnat (live && s.quarterMode p)),
      (PANEL_STATUS.COMMITTED, bnat (s.committed p))]
  else if off = PANEL_CTX_STATUS.SHARE.off then
    let m (f : Nat → Bool) : Nat := ((List.range 4).filter f).foldl (fun m q => m + 2 ^ q) 0
    wordOf [(PANEL_CTX_STATUS.SHARE, s.share p),
      (PANEL_CTX_STATUS.BUSY, m (fun q => (s.qswap p q).acc.isSome || (s.qswap p q).pend.isSome)),
      (PANEL_CTX_STATUS.PENDING, m (fun q => (s.qswap p q).pend.isSome)),
      (PANEL_CTX_STATUS.SAVING, m (fun q => (s.qswap p q).saving.isSome))]
  else s.reg (pgPanel p * 4096 + off)

def State.sparBlkWord (s : State) (c off : Nat) : Word :=
  let f := s.frame (s.rd (pgSparBlk c) SPAR_SIG_INDEX.FRAME)
  if off = SPAR_SIG.SIGNATURE.off then f.sig
  else if off = SPAR_FRAME_STATE.BAD.off then
    wordOf [(SPAR_FRAME_STATE.BAD, bnat f.bad), (SPAR_FRAME_STATE.REPAIRING, bnat f.repairing.isSome)]
  else if off = SPAR_BAD_COUNT.COUNT.off then
    BitVec.ofNat 32 ((s.frames.filter (fun e => e.2.bad && colOf (framePanel e.1) == c)).length)
  else s.reg (pgSparBlk c * 4096 + off)

/-- BANK_STATUS.MODE (R281). -/
def State.bankMode (s : State) (b : Nat) : Nat :=
  if (s.bank b).orphan then 2
  else if isTwin b && s.mirrorOn (b / 16) then 1
  else if s.isPartner b && s.rd (pgMirror (b / 16)) BANK_MIRROR_CTRL.PAGES != 0 then 3 else 0

def State.bankStatusWord (s : State) (b : Nat) : Word :=
  let st := s.bankState b
  wordOf [(BANK_STATUS.STATE, st.1), (BANK_STATUS.TWIN, bnat (isTwin b)), (BANK_STATUS.MODE, s.bankMode b), (BANK_STATUS.REASON, st.2),
    (BANK_STATUS.RETIRED, if (s.bank b).whole then 255 else (s.bank b).retired), (BANK_STATUS.OWNER_KIND, (s.bank b).kind),
    (BANK_STATUS.OWNER_PART, s.bankPart b)]

def State.slotStateWord (s : State) (c i : Nat) : Word :=
  let m (f : Nat → Bool) : Nat := ((List.range 4).filter f).foldl (fun m q => m + 2 ^ q) 0
  let p := s.slotPanel c i
  let live (q : Nat) : Bool := s.committed p && (s.panel p).grounded == 0 && s.slotOf p (s.live p q) == i
  wordOf [(CTX_SLOT_STATE.VALID, m (s.quarterValid c i)), (CTX_SLOT_STATE.LIVE, m live), (CTX_SLOT_STATE.MOVING, bnat (s.slotMoving c i)),
    (CTX_SLOT_STATE.PANEL, sailOf p)]

/-- A register of a tile page as its reader sees it (R41): fields of banks and slots outside the function's partition read 0. -/
def State.tileWord (s : State) (w : Who) (c off : Nat) : Word :=
  let pg := pgTile c
  if 0x40 ≤ off ∧ off < 0x80 then
    let b := 2 * c + (off - 0x40) / 0x20
    if !s.pfOwnsBank w b then 0
    else if (off - 0x40) % 0x20 = 0 then s.bankStatusWord b else s.reg (pg * 4096 + off)
  else if off = BANK_ERR_INJECT.BANK.off then
    (if s.pfOwnsBank w (2 * c + s.rd pg BANK_ERR_INJECT.BANK) then s.reg (pg * 4096 + off) else 0)
  else if off = CTX_SLOT_STATE.VALID.off then
    let i := s.rd pg CTX_SLOT_INDEX.SLOT
    if s.pfOwns w (s.slotPanel c i) then s.slotStateWord c i else 0
  else if off = CTX_RING_DATA.NEXT.off then
    let i := s.rd pg CTX_RING_INDEX.SLOT
    if s.pfOwns w (s.slotPanel c i) then BitVec.ofNat 32 (s.nextSlot c i) else 0
  else if 0x340 ≤ off ∧ off < 0x360 then
    let v := s.reg (pg * 4096 + off)
    bitsWord (fun j => v.getLsbD j && s.pfOwns w (s.slotPanel c (8 * (off - 0x340) + j)))
  else s.reg (pg * 4096 + off)

def State.trackWord (s : State) (k off : Nat) : Word :=
  let t := s.core k
  if off = TRK_STATUS.STATE.off then
    wordOf [(TRK_STATUS.STATE, t.state), (TRK_STATUS.STILL, bnat t.still), (TRK_STATUS.HOMED, bnat t.homed),
      (TRK_STATUS.DIR, bnat (0 ≤ s.estVel k)), (TRK_STATUS.CAUSE, (s.track k).cause), (TRK_STATUS.CONSEC, t.consec)]
  else if off = TRK_RAW_POS.COUNT.off then BitVec.ofInt 32 (s.track k).raw
  else s.reg (pgTrack k * 4096 + off)

def State.bridleWord (s : State) (off : Nat) : Word :=
  if off = BRIDLE_FAULT_MAP_LO.FAULT.off then bitsWord (fun k => s.trState k == trFault)
  else if off = BRIDLE_FAULT_MAP_HI.FAULT.off then bitsWord (fun k => s.trState (32 + k) == trFault)
  else if off = BRIDLE_QUEUE.DEPTH.off then BitVec.ofNat 32 s.bridle.queue.length
  else if off = BRIDLE_STAGE_DATA.VALUE.off then BitVec.ofNat 32 (nget s.bridle.stage (s.rd pgBridle BRIDLE_STAGE_INDEX.REG))
  else if 0xC4 ≤ off ∧ off < 0xD4 then
    let i := (off - 0xC4) / 4
    let cs := s.comps (s.rd pgBridle BRIDLE_ARMED_SEL.TRACK)
    match (if i < 2 then cs.fwd else cs.rev)[i % 2]? with
    | some m => wordOf [(BRIDLE_ARMED.MARK, m), (BRIDLE_ARMED.VALID, 1)]
    | none => 0
  else s.reg (pgBridle * 4096 + off)

/-- A word of the mark window (R209): STATUS is word 7, with ARMED while a comparator holds the mark. -/
def State.markReadWord (s : State) (pg off : Nat) : Word :=
  let i := ((pg - pgMarks) * 4096 + off) / 32
  if off % 32 / 4 ≠ 7 then s.reg (pg * 4096 + off)
  else
    let armed := (List.range 64).any (fun k => (s.comps k).fwd.contains i || (s.comps k).rev.contains i)
    setF (BitVec.ofNat 32 (s.markStatus i)) 2 1 (bnat armed)

/-- A temperature as GOV_TEMP_DATA and GOV_TMAX code it (R244). -/
def tempCode (t : Int) : Nat := unsint 8 (t + 64)

def State.pwrWord (s : State) (off : Nat) : Word :=
  if off = GOV_TEMP_DATA.BALLAST.off then
    let c := s.rd pgPwr GOV_TEMP_SEL.COLUMN
    let r (d : Nat) : Nat := let x := s.sensor c d; if x.failed then 0xFF else if x.seen then tempCode x.last else 0
    wordOf [(GOV_TEMP_DATA.BALLAST, r 1), (GOV_TEMP_DATA.LOWER, r 2), (GOV_TEMP_DATA.SPAR, r 3), (GOV_TEMP_DATA.UPPER, r 4)]
  else if off = GOV_TMAX.TEMP.off then
    match (List.range 288).foldl (fun (m : Option (Int × Nat)) c =>
        match s.columnTemp c, m with
        | some t, some x => if t > x.1 then some (t, c) else m
        | some t, none => some (t, c)
        | none, _ => m) none with
    | some (t, c) => wordOf [(GOV_TMAX.TEMP, tempCode t), (GOV_TMAX.COLUMN, c)]
    | none => 0
  else s.reg (pgPwr * 4096 + off)

def State.pwrMonWord (s : State) (off : Nat) : Word :=
  if 0x44 ≤ off ∧ off < 0x4C then s.reg (pgRail (s.rd pgPwrMon PWRMON_SEL.INDEX) * 4096 + off) else s.reg (pgPwrMon * 4096 + off)

def State.frayWord (s : State) (off : Nat) : Word :=
  let c := s.rd pgFray FRAY_SEL.COLUMN
  let pg := pgFrayCol c
  if off = FRAY_UNITS.UNITS.off then BitVec.ofNat 32 (s.frayUnits c)
  else if off = FRAY_BINS_LO.BIN1.off ∨ off = FRAY_BINS_HI.BIN3.off then s.reg (pg * 4096 + off)
  else if off = FRAY_TRACK.TURN.off then setF (s.reg (pg * 4096 + off)) FRAY_TRACK.PAUSED.lo 1 (bnat (s.allFailed c))
  else if off = FRAY_WORST.COLUMN.off then BitVec.ofNat 32 s.frayWorst.1
  else if off = FRAY_WORST_UNITS.UNITS.off then BitVec.ofNat 32 s.frayWorst.2
  else if off = FRAY_ODO.BITS.off then
    wordOf [(FRAY_ODO.BITS, s.fuses.odo), (FRAY_ODO.PENDING, s.rd pgFray FRAY_ODO.PENDING), (FRAY_ODO.FULL, bnat (decide (1024 ≤ s.fuses.odo)))]
  else s.reg (pgFray * 4096 + off)

def State.ballastWord (s : State) (off : Nat) : Word :=
  if off = BANK_OWNER.KIND.off then
    let b := s.rd pgBallast BANK_OWNER_INDEX.BANK
    let x := s.bank b
    wordOf [(BANK_OWNER.KIND, x.kind), (BANK_OWNER.PART, s.bankPart b), (BANK_OWNER.ENGINE, if x.kind = 3 then x.engine else 0)]
  else if off = BANK_MIRROR_CTRL.PARTNER.off then s.reg (pgMirror (s.rd pgBallast BANK_MIRROR_SEL.GROUP) * 4096 + off)
  else if off = BANK_LOG_HEAD.HEAD.off ∨ (0x100 ≤ off ∧ off < 0x300) then
    s.reg (pgBankLog (s.rd pgBallast BANK_LOG_GROUP.GROUP) * 4096 + off)
  else s.reg (pgBallast * 4096 + off)

def State.rigHeadWord (s : State) (off : Nat) : Word :=
  let i := s.rd pgRig RIG_INIT_SEL.INIT
  if off = RIG_ST_TAGS.BUSY.off then BitVec.ofNat 32 (s.rigInit i).tags.length
  else if 0x50 ≤ off ∧ off < 0xB0 then s.reg (pgRigInit i * 4096 + off)
  else s.reg (pgRig * 4096 + off)

/-- Flits of the old epoch that stand in a node (R302, R310). -/
def State.oldFlits (s : State) (n : Nat) : Nat :=
  ((s.rig.packets.filter (fun q => q.epoch != s.epoch)).map (fun q => q.flitsAt n)).foldl (· + ·) 0

def State.nodeWord (s : State) (n off : Nat) : Word :=
  if off = RIGN_INFO.KIND.off then
    wordOf (if n < 80 then [(RIGN_INFO.KIND, 0), (RIGN_INFO.U, n % 16), (RIGN_INFO.V, n / 16)]
            else [(RIGN_INFO.KIND, nodeKind n), (RIGN_INFO.MAST, nodeMast n)])
  else if off = RIGN_STATE.STATE.off then setF (s.reg (pgNode n * 4096 + off)) RIGN_STATE.OLD_FLITS.lo 8 (min 255 (s.oldFlits n))
  else if off = RIGN_TBL_DATA.ENTRY.off then
    BitVec.ofNat 32 (s.route n (s.rdNode n RIGN_TBL_INDEX.TABLE) (s.rdNode n RIGN_TBL_INDEX.ENTRY))
  else s.reg (pgNode n * 4096 + off)

/-- Device channels 32 w to 32 w + 31 that are in state `st`, as a map. -/
def State.chMap (s : State) (base n st : Nat) : Nat :=
  ((List.range n).filter (fun k => s.chState (base + k) == st)).foldl (fun m k => m + 2 ^ k) 0

def State.engineWord (s : State) (e off : Nat) : Word :=
  if off = ENG_STATUS.ACTIVE.off then
    wordOf [(ENG_STATUS.ACTIVE, s.chMap (16 * e) 16 chActive), (ENG_STATUS.HALTED, s.chMap (16 * e) 16 chHalted)]
  else if off = ENG_BURSTS.READS.off then wordOf [(ENG_BURSTS.READS, s.engineReads e)]
  else s.reg (pgEngine e * 4096 + off)

def State.tgtStatusWord (s : State) (t : Nat) : Word :=
  let n (st : Nat) : Nat := (List.range 4096).countP (fun v => v != 0 && s.srcState v == st && s.srcTarget v == t)
  wordOf [(TGT_STATUS.DELIVERED, n srcDelivered), (TGT_STATUS.ACTIVE, n srcActive)]

def State.intc1Word (s : State) (w : Who) (off : Nat) : Word :=
  let src := s.selOf w
  if off = INTC_SRC_SEL.SOURCE.off then BitVec.ofNat 32 src
  else if 0x48 ≤ off ∧ off < 0x54 then
    (if src = 0 ∨ partSeen w (s.rd (pgSrc src) SRC_CFG.PART) = false then 0 else s.reg (pgSrc src * 4096 + off))
  else if 0x100 ≤ off ∧ off < 0x300 then
    bitsWord (fun j =>
      let v := 8 * (off - 0x100) + j
      (s.srcState v == srcPending || s.srcState v == srcDelivered) && partSeen w (s.rd (pgSrc v) SRC_CFG.PART) &&
        (s.whoSecure w || !s.srcSecure v))
  else s.reg (pgIntc 1 * 4096 + off)

def State.targetWord (s : State) (w : Who) (k off : Nat) : Word :=
  let t := tgtAt k off
  if !partSeen w (s.rdTgt t TGT_CTRL.PART) then 0
  else if (off - 0x40) % 0x30 = 0x1C then s.tgtStatusWord t
  else s.reg (pgIntc k * 4096 + off)

def State.laneWord (s : State) (l off : Nat) : Word :=
  let w := s.reg (pgLane l * 4096 + off)
  if off = LANE_CTRL.OWNER.off then setF w LANE_CTRL.OWNER.lo LANE_CTRL.OWNER.len (s.laneOwner l)
  else if off = LANE_STATUS.STAGE.off ∧ s.isPcie l = true then setF w LANE_STATUS.STAGE.lo LANE_STATUS.STAGE.len stPcie
  else w

def State.clkWord (s : State) (k off : Nat) : Word :=
  let w := s.reg (pgClk k * 4096 + off)
  if k = 0 ∧ off = CLK_STATUS.XA_OK.off then
    setF (setF (setF w CLK_STATUS.XA_SEL.lo 3 s.straps.xaSel) CLK_STATUS.XB_SEL.lo 2 s.straps.xbSel) CLK_STATUS.FAILOVER_ANY.lo 1
      (bnat s.failoverAny)
  else if k = 1 ∧ off = CLK_GATE_STATE.ON.off then
    let n := s.rd pgClk1 CLK_GATE_SEL.NODE
    wordOf [(CLK_GATE_STATE.ON, bnat (s.nodeOn n)), (CLK_GATE_STATE.NOGATE, bnat (isNoGate n)),
      (CLK_GATE_STATE.CHILDREN_ON, (gateChildren n).countP s.nodeOn)]
  else w

def State.loadWord (s : State) (off : Nat) : Word :=
  if off = LOAD_POLICY.FUSE_OK.off then BitVec.ofNat 32 (s.fuses.policy % 32)
  else if off = KRAM_STATUS.VALID.off then
    wordOf [(KRAM_STATUS.VALID, bnat (lget s.kram 0).isSome + 2 * bnat (lget s.kram 1).isSome), (KRAM_STATUS.NO_VBAT, bnat (!s.vbat))]
  else if 0xA0 ≤ off ∧ off < 0xC0 then 0
  else s.reg (pgLoad * 4096 + off)

def State.preflightWord (s : State) (off : Nat) : Word :=
  if 0x144 ≤ off ∧ off < 0x158 then s.reg (pgPfPanel (s.rd pgPreflight PF_RES_SEL.PANEL) * 4096 + off) else s.reg (pgPreflight * 4096 + off)

def State.fioWord (s : State) (b off : Nat) : Word :=
  let base := 48 * b
  let pins (n : Nat) (f : Nat → Bool) : Word := bitsWord (fun i => decide (i < n) && f i)
  if off = FIO_IN_LO.IN.off then pins 32 (fun i => !s.halted && (s.pin (base + i)).deb && !s.pinInvalid (base + i))
  else if off = FIO_IN_HI.IN.off then pins 16 (fun i => !s.halted && (s.pin (base + 32 + i)).deb && !s.pinInvalid (base + 32 + i))
  else if off = FIO_VALID_LO.VALID.off then pins 32 (fun i => !s.pinInvalid (base + i))
  else if off = FIO_VALID_HI.VALID.off then pins 16 (fun i => !s.pinInvalid (base + 32 + i))
  else if off = FIO_OUT_LO.OUT.off then pins 32 (fun i => s.rdPin (base + i) FIO_PIN_CFG.OUT == 1)
  else if off = FIO_OUT_HI.OUT.off then pins 16 (fun i => s.rdPin (base + 32 + i) FIO_PIN_CFG.OUT == 1)
  else if 0x100 ≤ off ∧ off < 0x280 ∧ off % 8 = 0 ∧ isPrec (base + (off - 0x100) / 8) = false then
    setF (s.reg (pgFio b * 4096 + off)) FIO_PIN_CFG.TRIP_STATE.lo FIO_PIN_CFG.TRIP_STATE.len 0
  else s.reg (pgFio b * 4096 + off)

def State.plugWord (s : State) (off : Nat) : Word :=
  let w := s.reg (pgPlug * 4096 + off)
  if 0x80 ≤ off ∧ off < 0x180 ∧ off % 8 = 4 then setF w FIO_PG_STATUS.PRESENT.lo 1 (bnat (s.pgPresent ((off - 0x80) / 8))) else w

def State.identWord (s : State) (off : Nat) : Word :=
  if off = IDENT_GRADE.SPEED.off then wordOf [(IDENT_GRADE.SPEED, s.fuses.grade), (IDENT_GRADE.TEMP, s.fuses.temp), (IDENT_GRADE.PACKAGE, 1)]
  else if off = IDENT_DIE_VER.MINOR.off then BitVec.ofNat 32 (s.fuses.dieVer % 65536)
  else if off = IDENT_SERIAL_LO.SERIAL.off then BitVec.ofNat 32 s.fuses.serial
  else if off = IDENT_SERIAL_HI.SERIAL.off then BitVec.ofNat 32 (s.fuses.serial / 2 ^ 32)
  else s.reg (pgIdent * 4096 + off)

def State.sparCtlWord (s : State) (off : Nat) : Word :=
  let w := s.reg (pgSpar * 4096 + off)
  if off = STACK_FUSEMAP.USED.off then
    setF (setF w STACK_FUSEMAP.USED.lo 13 s.fuses.map.length) STACK_FUSEMAP.PENDING.lo 12 (min 4095 s.stack.pendingFuses.length)
  else if off = STACK_DEADMAP_DATA.ENTRY.off then (s.stack.dead[s.rd pgSpar STACK_DEADMAP_INDEX.INDEX]?).getD 0
  else if off = STACK_DEADMAP_COUNT.COUNT.off then BitVec.ofNat 32 (min 1024 s.stack.dead.length)
  else w

/-- WO fields read 0 (R4); a readable field that shares their bits, as BUSY and UNLOCKED do (R46), reads its value. -/
def hideWo (rs : List FieldRow) (w : Word) : Word :=
  let hidden := rs.foldl (fun x r => if r.acc = .wo then setF x r.fld.lo r.fld.len 0 else x) w
  rs.foldl (fun x r => if r.acc = .wo then x else setF x r.fld.lo r.fld.len (getF w r.fld.lo r.fld.len)) hidden

/-- What the register at offset `off` of a page reads to `w`. -/
def State.readWord (s : State) (w : Who) (k : PageKind) (i pg off : Nat) : Word :=
  if hasHeader k && off < 0x40 then s.headerWord pg k i off
  else match k with
  | .ident => s.identWord off
  | .sparCtl => s.sparCtlWord off
  | .panel => s.panelWord i off
  | .sparBlk => s.sparBlkWord i off
  | .tile => s.tileWord w i off
  | .bridle => s.bridleWord off
  | .track => s.trackWord i off
  | .marks => s.markReadWord pg off
  | .pwr => s.pwrWord off
  | .pwrMon => s.pwrMonWord off
  | .fray => s.frayWord off
  | .ballast => s.ballastWord off
  | .rigHead => s.rigHeadWord off
  | .node => s.nodeWord i off
  | .engine => s.engineWord i off
  | .chHead =>
    if off = SPOOL_HALT_MAP_LO.HALT.off then BitVec.ofNat 32 (s.chMap 0 32 chHalted)
    else if off = SPOOL_HALT_MAP_HI.HALT.off then BitVec.ofNat 32 (s.chMap 32 32 chHalted)
    else s.reg (pg * 4096 + off)
  | .intc1 => s.intc1Word w off
  | .intcT => if tgtBlock off then s.targetWord w i off else s.reg (pg * 4096 + off)
  | .lane => s.laneWord i off
  | .tether =>
    if off = TETHER_REPLAY_FILL.FLITS.off then BitVec.ofNat 32 (s.port i).buf.length else s.reg (pg * 4096 + off)
  | .clk0 => s.clkWord 0 off
  | .clk1 => s.clkWord 1 off
  | .load => s.loadWord off
  | .ready =>
    if off = READY_COUNTS.NOT_READY.off then s.readyCounts
    else if off = READY_FIRST.OFFSET.off then s.readyFirst
    else s.reg (pg * 4096 + off)
  | .reset =>
    if off = RS_STATUS.NO_VBAT.off then setF (s.reg (pg * 4096 + off)) RS_STATUS.NO_VBAT.lo 1 (bnat (!s.vbat)) else s.reg (pg * 4096 + off)
  | .preflight => s.preflightWord off
  | .fio => s.fioWord i off
  | .plug => s.plugWord off
  | _ => s.reg (pg * 4096 + off)

/-! ### The register read -/

/-- RISER_QUERY of the riser that RISER_QUERY_INDEX selects (R123). A driver in mode DRIVE and the sender of a cascade drive in every cycle; a
GATED one as the user's logic has it, which is free, and so is the value that logic drives. A group is in cascade mode as the active plane of
either panel has it, whatever keeps its drivers off. DESIGN CHOICE: where holds apply at both ends,
BORDER shows the Lower Sail panel's choice; a hold shows for a riser that the panel's planes drive. -/
def State.riserQuery (s : State) (c : Nat) : State :=
  let r := s.rd (pgSparBlk c) RISER_QUERY_INDEX.INDEX
  let ends := [c, 288 + c]
  let casc := ends.any (fun p => s.cascades p (r / 64))
  let (f, s) := s.free 3
  let on (p i : Nat) : Bool := s.canDrive p r && (s.cascades p (r / 64) || !s.gatedRiser p r || bitOf f i)
  let lower := on c 0
  let upper := on (288 + c) 1
  let drives (p : Nat) : Bool :=
    (s.risersOf p).getLsbD r || (s.panel p).wires.getLsbD r || nget (s.panel p).border (8 * 1024 + r) != 0
  let choice := match ends.find? (fun p => s.holdsTo p (partner p) && drives p) with
    | some p => s.holdChoice p 8 r
    | none => 0
  let keeper :=
    match ends.find? (fun p => s.canDrive p r) with
    | some p => if s.cascades p (r / 64) then bnat ((s.panel p).lastAc.getLsbD (r % 64)) else f / 4 % 2
    | none => bnat ((s.column c).keeper.getLsbD r)
  s.respond .ok (bnat lower + 2 * bnat upper + 4 * bnat (s.riserHeld c r) + 8 * bnat (s.riserDead c r) + 16 * choice + 64 * keeper +
    128 * bnat casc)

/-- A measured value of PWR_REG (LIMITING) or PWR_REG_I (AMPS) of a group that delivers current is a free value, the current up to the
group's limit (R420); a group that is off delivers none. -/
def State.measured (s : State) (off : Nat) : State :=
  let g := off / 4 % 16
  let f := if s.regState g = rgRamping ∨ s.regState g = rgOn then s.free 10 else (0, s)
  if off < 0x140 then f.2.respond .ok (setF (s.reg (pgPwr * 4096 + off)) PWR_REG.LIMITING.lo 1 (f.1 % 2)).toNat
  else f.2.respond .ok (f.1 % (ampLimit g + 1))

/-- A read past the access checks: the reads that have an effect, and the values. -/
def State.readBody (s : State) (a : Access) (k : PageKind) (i pg off : Nat) : State :=
  if k = .panel ∧ off = PRAM_HOST_DATA.DATA.off then s.pramReadBody i
  else if k = .tile ∧ off = CTX_BUF_DATA.DATA.off then s.bufReadBody a i
  else if k = .track ∧ off = TRK_POS_LO.POS.off then s.snapshotBody i
  else if k = .track ∧ off = TRK_Z_LATCH_LO.POS.off then s.zLatchBody i
  else if k = .bridle ∧ off = BRIDLE_NS_LO.NS.off then s.nsBody
  else if k = .rigHead ∧ off = RIG_ST_BYTES_LO.BYTES.off then s.bytesBody
  else if k = .intcT ∧ tgtBlock off ∧ (off - 0x40) % 0x30 = 0x14 then s.claimBody a (tgtAt i off)
  else if k = .sparBlk ∧ off = RISER_QUERY.VALUE.off then s.riserQuery i
  else if k = .pwr ∧ 0x100 ≤ off ∧ off < 0x180 then s.measured off
  else s.respond .ok (hideWo (rowsAt k i off) (s.readWord a.who k i pg off)).toNat

/-- A read of the register word at BAR0 offset `addr` (R42, R43). -/
def State.readReg (s : State) (a : Access) (addr : Nat) : State :=
  let pg := addr / 4096
  let off := addr % 4096 / 4 * 4
  match pageOf pg with
  | some (k, i) => s.gatedReadW a pg off (regDeny a k i pg off 0 false) (fun s => s.readBody a k i pg off)
  | none => s.respond .ur 0

end Sys2Proof.Machine
end

