-- ==== Sys2Proof/Machine/Network.lean ====
section
/-! DEFINITION. Meanings of chapter 11's commands on requests and packets: RIG_REQUEST, RIG_HOP, RIG_RESPONSE, RIG_MSG. -/

namespace Sys2Proof.Machine

open Sys2Proof

/-! ### Targets (R42, R54, R288, R293) -/

/-- The code of R293 for a register access's completion (R42). A write rejected as in R7 completes OK. -/
def codeOf (r : BusStatus) : Nat :=
  match r with
  | .ur => rcDecode
  | .ca => rcWorld
  | .code n => n
  | _ => 0

/-- The byte enables of word `w` for an access of `n` bytes from `addr`. -/
def enables (w addr n : Nat) : BitVec 4 :=
  BitVec.ofNat 4 (((List.range 4).map (fun i => if addr ≤ 4 * w + i ∧ 4 * w + i < addr + n then 2 ^ i else 0)).sum)

/-- The words that an access of `n` bytes from `addr` touches. -/
def wordsOf (addr n : Nat) : List Nat := (List.range ((addr + n + 3) / 4 - addr / 4)).map (· + addr / 4)

/-- A write of several words is one write per word, in ascending order (R43): the first failing code. `same` is what the hardware does to
each word in its write's cycle (R11). -/
def State.writeWords (s : State) (who : Who) (addr : Nat) (data : List Byte) (same : List Word) : Nat × State :=
  (wordsOf addr data.length).foldl (fun (r : Nat × State) w =>
    let v := natLE (((List.range 4).map (fun i => if addr ≤ 4 * w + i then data.getD (4 * w + i - addr) 0 else 0)))
    let a : Access := { who := who, be := enables w addr data.length, same := same.getD (w - addr / 4) 0 }
    let t := r.2.writeReg a (4 * w) (BitVec.ofNat 32 v)
    (if r.1 = 0 then codeOf t.resp.status else r.1, t)) (0, s)

/-- A read of any size takes its words in ascending order (R43). It is one access: a check that fails at a word ends it, with one
violation (R55). DESIGN CHOICE: the words before that one have been read, with what their reads do. -/
def State.readWords (s : State) (who : Who) (addr n : Nat) : Nat × List Byte × State :=
  let r := (wordsOf addr n).foldl (fun (r : Nat × List Byte × State) w =>
    if r.1 ≠ 0 then r
    else
      let t := r.2.2.readReg { who := who } (4 * w)
      (codeOf t.resp.status, r.2.1 ++ bytesLE 4 t.resp.data, t)) (0, [], s)
  (r.1, if r.1 = 0 then (r.2.1.drop (addr % 4)).take n else [], r.2.2)

/-- The register segments (R7, R42, R48, R307): a block under function reset answers BUSY_RESET; the host reaches the page as R48 has
it. -/
def State.serveRegs (s : State) (q : Packet) (ans : ExtResp) : Nat × List Byte × State :=
  let host := match q.who with | .pf _ => true | _ => false
  if host = false ∧ s.on (headerPage (q.addr / 4096)) PAGE_RESET.BUSY = true then (rcBusyReset, [], s)
  else if q.opc = opWr then
    let r := s.writeWords q.who q.addr q.data ans.same
    (r.1, [], r.2)
  else s.readWords q.who q.addr q.bytes

/-- The answer of user logic or of the host: its code, and for a read that delivers data its bytes. -/
def answerOf (q : Packet) (ans : ExtResp) : Nat × List Byte :=
  (ans.code % 16, if q.opc = opRd ∧ ans.code % 16 ≤ 1 then (ans.data ++ List.replicate q.bytes 0).take q.bytes else [])

/-- A fabric target port (R35, R287, R450, R481): its panel's state, its world, then the answer of the panel's logic. A violation is
logged at the panel's page (log entry 18). -/
def State.serveFabric (s : State) (q : Packet) (t : Nat) (ans : ExtResp) : Nat × List Byte × State :=
  let f := mget (fun _ => ({} : FabPort)) s.fabPorts (100 + t)
  match f.panel with
  | none => (rcDecode, [], s)
  | some p =>
    if f.secure && !s.whoSecure q.who then (rcWorld, [], s.violatePage q.who (q.opc == opWr) (pgPanel p) 0)
    else if (s.panel p).grounded ≠ 0 then (3, [], s)
    else if s.committed p = false ∨ (s.panel p).underTest = true then (6, [], s)
    else ((answerOf q ans).1, (answerOf q ans).2, s)

/-- Target 100 (R54, R57, R307, R341): under function reset it answers BUSY_RESET; without a link every request is answered NO_ROUTE; the world of the host window is checked; a write
leaves for the host. -/
def State.serveHost (s : State) (q : Packet) (ans : ExtResp) : Nat × List Byte × State :=
  if s.on pgPcie PAGE_RESET.BUSY then (rcBusyReset, [], s)
  else if s.linkUp = false then (rcNoRoute, [], s)
  else if s.hostSecure q.addr && !s.whoSecure q.who then (rcWorld, [], s.violateOther q.who (q.opc == opWr) 3 q.addr (q.addr / 2 ^ 32))
  else
    let s := if q.opc = opWr then { s with out := s.out ++ [.hostWrite q.addr q.data (s.whoSecure q.who)] } else s
    ((answerOf q ans).1, (answerOf q ans).2, s)

/-- What target `t` makes of a request: code, bytes read, and the state. -/
def State.serve (s : State) (q : Packet) (t : Nat) (ans : ExtResp) : Nat × List Byte × State :=
  if t < 36 then s.bankServe q.who (q.opc == opWr) q.addr q.bytes q.data [] q.pass
  else if t < 100 then s.serveFabric q t ans
  else if t = 100 then s.serveHost q ans
  else if 110 ≤ t ∧ t < 156 then s.serveRegs q ans
  else (rcDecode, [], s)

/-- What target `t` makes of a MSG (R292): a doorbell, in the world of its NS bit, or a sync message. -/
def State.serveMsg (s : State) (q : Packet) (t : Nat) : State :=
  if t = 109 then
    s.takeDoorbell (q.addr == pgIntc 0 * 4096 + 0x40) (!q.ns) (natLE q.data) (whoInit q.who) (match q.who with | .packet _ pg _ => pg | _ => 0)
  else if t = 110 ∧ q.addr = syncPort then s.takeSync q
  else s

/-! ### A node forwards a flit (R294 to R296, R298, R304) -/

/-- A request is answered at node `n` with `code`, in place of going on. -/
def State.turnBack (s : State) (q : Packet) (n code : Nat) : State := (s.dropPacket q).inject (responseOf q n code [])

/-- A header with an uncorrectable error or a reserved OPC (R298): the packet is discarded, its payload with it. -/
def State.dropHeader (s : State) (q : Packet) : State :=
  ((s.dropPacket q).inc (pgNode q.node) RIGN_HDR_UNCORR.COUNT).raiseRig RIG_EVENT.HDR_UNCORR

/-- A packet meets the border of a domain that is not ON (R304, R308). -/
def State.atBorder (s : State) (q : Packet) (st : Nat) : State :=
  if q.isRequest then s.turnBack q q.node rcDomainOff
  else if q.opc = opMsg then (s.dropPacket q).inc (pgNode q.node) RIGN_URGENT_DROP.COUNT
  else if st = dmDraining then s
  else (s.dropPacket q).inc (pgNode q.node) RIGN_NO_ROUTE.COUNT

/-- A flit has left the `k`-th buffer of `q`, which is then `q'`: the arbiter of its output moves on, and the credit of its slot is due. -/
def State.flitMoved (s : State) (q q' : Packet) (k : Nat) (header : Bool) : State :=
  match q.places[k]? with
  | none => s
  | some t =>
    let s' := s.owe (dueOf t q.cls)
    { s' with rig := { s'.rig with packets := s.rig.packets.map (fun p => if p = q then q' else p)
                                   arbs := mset (fun _ => zeroArb) s.rig.arbs (8 * t.1 + q.outOf k) (s.arbAfter q t.1 (q.outOf k) header) } }

/-- The header in node `m`, its output there taken from that node's table (R295). -/
def State.movedTo (s : State) (q : Packet) (m : Nat) : Packet :=
  { q with node := m, la := s.routePort m q, inPort := backPort q.la, arr := s.rig.arrivals, crossed := q.crossed ++ [8 * q.node + q.la]
           trail := trimPlaces ((m, backPort q.la, 1) :: atPlace (· - 1) 0 q.places) }

/-- The header moves on to node `m` (R294 to R296); its link carries it with the new LA_PORT (R290). -/
def State.moveTo (s : State) (q : Packet) (m : Nat) : State :=
  let q' := s.movedTo q m
  let k := 8 * q.node + q.la
  let s := (s.flitMoved q q' 0 true).setLink k (flitOnLink (s.link k) (q'.slot 0))
  { s with rig := { s.rig with arrivals := s.rig.arrivals + 1 } }

/-- The packet after a payload flit has gone from its `k + 1`-th buffer into its `k`-th. -/
def Packet.follow (q : Packet) (k : Nat) (link : Nat) : Packet :=
  { q with trail := trimPlaces (atPlace (· - 1) (k + 1) (atPlace (· + 1) k q.places)), crossed := q.crossed ++ [link] }

/-- The packet after its destination has taken a flit of it. -/
def Packet.taken (q : Packet) : Packet := { q with trail := trimPlaces (atPlace (· - 1) 0 q.places), got := q.got + 1 }

/-- The local port at which the packet leaves node `q.node`: DST_PORT at its own device, else LPORT of the device entry (R301). -/
def State.localPort (s : State) (q : Packet) : Nat :=
  if q.dstDev = s.devNumber then q.dstPort else s.route q.node q.epoch (128 + q.dstDev) / 8

/-- The packet is a response that stands at its initiator's interface, or on its way into it. -/
def State.atHome (s : State) (q : Packet) : Bool :=
  (q.opc == opRdResp || q.opc == opWrResp) && q.la == 6 && q.dstDev == s.devNumber && initPlace q.srcInit == (q.node, q.dstPort)

/-- What stands at LOCAL takes the header now: a Tether port where it has the credits and the room (R382), anything else at once. -/
def State.localOpen (s : State) (q : Packet) : Bool :=
  match targetAt q.node (s.localPort q) with
  | some t => !(101 ≤ t && t < 109) || s.egressOpen (t - 101) q
  | none => true

/-- An earlier request of the same initiator to the same target waits at its bank (R261, R300). -/
def State.behindHeld (s : State) (q : Packet) : Bool :=
  (s.rig.packets.takeWhile (· != q)).any (fun p => p.pass != .fresh && p.srcInit == q.srcInit && p.srcDev == q.srcDev && p.target == q.target)

/-- The last flit of a packet has been taken at LOCAL (R291, R298): a request or MSG reaches its target, and a write with a bad payload is
not performed. A bank may hold a request (R261), and what comes behind it waits in its turn (R300); a Tether port may let a packet wait
(R382); a response waits for RIG_RESPONSE. The answer of a fabric target to a block that has been reset is discarded (R307). -/
def State.arrive (s : State) (q : Packet) (bad : Bool) (ans : ExtResp) : State :=
  match targetAt q.node (s.localPort q) with
  | none => if q.isRequest then s.turnBack q q.node rcDecode else if s.atHome q then s else s.noRoute q.node q
  | some t =>
    if 101 ≤ t ∧ t < 109 then s.egress (t - 101) q
    else if q.opc = opMsg then (s.dropPacket q).serveMsg q t
    else if !q.isRequest then s.noRoute q.node q
    else if q.opc = opWr ∧ (bad || q.spoiled) = true ∧ q.payloadFlits ≠ 0 then s.turnBack q q.node 1
    else if t < 36 ∧ (s.behindHeld q || s.bankHolds q.who (q.opc == opWr) q.addr q.bytes q.pass) = true then
      let pass := s.passHeld q.who (q.opc == opWr) q.addr q.bytes q.pass
      { s.setPackets (s.rig.packets.map (fun p => if p = q then { q with pass := pass } else p)) with heldCtr := s.heldCtr + 1 }
    else
      let r := (s.dropPacket q).serve q t ans
      let t := if q.orphan then r.2.2 else r.2.2.inject (responseOf q q.node r.1 r.2.1)
      if q.pass = .fresh then t else t.serveTested (q.addr / 0x80000)

/-- LOCAL takes a flit of `q`; with the last one the packet has arrived. -/
def State.takeFlit (s : State) (q : Packet) (bad : Bool) (ans : ExtResp) : State :=
  let q' := q.taken
  let s := s.flitMoved q q' 0 (q.got == 0)
  if q'.got = q'.flits then s.arrive q' bad ans else s

/-- A node forwards the header of packet `q` where its output's arbiter chooses it (R296) and a buffer of the next node has room (R294);
otherwise it waits. -/
def State.hopHeader (s : State) (q : Packet) (hdr : HdrCheck) (bad : Bool) (ans : ExtResp) : State :=
  if hdr = .bad ∨ 4 < q.opc then s.dropHeader q
  else
    let s := if hdr = .corrected then s.inc (pgNode q.node) RIGN_HDR_CORR.COUNT else s
    if q.la = 6 then (if hasPort q.node 6 then (if s.wins s.localOpen q 0 then s.takeFlit q bad ans else s) else s.noRoute q.node q)
    else if 5 < q.la ∨ s.linkOff q.node q.la = true then s.noRoute q.node q
    else
      match nodeNext q.node q.la with
      | none => s.noRoute q.node q
      | some m =>
        let st := s.nodeDomainState m
        if nodeDomain m ≠ nodeDomain q.node ∧ st ≠ dmOn ∧ (q.isRequest = true ∨ q.opc = opMsg ∨ st ≠ dmDraining) then s.atBorder q st
        else if s.wins s.localOpen q 0 then s.moveTo q m
        else s

/-- A payload flit follows its header from the packet's `k`-th buffer (R296), where the arbiter chooses it and there is room. -/
def State.hopBody (s : State) (q : Packet) (k : Nat) (bad : Bool) (ans : ExtResp) : State :=
  if s.wins s.localOpen q k = false then s
  else
    match k, q.places[k]? with
    | 0, _ => s.takeFlit q bad ans
    | j + 1, some (n, _, _) =>
      let link := 8 * n + q.outOf (j + 1)
      (s.flitMoved q (q.follow j link) (j + 1) false).setLink link (flitOnLink (s.link link) (q.slot (q.flitNo (j + 1))))
    | _, none => s

/-- The node where the flit of packet `q` in its `k`-th buffer stands forwards it; an OFF node forwards nothing (R303). A packet that its
destination has taken and that has had to wait there tries again. -/
def State.hop (s : State) (q : Packet) (k : Nat) (hdr : HdrCheck) (bad : Bool) (ans : ExtResp) : State :=
  match q.places[k]? with
  | none => if k = 0 then s.arrive q bad ans else s
  | some (n, _, _) =>
    if s.rdNode n RIGN_STATE.STATE = 2 then s
    else if k = 0 ∧ q.got = 0 then s.hopHeader q hdr bad ans
    else s.hopBody q k bad ans

/-- RIG_HOP (R295): the node that holds a flit of a packet forwards it. `hdr` and `bad` say what CHECK shows of the header, and of the
payload where its last flit is taken (R298); `answer` is what user logic or the host answers where the packet reaches them: no flit
carries TIMEOUT or the reserved code (R293). -/
def execRigHop (flit : FlitRef) (hdr : HdrCheck) (bad : Bool) (answer : ExtResp) (s : State) : Host.Outcome State Fault Refusal :=
  guardUnit (answer.code < 14)
    (match s.rig.packets[flit.packet]? with
     | some q => s.hop q flit.place hdr bad answer
     | none => s)

/-! ### Requests and MSGs (R297, R299) -/

/-- RIG_REQUEST (R288, R289, R299). -/
def execRigRequest (who : Who) (dest : RigDest) (write : Bool) (size : Nat) (data : List Byte) (s : State) :
    Host.Outcome State Fault Refusal :=
  guardUnit (whoInit who < 90) (s.rigRequest who dest write size ((data ++ List.replicate size 0).take size) none)

/-- RIG_MSG (R297, R302): the oldest waiting MSG of initiator `init` is injected, in the current epoch. -/
def execRigMsg (init : Nat) (s : State) : Host.Outcome State Fault Refusal :=
  guardUnit (init < 90)
    (match s.rig.msgs.find? (fun m => m.srcInit == init) with
     | none => s
     | some m =>
       if s.hasToken init then
         let s := { s with rig := { s.rig with msgs := s.rig.msgs.erase m } }
         (s.setRigInit init { s.rigInit init with token := some s.ns }).inject { m with epoch := s.epoch }
       else s)

/-! ### Responses (R299, R309) -/

/-- The bucket of RIG_ST_HIST for a latency in cycles. -/
def latBucket (c : Nat) : Nat := (([64, 128, 256, 512, 1024, 2048, 4096].filter (· ≤ c)).length)

/-- A transaction of initiator `i` has completed: `n` bytes moved, `c` cycles, status `code`. -/
def State.countDone (s : State) (i n c code : Nat) : State :=
  let pg := pgRigInit i
  let s := s.addInit i RIG_ST_TRANS.COUNT 1
  let s := s.setRigInit i { s.rigInit i with bytes := min (2 ^ 64 - 1) ((s.rigInit i).bytes + n) }
  let s := s.addInit i (RIG_ST_HIST.COUNT.at (latBucket c)) 1
  let s := (s.wr pg RIG_ST_LAT.MIN (min c (s.rd pg RIG_ST_LAT.MIN))).wr pg RIG_ST_LAT.MAX (max (min c 65535) (s.rd pg RIG_ST_LAT.MAX))
  if code = 1 then s.addInit i RIG_ST_POISON.COUNT 1 else s

/-- Bytes that a completed transaction has moved: those of a read that delivers data, or of a write that is OK. -/
def movedBytes (write : Bool) (bytes code : Nat) : Nat := if code = 0 ∨ (write = false ∧ code = 1) then bytes else 0

/-- A response of an outstanding tag is delivered; the host receives it as PCI Express has it (R42, R267). -/
def State.deliverResp (s : State) (q : Packet) (tag : RigTag) (code : Nat) : State :=
  let i := q.srcInit
  let s := s.setRigInit i ((s.rigInit i).release q.tag false)
  let s := s.countDone i (movedBytes tag.write tag.bytes code) (s.rigCycles (s.ns - tag.at_)) code
  let s := s.noteAnswer tag.note code q.data
  s.respond (rigStatus i code) (natLE q.data)

/-- A response reaches its initiator (R299): it completes its tag, or is discarded as late. DESIGN CHOICE: so is one for a request that a
drain has given up and that is to end in TIMEOUT (R304). -/
def State.takeResponse (s : State) (q : Packet) (bad : Bool) : State :=
  let i := q.srcInit
  let s := s.dropPacket q
  let code := if (bad || q.spoiled) && q.payloadFlits != 0 then 1 else q.status
  let late := s.addInit i RIG_ST_LATE_RESP.COUNT 1
  match lget (s.rigInit i).tags q.tag with
  | some t =>
    if nget (s.rigInit i).gens q.tag ≠ q.gen ∨ (t.abandoned = true ∧ t.quarantined = false) then late
    else if t.quarantined then (late.setRigInit i ((late.rigInit i).release q.tag true)).pump i
    else (s.deliverResp q t code).pump i
  | none => late

/-- RIG_RESPONSE (R299): packet `i`, a response of which the last flit has reached its initiator's interface, is taken; `bad` where its
payload has an uncorrectable error (R298). -/
def execRigResponse (i : Nat) (bad : Bool) (s : State) : Host.Outcome State Fault Refusal :=
  match s.rig.packets[i]? with
  | some q => .next (if s.atHome q && q.got == q.flits then s.takeResponse q bad else s)
  | none => .next s

end Sys2Proof.Machine
end

