-- ==== Sys2Proof/Machine/Pcie.lean ====
section
/-! DEFINITION. Meanings of the PCI Express link's commands (R341, R353, R356, R357, R365, R371, R372, R529). -/

namespace Sys2Proof.Machine

open Sys2Proof

/-- The controller may train: its page is out of reset and PERST_N is high. -/
def State.pcieRuns (s : State) : Bool :=
  s.on pgReady READY_SUM.PCIE_TRAIN && !s.perstLow && !s.on pgPcie PAGE_RESET.BUSY && s.warm != 1

/-- The PLL of quad `q` is to run in the band of `rate`: another band than the present one has to lock first (R353). -/
def State.setBand (s : State) (q rate : Nat) : State :=
  let band := bandOf rate
  if s.rdLane (4 * q) LANE_PLL.BAND = band then s
  else (List.range 4).foldl (fun s i => (s.wrLane (4 * q + i) LANE_PLL.BAND band).wrLane (4 * q + i) LANE_PLL.LOCKED 0) s

/-- PCIE_TRAIN_READY (R464): the controller is ready to train, 30 ms after power good; its lanes are powered, at 2.5 GT/s, and their PLLs
have to lock in band 3 (R353). -/
def execPcieTrainReady (s : State) : Host.Outcome State Fault Refusal :=
  .next
    (if s.on pgReady READY_SUM.CLOCKS = false then s
     else
       let s := (List.range ((s.pcieLanes + 3) / 4)).foldl (fun s q => s.setBand q 7) s
       let s := (List.range s.pcieLanes).foldl (fun s l =>
         (((s.wrLane l LANE_CTRL.ENABLE 1).wrLane l LANE_CTRL.RATE 7).wrLane l LANE_STATUS.POWER 1)
           |>.wrLane l LANE_STATUS.STAGE stPcie |>.takeFfe l) s
       s.reachStage READY_SUM.PCIE_TRAIN)

/-- Where the controller starts a lane (R365): at 32 and 64 GT/s from its blob, or without one from its registers; at lower rates from the
presets of the standard. -/
def State.pcieStart (s : State) (rate l : Nat) : State :=
  if 3 < rate then
    let p := Config.pciePreset rate
    (s.walkTo l p.2.1.val p.2.2.val).wrLane l LANE_TX_FFE_LIVE.FFE p.1.toNat
  else
    match (s.lane l).blob with
    | some b => ((s.walkTo l b.peak b.lf).wrLane l LANE_STATUS.START 1).takeFfe l
    | none =>
      ((s.walkTo l (s.rdLane l LANE_RX_CTLE.PEAK) (s.rdLane l LANE_RX_CTLE.LF_GAIN)).wrLane l LANE_STATUS.START
        (if (s.lane l).board then 2 else 0)).takeFfe l

/-- Equalisation phase 2 of a lane (R371): of the partner presets enabled in LANE_PCIE_PRESETS of lane 0 and measured on the eye monitor, the
one with the largest smallest eye height is requested. There is none below 8 GT/s. -/
def State.requestPreset (s : State) (rate l : Nat) (eyes : List Eye) : State :=
  let cs := ((List.range 11).zip eyes).filter (fun c => bitOf (s.rdLane 0 LANE_PCIE_PRESETS.ENABLE) c.1)
  if 5 < rate then s
  else
    match s.pick (bestOf rate cs) with
    | (some p, s) => { s.setLane l { s.lane l with preset := some p } with out := s.out ++ [.preset l p] }
    | (none, s) => s

/-- A lane of the trained link (R356, R357, R365, R371): its rate, precoding of each direction at 32 or 64 GT/s from states of 0, its start, the
preset it requests, and the taps that link equalisation has left within the ranges and the low-frequency limit. -/
def State.trainPcie (s : State) (r : PcieRate) (l : Nat) : State :=
  let fast := decide (r.rate ≤ 3)
  let taps := r.ffe.getD l 0
  let s := ((s.wrLane l LANE_STATUS.CDR_LOCK 1).wrLane l LANE_STATUS.PRECODE_LIVE (bnat (r.precode.getLsbD l && fast)))
  let x := s.lane l
  let s := s.setLane l { x with txPrecode := r.txPrecode.getLsbD l && fast, rxSym := if fast then 0 else x.rxSym, txSym := if fast then 0 else x.txSym }
  let s := (s.pcieStart r.rate l).requestPreset r.rate l (r.eyes.getD l [])
  if ffeAccepted taps && ffeLow taps then s.wrLane l LANE_TX_FFE_LIVE.FFE (getF taps 0 30) else s

/-- PCIE_LINK_UP (R341, R353, R371): the data link layer is active, at a width of 16, 8, 4 or 1 lanes up to the strapped one and at a RATE
code of R354 from 2 to 7. The other enabled lanes of a quad of the link run at its rate, and a change of band re-locks the quad's PLL. -/
def execPcieLinkUp (width : Nat) (rate : PcieRate) (s : State) : Host.Outcome State Fault Refusal :=
  guardUnit ([16, 8, 4, 1].contains width && 2 ≤ rate.rate && rate.rate < 8)
    (if s.pcieRuns && width ≤ s.pcieLanes then
       let quads := (width + 3) / 4
       let s := (List.range quads).foldl (fun s q => s.setBand q rate.rate) s
       let s := ((List.range (4 * quads)).filter s.laneOn).foldl (fun s l => s.wrLane l LANE_CTRL.RATE rate.rate) s
       let s := (List.range width).foldl (fun s l => s.trainPcie rate l) s
       { s with linkUp := true }
     else s)

/-- PCIE_LINK_RESET (R372): a link reset or retrain resets the lanes that the controller owns; the data link layer is not active. -/
def execPcieLinkReset (s : State) : Host.Outcome State Fault Refusal :=
  .next { (List.range s.pcieLanes).foldl State.laneReset s with linkUp := false }

/-- PERST (R529): while PERST_N is low the controller and its lanes are held under F of the PCIE page. -/
def execPerst (low : Bool) (s : State) : Host.Outcome State Fault Refusal :=
  .next
    (if low then { (s.startReset pgPcie) with perstLow := true }
     else { s with perstLow := false })

end Sys2Proof.Machine
end

