-- ==== Sys2Proof/Machine/Spool.lean ====
section
/-! DEFINITION. Meanings of chapter 12's commands on descriptors: DESC_FETCH, LIST_FETCH, DATA_BURST, WRITE_BACK. Each issues accesses,
which travel as any request does, or takes what has been answered. -/

namespace Sys2Proof.Machine

open Sys2Proof

/-! ### Descriptors (R314, R316, R319 to R321) -/

/-- Word `k` of the held descriptor. -/
def Chan.word (c : Chan) (k : Nat) : Nat := (c.desc.getD k 0).toNat

def Chan.flag (c : Chan) (b : Nat) : Bool := bitOf (c.word 0) b

/-- Entries of the source and the destination list; 0 where the side is contiguous. -/
def State.listCount (s : State) (ch : Nat) (dst : Bool) : Nat :=
  let c := s.chan ch
  if s.engLegacy (ch / 16) || !c.flag (if dst then 28 else 29) then 0
  else if dst then c.word 6 / 65536 else c.word 6 % 65536

/-- Words of a transaction's bytes. -/
def wordsLE : Nat → List Byte → List Word
  | 0, _ => []
  | n + 1, bs => BitVec.ofNat 32 (natLE (bs.take 4)) :: wordsLE n (bs.drop 4)

/-- The status with which a descriptor ends before it moves anything (R321): 3 BAD_DESC, 1 ZERO_LEN, else 0. -/
def descStatus (legacy : Bool) (d : List Word) : Nat :=
  let w (k : Nat) : Nat := (d.getD k 0).toNat
  let sg (b : Nat) : Bool := bitOf (w 0) b
  let reserved := Nat.land (w 0) 0x030FFFFF != 0
  let counts := (sg 29 != (w 6 % 65536 != 0)) || (sg 28 != (w 6 / 65536 != 0))
  let aligned := (sg 29 && w 2 % 16 != 0) || (sg 28 && w 4 % 16 != 0)
  if reserved || (if legacy then sg 29 || sg 28 else counts || aligned) then 3
  else if w 1 = 0 then 1
  else 0

/-- The channel holds descriptor `d`, read with OWN = 1. -/
def State.holdDesc (s : State) (ch : Nat) (d : List Word) : State :=
  let c := s.chan ch
  let st := descStatus (s.engLegacy (ch / 16)) d
  let w (k : Nat) : Nat := (d.getD k 0).toNat
  let side (sg host : Nat) (k : Nat) : List SgEntry :=
    if bitOf (w 0) sg then [] else [⟨w k + w (k + 1) * 2 ^ 32, w 1, bitOf (w 0) host, false⟩]
  s.setChan ch { stage := .held, desc := d, src := side 29 27 2, dst := side 28 26 4, left := w 1, status := st, io := c.io, trigs := c.trigs
                 reread := c.reread }

/-- The first entry of each list of the held descriptor is there (R316); one that moves nothing reads no list (R321). -/
def State.listsHeld (s : State) (ch : Nat) : Bool :=
  let c := s.chan ch
  c.status != 0 || ((s.listCount ch false == 0 || 0 < c.srcNext) && (s.listCount ch true == 0 || 0 < c.dstNext))

/-- A descriptor held by a TRIGGERED channel is released by the trigger of its re-read or by the oldest held trigger, or waits with the
first entries of its lists (R316, R317). A channel that is to stop, and that no trigger releases, stops (R327). -/
def State.settle (s : State) (ch : Nat) : State :=
  let c := s.chan ch
  if s.listsHeld ch = false then s
  else
    match c.reread, c.trigs with
    | some t, _ => s.releaseDesc ch t
    | none, t :: ts => (s.setTrigs ch ts).releaseDesc ch t
    | none, [] => if s.on (pgChannel ch) CH_STATUS.STOP_PENDING then s.disableChan ch else s.setChState ch chWait

/-- The descriptor was read with OWN = 0 (R314, R316, R317). -/
def State.notOwned (s : State) (ch : Nat) (d : List Word) : State :=
  let c := s.chan ch
  if s.on (pgChannel ch) CH_STATUS.STOP_PENDING then s.disableChan ch
  else if !s.triggered ch then
    (if s.on (pgChannel ch) CH_STATUS.KICK_PENDING then s.wrCh ch CH_STATUS.KICK_PENDING 0 else s.setChState ch chIdle)
  else
    let s := (s.setChan ch { c with stage := .fetch, desc := d, reread := none }).setChState ch chWait
    let s := if c.reread.isSome then s.trigEmpty ch else s
    match (s.chan ch).trigs with
    | t :: ts =>
      let s := s.setTrigs ch ts
      (s.setChan ch { s.chan ch with reread := some t }).setChState ch chActive
    | [] => s

/-- A descriptor has been read. -/
def State.tookDesc (s : State) (ch : Nat) (d : List Word) : State :=
  if bitOf (d.getD 0 0).toNat 31 = false then s.notOwned ch d
  else
    let s := s.holdDesc ch d
    if s.triggered ch then s.settle ch
    else s.setChan ch { s.chan ch with stage := if (s.chan ch).status = 0 then .data else .back1 }

/-- The answered accesses of a phase that the engine takes now: all of them, once each has been answered OK. -/
def Chan.answered (c : Chan) (f : SpoolIo → Bool) : List SpoolIo :=
  let es := c.io.filter (fun e => f e && !e.dead)
  if es.all (fun e => e.answer == some 0) then es else []

/-- The accesses are done with. -/
def State.dropIo (s : State) (ch : Nat) (es : List SpoolIo) : State :=
  s.setChan ch { s.chan ch with io := (s.chan ch).io.filter (fun e => !es.contains e) }

/-- DESC_FETCH (R314, R316, R319 to R321): the channel reads a descriptor whole, in one transaction; or takes the one that it has read. -/
def execDescFetch (ch : Nat) (act : EngAct) (s : State) : Host.Outcome State Fault Refusal :=
  guardUnit (ch < 64)
    (let c := s.chan ch
     if c.stage ≠ .fetch ∨ s.chState ch ≠ chActive then s
     else
       match act with
       | .issue =>
         if c.io.any (fun e => e.phase == 1) then s
         else
           s.issueIo ch { id := 0, phase := 1, write := false, host := s.on (pgChannel ch) CH_CTRL.RING_HOST
                          addr := s.ringBase ch + s.descSize ch * s.rdCh ch CH_HEAD.INDEX, bytes := s.descSize ch }
       | .take =>
         match c.answered (fun e => e.phase == 1) with
         | [] => s
         | e :: es => (s.dropIo ch (e :: es)).tookDesc ch (wordsLE (e.bytes / 4) e.data))

/-! ### Lists (R322) -/

/-- An entry from its four words. -/
def entryOf (d : List Word) : SgEntry :=
  let w (k : Nat) : Nat := (d.getD k 0).toNat
  ⟨w 0 + w 1 * 2 ^ 32, w 2, bitOf (w 3) 0, w 3 / 2 != 0⟩

/-- The entries of `n` × 16 bytes. -/
def listEntries (n : Nat) (bs : List Byte) : List SgEntry := (List.range n).map (fun k => entryOf (wordsLE 4 (bs.drop (16 * k))))

/-- Entries have been read; those of length 0 are skipped, and count (R322). -/
def State.tookList (s : State) (ch : Nat) (dst : Bool) (es : List SgEntry) : State :=
  let c := s.chan ch
  let use := es.filter (fun e => e.len != 0 || e.bad)
  let s := s.setChan ch (if dst then { c with dst := c.dst ++ use, dstNext := c.dstNext + es.length }
                         else { c with src := c.src ++ use, srcNext := c.srcNext + es.length })
  if c.stage = .held ∧ s.triggered ch = true then s.settle ch else s

/-- The channel may read entries of the list: it holds or runs the descriptor, at most four entries wait for use, and none is on its way. -/
def State.listOpen (s : State) (ch : Nat) (dst : Bool) : Bool :=
  let c := s.chan ch
  let have_ := if dst then c.dst else c.src
  let next := if dst then c.dstNext else c.srcNext
  c.status == 0 && next < s.listCount ch dst && have_.length ≤ 4 && (c.stage == .data || c.stage == .held) && s.chState ch == chActive &&
  !c.io.any (fun e => e.phase == 2 && e.dst.1 == dst)

/-- LIST_FETCH (R322): the channel reads up to four entries of the source list, or of the destination list; or takes those that it has
read. -/
def execListFetch (ch : Nat) (dst : Bool) (act : EngAct) (s : State) : Host.Outcome State Fault Refusal :=
  guardUnit (ch < 64)
    (let c := s.chan ch
     match act with
     | .issue =>
       if s.listOpen ch dst = false then s
       else
         let next := if dst then c.dstNext else c.srcNext
         let n := min 4 (s.listCount ch dst - next)
         let base := (if dst then c.word 4 + c.word 5 * 2 ^ 32 else c.word 2 + c.word 3 * 2 ^ 32) + 16 * next
         (cutAll base (16 * n)).foldl (fun s p => s.issueIo ch
           { id := 0, phase := 2, write := false, host := c.flag (if dst then 26 else 27), addr := base + p.1, bytes := p.2, dst := (dst, 0) }) s
     | .take =>
       if s.chState ch ≠ chActive then s
       else
         match c.answered (fun e => e.phase == 2 && e.dst.1 == dst) with
         | [] => s
         | es =>
           let bs := es.flatMap (·.data)
           (s.dropIo ch es).tookList ch dst (listEntries (bs.length / 16) bs))

/-! ### Bursts (R323, R324) -/

/-- Entries of length 0 are skipped (R322). -/
def skipEmpty : List SgEntry → List SgEntry
  | e :: t => if e.len = 0 ∧ e.bad = false then skipEmpty t else e :: t
  | [] => []

/-- Entries after `n` bytes of the first have been used. -/
def useBytes (es : List SgEntry) (n : Nat) : List SgEntry :=
  match es with
  | e :: t => if e.len = n then t else { e with addr := e.addr + n, len := e.len - n } :: t
  | [] => []

/-- What comes next for a running descriptor. -/
inductive BurstNext where
  /-- A burst of `n` bytes from one entry to another. -/
  | burst (a b : SgEntry) (n : Nat)
  /-- The data ends with this status. -/
  | ends (status : Nat)
  /-- A list entry is awaited. -/
  | lacks
  deriving DecidableEq, Repr

/-- The next burst (R321 to R323): to the source's burst boundary, the end of an entry or the end of the descriptor. -/
def State.nextBurst (s : State) (ch : Nat) : BurstNext :=
  let c := s.chan ch
  let gone (dst : Bool) (next : Nat) : BurstNext := if next < s.listCount ch dst then .lacks else .ends 2
  if c.left = 0 then .ends 0
  else
    match skipEmpty c.src, skipEmpty c.dst with
    | [], _ => gone false c.srcNext
    | _, [] => gone true c.dstNext
    | a :: _, b :: _ =>
      if a.bad || b.bad then .ends 3
      else
        let size := 2 ^ s.rdCh ch CH_CTRL.BURST
        .burst a b (min (min c.left (size - a.addr % size)) (min a.len b.len))

/-- The next burst reads data. -/
def State.readsNext (s : State) (ch : Nat) : Bool := match s.nextBurst ch with | .burst _ _ _ => true | _ => false

/-- The channel is ready for a burst issue: it has data to read, or its data ends and nothing of it is outstanding. -/
def State.burstReady (s : State) (ch : Nat) : Bool :=
  s.chState ch == chActive && (s.chan ch).stage == .data &&
  (s.readsNext ch || (!(s.chan ch).dataLeft && s.nextBurst ch != .lacks))

/-- The channel that the engine takes (R324): the highest PRIO, in turn among its equals. -/
def State.engineTakes (s : State) (e : Nat) : Option Nat :=
  if s.on (pgEngine e) ENG_CUR.VALID then some (16 * e + s.rd (pgEngine e) ENG_CUR.CHANNEL)
  else
    let ready := ((List.range 16).map (16 * e + ·)).filter s.burstReady
    let best := ready.foldl (fun m ch => max m (s.rdCh ch CH_CTRL.PRIO)) 0
    let last := nget s.engLast (8 * e + best)
    ((List.range 16).map (fun k => 16 * e + (last + k) % 16)).find? (fun ch => s.burstReady ch && s.rdCh ch CH_CTRL.PRIO == best)

/-- The engine has issued a burst of the channel; under COMPLETE the channel keeps it (R324). -/
def State.takeEngine (s : State) (ch : Nat) : State :=
  let e := ch / 16
  let s := { s with engLast := nset s.engLast (8 * e + s.rdCh ch CH_CTRL.PRIO) (ch % 16 + 1) }
  if s.on (pgEngine e) ENG_CTRL.ARB then (s.wr (pgEngine e) ENG_CUR.CHANNEL (ch % 16)).wr (pgEngine e) ENG_CUR.VALID 1 else s

/-- The next burst of the channel is issued, its reads of at most 512 bytes each (R289, R323); or its data ends. -/
def State.issueBurst (s : State) (ch : Nat) : State :=
  let c := s.chan ch
  match s.nextBurst ch with
  | .lacks => s
  | .ends st => s.endData ch st
  | .burst a b n =>
    let s := s.setChan ch { c with src := useBytes (skipEmpty c.src) n, dst := useBytes (skipEmpty c.dst) n, left := c.left - n, burst := c.burst + 1 }
    (cutAll a.addr n).foldl (fun s p => s.issueIo ch
      { id := 0, phase := 0, write := false, host := a.host, addr := a.addr + p.1, bytes := p.2, dst := (b.host, b.addr + p.1), burst := c.burst }) s

/-- A read of the channel has been answered: its bytes are written on, split at the destination's 512-byte boundaries (R323). -/
def State.writeOn (s : State) (ch : Nat) (e : SpoolIo) : State :=
  (cutAll e.dst.2 e.bytes).foldl (fun s p => s.issueIo ch
    { id := 0, phase := 0, write := true, host := e.dst.1, addr := e.dst.2 + p.1, bytes := p.2, data := (e.data.drop p.1).take p.2, burst := e.burst })
    (s.dropIo ch [e])

/-- The reads of burst `i` that the engine can write on: those answered, as far as none before them is awaited, so that the writes of a
burst are issued in ascending order (R323). -/
def Chan.arrived (c : Chan) (i : Nat) : List SpoolIo :=
  (c.io.filter (fun e => e.phase == 0 && !e.write && !e.dead && e.burst == i)).takeWhile (fun e => e.answer == some 0)

/-- The most read bursts that an engine has outstanding (R311). -/
def maxReads : Nat := 64

/-- The engine may issue burst `i` of the channel (R252, R311, R324): the channel is the one it takes, fewer than 64 bursts are
outstanding, and no access waits for a tag. -/
def State.burstOpen (s : State) (ch i : Nat) : Bool :=
  s.burstReady ch && s.engineTakes (ch / 16) == some ch && s.engineReads (ch / 16) < maxReads && (s.rigInit (7 + ch / 16)).queue.isEmpty &&
  i == (s.chan ch).burst

/-- DATA_BURST (R252, R311, R323 to R325): the channel that the engine takes issues the reads of its next burst, number `i` of the
descriptor; or the data that have arrived of burst `i` are written on. A halted channel issues nothing. -/
def execDataBurst (ch : Nat) (write : Bool) (i : Nat) (s : State) : Host.Outcome State Fault Refusal :=
  guardUnit (ch < 64)
    (if write then
       (if s.chState ch = chActive then ((s.chan ch).arrived i).foldl (fun s e => s.writeOn ch e) s else s)
     else if s.burstOpen ch i then (s.takeEngine ch).issueBurst ch
     else s)

/-! ### The write-back (R315, R320) -/

/-- Word 0 has been answered OK (R315, R321, R324, R327): the counts, HEAD, the doorbell, and the next descriptor. -/
def State.descDone (s : State) (ch : Nat) : State :=
  let c := s.chan ch
  let pg := pgChannel ch
  let s := s.inc pg CH_DESC_CNT.COUNT
  let s := if c.status = 3 then (s.inc pg CH_BAD_CNT.COUNT).raiseCh ch CH_EVENT.BAD_DESC else s
  let s := if c.flag 30 then (s.raiseCh ch CH_EVENT.DONE).ringFrom pg (s.rdCh ch CH_DONE_SRC.SOURCE) (7 + ch / 16) else s
  let s := (s.advanceHead ch).releaseEngine ch
  if s.on pg CH_STATUS.STOP_PENDING then s.disableChan ch
  else
    s.nextFetch ch

/-- Address of the channel's descriptor. -/
def State.descAddr (s : State) (ch : Nat) : Nat := s.ringBase ch + s.descSize ch * s.rdCh ch CH_HEAD.INDEX

/-- The bytes of the last write (R315, R320): word 0 with OWN = 0 and STATUS; in a 32-byte descriptor the words are written back whole,
with DONE_BYTES in word 7. -/
def State.backBytes (s : State) (ch : Nat) : List Byte :=
  let c := s.chan ch
  let w0 := setF (setF (c.desc.getD 0 0) 31 1 0) 20 4 c.status
  if s.engLegacy (ch / 16) then (w0 :: ((c.desc.drop 1).take 6) ++ [BitVec.ofNat 32 c.done]).flatMap (fun w => bytesLE 4 w.toNat)
  else bytesLE 4 w0.toNat

/-- The write of `data` at `addr` that the write-back makes. -/
def State.issueBack (s : State) (ch addr : Nat) (data : List Byte) : State :=
  s.issueIo ch { id := 0, phase := 3, write := true, host := s.on (pgChannel ch) CH_CTRL.RING_HOST, addr := addr, bytes := data.length, data := data }

/-- The channel's write-back is at word 0 (`zero`), or at words 8 and 9, which a 32-byte descriptor lacks (R315, R320). -/
def State.backAt (s : State) (ch : Nat) (zero : Bool) : Bool :=
  s.chState ch == chActive &&
  (if zero then (s.chan ch).stage == .back0 || ((s.chan ch).stage == .back1 && s.engLegacy (ch / 16))
   else (s.chan ch).stage == .back1 && !s.engLegacy (ch / 16))

/-- WRITE_BACK (R315, R320, R321): once nothing of the descriptor is outstanding, the write of words 8 and 9 is issued, and once it has been
answered OK, that of word 0 (`zero`), whose answer completes the descriptor. -/
def execWriteBack (ch : Nat) (zero : Bool) (act : EngAct) (s : State) : Host.Outcome State Fault Refusal :=
  guardUnit (ch < 64)
    (if s.backAt ch zero = false then s
     else
       match act with
       | .issue =>
         if (s.chan ch).io ≠ [] then s
         else if zero then s.issueBack ch (s.descAddr ch) (s.backBytes ch)
         else s.issueBack ch (s.descAddr ch + 32) (bytesLE 4 (s.chan ch).done ++ bytesLE 4 s.stamp)
       | .take =>
         match (s.chan ch).answered (fun e => e.phase == 3) with
         | [] => s
         | es =>
           let s := s.dropIo ch es
           if zero then s.descDone ch else s.setChan ch { s.chan ch with stage := .back0 })

end Sys2Proof.Machine
end

