-- ==== Sys2Proof/Machine/Dispatch.lean ====
section
/-! DEFINITION. The meaning of each command: one arm per constructor of Instr. -/

namespace Sys2Proof.Machine

open Sys2Proof

def exec (i : Instr) (s : State) : Host.Outcome State Fault Refusal :=
  match i with
  | .registerWrite a addr v => Sys2Proof.Machine.execRegisterWrite a addr v s
  | .pageReset a pg => Sys2Proof.Machine.execPageReset a pg s
  | .pageResetDone pg => Sys2Proof.Machine.execPageResetDone pg s
  | .expertUnlock a pg => Sys2Proof.Machine.execExpertUnlock a pg s
  | .expertLock a pg => Sys2Proof.Machine.execExpertLock a pg s
  | .pageWorldWrite a pg v => Sys2Proof.Machine.execPageWorldWrite a pg v s
  | .legacyChange a pg legacy => Sys2Proof.Machine.execLegacyChange a pg legacy s
  | .partReset a v => Sys2Proof.Machine.execPartReset a v s
  | .functionLevelReset n => Sys2Proof.Machine.execFunctionLevelReset n s
  | .partResetDone n => Sys2Proof.Machine.execPartResetDone n s
  | .parityMismatch g => Sys2Proof.Machine.execParityMismatch g s
  | .groupProbe g misses => Sys2Proof.Machine.execGroupProbe g misses s
  | .clockCopyFailed c triad copy => Sys2Proof.Machine.execClockCopyFailed c triad copy s
  | .bondCensus found copies => Sys2Proof.Machine.execBondCensus found copies s
  | .supvReroute edits => Sys2Proof.Machine.execSupvReroute edits s
  | .pramHostRead a p => Sys2Proof.Machine.execPramHostRead a p s
  | .pramHostWrite a p v => Sys2Proof.Machine.execPramHostWrite a p v s
  | .riserConflict c r durPs v => Sys2Proof.Machine.execRiserConflict c r durPs v s
  | .riserRelease a c w v => Sys2Proof.Machine.execRiserRelease a c w v s
  | .riserConflictClear a c => Sys2Proof.Machine.execRiserConflictClear a c s
  | .planeReq p group plane prefetch defer => Sys2Proof.Machine.execPlaneReq p group plane prefetch defer s
  | .planeCmd a p v => Sys2Proof.Machine.execPlaneCmd a p v s
  | .planeFillDone p mis1 mis2 => Sys2Proof.Machine.execPlaneFillDone p mis1 mis2 s
  | .planeSwitch forced id edges => Sys2Proof.Machine.execPlaneSwitch forced id edges s
  | .switchDeferTimeout g => Sys2Proof.Machine.execSwitchDeferTimeout g s
  | .scrubPass upsets ms => Sys2Proof.Machine.execScrubPass upsets ms s
  | .frameRepairDone f => Sys2Proof.Machine.execFrameRepairDone f s
  | .repairTimeout f => Sys2Proof.Machine.execRepairTimeout f s
  | .sailReadback p upsets => Sys2Proof.Machine.execSailReadback p upsets s
  | .ctxPortReq p qmask ring index defer => Sys2Proof.Machine.execCtxPortReq p qmask ring index defer s
  | .ctxCmd a p v => Sys2Proof.Machine.execCtxCmd a p v s
  | .swapAccept p sel => Sys2Proof.Machine.execSwapAccept p sel s
  | .contextLoad p upsets parity waited => Sys2Proof.Machine.execContextLoad p upsets parity waited s
  | .swapEdge p m edge => Sys2Proof.Machine.execSwapEdge p m edge s
  | .contextSave pass => Sys2Proof.Machine.execContextSave pass s
  | .swapDeferTimeout p => Sys2Proof.Machine.execSwapDeferTimeout p s
  | .ctxAccRead a c v => Sys2Proof.Machine.execCtxAccRead a c v s
  | .ctxAccWrite a c v => Sys2Proof.Machine.execCtxAccWrite a c v s
  | .ctxAccDone c upsets => Sys2Proof.Machine.execCtxAccDone c upsets s
  | .ctxBufDataWrite a c v => Sys2Proof.Machine.execCtxBufDataWrite a c v s
  | .ctxBufDataRead a c => Sys2Proof.Machine.execCtxBufDataRead a c s
  | .ctxSplitWrite a c v => Sys2Proof.Machine.execCtxSplitWrite a c v s
  | .trackEnable a k => Sys2Proof.Machine.execTrackEnable a k s
  | .trackDisable a k => Sys2Proof.Machine.execTrackDisable a k s
  | .trackRestart a k => Sys2Proof.Machine.execTrackRestart a k s
  | .forceFault a k => Sys2Proof.Machine.execForceFault a k s
  | .trackPreset a k => Sys2Proof.Machine.execTrackPreset a k s
  | .quadEdge k A B ago => Sys2Proof.Machine.execQuadEdge k A B ago s
  | .pulseEdge k B ago => Sys2Proof.Machine.execPulseEdge k B ago s
  | .periodEdge k ago => Sys2Proof.Machine.execPeriodEdge k ago s
  | .zEdge k => Sys2Proof.Machine.execZEdge k s
  | .trackPositionWord p k val => Sys2Proof.Machine.execTrackPositionWord p k val s
  | .timeStepWord p k val => Sys2Proof.Machine.execTimeStepWord p k val s
  | .timeRateWord p k val => Sys2Proof.Machine.execTimeRateWord p k val s
  | .timeStepWrite a k v => Sys2Proof.Machine.execTimeStepWrite a k v s
  | .trackPortRead p k => Sys2Proof.Machine.execTrackPortRead p k s
  | .keepAlive k => Sys2Proof.Machine.execKeepAlive k s
  | .coastExpiry k => Sys2Proof.Machine.execCoastExpiry k s
  | .staleExpiry k => Sys2Proof.Machine.execStaleExpiry k s
  | .rangeOverflow k => Sys2Proof.Machine.execRangeOverflow k s
  | .trackSnapshot a k => Sys2Proof.Machine.execTrackSnapshot a k s
  | .bridleNsCapture a => Sys2Proof.Machine.execBridleNsCapture a s
  | .zLatchCapture a k => Sys2Proof.Machine.execZLatchCapture a k s
  | .stagedPairWrite a k off v => Sys2Proof.Machine.execStagedPairWrite a k off v s
  | .saveTracks a => Sys2Proof.Machine.execSaveTracks a s
  | .eraseTracks a => Sys2Proof.Machine.execEraseTracks a s
  | .markStage a idx w v => Sys2Proof.Machine.execMarkStage a idx w v s
  | .markCommit a idx v => Sys2Proof.Machine.execMarkCommit a idx v s
  | .actionStage a e w v => Sys2Proof.Machine.execActionStage a e w v s
  | .actionCommit a e v => Sys2Proof.Machine.execActionCommit a e v s
  | .markRangeWrite a k v => Sys2Proof.Machine.execMarkRangeWrite a k v s
  | .markCrossing k m => Sys2Proof.Machine.execMarkCrossing k m s
  | .predictiveCommit k m => Sys2Proof.Machine.execPredictiveCommit k m s
  | .predictLock k m => Sys2Proof.Machine.execPredictLock k m s
  | .comparatorRefill k => Sys2Proof.Machine.execComparatorRefill k s
  | .pinEdge n => Sys2Proof.Machine.execPinEdge n s
  | .stageDataWrite a v => Sys2Proof.Machine.execStageDataWrite a v s
  | .stagePortRead p reg => Sys2Proof.Machine.execStagePortRead p reg s
  | .govAlign a mode => Sys2Proof.Machine.execGovAlign a mode s
  | .tempConversion readings => Sys2Proof.Machine.execTempConversion readings s
  | .forcedSwitch c => Sys2Proof.Machine.execForcedSwitch c s
  | .govResume a mode => Sys2Proof.Machine.execGovResume a mode s
  | .prefetchDeferTimeout p => Sys2Proof.Machine.execPrefetchDeferTimeout p s
  | .bankPortReq p we addr size tag wdata => Sys2Proof.Machine.execBankPortReq p we addr size tag wdata s
  | .bankPortResponse p => Sys2Proof.Machine.execBankPortResponse p s
  | .bankRead q faults => Sys2Proof.Machine.execBankRead q faults s
  | .bankWrite q data faults => Sys2Proof.Machine.execBankWrite q data faults s
  | .mirrorRepairWrite b line => Sys2Proof.Machine.execMirrorRepairWrite b line s
  | .bankHandover a v => Sys2Proof.Machine.execBankHandover a v s
  | .retirePage a b page => Sys2Proof.Machine.execRetirePage a b page s
  | .retireBank a b => Sys2Proof.Machine.execRetireBank a b s
  | .mirrorCtrlWrite a v => Sys2Proof.Machine.execMirrorCtrlWrite a v s
  | .mirrorSyncDone grp page => Sys2Proof.Machine.execMirrorSyncDone grp page s
  | .bankBlockTest b => Sys2Proof.Machine.execBankBlockTest b s
  | .bankTestDone b fail => Sys2Proof.Machine.execBankTestDone b fail s
  | .ctxStoreTest c res => Sys2Proof.Machine.execCtxStoreTest c res s
  | .bankInitDone b => Sys2Proof.Machine.execBankInitDone b s
  | .rigRequest who dest write size data => Sys2Proof.Machine.execRigRequest who dest write size data s
  | .rigHop flit hdr bad answer => Sys2Proof.Machine.execRigHop flit hdr bad answer s
  | .rigResponse idx bad => Sys2Proof.Machine.execRigResponse idx bad s
  | .rigTimeout init tag => Sys2Proof.Machine.execRigTimeout init tag s
  | .tagQuarantineEnd init tag => Sys2Proof.Machine.execTagQuarantineEnd init tag s
  | .rigMsg init => Sys2Proof.Machine.execRigMsg init s
  | .routeTableWrite a node v => Sys2Proof.Machine.execRouteTableWrite a node v s
  | .epochFlip a => Sys2Proof.Machine.execEpochFlip a s
  | .nodeDisable a node => Sys2Proof.Machine.execNodeDisable a node s
  | .linkDisable a node v => Sys2Proof.Machine.execLinkDisable a node v s
  | .nodeDrained node port => Sys2Proof.Machine.execNodeDrained node port s
  | .domainDrain g => Sys2Proof.Machine.execDomainDrain g s
  | .drainTimeout g => Sys2Proof.Machine.execDrainTimeout g s
  | .domainClamp g => Sys2Proof.Machine.execDomainClamp g s
  | .domainPowerUp g => Sys2Proof.Machine.execDomainPowerUp g s
  | .rigBytesCapture a => Sys2Proof.Machine.execRigBytesCapture a s
  | .channelEnable a ch v => Sys2Proof.Machine.execChannelEnable a ch v s
  | .channelDisable a ch => Sys2Proof.Machine.execChannelDisable a ch s
  | .chKick a ch => Sys2Proof.Machine.execChKick a ch s
  | .chResume a ch => Sys2Proof.Machine.execChResume a ch s
  | .chSkip a ch => Sys2Proof.Machine.execChSkip a ch s
  | .chAbort a ch => Sys2Proof.Machine.execChAbort a ch s
  | .chStop a ch => Sys2Proof.Machine.execChStop a ch s
  | .chTrigger a ch => Sys2Proof.Machine.execChTrigger a ch s
  | .descFetch ch act => Sys2Proof.Machine.execDescFetch ch act s
  | .listFetch ch dst act => Sys2Proof.Machine.execListFetch ch dst act s
  | .dataBurst ch write idx => Sys2Proof.Machine.execDataBurst ch write idx s
  | .writeBack ch zero act => Sys2Proof.Machine.execWriteBack ch zero act s
  | .doorbell who secure v => Sys2Proof.Machine.execDoorbell who secure v s
  | .tgtClaim a t => Sys2Proof.Machine.execTgtClaim a t s
  | .tgtComplete a t v => Sys2Proof.Machine.execTgtComplete a t v s
  | .portClaim p cpr => Sys2Proof.Machine.execPortClaim p cpr s
  | .portComplete p src cpr => Sys2Proof.Machine.execPortComplete p src cpr s
  | .targetDisable a t v => Sys2Proof.Machine.execTargetDisable a t v s
  | .laneEnable a l v => Sys2Proof.Machine.execLaneEnable a l v s
  | .laneDisable a l => Sys2Proof.Machine.execLaneDisable a l s
  | .laneRetrain a l => Sys2Proof.Machine.execLaneRetrain a l s
  | .detectProbe l found => Sys2Proof.Machine.execDetectProbe l found s
  | .cdrLock l eye => Sys2Proof.Machine.execCdrLock l eye s
  | .bitLock l => Sys2Proof.Machine.execBitLock l s
  | .flitLock l => Sys2Proof.Machine.execFlitLock l s
  | .stageTimeout l => Sys2Proof.Machine.execStageTimeout l s
  | .backoffExpiry l => Sys2Proof.Machine.execBackoffExpiry l s
  | .lockLost l => Sys2Proof.Machine.execLockLost l s
  | .fullAdaptation l evals => Sys2Proof.Machine.execFullAdaptation l evals s
  | .trimRun l below at_ above => Sys2Proof.Machine.execTrimRun l below at_ above s
  | .dataPathCheck l eye => Sys2Proof.Machine.execDataPathCheck l eye s
  | .ctleStep l => Sys2Proof.Machine.execCtleStep l s
  | .qualityUpdate l eye mant exp => Sys2Proof.Machine.execQualityUpdate l eye mant exp s
  | .pllRelock q => Sys2Proof.Machine.execPllRelock q s
  | .calCapture a l => Sys2Proof.Machine.execCalCapture a l s
  | .calLoad a l => Sys2Proof.Machine.execCalLoad a l s
  | .calSave a l => Sys2Proof.Machine.execCalSave a l s
  | .calAutosave l => Sys2Proof.Machine.execCalAutosave l s
  | .perst low => Sys2Proof.Machine.execPerst low s
  | .portEnable a p v => Sys2Proof.Machine.execPortEnable a p v s
  | .portRetrain a p => Sys2Proof.Machine.execPortRetrain a p s
  | .dataFlit p bytes => Sys2Proof.Machine.execDataFlit p bytes s
  | .nullFlit p bytes => Sys2Proof.Machine.execNullFlit p bytes s
  | .replayRequest p bytes => Sys2Proof.Machine.execReplayRequest p bytes s
  | .ackTimeout p => Sys2Proof.Machine.execAckTimeout p s
  | .capFlit p accepting bytes => Sys2Proof.Machine.execCapFlit p accepting bytes s
  | .portActive p => Sys2Proof.Machine.execPortActive p s
  | .portDown p => Sys2Proof.Machine.execPortDown p s
  | .echoSend p sub => Sys2Proof.Machine.execEchoSend p sub s
  | .echoFlit p hdr answer t1 t2 t3 sub => Sys2Proof.Machine.execEchoFlit p hdr answer t1 t2 t3 sub s
  | .subscribe dev track ns inline => Sys2Proof.Machine.execSubscribe dev track ns inline s
  | .unsubscribe dev track => Sys2Proof.Machine.execUnsubscribe dev track s
  | .syncSend idx => Sys2Proof.Machine.execSyncSend idx s
  | .syncMessage track ns inline sub => Sys2Proof.Machine.execSyncMessage track ns inline sub s
  | .domainSwitch a d v => Sys2Proof.Machine.execDomainSwitch a d v s
  | .clkSwitchGo a => Sys2Proof.Machine.execClkSwitchGo a s
  | .switchDone d => Sys2Proof.Machine.execSwitchDone d s
  | .gateOpen a node => Sys2Proof.Machine.execGateOpen a node s
  | .gateClose a node => Sys2Proof.Machine.execGateClose a node s
  | .monitorWindow counts => Sys2Proof.Machine.execMonitorWindow counts s
  | .pllLockLoss src => Sys2Proof.Machine.execPllLockLoss src s
  | .fpllEnable a p v => Sys2Proof.Machine.execFpllEnable a p v s
  | .fpllLock p => Sys2Proof.Machine.execFpllLock p s
  | .vsetWrite a g v => Sys2Proof.Machine.execVsetWrite a g v s
  | .regFault g => Sys2Proof.Machine.execRegFault g s
  | .regResume a showing => Sys2Proof.Machine.execRegResume a showing s
  | .railSample mv => Sys2Proof.Machine.execRailSample mv s
  | .pfRelease a => Sys2Proof.Machine.execPfRelease a s
  | .frayUnitsWrite a v => Sys2Proof.Machine.execFrayUnitsWrite a v s
  | .loadStart a => Sys2Proof.Machine.execLoadStart a s
  | .loadAbort a => Sys2Proof.Machine.execLoadAbort a s
  | .headerCheck sfdp bytes => Sys2Proof.Machine.execHeaderCheck sfdp bytes s
  | .segmentVerify bytes => Sys2Proof.Machine.execSegmentVerify bytes s
  | .commitEdge p => Sys2Proof.Machine.execCommitEdge p s
  | .loadStreamWrite a off words => Sys2Proof.Machine.execLoadStreamWrite a off words s
  | .flockForward bytes answers => Sys2Proof.Machine.execFlockForward bytes answers s
  | .sourceRepair f header segs => Sys2Proof.Machine.execSourceRepair f header segs s
  | .kramWrite a slot => Sys2Proof.Machine.execKramWrite a slot s
  | .kramErase a slot => Sys2Proof.Machine.execKramErase a slot s
  | .powerGood straps vbat => Sys2Proof.Machine.execPowerGood straps vbat s
  | .resetN lowNs => Sys2Proof.Machine.execResetN lowNs s
  | .coldResetReq a => Sys2Proof.Machine.execColdResetReq a s
  | .warmResetReq a => Sys2Proof.Machine.execWarmResetReq a s
  | .devRunReq a => Sys2Proof.Machine.execDevRunReq a s
  | .devHoldReq req => Sys2Proof.Machine.execDevHoldReq req s
  | .devParkReq req => Sys2Proof.Machine.execDevParkReq req s
  | .rsRead a => Sys2Proof.Machine.execRsRead a s
  | .rsCommit a => Sys2Proof.Machine.execRsCommit a s
  | .rsErase a => Sys2Proof.Machine.execRsErase a s
  | .rsZeroise a v => Sys2Proof.Machine.execRsZeroise a v s
  | .pfStart a p => Sys2Proof.Machine.execPfStart a p s
  | .pfAbort a p => Sys2Proof.Machine.execPfAbort a p s
  | .sliceStart p => Sys2Proof.Machine.execSliceStart p s
  | .sliceEnd p misr => Sys2Proof.Machine.execSliceEnd p misr s
  | .pinInput n level => Sys2Proof.Machine.execPinInput n level s
  | .glitchFilterPass n => Sys2Proof.Machine.execGlitchFilterPass n s
  | .debounceExpiry n => Sys2Proof.Machine.execDebounceExpiry n s
  | .tripClear a => Sys2Proof.Machine.execTripClear a s
  | .pgReplug a g => Sys2Proof.Machine.execPgReplug a g s
  | .pgEnable a g v => Sys2Proof.Machine.execPgEnable a g v s
  | .pinCfgWrite a n v => Sys2Proof.Machine.execPinCfgWrite a n v s
  | .fioOutWrite a b hi v => Sys2Proof.Machine.execFioOutWrite a b hi v s
  | .madcConversion code => Sys2Proof.Machine.execMadcConversion code s
  | .jtagSamplePreload load => Sys2Proof.Machine.execJtagSamplePreload load s
  | .jtagExtest load => Sys2Proof.Machine.execJtagExtest load s
  | .pcieLinkUp width rate => Sys2Proof.Machine.execPcieLinkUp width rate s
  | .supervisorRunning routes => Sys2Proof.Machine.execSupervisorRunning routes s
  | .regRampDone g => Sys2Proof.Machine.execRegRampDone g s
  | .grounding => Sys2Proof.Machine.execGrounding s
  | .fuseBurn => Sys2Proof.Machine.execFuseBurn s
  | .bridleStart => Sys2Proof.Machine.execBridleStart s
  | .actionDispatch => Sys2Proof.Machine.execActionDispatch s
  | .staggerWindowBoundary => Sys2Proof.Machine.execStaggerWindowBoundary s
  | .thermalTrip => Sys2Proof.Machine.execThermalTrip s
  | .handoverTimeout => Sys2Proof.Machine.execHandoverTimeout s
  | .bankHandoverDone => Sys2Proof.Machine.execBankHandoverDone s
  | .backgroundInit => Sys2Proof.Machine.execBackgroundInit s
  | .epochDone => Sys2Proof.Machine.execEpochDone s
  | .intcRound => Sys2Proof.Machine.execIntcRound s
  | .blobRestore => Sys2Proof.Machine.execBlobRestore s
  | .pcieLinkReset => Sys2Proof.Machine.execPcieLinkReset s
  | .xaStable => Sys2Proof.Machine.execXaStable s
  | .xaTimeout => Sys2Proof.Machine.execXaTimeout s
  | .sysPllLock => Sys2Proof.Machine.execSysPllLock s
  | .pfWarn => Sys2Proof.Machine.execPfWarn s
  | .pfClear => Sys2Proof.Machine.execPfClear s
  | .odoBurn => Sys2Proof.Machine.execOdoBurn s
  | .setAddr => Sys2Proof.Machine.execSetAddr s
  | .literal => Sys2Proof.Machine.execLiteral s
  | .dictDefine => Sys2Proof.Machine.execDictDefine s
  | .dictWrite => Sys2Proof.Machine.execDictWrite s
  | .contextSeed => Sys2Proof.Machine.execContextSeed s
  | .region => Sys2Proof.Machine.execRegion s
  | .commit => Sys2Proof.Machine.execCommit s
  | .endRecord => Sys2Proof.Machine.execEndRecord s
  | .loadBackoffExpiry => Sys2Proof.Machine.execLoadBackoffExpiry s
  | .loadIdleTimeout => Sys2Proof.Machine.execLoadIdleTimeout s
  | .powerGoodFall => Sys2Proof.Machine.execPowerGoodFall s
  | .watchdogExpiry => Sys2Proof.Machine.execWatchdogExpiry s
  | .warmRestartDone => Sys2Proof.Machine.execWarmRestartDone s
  | .parkEntryDone => Sys2Proof.Machine.execParkEntryDone s
  | .wakeDone => Sys2Proof.Machine.execWakeDone s
  | .rsCommitDone => Sys2Proof.Machine.execRsCommitDone s
  | .tamper => Sys2Proof.Machine.execTamper s
  | .sweepStart => Sys2Proof.Machine.execSweepStart s
  | .jtagBypass => Sys2Proof.Machine.execJtagBypass s
  | .jtagIdcode => Sys2Proof.Machine.execJtagIdcode s
  | .jtagHighz => Sys2Proof.Machine.execJtagHighz s
  | .pcieTrainReady => Sys2Proof.Machine.execPcieTrainReady s
  | .bootAttempt => Sys2Proof.Machine.execBootAttempt s
  | .rsEraseDone => Sys2Proof.Machine.execRsEraseDone s

end Sys2Proof.Machine
end

