-- ==== Sys2Proof/Machine/Tick.lean ====
section
/-! DEFINITION. One nanosecond in which no command comes (log entry 1). -/

namespace Sys2Proof.Machine

open Sys2Proof

/-- An output at a received edge (R535): it takes the value that has one edge to go, and otherwise keeps its own. -/
def showDue (out : Nat) (ds : List DueOut) : Nat := ((ds.find? (fun d => d.edges ≤ 1)).map (·.value)).getD out

/-- The values still to show after that edge. -/
def oneLess (ds : List DueOut) : List DueOut := (ds.filter (fun d => 1 < d.edges)).map (fun d => { d with edges := d.edges - 1 })

/-- The ports of panel `p` at an edge that the panel receives (R256, R345, R535): one-cycle outputs and the bank port's response end, those
that have fallen due show, the other outputs take their values, and CPR is sampled. -/
def State.portEdge (s : State) (p : Nat) : State :=
  let s := s.takeCpr p
  let s := s.setBank (portBank p) { s.bank (portBank p) with resp := none }
  let x := s.panel p
  s.setPanel p { x with edgeAt := s.ns, pulses := x.due, due := {}, ports := s.portOut p, irq := s.portIrq p
                        claim := showDue x.claim x.claimDue, claimDue := oneLess x.claimDue
                        trackOut := showDue x.trackOut x.trackDue, trackDue := oneLess x.trackDue
                        stageOut := showDue x.stageOut x.stageDue, stageDue := oneLess x.stageDue }

/-- The ports of every panel that receives its clock. -/
def State.portEdges (s : State) : State :=
  ((s.panels.map (·.1)).filter s.clkRun).foldl State.portEdge { s with planeNow := [] }

/-- The stages of READY_SUM that the device finds for itself (R464, R466): BANKS once every bank is ready or failed, PLANE0 once every
region that an image has defined is committed, or at END without one (a commit edge sets it at once), and FULL once no page waits. No
page but a panel page stops waiting before the stages of mask 0x17F have come. Log entry 31. -/
def State.judgeReady (s : State) : State :=
  let s := if s.initRunning = true ∧ s.on pgReady READY_SUM.BANKS = false ∧ s.allBanksReady = true then s.reachStage READY_SUM.BANKS else s
  let s := if s.on pgReady READY_SUM.PLANE0 = false ∧ (s.load.ended || (List.range 64).any s.regionDefined) = true ∧ s.allCommitted = true
    then s.reachStage READY_SUM.PLANE0 else s
  let stages := (s.reg (pgReady * 4096 + READY_SUM.SUPV.off)).toNat
  if s.on pgReady READY_SUM.FULL = false ∧ Nat.land stages 0x17F = 0x17F ∧ allPages.any s.waits = false then s.reachStage READY_SUM.FULL
  else s

/-- A nanosecond passes: ECHO requests that have fallen due leave (R388), time advances, stalls are counted (R297, R299), credits return (R294), panel ports show, the Bridle runs, lanes and Tether ports send what is due (R368, R378, R387), and a
requested reset acts (R467). Without power
nothing happens. -/
def State.tick (s : State) : State :=
  if s.powerGood then
    let s := s.sendEchoes
    let t := { s with ns := s.ns + 1 }
    let n := s.rigCycles t.ns - s.rigCycles s.ns
    ((t.countStalls n).rigTick n).portEdges.bridleCycle.trainSends.portSends.judgeReady.takeReset
  else s

end Sys2Proof.Machine
end

