-- ==== Sys2Proof/Safety.lean ====
section
/-! DEFINITION. What a safe state is: the well-formedness that every command and every tick keeps. -/

namespace Sys2Proof.Machine

open Sys2Proof

/-- The sparse tables that hold the machine are in their canonical form. -/
def State.wf (s : State) : Bool :=
  Memory.wf s.mem && sorted regReset s.regs && sorted (fun _ => (0 : BitVec 16)) s.crcDiff

/-- The step goes on: it answers a next state. -/
def State.runs (s : State) : Prop := ∃ t, step s = .next t

/-- A read by `w` of the register at page offset `off` gets past the checks of R42, R48 and R465. -/
abbrev State.shows (s : State) (w : Who) (pg off : Nat) : Prop :=
  s.reachGate w false pg off = .pass ∧ s.on (headerPage pg) PAGE_RESET.BUSY = false ∧ s.initialising pg = false

/-! ### Which rows reach which state -/

/-- The rows through which a register write of any page, or a P or C reset, can come. -/
def rowsWide (i : Instr) : Bool :=
  match i with
  | .registerWrite .. | .bankRead .. | .bankWrite .. | .rigHop .. | .descFetch .. | .listFetch .. | .dataBurst ..
  | .writeBack .. | .echoFlit .. | .regFault .. | .powerGood .. | .powerGoodFall .. | .resetN .. => true
  | _ => false

/-- The other rows that write the scratchpad: mirrors, initialisation, the end of a handover, and what waited for a block under test. -/
def rowsMovesBanks (i : Instr) : Bool :=
  match i with
  | .mirrorRepairWrite .. | .mirrorSyncDone .. | .bankInitDone .. | .bankHandoverDone .. | .bankTestDone .. => true
  | _ => false

/-- The other rows that write stored contexts. -/
def rowsMovesContexts (i : Instr) : Bool :=
  match i with
  | .pageReset .. | .partReset .. | .functionLevelReset .. | .bondCensus .. | .contextLoad .. | .contextSave ..
  | .ctxAccDone .. | .forcedSwitch .. | .perst .. | .railSample .. | .commitEdge .. | .devRunReq .. | .devHoldReq ..
  | .devParkReq .. | .pfStart .. | .pfAbort .. | .sliceStart .. | .sliceEnd .. | .grounding .. | .thermalTrip ..
  | .contextSeed .. | .region .. | .watchdogExpiry .. | .wakeDone .. => true
  | _ => false

/-- The other rows that write the stored frames or their marks. -/
def rowsMovesFrames (i : Instr) : Bool :=
  match i with
  | .pageReset .. | .partReset .. | .functionLevelReset .. | .bondCensus .. | .planeFillDone .. | .scrubPass ..
  | .frameRepairDone .. | .repairTimeout .. | .sailReadback .. | .contextLoad .. | .ctxAccDone .. | .forcedSwitch ..
  | .perst .. | .railSample .. | .loadStart .. | .loadAbort .. | .commitEdge .. | .sourceRepair .. | .devRunReq ..
  | .devHoldReq .. | .devParkReq .. | .pfStart .. | .pfAbort .. | .sliceEnd .. | .grounding .. | .thermalTrip ..
  | .literal .. | .dictWrite .. | .region .. | .loadBackoffExpiry .. | .watchdogExpiry .. | .wakeDone .. | .bootAttempt .. => true
  | _ => false

/-- The other rows that act on a Spool channel. -/
def rowsMovesChannels (i : Instr) : Bool :=
  match i with
  | .pageReset .. | .partReset .. | .functionLevelReset .. | .channelEnable .. | .channelDisable .. | .chKick ..
  | .chResume .. | .chSkip .. | .chAbort .. | .chStop .. | .chTrigger .. | .perst .. | .actionDispatch ..
  | .watchdogExpiry .. => true
  | _ => false

/-- The other rows that write the retained store. -/
def rowsMovesStore (i : Instr) : Bool :=
  match i with
  | .rsZeroise .. | .rsCommitDone .. | .rsEraseDone .. | .tamper .. => true
  | _ => false

/-- The other rows that write key RAM. -/
def rowsMovesKeys (i : Instr) : Bool :=
  match i with
  | .kramWrite .. | .kramErase .. | .rsZeroise .. | .tamper .. => true
  | _ => false

/-- The rows that burn fuses. -/
def rowsBurns (i : Instr) : Bool :=
  match i with
  | .fuseBurn .. | .odoBurn .. => true
  | _ => false

/-- The JTAG rows. -/
def rowsJtags (i : Instr) : Bool :=
  match i with
  | .jtagBypass .. | .jtagIdcode .. | .jtagSamplePreload .. | .jtagExtest .. | .jtagHighz .. => true
  | _ => false

end Sys2Proof.Machine
end

