-- ==== Sys2Proof/WellFormed.lean ====
section
/-! DEFINITION. Well-formed commands: every operand names a unit that the device has. A meaning faults on any other (log entry 4). -/

namespace Sys2Proof

open Sys2Proof.Machine

/-- The operands of a command name units of the device. -/
def Instr.wf : Instr → Bool
  | .registerWrite _ _ _ => true
  | .pageReset _ pg => headerAt pg
  | .pageResetDone pg => headed pg
  | .expertUnlock _ pg => headerAt pg
  | .expertLock _ pg => headerAt pg
  | .pageWorldWrite _ pg _ => headerAt pg
  | .legacyChange _ pg _ => headerAt pg
  | .partReset _ _ => true
  | .functionLevelReset n => n < 8
  | .partResetDone n => n < 8
  | .parityMismatch g => groupOk g
  | .groupProbe g _ => groupOk g
  | .clockCopyFailed c triad copy => c < 288 && triadOk triad copy
  | .bondCensus found copies => found.all (fun f => groupOk f.1 && f.2 < 68) && copies.all (fun x => x.1 < 288 && triadOk x.2.1 x.2.2)
  | .supvReroute edits => edits.all (fun e => e.1 < 128 && e.2.1 < 192 && e.2.2 < 64)
  | .pramHostRead _ p => p < 576
  | .pramHostWrite _ p _ => p < 576
  | .riserConflict c r _ _ => c < 288 && r < 1024
  | .riserRelease _ c w _ => c < 288 && w < 32
  | .riserConflictClear _ c => c < 288
  | .planeReq p group plane _ _ => p < 576 && group < 256 && plane < 8
  | .planeCmd _ p _ => p < 576
  | .planeFillDone p _ _ => p < 576
  | .planeSwitch forced id _ => if forced then id < 576 else id < 256
  | .switchDeferTimeout g => g < 256
  | .scrubPass _ _ => true
  | .frameRepairDone a => a < 2 ^ 20 && a / 2 ^ 10 % 2 ^ 9 < 288
  | .repairTimeout a => a < 2 ^ 20 && a / 2 ^ 10 % 2 ^ 9 < 288
  | .sailReadback p _ => p < 576
  | .ctxPortReq p qmask _ index _ => p < 576 && qmask < 16 && index < 256
  | .ctxCmd _ p _ => p < 576
  | .swapAccept p _ => p < 576
  | .contextLoad p upsets _ _ => p < 576 && upsets.all (fun u => u.slot < 259 && u.row < 8)
  | .swapEdge p m e => p < 576 && m < 16 && e.panel == p
  | .contextSave pass => pass.p < 576
  | .swapDeferTimeout p => p < 576
  | .ctxAccRead _ c _ => c < 288
  | .ctxAccWrite _ c _ => c < 288
  | .ctxAccDone c upsets => c < 288 && upsets.all (fun u => u.slot < 259 && u.row < 8)
  | .ctxBufDataWrite _ c _ => c < 288
  | .ctxBufDataRead _ c => c < 288
  | .ctxSplitWrite _ c _ => c < 288
  | .trackEnable _ k => k < 64
  | .trackDisable _ k => k < 64
  | .trackRestart _ k => k < 64
  | .forceFault _ k => k < 64
  | .trackPreset _ k => k < 64
  | .quadEdge k _ _ _ => k < 64
  | .pulseEdge k _ _ => k < 64
  | .periodEdge k _ => k < 64
  | .zEdge k => k < 64
  | .trackPositionWord p k _ => p < 576 && k < 64
  | .timeStepWord p k _ => p < 576 && k < 64
  | .timeRateWord p k _ => p < 576 && k < 64
  | .timeStepWrite _ k _ => k < 64
  | .trackPortRead p k => p < 576 && k < 64
  | .keepAlive k => k < 64
  | .coastExpiry k => k < 64
  | .staleExpiry k => k < 64
  | .rangeOverflow k => k < 64
  | .trackSnapshot _ k => k < 64
  | .bridleNsCapture _ => true
  | .zLatchCapture _ k => k < 64
  | .stagedPairWrite _ k off _ => k < 64 && isPairHi off
  | .saveTracks _ => true
  | .eraseTracks _ => true
  | .markStage _ i w _ => i < 16384 && 1 ≤ w && w < 7
  | .markCommit _ i _ => i < 16384
  | .actionStage _ e w _ => e < 4096 && 1 ≤ w && w < 16
  | .actionCommit _ e _ => e < 4096
  | .markRangeWrite _ k _ => k < 64
  | .markCrossing k m => k < 64 && m < 16384
  | .predictiveCommit k m => k < 64 && m < 16384
  | .predictLock k m => k < 64 && m < 16384
  | .comparatorRefill k => k < 64
  | .pinEdge n => n < 624
  | .stageDataWrite _ _ => true
  | .stagePortRead p reg => p < 576 && reg < 256
  | .govAlign _ _ => true
  | .tempConversion rs => rs.all (fun r => r.1 < 288)
  | .forcedSwitch c => c < 288
  | .govResume _ _ => true
  | .prefetchDeferTimeout p => p < 576
  | .bankPortReq p _ addr size tag _ => p < 576 && addr < 0x80000 && size < 128 && tag < 64
  | .bankPortResponse p => p < 576
  | .bankRead q fs => bankReqOk q && fs.all (fun f => f.line < 576 * 8192)
  | .bankWrite q _ fs => bankReqOk q && fs.all (fun f => f.line < 576 * 8192)
  | .mirrorRepairWrite b line => b < 576 && line < 8192
  | .bankHandover _ _ => true
  | .retirePage _ _ _ => true
  | .retireBank _ _ => true
  | .mirrorCtrlWrite _ _ => true
  | .mirrorSyncDone g page => g < 36 && page < 8
  | .bankBlockTest b => b < 576
  | .bankTestDone b _ => b < 576
  | .ctxStoreTest c _ => c < 288
  | .bankInitDone b => b < 576
  | .rigRequest who _ _ _ _ => whoInit who < 90
  | .rigHop _ _ _ ans => ans.code < 14
  | .rigResponse _ _ => true
  | .rigTimeout i tag => i < 90 && tag < 64
  | .tagQuarantineEnd i tag => i < 90 && tag < 64
  | .rigMsg init => init < 90
  | .routeTableWrite _ n _ => n < 128
  | .epochFlip _ => true
  | .nodeDisable _ n => n < 128
  | .linkDisable _ n _ => n < 128
  | .nodeDrained n port => n < 128 && port.all (· < 6)
  | .domainDrain g => 4 ≤ g && g < 16
  | .drainTimeout g => 4 ≤ g && g < 16
  | .domainClamp g => 4 ≤ g && g < 16
  | .domainPowerUp g => 4 ≤ g && g < 16
  | .rigBytesCapture _ => true
  | .channelEnable _ ch _ => ch < 64
  | .channelDisable _ ch => ch < 64
  | .chKick _ ch => ch < 64
  | .chResume _ ch => ch < 64
  | .chSkip _ ch => ch < 64
  | .chAbort _ ch => ch < 64
  | .chStop _ ch => ch < 64
  | .chTrigger _ ch => ch < 64
  | .descFetch ch _ => ch < 64
  | .listFetch ch _ _ => ch < 64
  | .dataBurst ch _ _ => ch < 64
  | .writeBack ch _ _ => ch < 64
  | .doorbell _ _ _ => true
  | .tgtClaim _ t => t < 32
  | .tgtComplete _ t _ => t < 32
  | .portClaim p cpr => p < 576 && cpr < 16
  | .portComplete p src cpr => p < 576 && cpr < 16 && src < 4096
  | .targetDisable _ t _ => t < 32
  | .laneEnable _ l _ => l < 32
  | .laneDisable _ l => l < 32
  | .laneRetrain _ l => l < 32
  | .detectProbe l _ => l < 32
  | .cdrLock l _ => l < 32
  | .bitLock l => l < 32
  | .flitLock l => l < 32
  | .stageTimeout l => l < 32
  | .backoffExpiry l => l < 32
  | .lockLost l => l < 32
  | .fullAdaptation l evals => l < 32 && evals.length == 533
  | .trimRun l _ _ _ => l < 32
  | .dataPathCheck l _ => l < 32
  | .ctleStep l => l < 32
  | .qualityUpdate l _ mant _ => l < 32 && mant < 10
  | .pllRelock q => q < 8
  | .calCapture _ l => l < 32
  | .calLoad _ l => l < 32
  | .calSave _ l => l < 32
  | .calAutosave l => l < 32
  | .perst _ => true
  | .portEnable _ p _ => p < 8
  | .portRetrain _ p => p < 8
  | .dataFlit p bytes => flitOk p bytes
  | .nullFlit p bytes => flitOk p bytes
  | .replayRequest p bytes => flitOk p bytes
  | .ackTimeout p => p < 8
  | .capFlit p _ bytes => flitOk p bytes
  | .portActive p => p < 8
  | .portDown p => p < 8
  | .echoSend p _ => p < 8
  | .echoFlit p bytes _ _ _ _ _ => p < 8 && bytes.length == 256
  | .subscribe _ _ _ _ => true
  | .unsubscribe _ _ => true
  | .syncSend i => i < 24
  | .syncMessage _ _ _ _ => true
  | .domainSwitch _ d _ => d < 320
  | .clkSwitchGo _ => true
  | .switchDone d => d < 320
  | .gateOpen _ _ => true
  | .gateClose _ _ => true
  | .monitorWindow counts => counts.all (fun c => c.1 < 6 || (8 ≤ c.1 && c.1 < 32))
  | .pllLockLoss src => src == 4 || src == 5 || (8 ≤ src && src < 32)
  | .fpllEnable _ p _ => p < 24
  | .fpllLock p => p < 24
  | .vsetWrite _ g _ => g < 16
  | .regFault g => g < 16
  | .regResume _ _ => true
  | .railSample mv => mv.all (fun e => e.1 < 35 && e.2 < 8192)
  | .pfRelease _ => true
  | .frayUnitsWrite _ _ => true
  | .loadStart _ => true
  | .loadAbort _ => true
  | .headerCheck _ _ => true
  | .segmentVerify _ => true
  | .commitEdge p => p < 576
  | .loadStreamWrite _ off words => 0x200 ≤ off && off + 4 * words.length ≤ 0x400 && off % 4 == 0
  | .flockForward _ _ => true
  | .sourceRepair a _ _ => a < 2 ^ 20 && a / 2 ^ 10 % 2 ^ 9 < 288
  | .kramWrite _ _ => true
  | .kramErase _ _ => true
  | .powerGood _ _ => true
  | .resetN _ => true
  | .coldResetReq _ => true
  | .warmResetReq _ => true
  | .devRunReq _ => true
  | .devHoldReq _ => true
  | .devParkReq _ => true
  | .rsRead _ => true
  | .rsCommit _ => true
  | .rsErase _ => true
  | .rsZeroise _ _ => true
  | .pfStart _ _ => true
  | .pfAbort _ _ => true
  | .sliceStart p => p < 576
  | .sliceEnd p _ => p < 576
  | .pinInput n _ => n < 624
  | .glitchFilterPass n => n < 624
  | .debounceExpiry n => n < 624
  | .tripClear _ => true
  | .pgReplug _ _ => true
  | .pgEnable _ g _ => g < 32
  | .pinCfgWrite _ n _ => n < 624
  | .fioOutWrite _ b _ _ => b < 13
  | .madcConversion _ => true
  | .jtagSamplePreload _ => true
  | .jtagExtest _ => true
  | .pcieLinkUp width rate => [16, 8, 4, 1].contains width && 2 ≤ rate.rate && rate.rate < 8
  | .supervisorRunning routes => routes.all (fun r => r.1 < 128 && r.2.1 < 192)
  | .regRampDone g => g < 16
  | .grounding => true
  | .fuseBurn => true
  | .bridleStart => true
  | .actionDispatch => true
  | .staggerWindowBoundary => true
  | .thermalTrip => true
  | .handoverTimeout => true
  | .bankHandoverDone => true
  | .backgroundInit => true
  | .epochDone => true
  | .intcRound => true
  | .blobRestore => true
  | .pcieLinkReset => true
  | .xaStable => true
  | .xaTimeout => true
  | .sysPllLock => true
  | .pfWarn => true
  | .pfClear => true
  | .odoBurn => true
  | .setAddr => true
  | .literal => true
  | .dictDefine => true
  | .dictWrite => true
  | .contextSeed => true
  | .region => true
  | .commit => true
  | .endRecord => true
  | .loadBackoffExpiry => true
  | .loadIdleTimeout => true
  | .powerGoodFall => true
  | .watchdogExpiry => true
  | .warmRestartDone => true
  | .parkEntryDone => true
  | .wakeDone => true
  | .rsCommitDone => true
  | .tamper => true
  | .sweepStart => true
  | .jtagBypass => true
  | .jtagIdcode => true
  | .jtagHighz => true
  | .pcieTrainReady => true
  | .bootAttempt => true
  | .rsEraseDone => true

end Sys2Proof
end

