-- ==== Sys2Proof/Certificates/Slice0/Obligations.lean ====
section
/-! DEFINITION. The statements for the provers. -/

open Sys2Proof Sys2Proof.Machine

/-- For every command c, list of commands rest and state s: a step of s with c :: rest waiting is exec of c on s with rest
waiting. (INDEX.md (commands), 00_scope.md.) -/
def Obligations.StepRunsFront : Prop :=
  ∀ (c : Instr) (rest : List Instr) (s : State), step { s with pending := c :: rest } = exec c { s with pending := rest }

/-- With no command waiting a step answers the state after one nanosecond (tick) when power good is high, and the same state when
it is low. That a step without a command is one nanosecond is the model's choice (log entry 1). (19_startup_and_reset.md (R463),
log entry 1.) -/
def Obligations.EmptyQueueTicks : Prop :=
  (∀ s : State, s.pending = [] → s.powerGood = false → step s = .next s) ∧
  (∀ s : State, s.pending = [] → s.powerGood = true → step s = .next s.tick)

/-- For every command i and state s: if i is well formed, exec answers a next state; otherwise it faults with noSuchUnit (log
entry 4). No command is ever refused. (00_scope.md (R3), 02_host_view.md (R44, R45), log entry 4.) -/
def Obligations.WellFormedCommandsRun : Prop :=
  ∀ (i : Instr) (s : State),
    (i.wf = true → ∃ t, exec i s = .next t) ∧ (i.wf = false → exec i s = .fault .noSuchUnit)

/-- A written value that lies outside the range of a writable field is refused. A register write that the checks refuse, or that a
rule of the register refuses, leaves every register but PAGE_ERRSUM and PAGE_REJCNT of the page whose header governs it, sets
REJECT there, counts one in PAGE_REJCNT up to 65,535, and changes nothing else but the answer that its sender sees. (R7.) -/
def Obligations.RejectedWriteLeavesRegister : Prop :=
  (∀ (s : State) (a : Access) (pg off : Nat) (v : Word) (k : PageKind) (i : Nat) (r : FieldRow),
    pageOf pg = some (k, i) → s.reachGate a.who true pg off = .pass → r ∈ rowsAt k i off → r.acc = .rw →
    inRanges r.rng (getF v r.fld.lo r.fld.len) = false → s.writeGate a pg off v = .reject) ∧
  (∀ (s : State) (a : Access) (addr : Nat) (v : Word) (k : PageKind) (i : Nat),
    addr < 2 ^ 26 → pageOf (addr / 4096) = some (k, i) →
    ¬ (addr / 4096 = pgIntc 0 ∧ addr % 4096 / 4 * 4 = INTC_DOORBELL_S.SOURCE.off) →
    ¬ (addr / 4096 = pgIntc 1 ∧ addr % 4096 / 4 * 4 = INTC_DOORBELL_NS.SOURCE.off) →
    regDeny a k i (addr / 4096) (addr % 4096 / 4 * 4) v true s = none →
    (s.writeGate a (addr / 4096) (addr % 4096 / 4 * 4) v = .reject ∨
      (s.writeGate a (addr / 4096) (addr % 4096 / 4 * 4) v = .pass ∧
        regBody a k i (addr / 4096) (addr % 4096 / 4 * 4) v (s.respond .ok 0) = none)) →
    ∃ t, exec (.registerWrite a addr v) s = .next t ∧
      t = { s with regs := t.regs, resp := ⟨.rejected, 0⟩ } ∧
      t.rd (headerPage (addr / 4096)) PAGE_ERRSUM.REJECT = 1 ∧
      t.rd (headerPage (addr / 4096)) PAGE_REJCNT.COUNT =
        min 65535 (s.rd (headerPage (addr / 4096)) PAGE_REJCNT.COUNT + 1) ∧
      ∀ b, b ≠ headerPage (addr / 4096) * 4096 + PAGE_ERRSUM.REJECT.off →
        b ≠ headerPage (addr / 4096) * 4096 + PAGE_REJCNT.COUNT.off → t.reg b = s.reg b)

/-- A write that reaches its page is refused when it lacks a byte enable, sets a bit that no field of the register covers, goes to
the IDENT or READY page, goes past the header while the page is under function reset, goes to an expert register that is locked,
or writes 0 to a timeout field (five registers are named). (00_scope.md (R8, R10), 02_host_view.md (R42, R43, R47, R50).) -/
def Obligations.WritesAreChecked : Prop :=
  (∀ (s : State) (a : Access) (pg off : Nat) (v : Word) (k : PageKind) (i : Nat),
    pageOf pg = some (k, i) → s.reachGate a.who true pg off = .pass →
    (a.be ≠ 15 ∨ v &&& ~~~ usedBits (rowsAt k i off) ≠ 0 ∨ k = .ident ∨ k = .ready ∨
      (0x40 ≤ off ∧ s.on (headerPage pg) PAGE_RESET.BUSY = true) ∨
      (hasHeader k = true ∧ 0x400 ≤ off ∧ s.on (headerPage pg) PAGE_EXPERT.UNLOCKED = false)) →
    s.writeGate a pg off v = .reject) ∧
  (∀ (s : State) (a : Access) (x : Nat × Fld),
    x ∈ [(pgRig, RIG_INIT_TIMEOUT.US), (pgRig, RIG_DRAIN_TIMEOUT.US), (pgLoad, LOAD_IDLE_TIMEOUT.MS), (pgScrub, SCRUB_REPAIR_TIMEOUT.MS),
      (pgTether 0, TETHER_TIMERS.ACK_TIMEOUT_US), (pgTether 7, TETHER_TIMERS.ACK_TIMEOUT_US)] →
    s.reachGate a.who true x.1 x.2.off = .pass → s.writeGate a x.1 x.2.off 0 = .reject)

/-- A write that passes the checks to a register of the SCRUB or the SUPV_MBOX page beyond the header answers OK; an RW field
takes the written value, an RO field keeps its value, a W1C field loses the written ones; a counter, to which 0 is written, and a
W1C field keep what the hardware added or set in the same cycle (Access.same, R11); every other register and everything else is
unchanged. (00_scope.md (R4, R11), 02_host_view.md (R42).) -/
def Obligations.AcceptedWriteStoresFields : Prop :=
  ∀ (s : State) (a : Access) (pg off : Nat) (v : Word) (k : PageKind),
    (pg = pgScrub ∧ k = .scrub ∨ pg = pgSupv ∧ k = .supvMbox) → 0x40 ≤ off → off < 4096 → off % 4 = 0 →
    s.writeGate a pg off v = .pass →
    ∃ t, exec (.registerWrite a (pg * 4096 + off) v) s = .next t ∧ t = { s with regs := t.regs, resp := ⟨.ok, 0⟩ } ∧
      (∀ r ∈ rowsAt k 0 off, getF (t.reg (pg * 4096 + off)) r.fld.lo r.fld.len =
        match r.acc with
        | .rw | .rwl => if r.acc = .rw ∧ r.rng = [(0, 0)]
            then min (getF (s.reg (pg * 4096 + off)) r.fld.lo r.fld.len) (getF a.same r.fld.lo r.fld.len) else getF v r.fld.lo r.fld.len
        | .w1c => (getF (s.reg (pg * 4096 + off)) r.fld.lo r.fld.len -
            (getF (s.reg (pg * 4096 + off)) r.fld.lo r.fld.len &&& getF v r.fld.lo r.fld.len)) |||
            (getF (s.reg (pg * 4096 + off)) r.fld.lo r.fld.len &&& getF a.same r.fld.lo r.fld.len)
        | .w1s => getF (s.reg (pg * 4096 + off)) r.fld.lo r.fld.len ||| getF v r.fld.lo r.fld.len
        | .ro | .wo => getF (s.reg (pg * 4096 + off)) r.fld.lo r.fld.len) ∧
      ∀ b, b ≠ pg * 4096 + off → t.reg b = s.reg b

/-- Where the checks pass: the PAGE_RESET key of a resettable, initialised page sets BUSY, and the end of the reset clears it; the
unlock key sets UNLOCKED of a page with expert registers and 0 clears it; a write of PAGE_WORLD that keeps SECURE or that the page
admits sets SECURE and ORs LOCK; a LEGACY change of the interrupt controller with DELIVER = 0 is taken, and LEGACY = 1 brings
every event counter above 15 down to 15. Unlocking, locking and PAGE_WORLD change no other register. (02_host_view.md (R46, R48,
R50, R62, R63).) -/
def Obligations.PageHeaderCommands : Prop :=
  (∀ (s : State) (a : Access) (pg : Nat) (k : PageKind) (i : Nat),
    headed pg = true → pageOf pg = some (k, i) → capResettable k = true → s.writeGate a pg PAGE_RESET.KEY.off 0x5A01 = .pass →
    s.on pg PAGE_RESET.BUSY = false → s.initialising pg = false →
    ∃ t, exec (.pageReset a pg) s = .next t ∧ t.rd pg PAGE_RESET.BUSY = 1) ∧
  (∀ (s : State) (pg : Nat),
    headed pg = true → s.on pg PAGE_RESET.BUSY = true → (pg ≠ pgPcie ∨ s.perstLow = false) →
    ∃ t, exec (.pageResetDone pg) s = .next t ∧ t.rd pg PAGE_RESET.BUSY = 0) ∧
  (∀ (s : State) (a : Access) (pg : Nat) (k : PageKind) (i : Nat),
    headed pg = true → pageOf pg = some (k, i) → capExpert k = true → s.writeGate a pg PAGE_EXPERT.KEY.off 0xE0E0 = .pass →
    ∃ t, exec (.expertUnlock a pg) s = .next t ∧ t.rd pg PAGE_EXPERT.UNLOCKED = 1 ∧ t.resp = ⟨.ok, 0⟩ ∧
      ∀ b, b ≠ pg * 4096 + PAGE_EXPERT.UNLOCKED.off → t.reg b = s.reg b) ∧
  (∀ (s : State) (a : Access) (pg : Nat),
    headed pg = true → s.writeGate a pg PAGE_EXPERT.KEY.off 0 = .pass →
    ∃ t, exec (.expertLock a pg) s = .next t ∧ t.rd pg PAGE_EXPERT.UNLOCKED = 0 ∧ t.resp = ⟨.ok, 0⟩ ∧
      ∀ b, b ≠ pg * 4096 + PAGE_EXPERT.UNLOCKED.off → t.reg b = s.reg b) ∧
  (∀ (s : State) (a : Access) (pg : Nat) (v : Word) (k : PageKind) (i : Nat),
    headed pg = true → pageOf pg = some (k, i) → s.writeGate a pg PAGE_WORLD.SECURE.off v = .pass →
    (capWorldSet k = true ∨ getF v 0 1 = s.rd pg PAGE_WORLD.SECURE) →
    ∃ t, exec (.pageWorldWrite a pg v) s = .next t ∧ t.rd pg PAGE_WORLD.SECURE = getF v 0 1 ∧
      t.rd pg PAGE_WORLD.LOCK = s.rd pg PAGE_WORLD.LOCK ||| getF v 1 1 ∧
      ∀ b, b ≠ pg * 4096 + PAGE_WORLD.SECURE.off → t.reg b = s.reg b) ∧
  (∀ (s : State) (a : Access) (legacy : Bool),
    s.wf = true → s.writeGate a (pgIntc 0) PAGE_COMPAT.LEGACY.off (BitVec.ofNat 32 (bnat legacy)) = .pass →
    s.on (pgIntc 0) INTC_GLOBAL.DELIVER = false →
    ∃ t, exec (.legacyChange a (pgIntc 0) legacy) s = .next t ∧ t.rd (pgIntc 0) PAGE_COMPAT.LEGACY = bnat legacy ∧
      ∀ n, 0 < n → n < 4096 → t.rd (pgSrc n) SRC_STATE.COUNT =
        if legacy = true ∧ s.rd (pgIntc 0) PAGE_COMPAT.LEGACY = 0 then min 15 (s.rd (pgSrc n) SRC_STATE.COUNT)
        else s.rd (pgSrc n) SRC_STATE.COUNT)

/-- An accepted keyed write with partition 1 to 7, or an FLR of PF n, sets the partition's BUSY bit and clears the function's
source selection; the end of the reset clears the bit alone. (02_host_view.md (R60), 19_startup_and_reset.md (R470).) -/
def Obligations.PartitionResets : Prop :=
  (∀ (s : State) (a : Access) (v : Word),
    s.writeGate a pgReset PART_RESET.KEY.off v = .pass → getF v 16 16 = 0x5A02 → getF v 0 3 ≠ 0 →
    bitOf (s.rd pgReset PART_RESET.BUSY) (getF v 0 3) = false →
    ∃ t, exec (.partReset a v) s = .next t ∧ bitOf (t.rd pgReset PART_RESET.BUSY) (getF v 0 3) = true ∧
      nget t.srcSel (whoKey (.pf (getF v 0 3))) = 0) ∧
  (∀ (s : State) (n : Nat), n < 8 → bitOf (s.rd pgReset PART_RESET.BUSY) n = false →
    ∃ t, exec (.functionLevelReset n) s = .next t ∧ bitOf (t.rd pgReset PART_RESET.BUSY) n = true ∧
      nget t.srcSel (whoKey (.pf n)) = 0) ∧
  (∀ (s : State) (n : Nat), n < 8 → bitOf (s.rd pgReset PART_RESET.BUSY) n = true →
    ∃ t, exec (.partResetDone n) s = .next t ∧
      ∀ m, m < 8 → bitOf (t.rd pgReset PART_RESET.BUSY) m = (bitOf (s.rd pgReset PART_RESET.BUSY) m && m != n))

/-- PARITY_MISMATCH: in a group that is not of class RISER and is not exhausted, it adds one to STACK_PARITY_CNT (saturating),
sets STACK_EVENT.PARITY, schedules the probe of the group and changes no group; a RISER group, and an exhausted one, carries no
parity, and nothing changes. GROUP_PROBE takes the group off the schedule once, and then: no disagreement, or a disagreement on
one of two or more working spares, changes nothing else; a signal i that is probed and that two different working spares disagree
with fails the bond that carries it, moves the signal to the second spare, and sets STACK_EVENT.REPAIR; on the last working spare,
four disagreements of one signal fail its bond, move the signal to that spare, and exhaust the group (STACK_EVENT.REPAIR and
EXHAUSTED); a spare that disagrees with two signals is itself failed. No other group than one whose fate the exhaustion decides
changes in the first three. (01_stack.md (R25, R26, R27, R30), 95_what_each_step_holds.md (PARITY_MISMATCH, GROUP_PROBE).) -/
def Obligations.BondGroupsRepair : Prop :=
  (∀ (s : State) (g : GroupId), groupOk g = true → g.cls ≠ clsRiser → (s.group g).exhausted = false →
    ∃ t, exec (.parityMismatch g) s = .next t ∧
      t.rd pgSpar STACK_PARITY_CNT.COUNT = min 65535 (s.rd pgSpar STACK_PARITY_CNT.COUNT + 1) ∧
      t.rd pgSpar STACK_EVENT.PARITY = 1 ∧ g ∈ t.stack.probes ∧ t.stack.groups = s.stack.groups ∧ t.panels = s.panels ∧ t.mem = s.mem) ∧
  (∀ (s : State) (g : GroupId), groupOk g = true → (g.cls = clsRiser ∨ (s.group g).exhausted = true) →
    exec (.parityMismatch g) s = .next s) ∧
  (∀ (s : State) (g : GroupId), groupOk g = true →
    exec (.groupProbe g []) s = .next { s with stack := { s.stack with probes := s.stack.probes.erase g } }) ∧
  (∀ (s : State) (g : GroupId) (i p : Nat), groupOk g = true → 2 ≤ (s.group g).working.length →
    exec (.groupProbe g [(i, p)]) s = .next { s with stack := { s.stack with probes := s.stack.probes.erase g } }) ∧
  (∀ (s : State) (g : GroupId) (i p q b : Nat), groupOk g = true → i < 64 → s.probeSkips g i = false →
    p ∈ (s.group g).working → q ∈ (s.group g).working → p ≠ q →
    b = (s.group g).carrier i → b < 68 → b ∉ (s.group g).failed → (s.group g).signalOf b = some i →
    ∃ t, exec (.groupProbe g [(i, p), (i, q)]) s = .next t ∧
      t.group g = { failed := (s.group g).failed ++ [b], moved := lset (s.group g).moved i q } ∧
      t.rd pgSpar STACK_EVENT.REPAIR = 1 ∧ t.stack.probes = s.stack.probes.erase g ∧
      ∀ h, groupKey h ≠ groupKey g → t.group h = s.group h) ∧
  (∀ (s : State) (g : GroupId) (i p b : Nat), groupOk g = true → i < 64 → s.probeSkips g i = false → (s.group g).working = [p] →
    b = (s.group g).carrier i → b < 68 → b ∉ (s.group g).failed → (s.group g).signalOf b = some i →
    ∃ t, exec (.groupProbe g [(i, p), (i, p), (i, p), (i, p)]) s = .next t ∧
      (t.group g).failed = (s.group g).failed ++ [b] ∧ (t.group g).moved = lset (s.group g).moved i p ∧ (t.group g).exhausted = true ∧
      t.rd pgSpar STACK_EVENT.REPAIR = 1 ∧ t.rd pgSpar STACK_EVENT.EXHAUSTED = 1) ∧
  (∀ (s : State) (g : GroupId) (i j p : Nat), groupOk g = true → i < 64 → j < 64 → i ≠ j → s.probeSkips g i = false →
    s.probeSkips g j = false → p ∈ (s.group g).working → 2 ≤ (s.group g).working.length → p ∉ (s.group g).failed →
    ∃ t, exec (.groupProbe g [(i, p), (j, p)]) s = .next t ∧
      t.group g = { failed := (s.group g).failed ++ [p], moved := (s.group g).moved } ∧
      t.stack.probes = s.stack.probes.erase g ∧ t.regs = s.regs)

/-- A failed copy of a clock triad is recorded, and the first of a triad sets STACK_EVENT.CLOCK_DEGRADED and disturbs nothing
else; a second one makes the column's grounding wait. A pending fuse-map entry is burnt while VFUSE is in range and power-fail
does not bar it. A waiting grounding of a panel in service grounds it with its reason. The census of a device whose regulators are
up and which has made none since reset sets STACK_CENSUS.STATE to 2 or 3 and READY_SUM.CENSUS. (01_stack.md (R29, R31, R33, R34),
19_startup_and_reset.md (R464).) -/
def Obligations.TriadsFusesAndCensus : Prop :=
  (∀ (s : State) (c tr x k : Nat), c < 288 → tr < 6 → x < (if tr = 0 then 3 else 4) → k < 3 → s.triad c tr x = 0 →
    ∃ t, exec (.clockCopyFailed c tr ⟨x, k⟩) s = .next t ∧ t.triad c tr x = 2 ^ k ∧ t.rd pgSpar STACK_EVENT.CLOCK_DEGRADED = 1 ∧
      (∀ d u y, u < 8 → y < 4 → 32 * d + 4 * u + y ≠ 32 * c + 4 * tr + x → t.triad d u y = s.triad d u y) ∧
      t.stack.toGround = s.stack.toGround ∧ t.panels = s.panels) ∧
  (∀ (s : State) (c tr x j k : Nat), c < 288 → tr < 6 → x < (if tr = 0 then 3 else 4) → j < 3 → k < 3 → j ≠ k → s.triad c tr x = 2 ^ j →
    ∃ t, exec (.clockCopyFailed c tr ⟨x, k⟩) s = .next t ∧ t.triad c tr x = 2 ^ j + 2 ^ k ∧
      (s.stack.dead.length < 1024 → t.stack.dead = s.stack.dead ++ [deadWord clsTriad x c tr 2]) ∧
      GroundTask.column c 0x13 0x13 ∈ t.stack.toGround ∧ t.rd pgSpar STACK_EVENT.CLOCK_LOST = 1) ∧
  (∀ (s : State) (e : FuseEntry) (es : List FuseEntry), s.stack.pendingFuses = e :: es → s.on pgSpar STACK_FUSEMAP.VFUSE_OK = true →
    s.pfBlocked = false →
    ∃ t, exec .fuseBurn s = .next t ∧ t.fuses.map = s.fuses.map ++ [e] ∧ t.stack.pendingFuses = es ∧ t.regs = s.regs) ∧
  (∀ (s : State) (p reason : Nat) (ts : List GroundTask), s.stack.toGround = .panel p reason :: ts → p < 576 → reason ≠ 0 →
    (s.panel p).grounded = 0 →
    ∃ t, exec .grounding s = .next t ∧ (t.panel p).grounded = reason ∧ (t.panel p).borderHold = true) ∧
  (∀ (s : State) (found : List (GroupId × Nat)) (copies : List (Nat × Nat × TriadBond)),
    found.all (fun f => groupOk f.1 && f.2 < 68) = true → copies.all (fun x => x.1 < 288 && triadOk x.2.1 x.2.2) = true →
    s.on pgReady READY_SUM.REGULATORS = true → s.rd pgSpar STACK_CENSUS.STATE = 0 →
    ∃ t, exec (.bondCensus found copies) s = .next t ∧ (t.rd pgSpar STACK_CENSUS.STATE = 2 ∨ t.rd pgSpar STACK_CENSUS.STATE = 3) ∧
      t.rd pgReady READY_SUM.CENSUS = 1)

/-- With the checks passed, the panel clock not running and the panel in service, a write stores the word at PRAM_HOST_ADDR with
good check bits and leaves the words of every other panel, and a read of a stored word whose cells are intact returns it; AUTOINC
moves WORD on by one below 1,023. (03_panels.md (R79, R81, R83, R103).) -/
def Obligations.PocketRamHostAccess : Prop :=
  (∀ (s : State) (a : Access) (p : Nat) (v : Word), p < 576 → s.writeGate a (pgPanel p) PRAM_HOST_DATA.DATA.off v = .pass →
    s.pramOpen p = true → s.on (pgPanel p) PRAM_ERR_INJECT.ARM = false →
    ∃ t, exec (.pramHostWrite a p v) s = .next t ∧
      pramWord (t.panel p) (1024 * s.rd (pgPanel p) PRAM_HOST_ADDR.RAM + s.rd (pgPanel p) PRAM_HOST_ADDR.WORD) = { data := v } ∧
      (∀ q, q ≠ p → t.panel q = s.panel q) ∧ t.resp = ⟨.ok, 0⟩) ∧
  (∀ (s : State) (a : Access) (p : Nat), p < 576 → s.shows a.who (pgPanel p) PRAM_HOST_DATA.DATA.off → s.pramOpen p = true →
    (pramWord (s.panel p) (1024 * s.rd (pgPanel p) PRAM_HOST_ADDR.RAM + s.rd (pgPanel p) PRAM_HOST_ADDR.WORD)).flips = 0 →
    ∃ t, exec (.pramHostRead a p) s = .next t ∧
      t.resp = ⟨.ok, (pramWord (s.panel p)
        (1024 * s.rd (pgPanel p) PRAM_HOST_ADDR.RAM + s.rd (pgPanel p) PRAM_HOST_ADDR.WORD)).data.toNat⟩ ∧
      (s.on (pgPanel p) PRAM_HOST_ADDR.AUTOINC = true → s.rd (pgPanel p) PRAM_HOST_ADDR.WORD < 1023 →
        t.rd (pgPanel p) PRAM_HOST_ADDR.WORD = s.rd (pgPanel p) PRAM_HOST_ADDR.WORD + 1))

/-- An overlap of 0.20 ns or more of two drivers that the cell can see holds the riser with the value it carried, counts the
conflict and records the first one; a shorter one changes nothing. A write of ones to RISER_HELD clears those bits of that word,
but a bit that is set in the same cycle (Access.same, the model's operand for R11) stays set. A write of 1 to RISER_CONFLICT.FLAG
clears the flag and every RISER_HELD bit of the column; where a conflict of the same cycle sets the flag (Access.same), the flag
and that riser, which INDEX names, stay. A riser so released takes the value of a FORCE_1 choice of the one border hold that
applies to it; no other keeper changes, and none changes where no border hold of the column applies. (04_routing.md (R119, R120,
R121, R122), 00_scope.md (R11), log entry 62.) -/
def Obligations.RiserConflicts : Prop :=
  (∀ (s : State) (c r durPs : Nat) (v : Bool), c < 288 → r < 1024 → 200 ≤ durPs → s.riserCanConflict c r = true →
    ∃ t, exec (.riserConflict c r durPs v) s = .next t ∧ t.riserHeld c r = true ∧ (t.column c).keeper.getLsbD r = v ∧
      t.rd (pgSparBlk c) RISER_CONFLICT_CNT.COUNT = satAdd (2 ^ RISER_CONFLICT_CNT.COUNT.len - 1) (s.rd (pgSparBlk c) RISER_CONFLICT_CNT.COUNT) 1 ∧
      t.rd (pgSparBlk c) RISER_CONFLICT.FLAG = 1 ∧
      (s.on (pgSparBlk c) RISER_CONFLICT.FLAG = false → t.rd (pgSparBlk c) RISER_CONFLICT.INDEX = r) ∧
      (s.on (pgSparBlk c) RISER_CONFLICT.FLAG = true → t.rd (pgSparBlk c) RISER_CONFLICT.MULTI = 1)) ∧
  (∀ (s : State) (c r durPs : Nat) (v : Bool), c < 288 → r < 1024 → durPs < 200 → exec (.riserConflict c r durPs v) s = .next s) ∧
  (∀ (s : State) (a : Access) (c w : Nat) (v : Word), c < 288 → w < 32 →
    s.writeGate a (pgSparBlk c) (RISER_HELD.HELD.at w).off v = .pass →
    ∃ t, exec (.riserRelease a c w v) s = .next t ∧
      (∀ i, i < 32 → t.riserHeld c (32 * w + i) = (s.riserHeld c (32 * w + i) && (!v.getLsbD i || a.same.getLsbD i))) ∧
      (∀ i, i < 32 → s.riserHeld c (32 * w + i) = true → t.riserHeld c (32 * w + i) = false → s.holdsTo c (288 + c) = true →
        s.holdsTo (288 + c) c = false → s.canDrive (288 + c) (32 * w + i) = false → (8192 + 32 * w + i, 3) ∈ (s.panel c).border →
        (∀ e ∈ (s.panel c).border, e.1 = 8192 + 32 * w + i → e.2 = 3) → (t.column c).keeper.getLsbD (32 * w + i) = true) ∧
      ∀ b, b ≠ pgSparBlk c * 4096 + (RISER_HELD.HELD.at w).off → t.reg b = s.reg b) ∧
  (∀ (s : State) (a : Access) (c : Nat), c < 288 → s.writeGate a (pgSparBlk c) RISER_CONFLICT.FLAG.off 1 = .pass →
    a.same.getLsbD 0 = false →
    ∃ t, exec (.riserConflictClear a c) s = .next t ∧ (∀ r, r < 1024 → t.riserHeld c r = false) ∧
      t.rd (pgSparBlk c) RISER_CONFLICT.FLAG = 0 ∧
      (s.holdsTo c (288 + c) = false → s.holdsTo (288 + c) c = false → t.columns = s.columns) ∧
      ∀ r, r < 1024 → s.riserHeld c r = false → (t.column c).keeper.getLsbD r = (s.column c).keeper.getLsbD r) ∧
  (∀ (s : State) (a : Access) (c : Nat), c < 288 → s.writeGate a (pgSparBlk c) RISER_CONFLICT.FLAG.off 1 = .pass →
    a.same.getLsbD 0 = true →
    ∃ t, exec (.riserConflictClear a c) s = .next t ∧
      (∀ r, r < 1024 → t.riserHeld c r = (r == s.rd (pgSparBlk c) RISER_CONFLICT.INDEX)) ∧
      t.rd (pgSparBlk c) RISER_CONFLICT.FLAG = s.rd (pgSparBlk c) RISER_CONFLICT.FLAG ∧
      (s.holdsTo c (288 + c) = false → s.holdsTo (288 + c) c = false → t.columns = s.columns))

/-- A request from a panel port that receives its clock, or from an accepted PANEL_PLANE_CMD write, that R143 does not rule out,
and that no request of the same instant and no pending switch meets: a switch that makes no two panels of a column HOT while the
governor enforces joins the switches with its group, slot and source, and changes no panel; a prefetch with DEFER = 0 starts the
fill of the slot in every member in service in which the slot is neither active nor in the shadow, no switch is pending, no fill
is held, the slot is valid and no preflight runs. A request from a port that R143 rules out counts in PLANE_INVALID of the
members, pulses REFUSED and joins nothing; such a write is rejected. A port whose panel receives no clock issues nothing. Where
the clock of all live members is changing its source, the request of a port waits for it. (05_planes.md (R138, R141, R143, R145,
R150), 09_stagger_and_bounds.md (R236).) -/
def Obligations.PlaneRequests : Prop :=
  (∀ (s : State) (p g n : Nat) (defer : Bool), p < 576 → g < 256 → n < 8 → s.clkRun p = true →
    s.planeRequestBad g n (some p) = false → s.clockChanges (s.liveMembers g) = false →
    (∀ e ∈ s.planeNow.filter (fun e => e.at_ == s.ns) ++ s.switches.filter (·.pending),
      sameTarget e { group := g, slot := n, src := .port p, at_ := s.ns } = false ∧ ∀ q ∈ s.liveMembers g, q ∉ s.reqPanels e) →
    (s.on pgPwr GOV_CTRL.MODE = false ∨ s.doubleHot (s.liveMembers g) n = none) →
    ∃ t, exec (.planeReq p g n false defer) s = .next t ∧
      t.switches = s.switches ++ [{ group := g, slot := n, src := .port p, at_ := s.ns }] ∧ t.panels = s.panels ∧ t.regs = s.regs) ∧
  (∀ (s : State) (p g n : Nat) (prefetch defer : Bool), p < 576 → g < 256 → n < 8 → s.clkRun p = true →
    s.planeRequestBad g n (some p) = false → s.clockChanges (s.liveMembers g) = true →
    exec (.planeReq p g n prefetch defer) s = .next { s with
      planeWait := s.planeWait ++ [⟨{ group := g, slot := n, src := .port p, at_ := s.ns, prefetch := prefetch }, defer, some p⟩] }) ∧
  (∀ (s : State) (p g n q : Nat), p < 576 → g < 256 → n < 8 → s.clkRun p = true →
    s.planeRequestBad g n (some p) = false → s.clockChanges (s.liveMembers g) = false →
    (∀ e ∈ s.planeNow.filter (fun e => e.at_ == s.ns),
      sameTarget e { group := g, slot := n, src := .port p, at_ := s.ns } = false ∧ ∀ q ∈ s.liveMembers g, q ∉ s.reqPanels e) →
    q ∈ s.liveMembers g → (s.panel q).underTest = false → s.activeSlot q ≠ n → s.shadowIs q shFilling n = false →
    s.shadowIs q shReady n = false → (s.panel q).heldPf = none →
    s.planePending q = false → s.slotValid q n = true →
    ∃ t, exec (.planeReq p g n true false) s = .next t ∧ t.shadowIs q shFilling n = true ∧ (t.panel q).fillExplicit = true ∧
      t.switches = s.switches) ∧
  (∀ (s : State) (p g n : Nat) (prefetch defer : Bool), p < 576 → g < 256 → n < 8 → s.clkRun p = true →
    s.planeRequestBad g n (some p) = true →
    ∃ t, exec (.planeReq p g n prefetch defer) s = .next t ∧ t.switches = s.switches ∧ (t.panel p).due.planeRefused = true ∧
      ∀ q ∈ s.members g, t.rd (pgPanel q) PLANE_INVALID.COUNT = satAdd (2 ^ PLANE_INVALID.COUNT.len - 1) (s.rd (pgPanel q) PLANE_INVALID.COUNT) 1) ∧
  (∀ (s : State) (p g n : Nat) (prefetch defer : Bool), p < 576 → g < 256 → n < 8 → s.clkRun p = false →
    exec (.planeReq p g n prefetch defer) s = .next s) ∧
  (∀ (s : State) (a : Access) (p : Nat) (v : Word), p < 576 → s.writeGate a (pgPanel p) PANEL_PLANE_CMD.GROUP.off v = .pass →
    s.planeRequestBad (getF v PANEL_PLANE_CMD.GROUP.lo PANEL_PLANE_CMD.GROUP.len) (getF v PANEL_PLANE_CMD.PLANE.lo PANEL_PLANE_CMD.PLANE.len)
      (some p) = false → s.clockChanges (s.liveMembers (getF v PANEL_PLANE_CMD.GROUP.lo PANEL_PLANE_CMD.GROUP.len)) = false →
    getF v PANEL_PLANE_CMD.PREFETCH.lo PANEL_PLANE_CMD.PREFETCH.len = 0 →
    (∀ e ∈ s.planeNow.filter (fun e => e.at_ == s.ns) ++ s.switches.filter (·.pending),
      sameTarget e { group := getF v PANEL_PLANE_CMD.GROUP.lo PANEL_PLANE_CMD.GROUP.len, slot := getF v PANEL_PLANE_CMD.PLANE.lo PANEL_PLANE_CMD.PLANE.len, src := .register, at_ := s.ns } = false ∧
      ∀ q ∈ s.liveMembers (getF v PANEL_PLANE_CMD.GROUP.lo PANEL_PLANE_CMD.GROUP.len), q ∉ s.reqPanels e) →
    (s.on pgPwr GOV_CTRL.MODE = false ∨
      s.doubleHot (s.liveMembers (getF v PANEL_PLANE_CMD.GROUP.lo PANEL_PLANE_CMD.GROUP.len))
        (getF v PANEL_PLANE_CMD.PLANE.lo PANEL_PLANE_CMD.PLANE.len) = none) →
    ∃ t, exec (.planeCmd a p v) s = .next t ∧
      t.switches = s.switches ++ [{ group := getF v PANEL_PLANE_CMD.GROUP.lo PANEL_PLANE_CMD.GROUP.len, slot := getF v PANEL_PLANE_CMD.PLANE.lo PANEL_PLANE_CMD.PLANE.len, src := .register, at_ := s.ns }] ∧
      t.panels = s.panels ∧ (∀ b, b ≠ pgPanel p * 4096 + PANEL_PLANE_CMD.GROUP.off → t.reg b = s.reg b) ∧ t.resp = ⟨.ok, 0⟩) ∧
  (∀ (s : State) (a : Access) (p q : Nat) (v : Word), p < 576 → s.writeGate a (pgPanel p) PANEL_PLANE_CMD.GROUP.off v = .pass →
    s.planeRequestBad (getF v PANEL_PLANE_CMD.GROUP.lo PANEL_PLANE_CMD.GROUP.len) (getF v PANEL_PLANE_CMD.PLANE.lo PANEL_PLANE_CMD.PLANE.len)
      (some p) = false → s.clockChanges (s.liveMembers (getF v PANEL_PLANE_CMD.GROUP.lo PANEL_PLANE_CMD.GROUP.len)) = false →
    getF v PANEL_PLANE_CMD.PREFETCH.lo PANEL_PLANE_CMD.PREFETCH.len = 1 →
    getF v PANEL_PLANE_CMD.DEFER.lo PANEL_PLANE_CMD.DEFER.len = 0 →
    (∀ e ∈ s.planeNow.filter (fun e => e.at_ == s.ns),
      sameTarget e { group := getF v PANEL_PLANE_CMD.GROUP.lo PANEL_PLANE_CMD.GROUP.len, slot := getF v PANEL_PLANE_CMD.PLANE.lo PANEL_PLANE_CMD.PLANE.len, src := .register, at_ := s.ns } = false ∧
      ∀ q ∈ s.liveMembers (getF v PANEL_PLANE_CMD.GROUP.lo PANEL_PLANE_CMD.GROUP.len), q ∉ s.reqPanels e) →
    q ∈ s.liveMembers (getF v PANEL_PLANE_CMD.GROUP.lo PANEL_PLANE_CMD.GROUP.len) → (s.panel q).underTest = false →
    s.activeSlot q ≠ getF v PANEL_PLANE_CMD.PLANE.lo PANEL_PLANE_CMD.PLANE.len →
    s.shadowIs q shFilling (getF v PANEL_PLANE_CMD.PLANE.lo PANEL_PLANE_CMD.PLANE.len) = false →
    s.shadowIs q shReady (getF v PANEL_PLANE_CMD.PLANE.lo PANEL_PLANE_CMD.PLANE.len) = false → (s.panel q).heldPf = none → s.planePending q = false →
    s.slotValid q (getF v PANEL_PLANE_CMD.PLANE.lo PANEL_PLANE_CMD.PLANE.len) = true →
    ∃ t, exec (.planeCmd a p v) s = .next t ∧
      t.shadowIs q shFilling (getF v PANEL_PLANE_CMD.PLANE.lo PANEL_PLANE_CMD.PLANE.len) = true ∧ t.resp = ⟨.ok, 0⟩) ∧
  (∀ (s : State) (a : Access) (p : Nat) (v : Word), p < 576 → s.writeGate a (pgPanel p) PANEL_PLANE_CMD.GROUP.off v = .pass →
    s.planeRequestBad (getF v PANEL_PLANE_CMD.GROUP.lo PANEL_PLANE_CMD.GROUP.len) (getF v PANEL_PLANE_CMD.PLANE.lo PANEL_PLANE_CMD.PLANE.len)
      (some p) = true →
    ∃ t, exec (.planeCmd a p v) s = .next t ∧ t = { s with regs := t.regs, resp := ⟨.rejected, 0⟩ } ∧
      t.rd (pgPanel p) PAGE_ERRSUM.REJECT = 1)

/-- A fill whose frames all verify (a first mismatch of a frame is fetched again and logged) leaves the shadow READY with its
cells clean, and one with a frame that is bad or fails twice leaves it FAILED, sets FILL_FAIL and marks the first such frame bad.
A switch, of a group or forced, whose member panels are all ready, receive their clock and have no fill held, where the governor
neither holds nor defers it and no pending switch of another target shares a panel, exchanges active and shadow in every member:
the slot is ACTIVE, the slot that was active elsewhere is SHADOW and READY, and the switch is gone. A group switch that finds a
member not ready stays, pending, under WAIT, and is discarded under SKIP. A pending switch whose DEFER_LIMIT has passed leaves the
list. A switch that reaches its edge when a pending switch of another group shares a panel is discarded, unless the governor sent
it, and counted in PLANE_COLLIDE of each shared panel. (05_planes.md (R134, R136, R137, R140, R144), 09_stagger_and_bounds.md
(R236, R239).) -/
def Obligations.PlaneFillsAndSwitches : Prop :=
  (∀ (s : State) (p : Nat) (m1 : List Nat), p < 576 → s.shadowState p = shFilling →
    (s.column (colOf p)).off = false →
    (∀ f, f < 128 → (s.frame (frameAddr p (s.shadowSlot p) f)).bad = false ∧ (s.frame (frameAddr p (s.shadowSlot p) f)).mismatch = false) →
    ∃ t, exec (.planeFillDone p m1 []) s = .next t ∧ t.shadowState p = shReady ∧ t.shadowSlot p = s.shadowSlot p ∧
      (t.panel p).shadowUpset = [] ∧ t.frames = s.frames) ∧
  (∀ (s : State) (p f : Nat) (m1 m2 : List Nat), p < 576 → s.shadowState p = shFilling → f < 128 → (s.column (colOf p)).off = false →
    (f ∈ m2 ∨ (s.frame (frameAddr p (s.shadowSlot p) f)).bad = true ∨ (s.frame (frameAddr p (s.shadowSlot p) f)).mismatch = true) →
    (∀ e, e < f → e ∉ m2 ∧ (s.frame (frameAddr p (s.shadowSlot p) e)).bad = false ∧
      (s.frame (frameAddr p (s.shadowSlot p) e)).mismatch = false) →
    ∃ t, exec (.planeFillDone p m1 m2) s = .next t ∧ t.shadowState p = shFailed ∧
      (t.frame (frameAddr p (s.shadowSlot p) f)).bad = true ∧ t.rd (pgPanel p) PANEL_PLANE_EVENT.FILL_FAIL = 1) ∧
  (∀ (s : State) (p : Nat) (r : SwitchReq) (es : List PanelEdge), p < 576 → r.slot < 8 →
    s.edgeSwitch true p = some r → r.src = .governor → (∀ e ∈ s.switches, e.pending = true → e ≠ r → sameTarget e r = false) →
    s.clkRun p = true → s.ready p r.slot = true → s.activeSlot p ≠ r.slot → (s.panel p).heldPf = none → r.deferred = false →
    ∃ t, exec (.planeSwitch true p es) s = .next t ∧ t.activeSlot p = r.slot ∧ t.shadowSlot p = s.activeSlot p ∧
      t.shadowState p = shReady ∧ r ∉ t.switches) ∧
  (∀ (s : State) (g : Nat) (r : SwitchReq) (es : List PanelEdge), g < 256 → r.slot < 8 →
    s.edgeSwitch false g = some r → (r.pending = true ∨ ∀ e ∈ s.switches, e.pending = true → sameTarget e r = false ∧ s.sharedPanels r e = []) →
    (∀ p ∈ s.liveMembers g, s.clkRun p = true ∧ s.ready p r.slot = true ∧ (s.panel p).heldPf = none ∧ s.takesPart r p = true) →
    s.violations (s.liveMembers g) r.slot = [] → r.deferred = false →
    ∃ t, exec (.planeSwitch false g es) s = .next t ∧ r ∉ t.switches ∧
      ∀ p ∈ s.liveMembers g, t.activeSlot p = r.slot ∧
        (s.activeSlot p ≠ r.slot → t.shadowSlot p = s.activeSlot p ∧ t.shadowState p = shReady)) ∧
  (∀ (s : State) (g q : Nat) (r : SwitchReq) (es : List PanelEdge), g < 256 →
    s.edgeSwitch false g = some r → r.pending = false →
    (∀ e ∈ s.switches, e.pending = true → sameTarget e r = false ∧ s.sharedPanels r e = []) →
    (∀ p ∈ s.liveMembers g, s.clkRun p = true ∧ (s.panel p).heldPf = none ∧ s.takesPart r p = true) →
    q ∈ s.liveMembers g → s.ready q r.slot = false →
    s.on (pgPanel ((s.liveMembers g).headD 0)) PANEL_PLANE_CTRL.LATE_POLICY = false →
    ∃ t, exec (.planeSwitch false g es) s = .next t ∧ { r with pending := true } ∈ t.switches ∧
      (t.activeSlot q = s.activeSlot q) ∧
      t.rd (pgPanel q) PLANE_LATE.COUNT = satAdd (2 ^ PLANE_LATE.COUNT.len - 1) (s.rd (pgPanel q) PLANE_LATE.COUNT) 1) ∧
  (∀ (s : State) (g q : Nat) (r : SwitchReq) (es : List PanelEdge), g < 256 →
    s.edgeSwitch false g = some r → r.pending = false →
    (∀ e ∈ s.switches, e.pending = true → sameTarget e r = false ∧ s.sharedPanels r e = []) →
    (∀ p ∈ s.liveMembers g, s.clkRun p = true ∧ (s.panel p).heldPf = none ∧ s.takesPart r p = true) →
    q ∈ s.liveMembers g → s.ready q r.slot = false →
    s.on (pgPanel ((s.liveMembers g).headD 0)) PANEL_PLANE_CTRL.LATE_POLICY = true →
    ∃ t, exec (.planeSwitch false g es) s = .next t ∧ r ∉ t.switches ∧ t.activeSlot q = s.activeSlot q ∧
      t.rd (pgPanel q) PLANE_SKIP.COUNT = satAdd (2 ^ PLANE_SKIP.COUNT.len - 1) (s.rd (pgPanel q) PLANE_SKIP.COUNT) 1) ∧
  (∀ (s : State) (g : Nat) (r : SwitchReq), g < 256 →
    s.switches.find? (fun r => !r.forced && r.pending && r.group == g) = some r → 1000 * s.groupLimit g ≤ s.ns - r.at_ →
    ∃ t, exec (.switchDeferTimeout g) s = .next t ∧ r ∉ t.switches ∧
      ∀ p ∈ s.liveMembers g, t.activeSlot p = s.activeSlot p ∧ t.rd (pgPanel p) PANEL_PLANE_EVENT.SKIP = 1 ∧
        t.rd (pgPanel p) PLANE_SKIP.COUNT = satAdd (2 ^ PLANE_SKIP.COUNT.len - 1) (s.rd (pgPanel p) PLANE_SKIP.COUNT) 1) ∧
  (∀ (s : State) (g : Nat) (r e : SwitchReq) (es : List PanelEdge), g < 256 → s.edgeSwitch false g = some r → r.pending = false →
    s.switches.filter (·.pending) = [e] → sameTarget e r = false → s.sharedPanels r e ≠ [] → r.src ≠ .governor →
    (∀ p ∈ s.liveMembers g, s.clkRun p = true ∧ s.takesPart r p = true) →
    ∃ t, exec (.planeSwitch false g es) s = .next t ∧ r ∉ t.switches ∧ (∀ p, t.activeSlot p = s.activeSlot p) ∧
      ∀ p, p < 576 → p ∈ s.sharedPanels r e → t.rd (pgPanel p) PLANE_COLLIDE.COUNT =
        satAdd (2 ^ PLANE_COLLIDE.COUNT.len - 1) (s.rd (pgPanel p) PLANE_COLLIDE.COUNT) 1)

/-- A scrub pass adds one to SCRUB_PASSES, shows its length in SCRUB_LAST_PASS up to 65,535 ms, sets OVERRUN where it ran past
SCRUB_PERIOD, and leaves marked bad, with its repair in progress where SCRUB_CTRL.REPAIR = 1, every frame of a valid slot that
does not match its signature; panels, contexts and memory do not change. A read-back that finds nothing changes nothing; one that
finds a single upset frame of the active plane of a committed panel counts it and rewrites it from a Spar copy that matches its
signature and is not marked bad. A bad frame whose repair is in progress, with a good copy in the Sail or from the source, is good
again as it was loaded, and the repair is over. A repair that has run past SCRUB_REPAIR_TIMEOUT leaves the frame bad, not under
repair, and is counted. (05_planes.md (R147, R148, R149, R151, R153).) -/
def Obligations.FramesScrubbedAndRepaired : Prop :=
  (∀ (s : State) (us : List (Nat × BitVec 4608 × Bool)) (ms : Nat),
    ∃ t, exec (.scrubPass us ms) s = .next t ∧ t.rd pgScrub SCRUB_LAST_PASS.MS = min ms 65535 ∧
      t.rd pgScrub SCRUB_PASSES.COUNT = satAdd (2 ^ SCRUB_PASSES.COUNT.len - 1) (s.rd pgScrub SCRUB_PASSES.COUNT) 1 ∧
      (s.rd pgScrub SCRUB_PERIOD.MS < ms → t.rd pgScrub SCRUB_EVENT.OVERRUN = 1) ∧
      (∀ a, ((s.upsetFrames us).frame a).mismatch = true → s.slotValid (framePanel a) (frameSlot a) = true → s.sparOff a = false →
        (t.frame a).bad = true ∧ t.rd pgScrub SCRUB_EVENT.SPAR_UPSET = 1 ∧
        (s.on pgScrub SCRUB_CTRL.REPAIR = true → (t.frame a).repairing.isSome = true)) ∧
      t.panels = s.panels ∧ t.ctx = s.ctx ∧ t.mem = s.mem) ∧
  (∀ (s : State) (p : Nat), p < 576 → (s.panel p).upset0 = [] → (s.panel p).upset1 = [] →
    ∃ t, exec (.sailReadback p []) s = .next t ∧ t.panel p = s.panel p ∧ t.regs = s.regs) ∧
  (∀ (s : State) (p f : Nat), p < 576 → f < 128 → s.committed p = true → s.sailsOff = false → (s.panel p).underTest = false →
    (s.column (colOf p)).off = false → (s.panel p).upset0 = [] → (s.panel p).upset1 = [] →
    (s.frame (frameAddr p (s.activeSlot p) f)).bad = false → (s.frame (frameAddr p (s.activeSlot p) f)).mismatch = false →
    ∃ t, exec (.sailReadback p [(false, f)]) s = .next t ∧ (t.panel p).activeUpset = [] ∧ (t.panel p).shadowUpset = [] ∧
      t.rd pgScrub SAIL_UPSET_CNT.COUNT = satAdd (2 ^ SAIL_UPSET_CNT.COUNT.len - 1) (s.rd pgScrub SAIL_UPSET_CNT.COUNT) 1 ∧
      t.rd pgScrub SCRUB_EVENT.SAIL_UPSET = 1 ∧ t.frames = s.frames) ∧
  (∀ (s : State) (a : Nat), a < 2 ^ 20 → a / 2 ^ 10 % 2 ^ 9 < 288 → (s.frame a).bad = true → (s.frame a).repairing ≠ none →
    s.sparOff a = false →
    (s.sailCopyGood (framePanel a) (frameSlot a) (a % 128) = true ∧ (s.frame a).sigBad = false ∨ (s.frame a).fromSource = true) →
    ∃ t, exec (.frameRepairDone a) s = .next t ∧ (t.frame a).bad = false ∧ (t.frame a).flips = 0 ∧ (t.frame a).sigBad = false ∧
      (t.frame a).repairing = none ∧ (t.frame a).data = (s.frame a).data ∧ (t.frame a).sig = (s.frame a).sig ∧
      t.rd pgScrub SCRUB_EVENT.REPAIRED = 1) ∧
  (∀ (s : State) (a at_ : Nat), a < 2 ^ 20 → a / 2 ^ 10 % 2 ^ 9 < 288 → (s.frame a).bad = true → (s.frame a).repairing = some at_ →
    1000000 * s.rd pgScrub SCRUB_REPAIR_TIMEOUT.MS ≤ s.ns - at_ →
    ∃ t, exec (.repairTimeout a) s = .next t ∧ (t.frame a).bad = true ∧ (t.frame a).repairing = none ∧
      t.rd pgScrub SCRUB_EVENT.UNREPAIRED = 1 ∧
      t.rd pgScrub REPAIR_FAIL_CNT.COUNT = satAdd (2 ^ REPAIR_FAIL_CNT.COUNT.len - 1) (s.rd pgScrub REPAIR_FAIL_CNT.COUNT) 1)

/-- A swap request that R164 allows, from a port that receives its clock or from an accepted PANEL_CTX_CMD write, joins the
panel's requests on their way; one that R164 rules out is counted in CTX_INVALID_CNT and pulses REFUSED, and such a write is
rejected. At its acceptance edge a request alone at the panel, in service and not under test, that names another context than the
live one in some quarter: where none of its quarters has an accepted or a pending swap, and it is pinned or the budget admits it,
it is accepted for each quarter with the slot that it names; where each has an accepted swap and none a pending one, it becomes
the pending swap of each. A swap held past DEFER_LIMIT is no longer pending; one that is not held, or not that long, stays.
(06_contexts.md (R162, R164, R165, R167, R170, R175, R177).) -/
def Obligations.ContextRequests : Prop :=
  (∀ (s : State) (p qmask index : Nat) (ring defer : Bool), p < 576 → qmask < 16 → index < 256 → s.clkRun p = true →
    s.ctxRequestBad p qmask ring index = false →
    ∃ t, exec (.ctxPortReq p qmask ring index defer) s = .next t ∧
      t = s.setPanel p { s.panel p with inbox := (s.panel p).inbox ++ [⟨qmask, ring, index, defer, .port, s.ns⟩] }) ∧
  (∀ (s : State) (p qmask index : Nat) (ring defer : Bool), p < 576 → qmask < 16 → index < 256 → s.clkRun p = true →
    s.ctxRequestBad p qmask ring index = true →
    ∃ t, exec (.ctxPortReq p qmask ring index defer) s = .next t ∧ (t.panel p).inbox = (s.panel p).inbox ∧
      (t.panel p).due.ctxRefused = true ∧ t.rd (pgPanel p) PANEL_CTX_EVENT.INVALID = 1 ∧
      t.rd (pgPanel p) CTX_INVALID_CNT.COUNT = satAdd (2 ^ CTX_INVALID_CNT.COUNT.len - 1) (s.rd (pgPanel p) CTX_INVALID_CNT.COUNT) 1) ∧
  (∀ (s : State) (p qmask index : Nat) (ring defer : Bool), p < 576 → qmask < 16 → index < 256 → s.clkRun p = false →
    exec (.ctxPortReq p qmask ring index defer) s = .next s) ∧
  (∀ (s : State) (a : Access) (p : Nat) (v : Word), p < 576 → s.writeGate a (pgPanel p) PANEL_CTX_CMD.INDEX.off v = .pass →
    s.ctxRequestBad p (getF v PANEL_CTX_CMD.QMASK.lo PANEL_CTX_CMD.QMASK.len) (getF v PANEL_CTX_CMD.RING.lo PANEL_CTX_CMD.RING.len == 1)
      (getF v PANEL_CTX_CMD.INDEX.lo PANEL_CTX_CMD.INDEX.len) = false →
    ∃ t, exec (.ctxCmd a p v) s = .next t ∧ (∀ b, b ≠ pgPanel p * 4096 + PANEL_CTX_CMD.INDEX.off → t.reg b = s.reg b) ∧
      t.resp = ⟨.ok, 0⟩ ∧ (t.panel p).inbox = (s.panel p).inbox ++
        [⟨getF v PANEL_CTX_CMD.QMASK.lo PANEL_CTX_CMD.QMASK.len, getF v PANEL_CTX_CMD.RING.lo PANEL_CTX_CMD.RING.len == 1,
          getF v PANEL_CTX_CMD.INDEX.lo PANEL_CTX_CMD.INDEX.len, getF v PANEL_CTX_CMD.DEFER.lo PANEL_CTX_CMD.DEFER.len == 1, .register, s.ns⟩]) ∧
  (∀ (s : State) (a : Access) (p : Nat) (v : Word), p < 576 → s.writeGate a (pgPanel p) PANEL_CTX_CMD.INDEX.off v = .pass →
    s.ctxRequestBad p (getF v PANEL_CTX_CMD.QMASK.lo PANEL_CTX_CMD.QMASK.len) (getF v PANEL_CTX_CMD.RING.lo PANEL_CTX_CMD.RING.len == 1)
      (getF v PANEL_CTX_CMD.INDEX.lo PANEL_CTX_CMD.INDEX.len) = true →
    ∃ t, exec (.ctxCmd a p v) s = .next t ∧ t = { s with regs := t.regs, resp := ⟨.rejected, 0⟩ } ∧
      t.rd (pgPanel p) PAGE_ERRSUM.REJECT = 1) ∧
  (∀ (s : State) (p : Nat) (r : CtxReq), p < 576 → (s.panel p).inbox = [r] → s.ctxRequestBad p r.qmask r.ring r.index = false →
    s.sailsOff = false → (s.panel p).underTest = false →
    (∀ q ∈ quartersOf r.qmask, (s.qswap p q).acc = none ∧ (s.qswap p q).pend = none) →
    (r.defer = false ∨ s.admitsSwap (admissionRows (!s.quarterMode p) (quartersOf r.qmask).length) = true) →
    (quartersOf r.qmask).any (fun q => s.targetSlot p r q != s.slotOf p (s.live p q)) = true →
    ∃ t, exec (.swapAccept p [0]) s = .next t ∧ (t.panel p).inbox = [] ∧ t.regs = s.regs ∧
      ∀ q, q ∈ quartersOf r.qmask →
        (t.qswap p q).acc = some { slot := s.targetSlot p r q, qmask := quarterMask (quartersOf r.qmask), full := !s.quarterMode p,
                                   pinned := !r.defer, src := r.src }) ∧
  (∀ (s : State) (p : Nat) (r : CtxReq), p < 576 → (s.panel p).inbox = [r] → s.ctxRequestBad p r.qmask r.ring r.index = false →
    s.sailsOff = false → (s.panel p).underTest = false →
    (∀ q ∈ quartersOf r.qmask, (s.qswap p q).acc.isSome = true ∧ (s.qswap p q).pend = none) →
    (quartersOf r.qmask).any (fun q => s.targetSlot p r q != s.slotOf p (s.live p q)) = true →
    ∃ t, exec (.swapAccept p [0]) s = .next t ∧ (t.panel p).inbox = [] ∧ t.regs = s.regs ∧
      ∀ q, q ∈ quartersOf r.qmask → (t.qswap p q).acc = (s.qswap p q).acc ∧ (t.qswap p q).pend = some ⟨r, false⟩) ∧
  (∀ (s : State) (p q : Nat) (x : QPend), p < 576 → q < 4 → (s.qswap p q).pend = some x → x.held = true →
    1000 * s.rd (pgPanel p) PANEL_CTX_CTRL.DEFER_LIMIT ≤ s.ns - x.req.at_ →
    ∃ t, exec (.swapDeferTimeout p) s = .next t ∧ (t.qswap p q).pend = none ∧ (t.qswap p q).acc = (s.qswap p q).acc ∧
      t.rd (pgPanel p) PANEL_CTX_EVENT.SKIP = 1 ∧ t.ctx = s.ctx) ∧
  (∀ (s : State) (p q : Nat) (x : QPend), p < 576 → q < 4 → (s.qswap p q).pend = some x →
    (x.held = false ∨ s.ns - x.req.at_ < 1000 * s.rd (pgPanel p) PANEL_CTX_CTRL.DEFER_LIMIT) →
    ∃ t, exec (.swapDeferTimeout p) s = .next t ∧ (t.qswap p q).pend = some x)

/-- An accepted swap of one quarter, or of all four together, of a panel that is not under test loads the stored rows of its VALID
slot into the shadow cells; a row whose copy A fails its CRC comes from copy B, from which copy A is rewritten, and is counted in
CTX_REPAIR_CNT. At the swap edge live and shadow cells of each quarter exchange (where the edge itself changes no cell), LIVE
takes the slot's index, the swap is counted and no longer accepted, and the outgoing rows wait to be saved. Saving writes the
shadow rows to both copies of their slot with their CRC, sets the quarter VALID, and leaves nothing unsaved. (06_contexts.md
(R157, R158, R163, R167, R168, R172).) -/
def Obligations.ContextSwaps : Prop :=
  (∀ (s : State) (p q waited saveWaited : Nat) (a : QAcc), p < 576 → q < 4 → (s.panel p).underTest = false →
    (s.qswap p q).acc = some a → (s.qswap p q).saving = none → (∀ r, r < 4 → r ≠ q → (s.qswap p r).acc.all (·.loaded) = true) →
    a.loaded = false → a.full = false → a.slot < 256 → s.rowMismatch p = false → s.quarterValid (colOf p) a.slot q = true →
    (s.ctxRow (colOf p) a.slot (2 * q)).a.good = true → (s.ctxRow (colOf p) a.slot (2 * q + 1)).a.good = true →
    ∃ t, exec (.contextLoad p [] [] ⟨waited, saveWaited⟩) s = .next t ∧ t.ctx = s.ctx ∧
      cellRow (t.panel p).shadow (2 * q) = (s.ctxRow (colOf p) a.slot (2 * q)).a.row ∧
      cellRow (t.panel p).shadow (2 * q + 1) = (s.ctxRow (colOf p) a.slot (2 * q + 1)).a.row ∧
      (t.panel p).cells = (s.panel p).cells ∧ (t.qswap p q).acc.map (fun b => (b.slot, b.loaded, b.lost)) = some (a.slot, true, a.lost)) ∧
  (∀ (s : State) (p waited saveWaited : Nat) (a : QAcc), p < 576 → (s.panel p).underTest = false →
    (∀ q, q < 4 → (s.qswap p q).acc = some a ∧ (s.qswap p q).saving = none ∧ s.quarterValid (colOf p) a.slot q = true) →
    a.loaded = false → a.full = true → a.qmask = 15 → a.slot < 256 → s.rowMismatch p = false →
    (∀ r, r < 8 → (s.ctxRow (colOf p) a.slot r).a.good = true) →
    ∃ t, exec (.contextLoad p [] [] ⟨waited, saveWaited⟩) s = .next t ∧ t.ctx = s.ctx ∧
      (∀ r, r < 8 → cellRow (t.panel p).shadow r = (s.ctxRow (colOf p) a.slot r).a.row) ∧
      (t.panel p).cells = (s.panel p).cells ∧ ∀ q, q < 4 → (t.qswap p q).acc.any (·.loaded) = true) ∧
  (∀ (s : State) (p q : Nat) (a : QAcc) (parity : List Nat), p < 576 → q < 4 → (s.panel p).underTest = false →
    (s.qswap p q).acc = some a → (s.qswap p q).saving = none → (∀ r, r < 4 → r ≠ q → (s.qswap p r).acc.all (·.loaded) = true) →
    a.loaded = false → a.full = false → a.slot < 256 → s.rowMismatch p = false → s.quarterValid (colOf p) a.slot q = true →
    ((s.ctxRow (colOf p) a.slot (2 * q)).a.good = false ∨ 2 * q ∈ parity) → (s.ctxRow (colOf p) a.slot (2 * q)).b.good = true →
    2 * q + 1 ∉ parity → (s.ctxRow (colOf p) a.slot (2 * q + 1)).a.good = true →
    ∃ t, exec (.contextLoad p [] parity ⟨0, 0⟩) s = .next t ∧
      cellRow (t.panel p).shadow (2 * q) = (s.ctxRow (colOf p) a.slot (2 * q)).b.row ∧
      t.ctxRow (colOf p) a.slot (2 * q) = ⟨(s.ctxRow (colOf p) a.slot (2 * q)).b, (s.ctxRow (colOf p) a.slot (2 * q)).b⟩ ∧
      t.rd (pgPanel p) PANEL_CTX_EVENT.REPAIRED = 1 ∧
      t.rd (pgPanel p) CTX_REPAIR_CNT.COUNT = satAdd (2 ^ CTX_REPAIR_CNT.COUNT.len - 1) (s.rd (pgPanel p) CTX_REPAIR_CNT.COUNT) 1) ∧
  (∀ (s : State) (p m : Nat) (e : PanelEdge), p < 576 → m < 16 → e.panel = p → s.clkRun p = true → m ≠ 0 → s.pendings p 15 = [] →
    (∀ q, q ∈ quartersOf m → ∃ a, (s.qswap p q).acc = some a ∧ a.qmask = m ∧ a.loaded = true ∧
      s.shareBase p ≤ a.slot ∧ a.slot - s.shareBase p < 256) →
    ∃ t, exec (.swapEdge p m e) s = .next t ∧
      t.rd (pgPanel p) CTX_SWAP_CNT.COUNT = satAdd (2 ^ CTX_SWAP_CNT.COUNT.len - 1) (s.rd (pgPanel p) CTX_SWAP_CNT.COUNT) 1 ∧
      ∀ q, q ∈ quartersOf m →
        (e.before = [] → e.cells = [] →
          cellRow (t.panel p).cells (2 * q) = cellRow (s.panel p).shadow (2 * q) ∧
          cellRow (t.panel p).cells (2 * q + 1) = cellRow (s.panel p).shadow (2 * q + 1) ∧
          cellRow (t.panel p).shadow (2 * q) = cellRow (s.panel p).cells (2 * q) ∧
          cellRow (t.panel p).shadow (2 * q + 1) = cellRow (s.panel p).cells (2 * q + 1)) ∧
        (t.qswap p q).acc = none ∧ (t.qswap p q).saving.isSome = true ∧
        (s.qswap p q).acc.map (·.slot) = some (t.slotOf p (t.live p q))) ∧
  (∀ (s : State) (p q waited : Nat) (v : QSave), p < 576 → q < 4 → (s.qswap p q).saving = some v → v.slot < 256 →
    (s.column (colOf p)).off = false →
    ∃ t, exec (.contextSave ⟨p, waited⟩) s = .next t ∧ (t.qswap p q).saving = none ∧
      (t.ctxRow (colOf p) v.slot (2 * q)) = ⟨freshCopy (cellRow (s.panel p).shadow (2 * q)), freshCopy (cellRow (s.panel p).shadow (2 * q))⟩ ∧
      (t.ctxRow (colOf p) v.slot (2 * q + 1)) =
        ⟨freshCopy (cellRow (s.panel p).shadow (2 * q + 1)), freshCopy (cellRow (s.panel p).shadow (2 * q + 1))⟩ ∧
      t.quarterValid (colOf p) v.slot q = true ∧ (t.panel p).cells = (s.panel p).cells)

/-- An admitted access command of an idle tile sets BUSY and is in progress as a read or a write. In a column in service, a read
of a VALID row whose copy A is good gives the row to the buffer, makes its sender the holder and reports RESULT 0, and a read of a
row that is not VALID reports 3 (EMPTY); a write that names no live slot stores the buffer's row in both copies and reports RESULT
0, and one that names a live slot stores nothing and reports 4 (LIVE); each clears BUSY. A write of CTX_BUF_DATA stores the word
and makes its sender the holder; a read gives the holder its word and every other sender 0. CTX_SPLIT of a column with no
committed panel and no swap takes the new share, and a share other than the old one returns every NEXT entry to its default.
(06_contexts.md (R156, R163, R178, R179), 02_host_view.md (R41).) -/
def Obligations.ContextStoreAccess : Prop :=
  (∀ (s : State) (a : Access) (c : Nat) (v : Word) (p : Nat), c < 288 →
    s.writeGate a (pgTile c) CTX_ACC_CMD.SLOT.off (setF v CTX_ACC_CMD.OP.lo CTX_ACC_CMD.OP.len 1) = .pass →
    s.ctxAccDeny a c (setF v CTX_ACC_CMD.OP.lo CTX_ACC_CMD.OP.len 1) = none →
    s.accPanel c (getF v CTX_ACC_CMD.TARGET.lo CTX_ACC_CMD.TARGET.len) (getF v CTX_ACC_CMD.SLOT.lo CTX_ACC_CMD.SLOT.len) = some p →
    s.on (pgTile c) CTX_ACC_STATUS.BUSY = false → s.pfOwns a.who p = true →
    ∃ t, exec (.ctxAccRead a c v) s = .next t ∧ t.rd (pgTile c) CTX_ACC_STATUS.BUSY = 1 ∧
      (t.column c).accCmd = some ⟨accSlot (getF v CTX_ACC_CMD.TARGET.lo CTX_ACC_CMD.TARGET.len) (getF v CTX_ACC_CMD.SLOT.lo CTX_ACC_CMD.SLOT.len),
        getF v CTX_ACC_CMD.ROW.lo CTX_ACC_CMD.ROW.len, getF v CTX_ACC_CMD.TARGET.lo CTX_ACC_CMD.TARGET.len, false, whoKey a.who⟩ ∧ t.ctx = s.ctx) ∧
  (∀ (s : State) (a : Access) (c : Nat) (v : Word) (p : Nat), c < 288 →
    s.writeGate a (pgTile c) CTX_ACC_CMD.SLOT.off (setF v CTX_ACC_CMD.OP.lo CTX_ACC_CMD.OP.len 2) = .pass →
    s.ctxAccDeny a c (setF v CTX_ACC_CMD.OP.lo CTX_ACC_CMD.OP.len 2) = none →
    s.accPanel c (getF v CTX_ACC_CMD.TARGET.lo CTX_ACC_CMD.TARGET.len) (getF v CTX_ACC_CMD.SLOT.lo CTX_ACC_CMD.SLOT.len) = some p →
    s.on (pgTile c) CTX_ACC_STATUS.BUSY = false → s.pfOwns a.who p = true →
    ∃ t, exec (.ctxAccWrite a c v) s = .next t ∧ t.rd (pgTile c) CTX_ACC_STATUS.BUSY = 1 ∧
      (t.column c).accCmd = some ⟨accSlot (getF v CTX_ACC_CMD.TARGET.lo CTX_ACC_CMD.TARGET.len) (getF v CTX_ACC_CMD.SLOT.lo CTX_ACC_CMD.SLOT.len),
        getF v CTX_ACC_CMD.ROW.lo CTX_ACC_CMD.ROW.len, getF v CTX_ACC_CMD.TARGET.lo CTX_ACC_CMD.TARGET.len, true, whoKey a.who⟩ ∧ t.ctx = s.ctx) ∧
  (∀ (s : State) (c : Nat) (m : AccCmd) (us : List RowUpset), c < 288 → us.all (fun u => u.slot < 259 && u.row < 8) = true →
    (s.column c).accCmd = some m → (s.column c).off = false → m.write = false →
    (m.slot < 256 → s.quarterValid c m.slot (m.row / 2) = true) → ((s.upsetRows c us).ctxRow c m.slot m.row).a.good = true →
    ∃ t, exec (.ctxAccDone c us) s = .next t ∧ t.rd (pgTile c) CTX_ACC_STATUS.BUSY = 0 ∧ t.rd (pgTile c) CTX_ACC_STATUS.RESULT = 0 ∧
      (t.column c).holder = some m.who ∧ (t.column c).buf = bufOfRow ((s.upsetRows c us).ctxRow c m.slot m.row).a.row ∧
      (t.column c).accCmd = none ∧ t.ctx = (s.upsetRows c us).ctx) ∧
  (∀ (s : State) (c : Nat) (m : AccCmd), c < 288 → (s.column c).accCmd = some m → (s.column c).off = false → m.write = false →
    m.slot < 256 → s.quarterValid c m.slot (m.row / 2) = false →
    ∃ t, exec (.ctxAccDone c []) s = .next t ∧ t.rd (pgTile c) CTX_ACC_STATUS.BUSY = 0 ∧ t.rd (pgTile c) CTX_ACC_STATUS.RESULT = 3 ∧
      t.ctx = s.ctx) ∧
  (∀ (s : State) (c : Nat) (m : AccCmd) (us : List RowUpset), c < 288 → us.all (fun u => u.slot < 259 && u.row < 8) = true →
    (s.column c).accCmd = some m → (s.column c).off = false → m.write = true → s.writeLive c m = false →
    ∃ t, exec (.ctxAccDone c us) s = .next t ∧ t.rd (pgTile c) CTX_ACC_STATUS.BUSY = 0 ∧ t.rd (pgTile c) CTX_ACC_STATUS.RESULT = 0 ∧
      t.ctxRow c m.slot m.row = ⟨freshCopy (rowOfBuf (s.column c).buf), freshCopy (rowOfBuf (s.column c).buf)⟩ ∧
      (t.column c).accCmd = none) ∧
  (∀ (s : State) (c : Nat) (m : AccCmd), c < 288 → (s.column c).accCmd = some m → (s.column c).off = false → m.write = true →
    s.writeLive c m = true →
    ∃ t, exec (.ctxAccDone c []) s = .next t ∧ t.rd (pgTile c) CTX_ACC_STATUS.BUSY = 0 ∧ t.rd (pgTile c) CTX_ACC_STATUS.RESULT = 4 ∧
      t.ctx = s.ctx) ∧
  (∀ (s : State) (a : Access) (c : Nat) (v : Word), c < 288 → s.writeGate a (pgTile c) CTX_BUF_DATA.DATA.off v = .pass →
    ∃ t, exec (.ctxBufDataWrite a c v) s = .next t ∧ (t.column c).holder = some (whoKey a.who) ∧
      mget (fun _ => 0) (t.column c).buf (s.rd (pgTile c) CTX_BUF_INDEX.WORD) = v ∧ t.ctx = s.ctx) ∧
  (∀ (s : State) (a : Access) (c : Nat), c < 288 → s.shows a.who (pgTile c) CTX_BUF_DATA.DATA.off →
    ∃ t, exec (.ctxBufDataRead a c) s = .next t ∧ t.columns = s.columns ∧
      t.resp = ⟨.ok, if (s.column c).holder = some (whoKey a.who) then
        (mget (fun _ => 0) (s.column c).buf (s.rd (pgTile c) CTX_BUF_INDEX.WORD)).toNat else 0⟩) ∧
  (∀ (s : State) (a : Access) (c : Nat) (v : Word), c < 288 → s.writeGate a (pgTile c) CTX_SPLIT.LOWER.off v = .pass →
    s.committed c = false → s.committed (288 + c) = false → s.tileBusy c = false → s.pfOwns a.who c = true → s.pfOwns a.who (288 + c) = true →
    ∃ t, exec (.ctxSplitWrite a c v) s = .next t ∧ t.lowerShare c = getF v CTX_SPLIT.LOWER.lo CTX_SPLIT.LOWER.len ∧
      (getF v CTX_SPLIT.LOWER.lo CTX_SPLIT.LOWER.len ≠ s.lowerShare c → ∀ i, i < 260 → nget t.ctxNext (260 * c + i) = 0) ∧ t.ctx = s.ctx)

/-- Where the checks of the write pass, and after the marks of a jump of the same cycle have fired and a fault of it has been
entered (R202): enabling a DISABLED track that R186 admits starts it in ACQUIRE, or in RUN for a TIME track; disabling it leaves
it DISABLED; RESTART takes an enabled track from FAULT to ACQUIRE, or to RUN for a TIME track; FORCE_FAULT of an enabled track
that is in ACQUIRE or RUN, with no other cause in this cycle, puts it in FAULT with cause 6 when the cycle ends (settleFault);
PRESET of an enabled track, with no sample of this cycle to undo, sets its estimate to TRK_PRESET and keeps its state.
(07_bridle_tracks.md (R184, R186, R199, R201, R202, R206).) -/
def Obligations.TrackControl : Prop :=
  (∀ (s u : State) (a : Access) (k : Nat), k < 64 → s.writeGate a (pgTrack k) TRK_CTRL.ENABLE.off 1 = .pass →
    u = (s.takeJump k).settleFault k → u.trState k = trDisabled → u.enableBad k = false →
    ∃ t, exec (.trackEnable a k) s = .next t ∧ t.rdTrk k TRK_CTRL.ENABLE = 1 ∧
      t.trState k = (if u.trKind k = kTime then trRun else trAcquire)) ∧
  (∀ (s : State) (a : Access) (k : Nat), k < 64 → s.writeGate a (pgTrack k) TRK_CTRL.ENABLE.off 0 = .pass →
    ∃ t, exec (.trackDisable a k) s = .next t ∧ t.rdTrk k TRK_CTRL.ENABLE = 0 ∧ t.trState k = trDisabled) ∧
  (∀ (s u : State) (a : Access) (k : Nat), k < 64 → s.rdTrk k TRK_CTRL.ENABLE = 1 → s.writeGate a (pgTrack k) TRK_CTRL.ENABLE.off 3 = .pass →
    u = (s.takeJump k).settleFault k → u.trState k = trFault →
    ∃ t, exec (.trackRestart a k) s = .next t ∧ t.trState k = (if u.trKind k = kTime then trRun else trAcquire)) ∧
  (∀ (s : State) (a : Access) (k : Nat), k < 64 → s.rdTrk k TRK_CTRL.ENABLE = 1 → s.writeGate a (pgTrack k) TRK_CTRL.ENABLE.off 5 = .pass →
    (s.trState k = trAcquire ∨ s.trState k = trRun) → (s.track k).faulting = [] →
    ∃ t, exec (.forceFault a k) s = .next t ∧ (t.settleFault k).trState k = trFault ∧ ((t.settleFault k).track k).cause = 6 ∧
      (t.settleFault k).rdTrk k TRK_EVENT.FAULT = 1) ∧
  (∀ (s : State) (a : Access) (k : Nat), k < 64 → s.rdTrk k TRK_CTRL.ENABLE = 1 → s.writeGate a (pgTrack k) TRK_CTRL.ENABLE.off 9 = .pass →
    s.trState k ≠ trDisabled → (∀ u, (s.track k).undo = some u → u.cycle ≠ s.bridleNs) →
    ∃ t, exec (.trackPreset a k) s = .next t ∧ t.est k = s.trPreset k ∧ t.trState k = s.trState k)

/-- A legal transition of the filtered levels A and B on an enabled QUAD track moves its 48-bit raw count one step in its
direction, and an illegal one leaves it and is counted; an active edge on a PULSE_DIR track moves it by one in the direction that
PIN_B gives. The first zero crossing of a PERIOD track in ACQUIRE places it at TRK_REF at the edge's cycle, and the second, within
TRK_STEPMAX, does so and puts it in RUN. A qualified Z edge of a QUAD track in RUN, after an edge of A or B of the same cycle:
Z_MODE 0 does nothing, 1 latches the position, 2 counts a mismatch beyond TRK_ZTOL and leaves the position, 3 with HOME armed
moves the integer position to that of TRK_REF, sets HOMED and leaves HOME not armed. A keep-alive of an edge-counting track in RUN
feeds its coast timer and moves nothing; in ACQUIRE it puts the track at the raw count, at rest, in RUN. A command whose levels or
age the pins do not show names no edge and changes nothing (the model's choice, log entry 72). (07_bridle_tracks.md (R187, R188,
R189, R190, R194, R195, R197).) -/
def Obligations.TrackEdges : Prop :=
  (∀ (s : State) (k ago : Nat) (A B : Bool) (d : Int), k < 64 → s.sourceIs k kQuad = true → s.quadFits k A B ago = true → quadStep (s.track k).ab (s.abNow k) = some d → d ≠ 0 →
    -2 ^ 47 < (s.track k).raw → (s.track k).raw < 2 ^ 47 - 1 →
    ∃ t, exec (.quadEdge k A B ago) s = .next t ∧ (t.track k).ab = s.abNow k ∧ (t.track k).raw = (s.track k).raw + s.direct k d) ∧
  (∀ (s : State) (k ago : Nat) (A B : Bool), k < 64 → s.sourceIs k kQuad = true → s.quadFits k A B ago = true → quadStep (s.track k).ab (s.abNow k) = some 0 →
    (s.track k).presetAt ≠ some s.bridleNs →
    ∃ t, exec (.quadEdge k A B ago) s = .next t ∧ (t.track k).ab = s.abNow k ∧ (t.track k).raw = (s.track k).raw ∧
      t.rdTrk k TRK_QUAD_ERR_CNT.COUNT = satAdd (2 ^ TRK_QUAD_ERR_CNT.COUNT.len - 1) (s.rdTrk k TRK_QUAD_ERR_CNT.COUNT) 1) ∧
  (∀ (s : State) (k ago : Nat) (B : Bool), k < 64 → s.sourceIs k kPulseDir = true → s.activeEdge k = true → s.filtLevel (s.rdTrk k TRK_SRC.PIN_B) = B →
    s.edgeFits k ago = true → -2 ^ 47 < (s.track k).raw →
    (s.track k).raw < 2 ^ 47 - 1 →
    ∃ t, exec (.pulseEdge k B ago) s = .next t ∧
      (t.track k).raw = (s.track k).raw + s.direct k (if B then 1 else -1)) ∧
  (∀ (s : State) (k ago : Nat), k < 64 → s.sourceIs k kPeriod = true → s.activeEdge k = true → s.edgeFits k ago = true → s.trState k = trAcquire → (s.core k).acq = 0 →
    (s.core k).last = none → (s.track k).presetAt ≠ some s.bridleNs →
    ∃ t, exec (.periodEdge k ago) s = .next t ∧ t.trState k = trAcquire ∧ (t.core k).acq = 1 ∧
      (t.core k).c0 = s.edgeCycle (s.rdTrk k TRK_SRC.PIN_A) ∧ (t.core k).p0 = s.trRef k) ∧
  (∀ (s : State) (k ago : Nat) (h : Nat × Int), k < 64 → s.sourceIs k kPeriod = true → s.activeEdge k = true → s.edgeFits k ago = true → s.trState k = trAcquire →
    (s.core k).acq = 1 → (s.core k).last = some h → (s.track k).presetAt ≠ some s.bridleNs →
    (wrapDiff oneCount (s.trMod k) (s.trRef k - (s.core k).pos (s.edgeCycle (s.rdTrk k TRK_SRC.PIN_A)))).natAbs ≤
      s.rdTrk k TRK_STEPMAX.COUNTS * 2 ^ 32 →
    ∃ t, exec (.periodEdge k ago) s = .next t ∧ t.trState k = trRun ∧ (t.core k).c0 = s.edgeCycle (s.rdTrk k TRK_SRC.PIN_A) ∧
      (t.core k).p0 = s.trRef k) ∧
  (∀ (s : State) (k : Nat), k < 64 → s.sourceIs k kQuad = true → s.rdTrk k TRK_SRC.Z_MODE = 0 →
    exec (.zEdge k) s = .next (s.decodeQuad k)) ∧
  (∀ (s : State) (k : Nat), k < 64 → s.sourceIs k kQuad = true → s.rdTrk k TRK_SRC.Z_MODE = 1 → (s.decodeQuad k).trState k = trRun →
    (s.rdTrk k TRK_SRC.Z_QUAL = 0 ∨ s.abNow k = 3) →
    ∃ t, exec (.zEdge k) s = .next t ∧
      t = (s.decodeQuad k).setTrack k { (s.decodeQuad k).track k with zlatch := wrapPos (s.trMod k) ((s.decodeQuad k).est k) }) ∧
  (∀ (s : State) (k : Nat), k < 64 → s.sourceIs k kQuad = true → s.rdTrk k TRK_SRC.Z_MODE = 2 → (s.decodeQuad k).trState k = trRun →
    (s.rdTrk k TRK_SRC.Z_QUAL = 0 ∨ s.abNow k = 3) →
    s.rdTrk k TRK_ZTOL.COUNTS < (wrapDiff 1 (s.trMod k)
      (wrapPos (s.trMod k) ((s.decodeQuad k).est k) / oneCount - s.trRef k / oneCount)).natAbs →
    ∃ t, exec (.zEdge k) s = .next t ∧ t.est k = (s.decodeQuad k).est k ∧ t.rdTrk k TRK_EVENT.Z_MISMATCH = 1 ∧
      t.rdTrk k TRK_ZMIS_CNT.COUNT = satAdd (2 ^ TRK_ZMIS_CNT.COUNT.len - 1) ((s.decodeQuad k).rdTrk k TRK_ZMIS_CNT.COUNT) 1) ∧
  (∀ (s : State) (k : Nat), k < 64 → s.sourceIs k kQuad = true → s.rdTrk k TRK_SRC.Z_MODE = 3 → (s.decodeQuad k).trState k = trRun →
    (s.rdTrk k TRK_SRC.Z_QUAL = 0 ∨ s.abNow k = 3) → ((s.decodeQuad k).track k).homeArmed = true →
    ∃ t, exec (.zEdge k) s = .next t ∧ (t.core k).homed = true ∧ (t.track k).homeArmed = false ∧
      t.est k = (s.decodeQuad k).est k +
        (s.trRef k / oneCount - wrapPos (s.trMod k) ((s.decodeQuad k).est k) / oneCount) * oneCount) ∧
  (∀ (s : State) (k : Nat), k < 64 → s.on pgBridle BRIDLE_STATUS.COUNTING = true → edgeKind (s.trKind k) = true → s.trState k = trRun →
    ∃ t, exec (.keepAlive k) s = .next t ∧ t = s.setTrack k { (s.track k).fed with core := { s.core k with feed := s.bridleNs } }) ∧
  (∀ (s : State) (k : Nat), k < 64 → s.on pgBridle BRIDLE_STATUS.COUNTING = true → edgeKind (s.trKind k) = true → s.trState k = trAcquire →
    ∃ t, exec (.keepAlive k) s = .next t ∧ t.trState k = trRun ∧ t.est k = (s.track k).raw * oneCount ∧ t.estVel k = 0 ∧
      (t.core k).feed = s.bridleNs) ∧
  (∀ (s : State) (k ago : Nat) (A B : Bool), k < 64 → s.quadFits k A B ago = false → exec (.quadEdge k A B ago) s = .next s) ∧
  (∀ (s : State) (k ago : Nat) (B : Bool), k < 64 → (s.filtLevel (s.rdTrk k TRK_SRC.PIN_B) ≠ B ∨ s.edgeFits k ago = false) →
    exec (.pulseEdge k B ago) s = .next s) ∧
  (∀ (s : State) (k ago : Nat), k < 64 → s.edgeFits k ago = false → exec (.periodEdge k ago) s = .next s)

/-- A track in ACQUIRE or RUN, other than a TIME track, that has had no sample or keep-alive for COAST µs and no other cause of
FAULT in this cycle is, when the cycle ends (settleFault), in FAULT with cause 2, its estimate frozen where it stood. A track in
RUN that has not moved for STALE µs keeps its estimate, has velocity 0 and sets STILL. A linear track whose estimate has left its
range saturates and is, when the cycle ends, in FAULT with cause 3. (07_bridle_tracks.md (R181, R184, R198, R200).) -/
def Obligations.TrackLimits : Prop :=
  (∀ (s : State) (k : Nat), k < 64 → (s.trState k = trAcquire ∨ s.trState k = trRun) → s.trKind k ≠ kTime →
    1000 * s.rdTrk k TRK_COAST.US ≤ s.bridleNs - (s.core k).feed → (s.track k).faulting = [] →
    ∃ t, exec (.coastExpiry k) s = .next t ∧ (t.settleFault k).trState k = trFault ∧ ((t.settleFault k).track k).cause = 2 ∧
      (t.settleFault k).est k = s.est k ∧ (t.settleFault k).estVel k = 0 ∧ (t.settleFault k).rdTrk k TRK_EVENT.FAULT = 1) ∧
  (∀ (s : State) (k : Nat), k < 64 → s.trState k = trRun → (edgeKind (s.trKind k) = true ∨ s.trKind k = kFabric) → (s.core k).still = false →
    1000 * s.rdTrk k TRK_STALE.US ≤ s.bridleNs - (s.core k).chg →
    ∃ t, exec (.staleExpiry k) s = .next t ∧ t.trState k = trRun ∧ t.est k = s.est k ∧ t.estVel k = 0 ∧ t.rdTrk k TRK_EVENT.STILL = 1) ∧
  (∀ (s : State) (k : Nat), k < 64 → (s.trState k = trAcquire ∨ s.trState k = trRun) → s.trMod k = 0 → 2 ^ 47 * oneCount ≤ s.est k →
    (s.track k).faulting = [] →
    ∃ t, exec (.rangeOverflow k) s = .next t ∧ (t.settleFault k).trState k = trFault ∧ ((t.settleFault k).track k).cause = 3 ∧
      (t.settleFault k).est k = 2 ^ 47 * oneCount - 1) ∧
  (∀ (s : State) (k : Nat), k < 64 → (s.trState k = trAcquire ∨ s.trState k = trRun) → s.trMod k = 0 → s.est k < -(2 ^ 47 * oneCount) →
    (s.track k).faulting = [] →
    ∃ t, exec (.rangeOverflow k) s = .next t ∧ (t.settleFault k).trState k = trFault ∧ ((t.settleFault k).track k).cause = 3 ∧
      (t.settleFault k).est k = -(2 ^ 47 * oneCount))

/-- A POSITION word that the port takes places a FABRIC track in ACQUIRE without a sample; one from another panel, to another kind
of track, with the reserved TKIND, or within 10 ns of the last word is discarded, pulses TREFUSED and counts in TRK_PORT_DROP_CNT.
Where no PRESET of this cycle has discarded it, a TIME_STEP word, or a write of TRK_TIME_STEP_HI that passes the checks, within
TRK_STEPMAX moves the estimate of a TIME track in RUN by its offset. A TIME_RATE word in range then sets TRK_TIME_RATE and the
velocity. A track port read has position, velocity and state reach the panel at its second received edge, or 0 where a non-secure
panel names a track of the secure world, and changes nothing else. (07_bridle_tracks.md (R191, R193, R197, R206).) -/
def Obligations.TrackPortsAndTime : Prop :=
  (∀ (s : State) (p k : Nat) (val : BitVec 64), p < 576 → k < 64 → s.clkRun p = true → s.on pgBridle BRIDLE_STATUS.COUNTING = true →
    ((s.panel p).portsNs = false ∨ s.pageSecure (pgTrack k) = false) → s.rdTrk k TRK_SRC2.PANEL = p → s.trKind k = kFabric →
    (s.track k).word.all (fun c => c + 10 ≤ s.bridleNs) = true → s.trState k = trAcquire → (s.core k).acq = 0 → (s.core k).last = none →
    (s.track k).presetAt ≠ some s.bridleNs →
    ∃ t, exec (.trackPositionWord p k ⟨false, val⟩) s = .next t ∧ (t.core k).p0 = val.toInt * 65536 ∧ (t.core k).c0 = s.bridleNs ∧
      (t.core k).acq = 1 ∧ (t.track k).word = some s.bridleNs) ∧
  (∀ (s : State) (p k : Nat) (reserved : Bool) (val : BitVec 64), p < 576 → k < 64 → s.clkRun p = true →
    s.on pgBridle BRIDLE_STATUS.COUNTING = true → ((s.panel p).portsNs = false ∨ s.pageSecure (pgTrack k) = false) →
    (s.rdTrk k TRK_SRC2.PANEL ≠ p ∨ s.trKind k ≠ kFabric ∨ reserved = true ∨ (s.track k).word.any (fun c => s.bridleNs < c + 10) = true) →
    ∃ t, exec (.trackPositionWord p k ⟨reserved, val⟩) s = .next t ∧ t.tracks = s.tracks ∧ (t.panel p).due.trkRefused = true ∧
      t.rdTrk k TRK_PORT_DROP_CNT.COUNT = satAdd (2 ^ TRK_PORT_DROP_CNT.COUNT.len - 1) (s.rdTrk k TRK_PORT_DROP_CNT.COUNT) 1) ∧
  (∀ (s : State) (p k : Nat) (val : BitVec 64), p < 576 → k < 64 → s.clkRun p = true → s.on pgBridle BRIDLE_STATUS.COUNTING = true →
    ((s.panel p).portsNs = false ∨ s.pageSecure (pgTrack k) = false) → s.rdTrk k TRK_SRC2.PANEL = p → s.takesTime k = true →
    (s.track k).word.all (fun c => c + 10 ≤ s.bridleNs) = true → s.trState k = trRun → (val.toInt * 65536).natAbs ≤ s.rdTrk k TRK_STEPMAX.COUNTS * 2 ^ 32 →
    (s.track k).presetAt ≠ some s.bridleNs →
    ∃ t, exec (.timeStepWord p k val) s = .next t ∧ t.est k = s.est k + val.toInt * 65536 ∧ t.trState k = trRun) ∧
  (∀ (s : State) (p k : Nat) (val : BitVec 64), p < 576 → k < 64 → s.clkRun p = true → s.on pgBridle BRIDLE_STATUS.COUNTING = true →
    ((s.panel p).portsNs = false ∨ s.pageSecure (pgTrack k) = false) → s.rdTrk k TRK_SRC2.PANEL = p → s.takesTime k = true →
    (s.track k).word.all (fun c => c + 10 ≤ s.bridleNs) = true → s.trState k = trRun → (s.core k).edge = none → rateInRange (sint 32 val.toNat) = true →
    (s.track k).presetAt ≠ some s.bridleNs →
    ∃ t, exec (.timeRateWord p k val) s = .next t ∧ t.rdTrk k TRK_TIME_RATE.RATE = val.toNat % 2 ^ 32 ∧
      t.estVel k = oneCount + sint 32 val.toNat ∧ t.est k = s.est k) ∧
  (∀ (s : State) (a : Access) (k : Nat) (v : Word), k < 64 → s.writeGate a (pgTrack k) TRK_TIME_STEP_HI.OFFSET.off v = .pass →
    s.trKind k = kTime → s.trState k = trRun → (s.track k).faulting = [] →
    (sint 64 ((s.lowWord (trkReg k TRK_TIME_STEP_LO.OFFSET)).toNat + 2 ^ 32 * v.toNat) * 65536).natAbs ≤ s.rdTrk k TRK_STEPMAX.COUNTS * 2 ^ 32 →
    ∃ t, exec (.timeStepWrite a k v) s = .next t ∧
      t.est k = s.est k + sint 64 ((s.lowWord (trkReg k TRK_TIME_STEP_LO.OFFSET)).toNat + 2 ^ 32 * v.toNat) * 65536) ∧
  (∀ (s : State) (p k v : Nat), p < 576 → k < 64 → s.clkRun p = true →
    v = (if (s.panel p).portsNs = true ∧ s.pageSecure (pgTrack k) = true then 0
      else posWord (s.trMod k) (s.est k) + 2 ^ 64 * unsint 64 (s.estVel k) + 2 ^ 128 * s.trState k) →
    exec (.trackPortRead p k) s = .next (s.setPanel p { s.panel p with trackDue := (s.panel p).trackDue ++ [⟨2, v⟩] }))

/-- A read of TRK_POS_LO answers the low word of the position and captures its high word, both words of the velocity and
BRIDLE_NS; reads of BRIDLE_NS_LO and TRK_Z_LATCH_LO answer the low word and capture the high one; none of them changes a track. An
accepted write of the high register of a pair takes the staged low word with it. (07_bridle_tracks.md (R180, R183, R205, R206).)
-/
def Obligations.TrackRegisterReads : Prop :=
  (∀ (s : State) (a : Access) (k : Nat), k < 64 → s.shows a.who (pgTrack k) TRK_POS_LO.POS.off →
    ∃ t, exec (.trackSnapshot a k) s = .next t ∧ t.resp = ⟨.ok, posWord (s.trMod k) (s.est k) % 2 ^ 32⟩ ∧
      t.rdTrk k TRK_POS_HI.POS = posWord (s.trMod k) (s.est k) / 2 ^ 32 % 2 ^ 32 ∧
      t.rdTrk k TRK_VEL_LO.VEL = unsint 64 (s.estVel k) % 2 ^ 32 ∧ t.rdTrk k TRK_VEL_HI.VEL = unsint 64 (s.estVel k) / 2 ^ 32 % 2 ^ 32 ∧
      t.rdTrk k TRK_SNAP_NS.NS = s.bridleNs % 2 ^ 32 ∧ t.tracks = s.tracks ∧ t.bridle = s.bridle) ∧
  (∀ (s : State) (a : Access), s.shows a.who pgBridle BRIDLE_NS_LO.NS.off →
    ∃ t, exec (.bridleNsCapture a) s = .next t ∧ t.resp = ⟨.ok, s.bridleNs % 2 ^ 32⟩ ∧
      t.rd pgBridle BRIDLE_NS_HI.NS = s.bridleNs / 2 ^ 32 % 2 ^ 32 ∧ t.tracks = s.tracks) ∧
  (∀ (s : State) (a : Access) (k : Nat), k < 64 → s.shows a.who (pgTrack k) TRK_Z_LATCH_LO.POS.off →
    ∃ t, exec (.zLatchCapture a k) s = .next t ∧ t.resp = ⟨.ok, unsint 64 (seen16 (s.track k).zlatch) % 2 ^ 32⟩ ∧
      t.rdTrk k TRK_Z_LATCH_HI.POS = unsint 64 (seen16 (s.track k).zlatch) / 2 ^ 32 % 2 ^ 32 ∧ t.tracks = s.tracks) ∧
  (∀ (s : State) (a : Access) (k : Nat) (v : Word), k < 64 → s.writeGate a (pgTrack k) TRK_PRESET_HI.POS.off v = .pass → s.trMod k = 0 →
    ∃ t, exec (.stagedPairWrite a k TRK_PRESET_HI.POS.off v) s = .next t ∧ t.reg (trkReg k TRK_PRESET_HI.POS) = v ∧
      t.reg (trkReg k TRK_PRESET_LO.POS) = s.lowWord (trkReg k TRK_PRESET_LO.POS) ∧
      ∀ b, b ≠ trkReg k TRK_PRESET_HI.POS → b ≠ trkReg k TRK_PRESET_LO.POS → t.reg b = s.reg b)

/-- A staged word of an entry is kept for its initiator and changes no register. An accepted commit of a mark entry gives word 0
the written value and words 1 to 6 the staged or present ones, clears STATUS and, where the old entry is not crossed in this
cycle, changes no other register and no queue; an accepted commit of an action entry does the same for its 16 words. An admitted
range of a DISABLED track takes BASE and COUNT. (08_bridle_marks.md (R208, R209, R210, R217, R218, R230).) -/
def Obligations.MarkAndActionEntries : Prop :=
  (∀ (s : State) (a : Access) (i w : Nat) (v : Word), i < 16384 → 1 ≤ w → w < 7 →
    s.writeGate a (markAddr i w / 4096) (markAddr i w % 4096) v = .pass →
    ∃ t, exec (.markStage a i w v) s = .next t ∧ lget (t.stagedWords (stageKey a.who false) i) w = some v ∧ t.regs = s.regs ∧
      t.bridle.status = s.bridle.status) ∧
  (∀ (s : State) (a : Access) (i : Nat) (v : Word), i < 16384 → s.writeGate a (markAddr i 0 / 4096) (markAddr i 0 % 4096) v = .pass →
    s.markAccepts i v (fun j => s.newWord (stageKey a.who false) i j (markAddr i j)) = true →
    ∃ t, exec (.markCommit a i v) s = .next t ∧ t.markWord i 0 = v ∧
      (∀ j, 1 ≤ j → j < 7 → t.markWord i j = s.newWord (stageKey a.who false) i j (markAddr i j)) ∧ t.markStatus i = 0 ∧
      ((∀ k, s.markOwner i = some k → s.crossTo k i = s) →
        (∀ b, b < markAddr i 0 ∨ markAddr i 7 ≤ b → t.reg b = s.reg b) ∧ t.bridle.queue = s.bridle.queue)) ∧
  (∀ (s : State) (a : Access) (e w : Nat) (v : Word), e < 4096 → 1 ≤ w → w < 16 →
    s.writeGate a (actionAddr e w / 4096) (actionAddr e w % 4096) v = .pass →
    ∃ t, exec (.actionStage a e w v) s = .next t ∧ lget (t.stagedWords (stageKey a.who true) e) w = some v ∧ t.regs = s.regs) ∧
  (∀ (s : State) (a : Access) (e : Nat) (v : Word), e < 4096 → s.writeGate a (actionAddr e 0 / 4096) (actionAddr e 0 % 4096) v = .pass →
    (actionCommitBody a.who e v s).isSome = true →
    ∃ t, exec (.actionCommit a e v) s = .next t ∧ t.actionWord e 0 = v ∧
      (∀ j, 1 ≤ j → j < 16 → t.actionWord e j = s.newWord (stageKey a.who true) e j (actionAddr e j)) ∧
      ∀ b, b < actionAddr e 0 ∨ actionAddr e 16 ≤ b → t.reg b = s.reg b) ∧
  (∀ (s : State) (a : Access) (k : Nat) (v : Word), k < 64 → s.writeGate a pgBridle (BRIDLE_MARK_RANGE.BASE.at k).off v = .pass →
    s.trState k = trDisabled → getF v 0 14 + getF v 16 15 ≤ 16384 →
    (∀ j, j < 64 → j ≠ k → rangesMeet (getF v 0 14) (getF v 16 15) (s.rangeBase j) (s.rangeCount j) = false) →
    s.rangeOrdered k (getF v 0 14) (getF v 16 15) = true → (s.track k).faulting = [] →
    ∃ t, exec (.markRangeWrite a k v) s = .next t ∧ t.rangeBase k = getF v 0 14 ∧ t.rangeCount k = getF v 16 15 ∧
      ∀ b, b ≠ pgBridle * 4096 + (BRIDLE_MARK_RANGE.BASE.at k).off → t.reg b = s.reg b)

/-- Where no jump of this cycle waits to fire its marks, a crossed, eligible mark that a comparator of a track in RUN holds, and
before which the estimate crosses none that is held, fires: it is LATCHED, FIRED where it is a one-shot, and enters the action
queue when the track's sequencer is free and the queue has room. A predictive mark within its LEAD commits: it is LATCHED and
COMMITTED and enters the queue. A dispatched firing with no edge left to lock is over: it is no longer committed and leaves the
list; one whose conditions have broken is cancelled: CANCELLED is set, COMMITTED clears and it is counted; one whose lock point is
reached locks its edge: at the issue plus 3 ns where the predicted instant lies before that, and otherwise within a place of the
grid of it. A refill of the comparators of a track in RUN gives them the two nearest marks of each direction from the estimate
that the entry to RUN or the correction held. (08_bridle_marks.md (R211, R212, R213, R214, R216, R222, R223, R225, R226, R227).)
-/
def Obligations.MarkFirings : Prop :=
  (∀ (s : State) (k m : Nat) (fwd : Bool), k < 64 → m < 16384 → (0 < s.crossStep k ↔ fwd = true) → s.armed k m fwd = true →
    (s.track k).jump = none →
    s.eligibleMark k fwd m = true → s.crossed k m fwd = true →
    ((s.passed k fwd).filter (fun i => s.armed k i fwd)).takeWhile (· != m) = [] →
    (s.track k).heldMarks = [] → (s.track k).lastEnq.all (fun c => c + s.cycles 4 ≤ s.bridleNs) = true → s.bridle.queue.length < 256 →
    ∃ t, exec (.markCrossing k m) s = .next t ∧ t.markBit m mLatched = true ∧ t.markBit m mFired = !s.markRecur m ∧
      t.markBit m mCommitted = false ∧ (t.track k).lastEnq = some s.bridleNs ∧
      ∃ e, e ∈ t.bridle.queue ∧ e.track = k ∧ e.mark = some m ∧ e.action = s.markAction m ∧ e.enq = s.bridleNs) ∧
  (∀ (s : State) (k m : Nat) (fwd : Bool), k < 64 → m < 16384 → s.estVel k ≠ 0 → (0 < s.estVel k ↔ fwd = true) → s.armed k m fwd = true →
    s.eligibleMark k fwd m = true → s.markPredict m = true → 0 ≤ s.predDist k m fwd →
    s.predDist k m fwd ≤ s.markLead m * (s.estVel k).natAbs → (s.track k).heldMarks = [] →
    (s.track k).lastEnq.all (fun c => c + s.cycles 4 ≤ s.bridleNs) = true → s.bridle.queue.length < 256 →
    ∃ t, exec (.predictiveCommit k m) s = .next t ∧ t.markBit m mLatched = true ∧ t.markBit m mCommitted = true ∧
      ∃ e, e ∈ t.bridle.queue ∧ e.track = k ∧ e.mark = some m ∧ e.enq = s.bridleNs) ∧
  (∀ (s : State) (k m : Nat) (f : PredFire), k < 64 → m < 16384 →
    s.bridle.preds.find? (fun t => t.mark == m && t.track == k && t.dispatched) = some f → s.predBroken f = false → s.unlocked m = [] →
    ∃ t, exec (.predictLock k m) s = .next t ∧ (∀ x ∈ t.bridle.preds, x.mark ≠ m) ∧ t.markBit m mCommitted = false ∧ t.regs = s.regs) ∧
  (∀ (s : State) (k m : Nat) (f : PredFire), k < 64 → m < 16384 →
    s.bridle.preds.find? (fun t => t.mark == m && t.track == k && t.dispatched) = some f → s.predBroken f = true →
    ∃ t, exec (.predictLock k m) s = .next t ∧ (∀ x ∈ t.bridle.preds, x.mark ≠ m) ∧ t.markBit m mCommitted = false ∧
      t.markBit m mCancelled = true ∧ t.unlocked m = [] ∧
      t.rd pgBridle BRIDLE_PRED_CANCEL_CNT.COUNT =
        satAdd (2 ^ BRIDLE_PRED_CANCEL_CNT.COUNT.len - 1) (s.rd pgBridle BRIDLE_PRED_CANCEL_CNT.COUNT) 1) ∧
  (∀ (s : State) (k m n : Nat) (f : PredFire) (e : PinEdge), k < 64 → m < 16384 →
    s.bridle.preds = [f] → f.mark = m → f.track = k → f.dispatched = true → s.predBroken f = false →
    s.unlocked m = [(n, e)] → e.issue ≤ s.bridleNs →
    (s.predInstant f).1 - 24 * (s.predInstant f).2 ≤ 8 * s.bridleNs * (s.predInstant f).2 →
    ∃ t, exec (.predictLock k m) s = .next t ∧ t.unlocked m = [] ∧ t.markBit m mCommitted = false ∧
      ∃ at8, { e with at8 := at8, pred := none } ∈ (t.pin n).edges ∧
        ((s.predInstant f).1 < 8 * (e.issue + 3) * (s.predInstant f).2 → at8 = 8 * (e.issue + 3)) ∧
        (8 * (e.issue + 3) * (s.predInstant f).2 ≤ (s.predInstant f).1 → s.bridleSlow = false →
          (at8 : Int) * (s.predInstant f).2 ≤ (s.predInstant f).1 + (s.predInstant f).2 ∧
          (s.predInstant f).1 ≤ (at8 : Int) * (s.predInstant f).2 + (s.predInstant f).2)) ∧
  (∀ (s : State) (k : Nat), k < 64 → s.trState k = trRun →
    ∃ t, exec (.comparatorRefill k) s = .next t ∧
      t.comps k = { fwd := s.nextTwo k true ((s.comps k).start.getD (s.est k)), rev := s.nextTwo k false ((s.comps k).start.getD (s.est k)),
                    ready := true, due := false } ∧
      t.regs = s.regs ∧ t.bridle.queue = s.bridle.queue)

/-- The dispatcher, when it is free, takes the head of the queue, which was queued in an earlier cycle: with an action whose four
operations are NOP the queue loses its head, the dispatcher is busy for 4 Bridle cycles and BRIDLE_ACT_CNT counts one; with a
STAGE operation in slot 0 that the worlds allow the stage register takes its value too. An accepted write of BRIDLE_STAGE_DATA
gives the selected register its value and advances its sequence number modulo 256. A stage port read has the register's value and
sequence number reach the panel at its second received edge, or 0 where a non-secure panel meets a secure Bridle. The first edge
of a pin that waits for no lock, once it is due, leaves the pin's list and gives OUT its level (rise 1, fall 0, toggle and the
leading edge of a pulse the inverse, a trailing edge the level it stored); a rise, a fall or a toggle cancels a pending trailing
edge, and a pulse schedules its own WIDTH x 125 ps later. (08_bridle_marks.md (R218, R221, R222, R223), 08_bridle_marks.md
(R220).) -/
def Obligations.ActionsAndStageRegisters : Prop :=
  (∀ (s : State) (e : QEntry) (rest : List QEntry), s.bridle.queue = e :: rest → s.bridle.free ≤ s.bridleNs → e.enq < s.bridleNs →
    (∀ j, j < 4 → getF (s.actionWord e.action (4 * j)) 28 4 = 0) →
    ∃ t, exec .actionDispatch s = .next t ∧ t.bridle.queue = rest ∧ t.bridle.free = s.bridleNs + s.cycles 4 ∧
      t.rd pgBridle BRIDLE_ACT_CNT.COUNT = satAdd (2 ^ BRIDLE_ACT_CNT.COUNT.len - 1) (s.rd pgBridle BRIDLE_ACT_CNT.COUNT) 1 ∧
      t.bridle.stage = s.bridle.stage ∧ t.tracks = s.tracks) ∧
  (∀ (s : State) (e : QEntry) (rest : List QEntry), s.bridle.queue = e :: rest → s.bridle.free ≤ s.bridleNs → e.enq < s.bridleNs →
    getF (s.actionWord e.action 0) 28 4 = 6 → (∀ j, 1 ≤ j → j < 4 → getF (s.actionWord e.action (4 * j)) 28 4 = 0) →
    s.worldAdmits (.bridle e.track) pgBridle = true →
    ∃ t, exec .actionDispatch s = .next t ∧ t.bridle.queue = rest ∧
      nget t.bridle.stage (getF (s.actionWord e.action 0) 0 8) % 2 ^ 32 = (s.actionWord e.action 1).toNat) ∧
  (∀ (s : State) (a : Access) (v : Word), s.writeGate a pgBridle BRIDLE_STAGE_DATA.VALUE.off v = .pass →
    ∃ t, exec (.stageDataWrite a v) s = .next t ∧
      nget t.bridle.stage (s.rd pgBridle BRIDLE_STAGE_INDEX.REG) =
        (nget s.bridle.stage (s.rd pgBridle BRIDLE_STAGE_INDEX.REG) / 2 ^ 32 + 1) % 256 * 2 ^ 32 + v.toNat ∧
      (∀ r, r ≠ s.rd pgBridle BRIDLE_STAGE_INDEX.REG → nget t.bridle.stage r = nget s.bridle.stage r) ∧ t.regs = s.regs) ∧
  (∀ (s : State) (p r v : Nat), p < 576 → r < 256 → s.clkRun p = true →
    v = (if (s.panel p).portsNs = true ∧ s.pageSecure pgBridle = true then 0 else nget s.bridle.stage r) →
    exec (.stagePortRead p r) s = .next (s.setPanel p { s.panel p with stageDue := (s.panel p).stageDue ++ [⟨2, v⟩] })) ∧
  (∀ (s : State) (n : Nat) (e : PinEdge), n < 624 → (s.pin n).edges.find? (fun e => e.pred.isNone) = some e → e.at8 < 8 * s.bridleNs + 8 * s.cycles 1 →
    ∃ t, exec (.pinEdge n) s = .next t ∧
      t.rdPin n FIO_PIN_CFG.OUT = (if e.op = 0 then 1 else if e.op = 1 then 0 else if e.op = 4 then bnat e.level
        else 1 - s.rdPin n FIO_PIN_CFG.OUT) ∧
      (e.op = 4 → (t.pin n).edges = (s.pin n).edges.erase e) ∧
      (e.op = 3 → { e with op := 4, at8 := e.at8 + e.width, level := s.rdPin n FIO_PIN_CFG.OUT == 1, pred := none } ∈ (t.pin n).edges) ∧
      (e.op < 3 → (t.pin n).edges = ((s.pin n).edges.erase e).filter (fun x => x.op != 4)) ∧
      ∀ m, m ≠ n → t.pin m = s.pin m)

/-- At its boundary a stagger window shows its counts in GOV_SWAP_ROWS and GOV_FILLS, and the next starts with no rows and the
length of GOV_WINDOW, and with no held work with no fills either; an alignment starts a window at the present Bridle cycle with
that length, and keeps the rows and every owner. A conversion of columns that are all different gives each of their four sensors
its reading by the rule of R237. A forced switch holds the panel and shows the column as held: a panel without a usable COOL plane
has its clock gated; one that runs its COOL plane gets no switch; any other gets, where no request of the same instant meets it, a
switch to its COOL plane, and a pending group switch that shares the panel is dropped. A prefetch held past its limit is abandoned
and counted. (09_stagger_and_bounds.md (R233, R234, R237, R239, R241, R242).) -/
def Obligations.StaggerWindowsAndTemperature : Prop :=
  (∀ (s : State), s.windowsRun = true → s.windowEnd ≤ s.bridleNs →
    ∃ t, exec .staggerWindowBoundary s = .next t ∧ t.gov.rows = 0 ∧ t.gov.len = s.rd pgPwr GOV_WINDOW.US ∧
      t.rd pgPwr GOV_SWAP_ROWS.ROWS = min s.gov.rows (2 ^ 28 - 1) ∧ t.rd pgPwr GOV_FILLS.FILLS = min s.gov.fills (2 ^ 23 - 1) ∧
      (s.gov.work = [] → t.gov.fills = 0 ∧ t.panels = s.panels)) ∧
  (∀ (s : State) (a : Access) (mode : Bool), s.windowsRun = true →
    s.writeGate a pgPwr GOV_CTRL.MODE.off (setF (setF 0 0 1 (bnat mode)) 4 1 1) = .pass →
    ∃ t, exec (.govAlign a mode) s = .next t ∧ t.gov.align = s.bridleNs ∧ t.gov.start = s.bridleNs ∧ t.gov.rows = s.gov.rows ∧
      t.gov.len = s.rd pgPwr GOV_WINDOW.US ∧ (∀ c, c < 288 → nget s.gov.owner c ≠ 0 → nget t.gov.owner c = nget s.gov.owner c) ∧
      t.rd pgPwr GOV_CTRL.MODE = bnat mode) ∧
  (∀ (s : State) (rs : List (Nat × Int × Int × Int × Int)), rs.all (fun r => r.1 < 288) = true → (rs.map (·.1)).Nodup →
    ∃ t, exec (.tempConversion rs) s = .next t ∧ ∀ r ∈ rs,
      t.sensor r.1 1 = (s.sensor r.1 1).convert r.2.1 ∧ t.sensor r.1 2 = (s.sensor r.1 2).convert r.2.2.1 ∧
      t.sensor r.1 3 = (s.sensor r.1 3).convert r.2.2.2.1 ∧ t.sensor r.1 4 = (s.sensor r.1 4).convert r.2.2.2.2) ∧
  (∀ (s : State) (c : Nat), c < 288 → (s.govCol c).due ≠ 0 → lget s.pf.running (sidePanel c (s.govCol c).due) = none →
    s.coolUsable (sidePanel c (s.govCol c).due) = false →
    ∃ t, exec (.forcedSwitch c) s = .next t ∧ (t.panel (sidePanel c (s.govCol c).due)).govHeld = true ∧
      (t.panel (sidePanel c (s.govCol c).due)).govGated = true ∧ t.columnHeld c = true ∧ (t.govCol c).due = 0 ∧
      t.rd pgPwr GOV_EVENT.HOT = 1 ∧ t.switches = s.switches) ∧
  (∀ (s : State) (c : Nat), c < 288 → (s.govCol c).due ≠ 0 → lget s.pf.running (sidePanel c (s.govCol c).due) = none →
    s.coolUsable (sidePanel c (s.govCol c).due) = true → s.runsCool (sidePanel c (s.govCol c).due) = true →
    ∃ t, exec (.forcedSwitch c) s = .next t ∧ (t.panel (sidePanel c (s.govCol c).due)).govHeld = true ∧
      t.columnHeld c = true ∧ t.rd pgPwr GOV_EVENT.HOT = 1 ∧ t.switches = s.switches) ∧
  (∀ (s : State) (c p : Nat), c < 288 → (s.govCol c).due ≠ 0 → p = sidePanel c (s.govCol c).due → lget s.pf.running p = none →
    s.coolUsable p = true → s.runsCool p = false → (∀ e ∈ s.planeNow, e.at_ ≠ s.ns) → (∀ e ∈ s.switches, e.forced = false) →
    ∃ t, exec (.forcedSwitch c) s = .next t ∧ (t.panel p).govHeld = true ∧ t.columnHeld c = true ∧
      { forced := true, panel := p, slot := s.rd (pgPanel p) PANEL_PLANE_CTRL.COOL_PLANE, src := .governor, at_ := s.ns } ∈ t.switches ∧
      ∀ e ∈ s.switches, e.pending = true → p ∈ s.liveMembers e.group → e ∉ t.switches) ∧
  (∀ (s : State) (p : Nat) (h : HeldPf), p < 576 → (s.panel p).heldPf = some h → 1000 * h.limit ≤ s.ns - h.at_ →
    ∃ t, exec (.prefetchDeferTimeout p) s = .next t ∧ (t.panel p).heldPf = none ∧ HeldWork.prefetch p ∉ t.gov.work ∧
      t.rd (pgPanel p) PLANE_PF_DROP.COUNT = satAdd (2 ^ PLANE_PF_DROP.COUNT.len - 1) (s.rd (pgPanel p) PLANE_PF_DROP.COUNT) 1)

/-- An accepted VSET between VMIN and 60 is stored. A ramp that has reached its set point turns the group ON. A fault of a Sail
group that is not off shows in PWR_STATUS and leaves the device in PARK with cause 2, the group in FAULT and every Sail group off
or in FAULT; one of another group is a C reset with source 3. REG_RESUME clears the fault, and with no trip wakes a device that a
fault or a trip has parked; it is rejected while a group still shows its fault. A rail sample stores the reading and judges it
against its window. A trip leaves the device in PARK with cause 1, every Sail group off or in FAULT; GOV_CTRL.RESUME with every
working sensor below WARN clears TRIPPED. (17_power_and_wear.md (R420, R421, R422, R424, R426), 09_stagger_and_bounds.md (R240).)
-/
def Obligations.PowerEvents : Prop :=
  (∀ (s : State) (a : Access) (g : Nat) (v : Word), g < 16 → s.writeGate a pgPwr (PWR_REG.VSET.at g).off v = .pass →
    s.rd pgPwr (PWR_REG.VMIN.at g) ≤ getF v 0 6 → getF v 0 6 ≤ 60 →
    ∃ t, exec (.vsetWrite a g v) s = .next t ∧ t.rd pgPwr (PWR_REG.VSET.at g) = getF v 0 6 ∧
      (s.regState g = rgOff → t.regState g = rgOff) ∧
      ∀ b, b ≠ pgPwr * 4096 + (PWR_REG.VSET.at g).off → b ≠ pgPwr * 4096 + (PWR_REG.STATE.at g).off → t.reg b = s.reg b) ∧
  (∀ (s : State) (g : Nat), g < 16 → s.regState g = rgRamping → s.rampNow g = s.setPoint g →
    ∃ t, exec (.regRampDone g) s = .next t ∧ t.regState g = rgOn) ∧
  (∀ (s : State) (g : Nat), g < 16 → isSailReg g = true → s.regState g ≠ rgOff → s.regState g ≠ rgFault →
    ∃ t, exec (.regFault g) s = .next t ∧ t.rd pgPwr PWR_STATUS.REG_FAULT = 1 ∧ t.regState g = rgFault ∧ t.devState = devPark ∧
      t.rd pgReset DEV_STATE.CAUSE = 2 ∧
      ∀ h, h ∈ sailRegs → t.regState h = rgOff ∨ t.regState h = rgFault) ∧
  (∀ (s : State) (g : Nat), g < 16 → isSailReg g = false → s.regState g ≠ rgOff → s.regState g ≠ rgFault →
    ∃ t, exec (.regFault g) s = .next t ∧ t.rd pgReset RESET_CAUSE.CLASS = 1 ∧ t.rd pgReset RESET_CAUSE.SRC = 3) ∧
  (∀ (s : State) (a : Access), s.writeGate a pgPwr PWR_CTRL.REG_RESUME.off 1 = .pass → s.on pgPwr PWR_STATUS.REG_FAULT = true →
    ∃ t, exec (.regResume a false) s = .next t ∧ t.rd pgPwr PWR_STATUS.REG_FAULT = 0 ∧
      (s.devState = devPark → s.rd pgReset DEV_STATE.CAUSE ≠ 0 → s.on pgPwr GOV_STATUS.TRIPPED = false → t.devState = devWaking)) ∧
  (∀ (s : State) (a : Access), s.writeGate a pgPwr PWR_CTRL.REG_RESUME.off 1 = .pass →
    ∃ t, exec (.regResume a true) s = .next t ∧ t = { s with regs := t.regs, resp := ⟨.rejected, 0⟩ } ∧ t.rd pgPwr PAGE_ERRSUM.REJECT = 1) ∧
  (∀ (s : State) (i mv : Nat), i < 35 → mv < 8192 → s.pf.running = [] →
    ∃ t, exec (.railSample [(i, mv)]) s = .next t ∧ t.rd (pgRail i) PWRMON_DATA.MV = mv ∧
      t.rd (pgRail i) PWRMON_DATA.UV = bnat ((s.railWindow i).any (fun w => mv * 100 < w.1)) ∧
      t.rd (pgRail i) PWRMON_DATA.OV = bnat ((s.railWindow i).any (fun w => w.2 < mv * 100))) ∧
  (∀ (s : State), ∃ t, exec .thermalTrip s = .next t ∧ t.rd pgPwr GOV_STATUS.TRIPPED = 1 ∧ t.rd pgPwr GOV_EVENT.TRIP = 1 ∧
    t.devState = devPark ∧ t.rd pgReset DEV_STATE.CAUSE = 1 ∧ ∀ g, g ∈ sailRegs → t.regState g = rgOff ∨ t.regState g = rgFault) ∧
  (∀ (s : State) (a : Access) (mode : Bool), s.writeGate a pgPwr GOV_CTRL.MODE.off (BitVec.ofNat 32 (256 + bnat mode)) = .pass →
    s.on pgPwr GOV_STATUS.TRIPPED = true → s.sensorsCool = true →
    ∃ t, exec (.govResume a mode) s = .next t ∧ t.rd pgPwr GOV_STATUS.TRIPPED = 0 ∧ t.rd pgPwr GOV_CTRL.MODE = bnat mode)

/-- A power-fail warning that rises sets PF_WARN, PF_HELD and its event bit and counts; its end clears PF_WARN, and PF_HELD too
under AUTO_RELEASE; an accepted release clears PF_HELD. An accepted write of FRAY_UNITS that does not lower them sets the selected
column's units, and the weight of a half-cycle of the same cycle (Access.same) comes on top. A pending odometer bit is burnt while
VFUSE is in range and PF_WARN is 0: the odometer grows by one. (17_power_and_wear.md (R424, R426, R429, R430).) -/
def Obligations.PowerFailAndWear : Prop :=
  (∀ (s : State), s.on pgPwr PWR_STATUS.PF_WARN = false →
    ∃ t, exec .pfWarn s = .next t ∧ t.rd pgPwr PWR_STATUS.PF_WARN = 1 ∧ t.rd pgPwr PWR_STATUS.PF_HELD = 1 ∧ t.rd pgPwr PWR_EVENT.PF_WARN = 1 ∧
      t.rd pgPwr PWR_PF_CNT.COUNT = satAdd (2 ^ PWR_PF_CNT.COUNT.len - 1) (s.rd pgPwr PWR_PF_CNT.COUNT) 1 ∧ t.mem = s.mem) ∧
  (∀ (s : State), s.on pgPwr PWR_STATUS.PF_WARN = true →
    ∃ t, exec .pfClear s = .next t ∧ t.rd pgPwr PWR_STATUS.PF_WARN = 0 ∧ t.rd pgPwr PWR_EVENT.PF_CLEAR = 1 ∧
      t.rd pgPwr PWR_STATUS.PF_HELD = (if s.on pgPwr PWR_PF_CTRL.AUTO_RELEASE then 0 else s.rd pgPwr PWR_STATUS.PF_HELD)) ∧
  (∀ (s : State) (a : Access), s.writeGate a pgPwr PWR_PF_RELEASE.RELEASE.off 1 = .pass → s.on pgPwr PWR_STATUS.PF_WARN = false →
    s.on pgPwr PWR_STATUS.PF_HELD = true →
    ∃ t, exec (.pfRelease a) s = .next t ∧ t.rd pgPwr PWR_STATUS.PF_HELD = 0 ∧ t.pins = s.pins) ∧
  (∀ (s : State) (a : Access) (v : Word), s.writeGate a pgFray FRAY_UNITS.UNITS.off v = .pass →
    s.frayUnits (s.rd pgFray FRAY_SEL.COLUMN) ≤ v.toNat + a.same.toNat →
    ∃ t, exec (.frayUnitsWrite a v) s = .next t ∧ t.frayUnits (s.rd pgFray FRAY_SEL.COLUMN) = min (2 ^ 32 - 1) (v.toNat + a.same.toNat) ∧
      ∀ c, c < 288 → c ≠ s.rd pgFray FRAY_SEL.COLUMN → t.frayUnits c = s.frayUnits c) ∧
  (∀ (s : State), s.odoPending ≠ 0 → s.on pgSpar STACK_FUSEMAP.VFUSE_OK = true → s.on pgPwr PWR_STATUS.PF_WARN = false →
    ∃ t, exec .odoBurn s = .next t ∧ t.fuses = { s.fuses with odo := s.fuses.odo + 1 } ∧ t.rd pgFray FRAY_EVENT.ODO_BURN = 1)

/-- A new level at a pin with a glitch filter changes the synchroniser alone. A synchronised level that has held for GLITCH_NS
cycles of the bank's domain passes the filter, and one that has not held so long changes nothing; with a debounce time the
debounced level stays, and without one it is the filtered level. A filtered level that has held for DEBOUNCE_US becomes the
debounced one, and where the pin is the presence pin of a memberless enabled group that then does not read present, and was
present, the group is HELD. An accepted enable of a group stores its settings, and a group without presence is HELD from then on;
an accepted replug clears HELD. (21_field_io.md (R493, R494, R497, R499).) -/
def Obligations.PinInputStages : Prop :=
  (∀ (s : State) (n : Nat) (level : Bool), n < 624 → (s.pin n).sync ≠ level → s.rdPin n FIO_PIN_FILT.GLITCH_NS ≠ 0 →
    exec (.pinInput n level) s = .next (s.setPin n { s.pin n with sync := level, syncAt := s.ns })) ∧
  (∀ (s : State) (n : Nat), n < 624 → (s.pin n).sync ≠ (s.pin n).filt → 
    (s.pin n).syncAt + s.bankCycles (n / 48) (s.rdPin n FIO_PIN_FILT.GLITCH_NS) ≤ s.ns →
    ∃ t, exec (.glitchFilterPass n) s = .next t ∧ (t.pin n).filt = (s.pin n).sync ∧
      (t.pin n).deb = (if s.rdPin n FIO_PIN_FILT.DEBOUNCE_US = 0 then t.filtLevel n else (s.pin n).deb) ∧
      (t.on pgPlug FIO_TRIP.LATCHED = true ∨ t.tripReads = false)) ∧
  (∀ (s : State) (n : Nat), n < 624 → s.ns < (s.pin n).syncAt + s.bankCycles (n / 48) (s.rdPin n FIO_PIN_FILT.GLITCH_NS) →
    exec (.glitchFilterPass n) s = .next s) ∧
  (∀ (s : State) (n : Nat), n < 624 → s.filtLevel n ≠ (s.pin n).deb →
    (s.pin n).filtAt + 1000 * s.rdPin n FIO_PIN_FILT.DEBOUNCE_US ≤ s.ns → (∀ g, g < 32 → s.pgEnabled g = true → s.rdPg g FIO_PG_CTRL.PRES_PIN ≠ n) →
    exec (.debounceExpiry n) s = .next (s.setPin n { s.pin n with deb := s.filtLevel n })) ∧
  (∀ (s : State) (n g : Nat), n < 624 → g < 32 → s.filtLevel n ≠ (s.pin n).deb →
    (s.pin n).filtAt + 1000 * s.rdPin n FIO_PIN_FILT.DEBOUNCE_US ≤ s.ns → s.pgEnabled g = true → s.rdPg g FIO_PG_CTRL.PRES_PIN = n →
    s.pgPresent g = true → (∀ m, m < 624 → s.rdPin m FIO_PIN_CFG.PG_MEMBER = 0) →
    ∃ t, exec (.debounceExpiry n) s = .next t ∧ (t.pin n).deb = s.filtLevel n ∧ t.pgPresent g = false ∧ t.pgHeld g = true ∧
      bitOf (t.rd pgPlug FIO_PG_EVENT.LOST) g = true) ∧
  (∀ (s : State) (a : Access) (g : Nat) (v : Word), g < 32 → s.writeGate a pgPlug (FIO_PG_CTRL.ENABLE.at g).off (v ||| 1) = .pass →
    s.rdPin (getF (v ||| 1) 16 10) FIO_PIN_CFG.PG_MEMBER = 0 → (∀ m, m < 624 → s.rdPin m FIO_PIN_CFG.PG_MEMBER = 0) →
    ∃ t, exec (.pgEnable a g v) s = .next t ∧ t.pgEnabled g = true ∧ t.rdPg g FIO_PG_CTRL.PRES_PIN = getF (v ||| 1) 16 10 ∧
      (s.pgEnabled g = false → t.pgPresent g = false → t.pgHeld g = true)) ∧
  (∀ (s : State) (a : Access) (g : BitVec 5), s.writeGate a pgPlug FIO_PG_REPLUG.GROUP.off (g.setWidth 32) = .pass →
    s.pgPresent g.toNat = true → s.pgHeld g.toNat = true →
    ∃ t, exec (.pgReplug a g) s = .next t ∧ t.pgHeld g.toNat = false ∧ t.pins = s.pins ∧
      ∀ h, h < 32 → h ≠ g.toNat → t.pgHeld h = s.pgHeld h)

/-- An accepted clear of FIO_TRIP while no trip input reads 1 clears LATCHED; while one reads 1 it is rejected; where one rises in
the same cycle (Access.same) the latch stays and the setting is counted. An admitted pin setting of a pin that is to be in no
group and has a debounce time is stored. An accepted write of FIO_OUT changes OUT of the REGISTER-owned pins of its part of the
bank and of no other pin. A conversion of the next enabled channel stores its code as valid; a code outside its window sets its
MADC_EVENT bit. IDCODE answers 0x05A24E1B; SAMPLE/PRELOAD loads the boundary register; EXTEST and HIGHZ are in force only with the
JTAG_EXT strap and act as BYPASS without it, and no instruction changes a register or a pin state. (21_field_io.md (R495, R498,
R501, R503, R504, R506).) -/
def Obligations.FieldOutputsAndMonitor : Prop :=
  (∀ (s : State) (a : Access), s.writeGate a pgPlug FIO_TRIP.LATCHED.off 2 = .pass → a.same.getLsbD 0 = false → s.tripReads = false →
    ∃ t, exec (.tripClear a) s = .next t ∧ t.on pgPlug FIO_TRIP.LATCHED = false ∧ t.pins = s.pins ∧
      ∀ b, b ≠ pgPlug * 4096 + FIO_TRIP.LATCHED.off → t.reg b = s.reg b) ∧
  (∀ (s : State) (a : Access), s.writeGate a pgPlug FIO_TRIP.LATCHED.off 2 = .pass → a.same.getLsbD 0 = false → s.tripReads = true →
    ∃ t, exec (.tripClear a) s = .next t ∧ t.resp = ⟨.rejected, 0⟩ ∧ t.rd pgPlug FIO_TRIP.LATCHED = s.rd pgPlug FIO_TRIP.LATCHED) ∧
  (∀ (s : State) (a : Access), s.writeGate a pgPlug FIO_TRIP.LATCHED.off 2 = .pass → a.same.getLsbD 0 = true →
    ∃ t, exec (.tripClear a) s = .next t ∧ t.rd pgPlug FIO_TRIP.LATCHED = s.rd pgPlug FIO_TRIP.LATCHED ∧ t.resp = ⟨.ok, 0⟩ ∧
      t.rd pgPlug FIO_TRIP_CNT.COUNT = satAdd (2 ^ FIO_TRIP_CNT.COUNT.len - 1) (s.rd pgPlug FIO_TRIP_CNT.COUNT) 1) ∧
  (∀ (s : State) (a : Access) (n : Nat) (v : Word), 192 ≤ n → n < 624 →
    s.writeGate a (pgFio (n / 48)) (FIO_PIN_CFG.OWNER.at (n % 48)).off v = .pass → getF v 0 2 = s.rdPin n FIO_PIN_CFG.OWNER →
    getF v 10 2 = 0 → getF v FIO_PIN_CFG.PG_MEMBER.lo 1 = 0 → s.rdPin n FIO_PIN_FILT.DEBOUNCE_US ≠ 0 →
    ∃ t, exec (.pinCfgWrite a n v) s = .next t ∧ ∀ b, b = pgFio (n / 48) * 4096 + (FIO_PIN_CFG.OWNER.at (n % 48)).off →
      t.reg b = (s.storeReg (pgFio (n / 48)) (FIO_PIN_CFG.OWNER.at (n % 48)).off v).reg b) ∧
  (∀ (s : State) (a : Access) (b : Nat) (hi : Bool) (v : Word), b < 13 →
    s.writeGate a (pgFio b) (if hi then FIO_OUT_HI.OUT.off else FIO_OUT_LO.OUT.off) v = .pass →
    ∃ t, exec (.fioOutWrite a b hi v) s = .next t ∧ t.pins = s.pins ∧
      (∀ i, i < (if hi then 16 else 32) → t.rdPin (48 * b + (if hi then 32 else 0) + i) FIO_PIN_CFG.OUT =
        if s.rdPin (48 * b + (if hi then 32 else 0) + i) FIO_PIN_CFG.OWNER = 3 then getF v i 1
        else s.rdPin (48 * b + (if hi then 32 else 0) + i) FIO_PIN_CFG.OUT) ∧
      ∀ n, n < 624 → (n < 48 * b + (if hi then 32 else 0) ∨ 48 * b + (if hi then 48 else 32) ≤ n) →
        t.rdPin n FIO_PIN_CFG.OUT = s.rdPin n FIO_PIN_CFG.OUT) ∧
  (∀ (s : State) (code : BitVec 12) (ch : Nat), s.madcChannel = some ch →
    ∃ t, exec (.madcConversion code) s = .next t ∧ t.rd pgPlug (MADC_DATA.CODE.at ch) = code.toNat ∧ t.rd pgPlug (MADC_DATA.VALID.at ch) = 1 ∧
      t.madcNext = (ch + 1) % 16 ∧
      ((code.toNat < s.rd pgPlug (MADC_WIN.LO.at ch) ∨ s.rd pgPlug (MADC_WIN.HI.at ch) < code.toNat) →
        bitOf (t.rd pgPlug MADC_EVENT.OUT) ch = true)) ∧
  (∀ (s : State), ∃ t, exec .jtagBypass s = .next t ∧ t.jtag.instr = .bypass ∧ t.jtag.out = 0 ∧ t.regs = s.regs ∧ t.pins = s.pins) ∧
  (∀ (s : State), ∃ t, exec .jtagIdcode s = .next t ∧ t.jtag.instr = .idcode ∧ t.jtag.out = 0x05A24E1B ∧ t.regs = s.regs ∧ t.pins = s.pins) ∧
  (∀ (s : State) (load : BitVec 1872), ∃ t, exec (.jtagSamplePreload load) s = .next t ∧ t.jtag.instr = .samplePreload ∧ t.jtag.cells = load ∧
    t.regs = s.regs ∧ t.pins = s.pins) ∧
  (∀ (s : State) (load : BitVec 1872), ∃ t, exec (.jtagExtest load) s = .next t ∧ t.regs = s.regs ∧ t.pins = s.pins ∧
    (s.straps.jtagExt = false → t.jtag.instr = .bypass ∧ ∀ n, t.ballDrive n = t.pinDrive n) ∧
    (s.straps.jtagExt = true → t.jtag.instr = .extest ∧
      ∀ n, t.ballDrive n = if load.getLsbD (3 * n + 2) then (if load.getLsbD (3 * n + 1) then .high else .low) else .hiZ)) ∧
  (∀ (s : State), ∃ t, exec .jtagHighz s = .next t ∧ t.regs = s.regs ∧ t.pins = s.pins ∧
    (s.straps.jtagExt = false → t.jtag.instr = .bypass) ∧ (s.straps.jtagExt = true → t.jtag.instr = .highz ∧ ∀ n, t.ballDrive n = .hiZ))

/-- A read reports the selected record, with its generation, length and up to 512 bytes in RS_BUF, or EMPTY. An accepted commit or
erase with no other in progress makes the store busy with it and changes no record; a commit without VBAT ends at once with
NO_STORE and one under power-fail with PF_REFUSED. A commit that completes writes the buffer that does not hold the current
version, with GEN one higher, and leaves the other; an erase that completes leaves both buffers empty. A keyed zeroise, and a
tamper event, empty the store and key RAM and end every job; the tamper event sets RS_STATUS.TAMPERED. (19_startup_and_reset.md
(R474, R475, R476, R477).) -/
def Obligations.RetainedStoreCommands : Prop :=
  (∀ (s : State) (a : Access), s.writeGate a pgReset RS_CMD.OP.off 1 = .pass → s.on pgReset RS_STATUS.BUSY = false →
    s.record (s.rd pgReset RS_SEL.ID) = none →
    ∃ t, exec (.rsRead a) s = .next t ∧ t.rd pgReset RS_STATUS.RESULT = 2 ∧ t.rd pgReset RS_RLEN.BYTES = 0 ∧ t.store = s.store) ∧
  (∀ (s : State) (a : Access) (b : RsBuf), s.writeGate a pgReset RS_CMD.OP.off 1 = .pass → s.on pgReset RS_STATUS.BUSY = false →
    s.record (s.rd pgReset RS_SEL.ID) = some b →
    ∃ t, exec (.rsRead a) s = .next t ∧ t.rd pgReset RS_STATUS.RESULT = 1 ∧ t.rd pgReset RS_GEN.GEN = b.w1.toNat ∧
      t.rd pgReset RS_RLEN.BYTES = getF b.w0 16 RS_RLEN.BYTES.len ∧ t.rsBytes (b.data.take 512).length = b.data.take 512 ∧ t.store = s.store) ∧
  (∀ (s : State) (a : Access), s.writeGate a pgReset RS_CMD.OP.off 2 = .pass → s.on pgReset RS_STATUS.BUSY = false →
    isUserRecord (s.rd pgReset RS_SEL.ID) = true → s.jobs = [] →
    ∃ t, exec (.rsCommit a) s = .next t ∧ t.store = s.store ∧
      (s.vbat = false → t.jobs = [] ∧ t.rd pgReset RS_STATUS.BUSY = 0 ∧ t.rd pgReset RS_STATUS.RESULT = 3) ∧
      (s.vbat = true → s.pfBlocked = true → t.jobs = [] ∧ t.rd pgReset RS_STATUS.BUSY = 0 ∧ t.rd pgReset RS_STATUS.RESULT = 4) ∧
      (s.vbat = true → s.pfBlocked = false → t.rd pgReset RS_STATUS.BUSY = 1 ∧
        t.jobs = [⟨s.rd pgReset RS_SEL.ID, .host, false, s.rsBytes (s.rd pgReset RS_LEN.BYTES), []⟩])) ∧
  (∀ (s : State) (a : Access), s.writeGate a pgReset RS_CMD.OP.off 3 = .pass → s.on pgReset RS_STATUS.BUSY = false → s.jobs = [] →
    ∃ t, exec (.rsErase a) s = .next t ∧ t.store = s.store ∧ t.rd pgReset RS_STATUS.BUSY = 1 ∧
      t.jobs = [⟨s.rd pgReset RS_SEL.ID, .host, true, [], []⟩]) ∧
  (∀ (s : State) (j : RsJob) (b : Nat), s.jobs = [j] → j.erase = false → s.currentBuf j.id = some b →
    ∃ t, exec .rsCommitDone s = .next t ∧ t.jobs = [] ∧ t.rsBuf j.id b = s.rsBuf j.id b ∧ (t.rsBuf j.id (1 - b)).data = j.data ∧
      (t.rsBuf j.id (1 - b)).w1.toNat = ((s.rsBuf j.id b).w1.toNat + 1) % 2 ^ 32 ∧ t.kram = s.kram ∧
      (j.who = .host → t.rd pgReset RS_STATUS.BUSY = 0 ∧ t.rd pgReset RS_STATUS.RESULT = 1)) ∧
  (∀ (s : State) (j : RsJob), s.jobs = [j] → j.erase = true →
    ∃ t, exec .rsEraseDone s = .next t ∧ t.jobs = [] ∧ t.rsBuf j.id 0 = {} ∧ t.rsBuf j.id 1 = {} ∧
      (∀ id b, b < 2 → id ≠ j.id → t.rsBuf id b = s.rsBuf id b) ∧
      (j.who = .host → t.rd pgReset RS_STATUS.BUSY = 0 ∧ t.rd pgReset RS_STATUS.RESULT = 1)) ∧
  (∀ (s : State) (a : Access), s.writeGate a pgReset RS_ZEROISE.KEY.off 0x5A0F = .pass →
    ∃ t, exec (.rsZeroise a 0x5A0F) s = .next t ∧ t.store = [] ∧ t.kram = [] ∧ t.jobs = [] ∧ t.mem = s.mem) ∧
  (∀ (s : State), ∃ t, exec .tamper s = .next t ∧ t.store = [] ∧ t.kram = [] ∧ t.jobs = [] ∧ t.rd pgReset RS_STATUS.TAMPERED = 1 ∧
    t.mem = s.mem ∧ t.pins = s.pins)

/-- With the store free, VBAT present and no power-fail, SAVE_TRACKS asks for a commit of the TRACKS record that holds every
track's entry, and ERASE_TRACKS for its erase; SAVE_BUSY is set and no track changes. At 20 ms after power good a Bridle that does
not count yet starts counting at 0, READY_SUM.BRIDLE is set, and a stored record is applied, which BRIDLE_STATUS.RESTORED shows.
(07_bridle_tracks.md (R203, R205), 19_startup_and_reset.md (R475).) -/
def Obligations.TracksRecord : Prop :=
  (∀ (s : State) (a : Access), s.on pgBridle BRIDLE_STATUS.SAVE_BUSY = false → s.jobs = [] → s.vbat = true → s.pfBlocked = false →
    s.writeGate a pgBridle BRIDLE_CTRL.KEEP_ON_WARM.off (setF (s.reg (pgBridle * 4096 + BRIDLE_CTRL.KEEP_ON_WARM.off)) 4 1 1) = .pass →
    ∃ t, exec (.saveTracks a) s = .next t ∧ t.rd pgBridle BRIDLE_STATUS.SAVE_BUSY = 1 ∧ t.tracks = s.tracks ∧ t.store = s.store ∧
      ∃ j, j ∈ t.jobs ∧ j.id = recTracks ∧ j.who = .tracks ∧ j.erase = false ∧ j.saved = (List.range 64).flatMap s.trackEntry) ∧
  (∀ (s : State) (a : Access), s.on pgBridle BRIDLE_STATUS.SAVE_BUSY = false → s.jobs = [] → s.vbat = true → s.pfBlocked = false →
    s.writeGate a pgBridle BRIDLE_CTRL.KEEP_ON_WARM.off (setF (s.reg (pgBridle * 4096 + BRIDLE_CTRL.KEEP_ON_WARM.off)) 5 1 1) = .pass →
    ∃ t, exec (.eraseTracks a) s = .next t ∧ t.rd pgBridle BRIDLE_STATUS.SAVE_BUSY = 1 ∧ t.tracks = s.tracks ∧ t.store = s.store ∧
      ⟨recTracks, .tracks, true, [], []⟩ ∈ t.jobs) ∧
  (∀ (s : State), s.on pgBridle BRIDLE_STATUS.COUNTING = false → 20000000 ≤ s.ns →
    (∀ b, s.record recTracks = some b → ∀ e, e ∈ b.saved → e.2.1 / 4096 ≠ pgBridle ∧ e.2.1 / 4096 ≠ pgReady) →
    ∃ t, exec .bridleStart s = .next t ∧ t.rd pgBridle BRIDLE_STATUS.COUNTING = 1 ∧ t.bridleNs = 0 ∧ t.rd pgReady READY_SUM.BRIDLE = 1 ∧
      ((s.record recTracks).isSome = true → t.rd pgBridle BRIDLE_STATUS.RESTORED = 1) ∧
      (s.record recTracks = none → t.tracks = s.tracks)) ∧
  (∀ (s : State), s.ns < 20000000 → exec .bridleStart s = .next s)

/-- An accepted write of an entry of the table not in use, through a working port, stores it and no other; one of the table in use
is rejected and changes no table. A flip with no old-epoch flits left and a new table clear of disabled and dead links exchanges
the epochs and marks the old one busy. When no packet of the old epoch is left, OLD_BUSY ends and EPOCH_DONE is set. A reroute
with admitted edits of different entries, of a table that is clear of disabled and dead links, stores them in the table not in use
and flips. (11_rigging.md (R301, R302, R303).) -/
def Obligations.RouteTablesAndEpochs : Prop :=
  (∀ (s : State) (a : Access) (n : Nat) (v : Word), n < 128 → s.writeGate a (pgNode n) RIGN_TBL_DATA.ENTRY.off v = .pass →
    s.rdNode n RIGN_TBL_INDEX.TABLE ≠ s.epoch → s.on pgRig RIG_EPOCH.OLD_BUSY = false → s.entryOk n (getF v 0 6) = true →
    ∃ t, exec (.routeTableWrite a n v) s = .next t ∧ t.route n (s.rdNode n RIGN_TBL_INDEX.TABLE) (s.rdNode n RIGN_TBL_INDEX.ENTRY) = getF v 0 6 ∧
      (∀ m q e, (2 * m + q) * 192 + e ≠ (2 * n + s.rdNode n RIGN_TBL_INDEX.TABLE) * 192 + s.rdNode n RIGN_TBL_INDEX.ENTRY →
        t.route m q e = s.route m q e) ∧ t.regs = s.regs) ∧
  (∀ (s : State) (a : Access) (n : Nat) (v : Word), n < 128 → s.writeGate a (pgNode n) RIGN_TBL_DATA.ENTRY.off v = .pass →
    s.rdNode n RIGN_TBL_INDEX.TABLE = s.epoch →
    ∃ t, exec (.routeTableWrite a n v) s = .next t ∧ t.resp = ⟨.rejected, 0⟩ ∧ t.rig = s.rig) ∧
  (∀ (s : State) (a : Access), s.writeGate a pgRig RIG_EPOCH.CURRENT.off 2 = .pass → s.on pgRig RIG_EPOCH.OLD_BUSY = false →
    s.editsNow = [] → s.anyRoute (1 - s.epoch) (fun n p => p < 6 && s.linkDisabled n p) = false →
    ∃ t, exec (.epochFlip a) s = .next t ∧ t.epoch = 1 - s.epoch ∧ t.on pgRig RIG_EPOCH.OLD_BUSY = true ∧ t.rig = { s.rig with edits := [] }) ∧
  (∀ (s : State) (a : Access) (n e old : Nat), s.writeGate a pgRig RIG_EPOCH.CURRENT.off 2 = .pass → s.on pgRig RIG_EPOCH.OLD_BUSY = false →
    n < 128 → e < 192 → old < 64 → s.editsNow = [(n, 1 - s.epoch, e, old)] →
    s.undoEdits.anyRoute (1 - s.epoch) (fun m p => p < 6 && s.linkDisabled m p) = false →
    ∃ t, exec (.epochFlip a) s = .next t ∧ t.epoch = 1 - s.epoch ∧ t.on pgRig RIG_EPOCH.OLD_BUSY = true ∧
      t.route n (1 - s.epoch) e = old ∧ t.rd (pgNode n) PAGE_ERRSUM.REJECT = 1) ∧
  (∀ (s : State), s.on pgRig RIG_EPOCH.OLD_BUSY = true → (∀ p, p ∈ s.rig.packets → p.epoch = s.epoch) →
    ∃ t, exec .epochDone s = .next t ∧ t.on pgRig RIG_EPOCH.OLD_BUSY = false ∧ t.rd pgRig RIG_EVENT.EPOCH_DONE = 1 ∧ t.rig = s.rig) ∧
  (∀ (s : State) (edits : List (Nat × Nat × Nat)), edits.all (fun e => e.1 < 128 && e.2.1 < 192 && e.2.2 < 64) = true →
    (edits.map (fun e => (e.1, e.2.1))).Nodup → (∀ e ∈ edits, s.entryOk e.1 e.2.2 = true) →
    s.anyDead = true → s.on pgRig RIG_EPOCH.OLD_BUSY = false →
    s.anyRoute (1 - s.epoch) (fun n p => p < 6 && s.linkDisabled n p) = false →
    ∃ t, exec (.supvReroute edits) s = .next t ∧ (∀ e ∈ edits, t.route e.1 (1 - s.epoch) e.2.1 = e.2.2) ∧ t.epoch = 1 - s.epoch ∧
      t.on pgRig RIG_EPOCH.OLD_BUSY = true)

/-- A node that no entry of the current tables leads to is disabled and drains; a link that no entry uses is disabled and drains.
A draining node that holds no old-epoch packet is off, and a draining link in that case has drained. A domain that is ON starts to
drain; when RIG_DRAIN_TIMEOUT has passed, the number of requests still unanswered is recorded and the wait is over; a draining
domain that waits for nothing and that no packet still leaves is OFF, and its packets are gone. An OFF domain is ON again when its
regulator is, and reads POWERING till then, with its route tables as they were. (11_rigging.md (R303, R304, R306).) -/
def Obligations.NodesLinksAndDomains : Prop :=
  (∀ (s : State) (a : Access) (n : Nat), n < 128 → s.writeGate a (pgNode n) RIGN_CTRL.DISABLE.off 1 = .pass →
    s.rdNode n RIGN_CTRL.DISABLE = 0 → s.anyRoute s.epoch (fun m p => nodeNext m p == some n) = false →
    ∃ t, exec (.nodeDisable a n) s = .next t ∧ t.rdNode n RIGN_CTRL.DISABLE = 1 ∧ t.rdNode n RIGN_STATE.STATE = 1 ∧ t.rig = s.rig) ∧
  (∀ (s : State) (a : Access) (n p : Nat), n < 128 → p < 6 → s.writeGate a (pgNode n) RIGN_LINK.DISABLE.off (BitVec.ofNat 32 (2 ^ p)) = .pass →
    s.rdNode n RIGN_LINK.DISABLE = 0 →
    s.anyRoute s.epoch (fun q x => (q == n && x == p) || (nodeNext n p == some q && x == backPort p)) = false →
    ∃ t, exec (.linkDisable a n (BitVec.ofNat 32 (2 ^ p))) s = .next t ∧ t.rdNode n RIGN_LINK.DISABLE = 2 ^ p ∧ (8 * n + p) ∈ t.rig.draining ∧
      t.rig.packets = s.rig.packets ∧ t.rig.tables = s.rig.tables) ∧
  (∀ (s : State) (n : Nat), n < 128 → s.rdNode n RIGN_STATE.STATE = 1 → s.holdsOld n none = false →
    ∃ t, exec (.nodeDrained n none) s = .next t ∧ t.rdNode n RIGN_STATE.STATE = 2 ∧ t.rig = s.rig) ∧
  (∀ (s : State) (n p : Nat), n < 128 → p < 6 → s.holdsOld n (some p) = false →
    (∀ m, nodeNext n p = some m → s.holdsOld m (some (backPort p)) = false) →
    ∃ t, exec (.nodeDrained n (some p)) s = .next t ∧ (8 * n + p) ∉ t.rig.draining ∧ t.regs = s.regs ∧ t.rig.packets = s.rig.packets) ∧
  (∀ (s : State) (g : Nat), 4 ≤ g → g < 16 → s.domainState g = 0 →
    ∃ t, exec (.domainDrain g) s = .next t ∧ t.domainState g = 1 ∧ lget t.rig.drainAt g = some s.ns ∧
      ∀ h, h ≠ g → t.domainState h = s.domainState h) ∧
  (∀ (s : State) (g t0 : Nat), 4 ≤ g → g < 16 → s.domainState g = 1 → lget s.rig.drainAt g = some t0 →
    1000 * s.rd pgRig RIG_DRAIN_TIMEOUT.US ≤ s.ns - t0 →
    ∃ t, exec (.drainTimeout g) s = .next t ∧ t.rd pgRig (RIG_DOMAIN.ABANDONED.at g) = min (s.inDomain g) 65535 ∧
      lget t.rig.drainAt g = none ∧ (s.inDomain g ≠ 0 → t.rd pgRig RIG_EVENT.DRAIN_ABANDON = 1) ∧
      (∀ p, p ∈ t.rig.packets → p.requestAt g = false) ∧
      ∀ i tag x, lget (s.rigInit i).tags tag = some x → x.quarantined = false → s.requestIn g i tag x = true →
        lget (t.rigInit i).tags tag = some { x with abandoned := true }) ∧
  (∀ (s : State) (g : Nat), 4 ≤ g → g < 16 → s.domainState g = 1 → (lget s.rig.drainAt g = none ∨ s.inDomain g = 0) →
    s.rig.packets.any (s.leaving g) = false →
    ∃ t, exec (.domainClamp g) s = .next t ∧ t.domainState g = 2 ∧ ∀ p, p ∈ t.rig.packets → p.inside g = false) ∧
  (∀ (s : State) (g : Nat), 4 ≤ g → g < 16 → (s.domainState g = 2 ∨ s.domainState g = 3) →
    ∃ t, exec (.domainPowerUp g) s = .next t ∧ t.domainState g = (if s.regState g = rgOn then 0 else 3) ∧ t.rig = s.rig)

/-- Of a request through a window that its sender has, from an interface that runs, every piece that R289 cuts it into, all of
which decode, waits at the interface or is in the network. A request of one piece, with nothing waiting before it and a free tag,
takes that tag and puts its packet into the network; a doorbell write is posted as a MSG and answered OK; an address that decodes
to nothing is answered DECODE and sends nothing. A response of an outstanding tag releases it and answers the request with its
status, or with POISON where its payload is bad; one of a tag not in use is counted as late. A request past its timeout with no
response there is answered TIMEOUT and quarantines its tag; a second timeout later the tag is free again, one generation on. A
posted MSG leaves with the current epoch and spends the token. A read of RIG_ST_BYTES_LO answers the low word and captures the
high one. (11_rigging.md (R288, R289, R292, R297, R298, R299, R309), 02_host_view.md (R39, R42).) -/
def Obligations.RiggingRequests : Prop :=
  (∀ (s : State) (who : Who) (d : RigDest) (write : Bool) (size dev tgt addr tag : Nat) (data : List Byte), whoInit who < 90 →
    hasWindow who d = true → (∀ i, who = .fabric i → s.fabricLive i = true) →
    s.aim (initPlace (whoInit who)).1 d = some (dev, tgt, addr) → 0 < size → destAddr d % 512 + size ≤ 512 →
    s.interfaceCode who dev tgt addr = 0 → isDoorbell write size tgt addr = false → (s.rigInit (whoInit who)).queue = [] →
    s.canInject (whoInit who) { who := who, dev := dev, target := tgt, addr := addr, write := write, bytes := size } = some tag →
    ∃ t p, exec (.rigRequest who d write size data) s = .next t ∧ p ∈ t.rig.packets ∧ p.srcInit = whoInit who ∧ p.tag = tag ∧
      p.gen = nget (s.rigInit (whoInit who)).gens tag ∧ p.opc = bnat write ∧ p.addr = addr ∧ p.bytes = size ∧ p.target = tgt ∧ p.dstDev = dev ∧
      (lget (t.rigInit (whoInit who)).tags tag).isSome = true ∧ t.regs = s.regs) ∧
  (∀ (s : State) (who : Who) (d : RigDest) (write : Bool) (size dev tgt addr : Nat) (data : List Byte), whoInit who < 90 →
    hasWindow who d = true → (∀ i, who = .fabric i → s.fabricLive i = true) → 0 < size →
    (∀ c ∈ cutAll (destAddr d) size, (s.aim (initPlace (whoInit who)).1 (destPlus d c.1)).isSome = true) →
    s.aim (initPlace (whoInit who)).1 d = some (dev, tgt, addr) → s.interfaceCode who dev tgt addr = 0 →
    (∀ n, isDoorbell write n tgt addr = false) →
    ∃ t, exec (.rigRequest who d write size data) s = .next t ∧
      t.rig.packets.length + (t.rigInit (whoInit who)).queue.length =
        s.rig.packets.length + (s.rigInit (whoInit who)).queue.length + (cutAll (destAddr d) size).length) ∧
  (∀ (s : State) (who : Who) (d : RigDest) (size dev tgt addr : Nat) (data : List Byte), whoInit who < 90 →
    hasWindow who d = true → (∀ i, who = .fabric i → s.fabricLive i = true) →
    s.aim (initPlace (whoInit who)).1 d = some (dev, tgt, addr) → 0 < size → destAddr d % 512 + size ≤ 512 →
    (s.interfaceCode who dev tgt addr = 0 ∨ s.interfaceCode who dev tgt addr = rcBusyReset) → isDoorbell true size tgt addr = true →
    ∃ t m, exec (.rigRequest who d true size data) s = .next t ∧ m ∈ t.rig.msgs ∧ m.srcInit = whoInit who ∧ m.opc = 4 ∧ m.addr = addr ∧
      m.dstDev = dev ∧ m.target = 109 ∧ t.resp = ⟨.ok, 0⟩ ∧ t.rig.inits = s.rig.inits ∧ t.regs = s.regs) ∧
  (∀ (s : State) (who : Who) (d : RigDest) (write : Bool) (size : Nat) (data : List Byte), whoInit who < 90 →
    (∀ i, who = .fabric i → s.fabricLive i = true) →
    (hasWindow who d = false ∨ size = 0 ∨ s.aim (initPlace (whoInit who)).1 d = none ∧ destAddr d % 512 + size ≤ 512) →
    exec (.rigRequest who d write size data) s = .next { s with resp := ⟨rigStatus (whoInit who) 8, 0⟩ }) ∧
  (∀ (s : State) (i : Nat) (q : Packet) (g : RigTag) (bad : Bool), s.rig.packets[i]? = some q → s.atHome q = true → q.got = q.flits →
    lget (s.rigInit q.srcInit).tags q.tag = some g → g.quarantined = false → g.abandoned = false → g.note = none → nget (s.rigInit q.srcInit).gens q.tag = q.gen →
    (s.rigInit q.srcInit).queue = [] →
    ∃ t, exec (.rigResponse i bad) s = .next t ∧ lget (t.rigInit q.srcInit).tags q.tag = none ∧ t.rig.packets = s.rig.packets.erase q ∧
      t.resp = ⟨rigStatus q.srcInit (if (bad || q.spoiled) && q.payloadFlits != 0 then 1 else q.status), natLE q.data⟩) ∧
  (∀ (s : State) (i : Nat) (q : Packet) (bad : Bool), s.rig.packets[i]? = some q → s.atHome q = true → q.got = q.flits →
    (lget (s.rigInit q.srcInit).tags q.tag).all (fun g => g.abandoned && !g.quarantined) = true →
    ∃ t, exec (.rigResponse i bad) s = .next t ∧ t.rig.packets = s.rig.packets.erase q ∧ t.rig.inits = s.rig.inits ∧
      t.rd (pgRigInit q.srcInit) RIG_ST_LATE_RESP.COUNT =
        satAdd (2 ^ RIG_ST_LATE_RESP.COUNT.len - 1) (s.rd (pgRigInit q.srcInit) RIG_ST_LATE_RESP.COUNT) 1) ∧
  (∀ (s : State) (i tag : Nat) (g : RigTag), i < 90 → tag < 64 → lget (s.rigInit i).tags tag = some g → g.quarantined = false →
    s.initTimeout i ≤ s.ns - g.at_ → (s.responseHere i tag = false ∨ g.abandoned = true) → (s.rigInit i).queue = [] →
    ∃ t, exec (.rigTimeout i tag) s = .next t ∧ lget (t.rigInit i).tags tag = some { g with quarantined := true, at_ := s.ns } ∧
      t.resp = ⟨rigStatus i 14, 0⟩ ∧ t.rd pgRig RIG_EVENT.TIMEOUT = 1) ∧
  (∀ (s : State) (i tag : Nat) (g : RigTag), i < 90 → tag < 64 → lget (s.rigInit i).tags tag = some g → g.quarantined = true →
    s.initTimeout i ≤ s.ns - g.at_ → (s.rigInit i).queue = [] →
    ∃ t, exec (.tagQuarantineEnd i tag) s = .next t ∧ lget (t.rigInit i).tags tag = none ∧
      nget (t.rigInit i).gens tag = (nget (s.rigInit i).gens tag + 1) % 4 ∧ t.regs = s.regs) ∧
  (∀ (s : State) (i : Nat) (m : Packet), i < 90 → s.rig.msgs.find? (fun m => m.srcInit == i) = some m → s.hasToken i = true →
    ∃ t p, exec (.rigMsg i) s = .next t ∧ t.rig.msgs = s.rig.msgs.erase m ∧ (t.rigInit i).token = some s.ns ∧ p ∈ t.rig.packets ∧
      p = { m with epoch := s.epoch, la := p.la, inj := s.ns, arr := s.rig.arrivals }) ∧
  (∀ (s : State) (a : Access), s.shows a.who pgRig RIG_ST_BYTES_LO.BYTES.off →
    ∃ t, exec (.rigBytesCapture a) s = .next t ∧ t.resp = ⟨.ok, (s.rigInit (s.rd pgRig RIG_INIT_SEL.INIT)).bytes % 2 ^ 32⟩ ∧
      t.rd (pgRigInit (s.rd pgRig RIG_INIT_SEL.INIT)) RIG_ST_BYTES_HI.BYTES =
        (s.rigInit (s.rd pgRig RIG_INIT_SEL.INIT)).bytes / 2 ^ 32 % 2 ^ 32)

/-- RIG_HOP names a packet and the buffer from which its next flit goes. A good or corrected header whose output is a working
link, to a node of its own power domain or of one that is ON (a response also into one that is draining), and which the arbiter of
that output lets pass, moves to the node behind it, takes its next output from that node's table and stands on the link with it;
the other packets stay, and a corrected header is counted. One that the arbiter does not let pass waits, and nothing changes. A
payload flit that the arbiter lets pass goes from its buffer to the one before it. A header with an uncorrectable error is
discarded with its packet, counted at its node and sets HDR_UNCORR. A packet with no output at a node is counted in RIGN_NO_ROUTE,
and a request is answered NO_ROUTE by a response to its initiator. When the last flit of a request is taken at the local port of
its target, with a good payload, and no bank holds it back, it is served there, and its response, with its tag, is on its way to
its initiator. (11_rigging.md (R290, R294, R295, R296, R298), log entry 61.) -/
def Obligations.HopsThroughTheRigging : Prop :=
  (∀ (s : State) (i m n ip c : Nat) (q : Packet) (bad : Bool) (ans : ExtResp), ans.code < 14 → s.rig.packets[i]? = some q →
    q.places[0]? = some (n, ip, c) → q.got = 0 → s.rdNode n RIGN_STATE.STATE ≠ 2 → q.opc ≤ 4 → q.la < 6 →
    s.linkOff q.node q.la = false → nodeNext q.node q.la = some m →
    (nodeDomain m = nodeDomain q.node ∨ s.nodeDomainState m = dmOn ∨
      q.isRequest = false ∧ q.opc ≠ opMsg ∧ s.nodeDomainState m = dmDraining) → s.wins s.localOpen q 0 = true →
    ∃ t, exec (.rigHop ⟨i, 0⟩ .good bad ans) s = .next t ∧
      t.rig.packets = s.rig.packets.map (fun p => if p = q then s.movedTo q m else p) ∧
      (s.movedTo q m).node = m ∧ (s.movedTo q m).la = s.routePort m q ∧
      t.link (8 * q.node + q.la) = flitOnLink (s.link (8 * q.node + q.la)) ((s.movedTo q m).slot 0) ∧ t.regs = s.regs) ∧
  (∀ (s : State) (i m n ip c : Nat) (q : Packet) (bad : Bool) (ans : ExtResp), ans.code < 14 → s.rig.packets[i]? = some q →
    q.places[0]? = some (n, ip, c) → q.got = 0 → s.rdNode n RIGN_STATE.STATE ≠ 2 → q.opc ≤ 4 → q.la < 6 → q.node < 128 →
    s.linkOff q.node q.la = false → nodeNext q.node q.la = some m →
    (nodeDomain m = nodeDomain q.node ∨ s.nodeDomainState m = dmOn ∨
      q.isRequest = false ∧ q.opc ≠ opMsg ∧ s.nodeDomainState m = dmDraining) → s.wins s.localOpen q 0 = true →
    ∃ t, exec (.rigHop ⟨i, 0⟩ .corrected bad ans) s = .next t ∧
      t.rig.packets = s.rig.packets.map (fun p => if p = q then s.movedTo q m else p) ∧
      t.rdNode q.node RIGN_HDR_CORR.COUNT = satAdd (2 ^ RIGN_HDR_CORR.COUNT.len - 1) (s.rdNode q.node RIGN_HDR_CORR.COUNT) 1) ∧
  (∀ (s : State) (i m n ip c : Nat) (q : Packet) (bad : Bool) (ans : ExtResp), ans.code < 14 → s.rig.packets[i]? = some q →
    q.places[0]? = some (n, ip, c) → q.got = 0 → s.rdNode n RIGN_STATE.STATE ≠ 2 → q.opc ≤ 4 → q.la < 6 →
    s.linkOff q.node q.la = false → nodeNext q.node q.la = some m →
    (nodeDomain m = nodeDomain q.node ∨ s.nodeDomainState m = dmOn) → s.wins s.localOpen q 0 = false →
    exec (.rigHop ⟨i, 0⟩ .good bad ans) s = .next s) ∧
  (∀ (s : State) (i j n ip c : Nat) (q : Packet) (hdr : HdrCheck) (bad : Bool) (ans : ExtResp), ans.code < 14 → s.rig.packets[i]? = some q →
    q.places[j + 1]? = some (n, ip, c) → s.rdNode n RIGN_STATE.STATE ≠ 2 → s.wins s.localOpen q (j + 1) = true →
    ∃ t, exec (.rigHop ⟨i, j + 1⟩ hdr bad ans) s = .next t ∧
      t.rig.packets = s.rig.packets.map (fun p => if p = q then q.follow j (8 * n + q.outOf (j + 1)) else p) ∧ t.regs = s.regs) ∧
  (∀ (s : State) (i n ip c : Nat) (q : Packet) (bad : Bool) (ans : ExtResp), ans.code < 14 → s.rig.packets[i]? = some q →
    q.places[0]? = some (n, ip, c) → q.got = 0 → s.rdNode n RIGN_STATE.STATE ≠ 2 → q.node < 128 →
    ∃ t, exec (.rigHop ⟨i, 0⟩ .bad bad ans) s = .next t ∧ t.rig.packets = s.rig.packets.erase q ∧ t.rd pgRig RIG_EVENT.HDR_UNCORR = 1 ∧
      t.rdNode q.node RIGN_HDR_UNCORR.COUNT = satAdd (2 ^ RIGN_HDR_UNCORR.COUNT.len - 1) (s.rdNode q.node RIGN_HDR_UNCORR.COUNT) 1) ∧
  (∀ (s : State) (i n ip c : Nat) (q : Packet) (bad : Bool) (ans : ExtResp), ans.code < 14 → s.rig.packets[i]? = some q →
    q.places[0]? = some (n, ip, c) → q.got = 0 → s.rdNode n RIGN_STATE.STATE ≠ 2 → q.node < 128 →
    q.opc ≤ 4 → q.la = 7 → q.isRequest = true →
    ∃ t p, exec (.rigHop ⟨i, 0⟩ .good bad ans) s = .next t ∧ t.rd pgRig RIG_EVENT.NO_ROUTE = 1 ∧
      t.rdNode q.node RIGN_NO_ROUTE.COUNT = satAdd (2 ^ RIGN_NO_ROUTE.COUNT.len - 1) (s.rdNode q.node RIGN_NO_ROUTE.COUNT) 1 ∧
      p ∈ t.rig.packets ∧ p.status = 13 ∧ p.dstNode = (initPlace q.srcInit).1 ∧ p.tag = q.tag ∧ p.gen = q.gen ∧ p.dstDev = q.srcDev) ∧
  (∀ (s : State) (i tg n ip c : Nat) (q : Packet) (ans : ExtResp), ans.code < 14 → s.rig.packets[i]? = some q →
    q.places[0]? = some (n, ip, c) → s.rdNode n RIGN_STATE.STATE ≠ 2 → q.got + 1 = q.flits →
    (q.got = 0 → q.la = 6 ∧ hasPort q.node 6 = true) → s.wins s.localOpen q 0 = true →
    targetAt q.node (s.localPort q) = some tg → ¬ (101 ≤ tg ∧ tg < 109) → q.isRequest = true → q.spoiled = false →
    q.orphan = false → q.pass = .fresh →
    (36 ≤ tg ∨ ((s.flitMoved q q.taken 0 (q.got == 0)).behindHeld q.taken = false ∧
      (s.flitMoved q q.taken 0 (q.got == 0)).bankHolds q.who (q.opc == opWr) q.addr q.bytes .fresh = false)) →
    ∃ t p, exec (.rigHop ⟨i, 0⟩ .good false ans) s = .next t ∧ p ∈ t.rig.packets ∧ p.isRequest = false ∧
      p.dstNode = (initPlace q.srcInit).1 ∧ p.tag = q.tag ∧ p.gen = q.gen ∧ p.dstDev = q.srcDev)

/-- An admitted read (of a bank in no handover, whose block is not under test and at which no earlier access waits) whose lines
are all good answers the bytes and changes nothing else. An admitted write stores its bytes; every byte outside it in a bank that
is no mirror partner, every register and every other bank stays, and each line of a mirrored page has the same bytes in the twin.
A read of a line whose CRC does not fit, without a mirror, is answered POISON and sets BANK_EVENT.POISON. A request that a ready
port samples joins the port's requests, one of no byte or of more than 64 with the answer UNCORR; a port that receives no clock,
or is not ready, takes none. The oldest request not answered, at the head, that the bank admits, is answered with the bank's
bytes, or stores its own; one that the bank does not admit is answered with its code and no bytes. An answered head leaves and its
response is presented, unless it is dropped. (10_scratchpad.md (R256, R257, R258, R260, R264, R265, R266, R267, R269).) -/
def Obligations.BankReadsAndWrites : Prop :=
  (∀ (s : State) (w : Who) (a size : Nat), bankRange a size = true → s.handover.all (fun h => h.bank != a / 0x80000) = true →
    s.bankHolds w false a size .fresh = false → (∀ n, w = .pf n → n = 0 ∨ s.bankPart (a / 0x80000) = n) →
    (s.bankPageSecure (a / 0x80000) (pageAt a) = true ∨ s.bankPageSecure (a / 0x80000) (pageAt (a + (size - 1))) = true →
      s.whoSecure w = true) →
    (s.bank (a / 0x80000)).accessCode (pageAt a) (pageAt (a + (size - 1))) = 0 →
    s.ownerAdmits (s.bank (a / 0x80000)).kind (s.bank (a / 0x80000)).part (s.bank (a / 0x80000)).engine w = true →
    s.on (pgTile (a / 0x80000 / 2)) BANK_ERR_INJECT.ARM = false → (∀ n, n ∈ linesOf a size → s.lineDiff n = 0) →
    exec (.bankRead (.rig w a size) []) s = .next { s with resp := ⟨.ok, natLE (s.memBytes a size)⟩ }) ∧
  (∀ (s : State) (w : Who) (a size : Nat) (data : List Byte), bankRange a size = true → data.length = size → s.handover.all (fun h => h.bank != a / 0x80000) = true →
    s.bankHolds w true a size .fresh = false → (∀ n, w = .pf n → n = 0 ∨ s.bankPart (a / 0x80000) = n) →
    (s.bankPageSecure (a / 0x80000) (pageAt a) = true ∨ s.bankPageSecure (a / 0x80000) (pageAt (a + (size - 1))) = true →
      s.whoSecure w = true) →
    (s.bank (a / 0x80000)).accessCode (pageAt a) (pageAt (a + (size - 1))) = 0 →
    s.ownerAdmits (s.bank (a / 0x80000)).kind (s.bank (a / 0x80000)).part (s.bank (a / 0x80000)).engine w = true →
    s.on (pgTile (a / 0x80000 / 2)) BANK_ERR_INJECT.ARM = false → (∀ n, n ∈ linesOf a size → s.lineDiff n = 0) →
    (∀ n, n ∈ linesOf a size → (lineBank n, n % 8192) ∉ s.repairs) →
    ∃ t, exec (.bankWrite (.rig w a size) data []) s = .next t ∧ t.resp = ⟨.ok, 0⟩ ∧ t.memBytes a size = data ∧
      (s.isPartner (a / 0x80000) = false → ∀ b, b < a ∨ a + size ≤ b → t.memByte b = s.memByte b) ∧
      (∀ n, n ∈ linesOf a size → t.lineDiff n = 0 ∧
        (s.mirrored (a / 0x80000) (linePage n) = true → t.memBytes (lineAddr (twinLine n)) 64 = t.memBytes (lineAddr n) 64)) ∧
      t.regs = s.regs ∧ t.banks = s.banks) ∧
  (∀ (s : State) (w : Who) (a size : Nat), bankRange a size = true → a % 64 + size ≤ 64 → s.handover.all (fun h => h.bank != a / 0x80000) = true →
    s.bankHolds w false a size .fresh = false → (∀ n, w = .pf n → n = 0 ∨ s.bankPart (a / 0x80000) = n) →
    (s.bankPageSecure (a / 0x80000) (pageAt a) = true ∨ s.bankPageSecure (a / 0x80000) (pageAt (a + (size - 1))) = true →
      s.whoSecure w = true) →
    (s.bank (a / 0x80000)).accessCode (pageAt a) (pageAt (a + (size - 1))) = 0 →
    s.ownerAdmits (s.bank (a / 0x80000)).kind (s.bank (a / 0x80000)).part (s.bank (a / 0x80000)).engine w = true →
    s.on (pgTile (a / 0x80000 / 2)) BANK_ERR_INJECT.ARM = false → s.lineDiff (a / 64) ≠ 0 →
    s.isPartner (a / 0x80000) = false →
    ∃ t, exec (.bankRead (.rig w a size) []) s = .next t ∧ t.resp.status = .code 1 ∧ t.rd pgBallast BANK_EVENT.POISON = 1 ∧ t.mem = s.mem) ∧
  (∀ (s : State) (p addr size tag : Nat) (we : Bool) (data : List Byte), p < 576 → addr < 0x80000 → 0 < size → size ≤ 64 → tag < 64 →
    data.length = size → s.clkRun p = true → s.portReady p = true →
    exec (.bankPortReq p we addr size tag data) s = .next (s.setBank (portBank p) { s.bank (portBank p) with
      port := (s.bank (portBank p)).port ++ [{ we := we, addr := addr, size := size, tag := tag, wdata := data }] })) ∧
  (∀ (s : State) (p addr size tag : Nat) (we : Bool) (data : List Byte), p < 576 → addr < 0x80000 → (size = 0 ∨ 64 < size) → size < 128 →
    tag < 64 → s.clkRun p = true → s.portReady p = true →
    ∃ t r, exec (.bankPortReq p we addr size tag data) s = .next t ∧ t.mem = s.mem ∧ t.regs = s.regs ∧
      (t.bank (portBank p)).port = (s.bank (portBank p)).port ++ [r] ∧ r.done = some (7, []) ∧ r.tag = tag ∧ r.we = we) ∧
  (∀ (s : State) (p addr size tag : Nat) (we : Bool) (data : List Byte), p < 576 → addr < 0x80000 → size < 128 → tag < 64 →
    (s.clkRun p = false ∨ s.portReady p = false) → exec (.bankPortReq p we addr size tag data) s = .next s) ∧
  (∀ (s : State) (p : Nat) (r : PortReq) (rest : List PortReq), p < 576 → (s.bank (portBank p)).port = r :: rest → r.done = none →
    r.we = false → (s.bank (portBank p)).portCode r = 0 → 0 < r.size → r.addr + r.size ≤ 0x80000 →
    s.handover.all (fun h => h.bank != portBank p || h.kind != 1) = true → s.testHolds false (0x80000 * portBank p + r.addr) r.size = false →
    s.on (pgTile (portBank p / 2)) BANK_ERR_INJECT.ARM = false →
    (∀ n, n ∈ linesOf (0x80000 * portBank p + r.addr) r.size → s.lineDiff n = 0) →
    exec (.bankRead (.port p) []) s = .next (s.setBank (portBank p) { s.bank (portBank p) with
      port := { r with done := some (0, s.memBytes (0x80000 * portBank p + r.addr) r.size) } :: rest })) ∧
  (∀ (s : State) (p : Nat) (r : PortReq) (rest : List PortReq), p < 576 → (s.bank (portBank p)).port = r :: rest → r.done = none →
    r.we = true → (s.bank (portBank p)).portCode r = 0 → 0 < r.size → r.addr + r.size ≤ 0x80000 → r.wdata.length = r.size →
    s.handover.all (fun h => h.bank != portBank p || h.kind != 1) = true → s.testHolds true (0x80000 * portBank p + r.addr) r.size = false →
    s.on (pgTile (portBank p / 2)) BANK_ERR_INJECT.ARM = false →
    (∀ n, n ∈ linesOf (0x80000 * portBank p + r.addr) r.size → s.lineDiff n = 0 ∧ (lineBank n, n % 8192) ∉ s.repairs) →
    ∃ t, exec (.bankWrite (.port p) [] []) s = .next t ∧ (t.bank (portBank p)).port = { r with done := some (0, []) } :: rest ∧
      t.memBytes (0x80000 * portBank p + r.addr) r.size = r.wdata ∧ t.regs = s.regs) ∧
  (∀ (s : State) (p : Nat) (r : PortReq) (rest : List PortReq), p < 576 → (s.bank (portBank p)).port = r :: rest → r.done = none →
    r.we = false → (s.bank (portBank p)).portCode r ≠ 0 → s.handover.all (fun h => h.bank != portBank p || h.kind != 1) = true →
    ∃ t, exec (.bankRead (.port p) []) s = .next t ∧
      (t.bank (portBank p)).port = { r with done := some ((s.bank (portBank p)).portCode r, []) } :: rest ∧ t.mem = s.mem) ∧
  (∀ (s : State) (p : Nat) (r : PortReq) (rest : List PortReq), p < 576 → (s.bank (portBank p)).port = r :: rest → r.done = none →
    r.we = true → (s.bank (portBank p)).portCode r ≠ 0 → s.handover.all (fun h => h.bank != portBank p || h.kind != 1) = true →
    ∃ t, exec (.bankWrite (.port p) [] []) s = .next t ∧
      (t.bank (portBank p)).port = { r with done := some ((s.bank (portBank p)).portCode r, []) } :: rest ∧ t.mem = s.mem) ∧
  (∀ (s : State) (p c : Nat) (r : PortReq) (rest : List PortReq) (bs : List Byte), p < 576 → (s.bank (portBank p)).port = r :: rest →
    r.done = some (c, bs) → r.dropped = false → s.clkRun p = true →
    exec (.bankPortResponse p) s = .next (s.setBank (portBank p) { s.bank (portBank p) with port := rest, resp := some ⟨r.we, r.tag, c, bs⟩ })) ∧
  (∀ (s : State) (p c : Nat) (r : PortReq) (rest : List PortReq) (bs : List Byte), p < 576 → (s.bank (portBank p)).port = r :: rest →
    r.done = some (c, bs) → r.dropped = true →
    exec (.bankPortResponse p) s = .next (s.setBank (portBank p) { s.bank (portBank p) with port := rest }))

/-- An accepted handover to another owner is in progress with BUSY set, and the owner is still the old one. 1 µs later the
accesses of the old owner that are not complete, at its port or held at the bank, end with ABORT and are counted. When none is
left the bank has its new owner and BUSY is clear; with no access of the new owner waiting, nothing else changes. An accepted
retirement of a page of a bank that is in service and in no handover retires that page; one of the whole bank leaves it retired
and without owner; the stored bytes stay; one of a bank in a handover waits for its end. (10_scratchpad.md (R261, R262, R273,
R277).) -/
def Obligations.BankOwnersAndRetirement : Prop :=
  (∀ (s : State) (a : Access) (v : Word) (b k pt en : Nat), s.writeGate a pgBallast BANK_HANDOVER.BANK.off v = .pass →
    b = getF v BANK_HANDOVER.BANK.lo BANK_HANDOVER.BANK.len → k = getF v BANK_HANDOVER.KIND.lo BANK_HANDOVER.KIND.len →
    pt = getF v BANK_HANDOVER.PART.lo BANK_HANDOVER.PART.len → en = getF v BANK_HANDOVER.ENGINE.lo BANK_HANDOVER.ENGINE.len →
    s.on pgBallast BANK_HANDOVER_STATUS.BUSY = false → b < 576 →
    (k ≠ 0 → (s.bank b).failed = false ∧ (isTwin b = false ∨ s.mirrorOn (b / 16) = false)) →
    (k = 1 → (s.panel (bankPanel b)).grounded = 0) → (k ≤ 1 → pt = 0) → (k ≠ 3 → en = 0) →
    ¬ ((s.bank b).kind = k ∧ (k ≤ 1 ∨ (s.bank b).part = pt) ∧ (k ≠ 3 ∨ (s.bank b).engine = en)) →
    ∃ t, exec (.bankHandover a v) s = .next t ∧ t.rd pgBallast BANK_HANDOVER_STATUS.BUSY = 1 ∧ t.rd pgBallast BANK_HANDOVER_STATUS.BANK = b ∧
      t.handover = some { bank := b, kind := k, part := pt, engine := en, at_ := s.ns } ∧ t.banks = s.banks) ∧
  (∀ (s : State) (h : Handover), s.handover = some h → 1000 ≤ s.ns - h.at_ →
    ∃ t, exec .handoverTimeout s = .next t ∧ (t.bank h.bank).held = [] ∧
      ((s.bank h.bank).kind = 1 → (t.bank h.bank).port.all (fun r => r.done.isSome) = true) ∧
      t.rd pgBallast BANK_HANDOVER_STATUS.ABORTED = satAdd (2 ^ BANK_HANDOVER_STATUS.ABORTED.len - 1) (s.rd pgBallast BANK_HANDOVER_STATUS.ABORTED)
        (((s.bank h.bank).port.filter (fun r => (s.bank h.bank).kind == 1 && r.done.isNone)).length + (s.bank h.bank).held.length) ∧
      t.mem = s.mem) ∧
  (∀ (s : State) (h : Handover), s.handover = some h → ((s.bank h.bank).kind ≠ 1 ∨ (s.bank h.bank).port.all (fun r => r.done.isSome) = true) →
    (s.bank h.bank).held = [] → h.retire = [] →
    ∃ t, exec .bankHandoverDone s = .next t ∧ t.handover = none ∧ t.rd pgBallast BANK_HANDOVER_STATUS.BUSY = 0 ∧
      (t.bank h.bank).kind = h.kind ∧ (t.bank h.bank).part = h.part ∧ (t.bank h.bank).engine = h.engine ∧
      (h.held = [] → t.bank h.bank = { s.bank h.bank with kind := h.kind, part := h.part, engine := h.engine } ∧ t.mem = s.mem)) ∧
  (∀ (s : State) (a : Access) (b page : Nat), b < 576 → page < 8 →
    s.writeGate a pgBallast BANK_RETIRE.BANK.off (BitVec.ofNat 32 (b + page * 2 ^ 16)) = .pass → (s.bank b).failed = false →
    bitOf (s.bank b).retired page = false → s.handover.all (fun h => h.bank != b) = true →
    ∃ t, exec (.retirePage a b page) s = .next t ∧ bitOf (t.bank b).retired page = true ∧ t.mem = s.mem) ∧
  (∀ (s : State) (a : Access) (b : Nat), b < 576 → s.writeGate a pgBallast BANK_RETIRE.BANK.off (BitVec.ofNat 32 (b + 2 ^ 12)) = .pass →
    (s.bank b).failed = false → s.handover.all (fun h => h.bank != b) = true →
    ∃ t, exec (.retireBank a b) s = .next t ∧ (t.bank b).whole = true ∧ (t.bank b).kind = 0 ∧ (t.bank b).failed = true ∧ t.mem = s.mem) ∧
  (∀ (s : State) (a : Access) (b page : Nat) (h : Handover), b < 576 → page < 8 →
    s.writeGate a pgBallast BANK_RETIRE.BANK.off (BitVec.ofNat 32 (b + page * 2 ^ 16)) = .pass → (s.bank b).failed = false →
    bitOf (s.bank b).retired page = false → s.handover = some h → h.bank = b → page ∉ h.retire →
    ∃ t, exec (.retirePage a b page) s = .next t ∧ t.handover = some { h with retire := h.retire ++ [page] } ∧ t.banks = s.banks)

/-- A mirror that is accepted takes its partner and pages. The copy of a page that completes leaves the twin's lines equal to the
partner's and sets the page's SYNCED bit. A repair that waits rewrites the line from the twin. A block test, once its period has
passed, takes the next block of a testable bank and changes no stored byte; with no access waiting, its end frees the block, and a
failure becomes the hard-fault candidate; a context-store test goes on to the next row unless a save has ended it, and a column
that is off has none. Initialisation runs after the census; a bank in service whose initialisation completes is READY and every
byte of its pages not retired reads 0, all others as before. (10_scratchpad.md (R266, R270, R271, R275, R276).) -/
def Obligations.MirrorsTestsAndInitialisation : Prop :=
  (∀ (s : State) (a : Access) (v : Word) (g : Nat), s.writeGate a pgBallast BANK_MIRROR_CTRL.PARTNER.off v = .pass →
    g = s.rd pgBallast BANK_MIRROR_SEL.GROUP → getF v BANK_MIRROR_CTRL.PARTNER.lo BANK_MIRROR_CTRL.PARTNER.len ≠ 1 →
    (getF v BANK_MIRROR_CTRL.PARTNER.lo BANK_MIRROR_CTRL.PARTNER.len = s.rd (pgMirror g) BANK_MIRROR_CTRL.PARTNER ∨
      s.mirrorOn g = false ∨ s.rd (pgMirror g) BANK_MIRROR_CTRL.PAGES = 0) →
    (getF v BANK_MIRROR_CTRL.ENABLE.lo BANK_MIRROR_CTRL.ENABLE.len = 1 → (s.bank (16 * g + 1)).kind = 0) → (s.bank (16 * g + getF v BANK_MIRROR_CTRL.PARTNER.lo BANK_MIRROR_CTRL.PARTNER.len)).failed = false →
    ∃ t, exec (.mirrorCtrlWrite a v) s = .next t ∧
      t.rd (pgMirror g) BANK_MIRROR_CTRL.PARTNER = getF v BANK_MIRROR_CTRL.PARTNER.lo BANK_MIRROR_CTRL.PARTNER.len ∧
      t.rd (pgMirror g) BANK_MIRROR_CTRL.PAGES = getF v BANK_MIRROR_CTRL.PAGES.lo BANK_MIRROR_CTRL.PAGES.len ∧
      t.rd (pgMirror g) BANK_MIRROR_CTRL.ENABLE = getF v BANK_MIRROR_CTRL.ENABLE.lo BANK_MIRROR_CTRL.ENABLE.len ∧ t.mem = s.mem) ∧
  (∀ (s : State) (g b page : Nat), g < 36 → page < 8 → b = 16 * g + s.rd (pgMirror g) BANK_MIRROR_CTRL.PARTNER → s.mirrored b page = true →
    s.synced b page = false → (s.bank b).failed = false →
    ∃ t, exec (.mirrorSyncDone g page) s = .next t ∧ t.synced b page = true ∧
      ∀ i, i < 1024 → t.memBytes (lineAddr (8192 * (16 * g + 1) + 1024 * page + i)) 64 = s.memBytes (lineAddr (8192 * b + 1024 * page + i)) 64) ∧
  (∀ (s : State) (b line : Nat), b < 576 → line < 8192 → (b, line) ∈ s.repairs →
    ∃ t, exec (.mirrorRepairWrite b line) s = .next t ∧ (b, line) ∉ t.repairs ∧
      t.memBytes (lineAddr (8192 * b + line)) 64 = s.memBytes (lineAddr (twinLine (8192 * b + line))) 64 ∧
      t.lineDiff (8192 * b + line) = s.lineDiff (twinLine (8192 * b + line)) ∧ t.regs = s.regs) ∧
  (∀ (s : State) (b k : Nat), b < 576 → s.testable b = true → (s.bank b).testing = none → (s.bank b).pickBlock = some k →
    s.elapsed (s.bank b).testAt (s.rd pgBallast BANK_TEST_PERIOD.MS) = true →
    exec (.bankBlockTest b) s = .next (s.setBank b { s.bank b with testing := some k, nextBlock := (k + 1) % 128, testAt := some s.ns })) ∧
  (∀ (s : State) (b k l : Nat), b < 576 → l < 64 → k < 128 → (s.bank b).testing = some k → (s.bank b).held = [] →
    (isTwin b = true → (s.bank (16 * (b / 16) + s.rd (pgMirror (b / 16)) BANK_MIRROR_CTRL.PARTNER)).held = []) →
    ∃ t, exec (.bankTestDone b (some l)) s = .next t ∧ (t.bank b).testing = none ∧ t.rd pgBallast BANK_CAND.BANK = b ∧
      t.rd pgBallast BANK_CAND.LINE = 64 * k + l ∧ t.rd pgBallast BANK_CAND.VALID = 1 ∧ t.mem = s.mem) ∧
  (∀ (s : State) (b k : Nat), b < 576 → (s.bank b).testing = some k → (s.bank b).held = [] →
    (isTwin b = true → (s.bank (16 * (b / 16) + s.rd (pgMirror (b / 16)) BANK_MIRROR_CTRL.PARTNER)).held = []) →
    exec (.bankTestDone b none) s = .next (s.setBank b { s.bank b with testing := none })) ∧
  (∀ (s : State) (c : Nat), c < 288 → (s.column c).off = true → exec (.ctxStoreTest c .failed) s = .next s) ∧
  (∀ (s : State) (c : Nat), c < 288 → (s.column c).off = false → s.elapsed (s.column c).ctxTestAt (s.rd pgBallast BANK_CTX_TEST_PERIOD.MS) = true →
    (∃ t, exec (.ctxStoreTest c .failed) s = .next t ∧ nget t.ctxTestNext c = (nget s.ctxTestNext c + 1) % 2048 ∧
      t.rd pgBallast BANK_CAND.BANK = 576 + c ∧ t.rd pgBallast BANK_EVENT.CANDIDATE = 1 ∧ t.ctx = s.ctx) ∧
    (∃ t, exec (.ctxStoreTest c .passed) s = .next t ∧ nget t.ctxTestNext c = (nget s.ctxTestNext c + 1) % 2048 ∧ t.regs = s.regs) ∧
    ∃ t, exec (.ctxStoreTest c .saved) s = .next t ∧ t.ctxTestNext = s.ctxTestNext ∧ t.regs = s.regs ∧ t.ctx = s.ctx) ∧
  (∀ (s : State), 2 ≤ s.rd pgSpar STACK_CENSUS.STATE → exec .backgroundInit s = .next { s with initRunning := true }) ∧
  (∀ (s : State) (b : Nat), b < 576 → s.initRunning = true → (s.bank b).ready = false → (s.bank b).failed = false →
    ∃ t, exec (.bankInitDone b) s = .next t ∧ (t.bank b).ready = true ∧
      (∀ a, a / 0x80000 = b → bitOf (s.bank b).retired (pageAt a) = false → t.memByte a = 0) ∧
      (∀ a, (a / 0x80000 ≠ b ∨ bitOf (s.bank b).retired (pageAt a) = true) → t.memByte a = s.memByte a) ∧ (t.allBanksReady = true → t.rd pgReady READY_SUM.BANKS = 1))

/-- An accepted enable of a DISABLED channel with an aligned ring and HEAD below SIZE leaves it IDLE, or ACTIVE, to fetch, where
it is triggered. A disable of an IDLE or waiting channel, an abort of one that is not DISABLED and a stop of an IDLE or waiting
one leave it DISABLED and holding nothing; a stop of an ACTIVE one is pending. A kick makes an IDLE free-running channel ACTIVE,
is pending at an ACTIVE or HALTED one, and moves no triggered channel. RESUME makes a HALTED channel ACTIVE and issues again the
access that has not received OK; SKIP of one that halted in phase DATA or LIST ends its descriptor with status 4, and otherwise
moves HEAD on and reads the next; accesses that are outstanding are given up. A trigger starts a waiting, held descriptor, makes a
waiting channel without one read it again, is held while the channel is ACTIVE or HALTED, kicks a free-running channel, and at a
DISABLED one is counted as empty. (12_spool.md (R313, R316, R317, R326, R327).) -/
def Obligations.ChannelCommands : Prop :=
  (∀ (s : State) (a : Access) (ch : Nat) (v : Word), ch < 64 → s.writeGate a (pgChannel ch) CH_CTRL.ENABLE.off (v ||| 1) = .pass →
    s.chState ch = chDisabled → s.ringBase ch % s.descSize ch = 0 → s.rdCh ch CH_HEAD.INDEX < s.rdCh ch CH_RING_SIZE.SIZE →
    ∃ t, exec (.channelEnable a ch v) s = .next t ∧ t.chState ch = (if t.triggered ch then chActive else chIdle) ∧ t.chan ch = {} ∧
      ∀ b, b = pgChannel ch * 4096 + CH_CTRL.ENABLE.off → t.reg b = (s.storeReg (pgChannel ch) CH_CTRL.ENABLE.off (v ||| 1)).reg b) ∧
  (∀ (s : State) (a : Access) (ch : Nat), ch < 64 →
    s.writeGate a (pgChannel ch) CH_CTRL.ENABLE.off (setF (s.reg (pgChannel ch * 4096 + CH_CTRL.ENABLE.off)) 0 1 0) = .pass →
    (s.chState ch = chIdle ∨ s.chState ch = chWait) →
    ∃ t, exec (.channelDisable a ch) s = .next t ∧ t.chState ch = chDisabled ∧ t.rdCh ch CH_CTRL.ENABLE = 0 ∧ t.chan ch = {}) ∧
  (∀ (s : State) (a : Access) (ch : Nat), ch < 64 → s.writeGate a (pgChannel ch) CH_CMD.CMD.off 1 = .pass →
    ∃ t, exec (.chKick a ch) s = .next t ∧
      (s.triggered ch = false → s.chState ch = chIdle → t.chState ch = chActive ∧ (t.chan ch).stage = .fetch) ∧
      (s.triggered ch = false → (s.chState ch = chActive ∨ s.chState ch = chHalted) →
        t.rdCh ch CH_STATUS.KICK_PENDING = 1 ∧ t.chState ch = s.chState ch) ∧
      (s.triggered ch = true ∨ s.chState ch = chDisabled → t.chState ch = s.chState ch ∧ t.chans = s.chans)) ∧
  (∀ (s : State) (a : Access) (ch : Nat), ch < 64 → s.writeGate a (pgChannel ch) CH_CMD.CMD.off 2 = .pass → s.chState ch = chHalted →
    (∀ e ∈ (s.chan ch).io, e.out = true ∨ e.dead = true ∨ e.answer = some 0) →
    ∃ t, exec (.chResume a ch) s = .next t ∧ t.chState ch = chActive ∧ (t.chan ch).io = (s.chan ch).io) ∧
  (∀ (s : State) (a : Access) (ch dev tg addr : Nat) (e : SpoolIo), ch < 64 → s.writeGate a (pgChannel ch) CH_CMD.CMD.off 2 = .pass →
    s.chState ch = chHalted → (s.chan ch).io.filter (fun e => !e.out && !e.dead && e.answer != some 0) = [e] →
    (s.chan ch).io.find? (fun x => x.id == e.id) = some e →
    s.aim (initPlace (7 + ch / 16)).1 (spoolDest e.host e.addr) = some (dev, tg, addr) → isDoorbell e.write e.bytes tg addr = false →
    ∃ t, exec (.chResume a ch) s = .next t ∧ t.chState ch = chActive ∧
      (t.chan ch).io.find? (fun x => x.id == e.id) = some { e with out := true, answer := none } ∧
      ((t.rigInit (7 + ch / 16)).queue.any (fun q => q.note == some (.spool ch e.id)) ||
        (t.rigInit (7 + ch / 16)).tags.any (fun g => g.2.note == some (.spool ch e.id))) = true) ∧
  (∀ (s : State) (a : Access) (ch : Nat), ch < 64 → s.writeGate a (pgChannel ch) CH_CMD.CMD.off 3 = .pass → s.chState ch = chHalted →
    ((s.chan ch).halted = 0 ∨ (s.chan ch).halted = 2) →
    ∃ t, exec (.chSkip a ch) s = .next t ∧ t.chState ch = chActive ∧ (t.chan ch).stage = .back1 ∧ (t.chan ch).status = 4 ∧
      (t.chan ch).io = ((s.chan ch).io.filter (·.out)).map (fun e => { e with dead := true })) ∧
  (∀ (s : State) (a : Access) (ch : Nat), ch < 64 → s.writeGate a (pgChannel ch) CH_CMD.CMD.off 3 = .pass → s.chState ch = chHalted →
    (s.chan ch).halted ≠ 0 → (s.chan ch).halted ≠ 2 →
    ∃ t, exec (.chSkip a ch) s = .next t ∧
      t.rdCh ch CH_HEAD.INDEX = (s.rdCh ch CH_HEAD.INDEX + 1) % s.rdCh ch CH_RING_SIZE.SIZE % 2 ^ 16 ∧
      (s.on (pgChannel ch) CH_STATUS.STOP_PENDING = false → t.chState ch = chActive ∧ (t.chan ch).stage = .fetch ∧
        (t.chan ch).io = ((s.chan ch).io.filter (·.out)).map (fun e => { e with dead := true })) ∧
      (s.on (pgChannel ch) CH_STATUS.STOP_PENDING = true → t.chState ch = chDisabled)) ∧
  (∀ (s : State) (a : Access) (ch : Nat), ch < 64 → s.writeGate a (pgChannel ch) CH_CMD.CMD.off 4 = .pass →
    ∃ t, exec (.chAbort a ch) s = .next t ∧ t.chState ch = chDisabled ∧ t.mem = s.mem ∧ (s.chState ch ≠ chDisabled → t.chan ch = {})) ∧
  (∀ (s : State) (a : Access) (ch : Nat), ch < 64 → s.writeGate a (pgChannel ch) CH_CMD.CMD.off 5 = .pass →
    (s.chState ch = chActive ∨ s.chState ch = chIdle ∨ s.chState ch = chWait) →
    ∃ t, exec (.chStop a ch) s = .next t ∧ (s.chState ch = chActive → t.rdCh ch CH_STATUS.STOP_PENDING = 1 ∧ t.chState ch = chActive) ∧
      (s.chState ch ≠ chActive → t.chState ch = chDisabled)) ∧
  (∀ (s : State) (a : Access) (ch : Nat), ch < 64 → s.writeGate a (pgChannel ch) CH_CMD.CMD.off 6 = .pass →
    ∃ t, exec (.chTrigger a ch) s = .next t ∧
      (s.chState ch = chWait → s.triggered ch = true → (s.chan ch).stage = .held →
        t.chState ch = chActive ∧ (t.chan ch).started = some s.ns ∧ (t.chan ch).stage = (if (s.chan ch).status = 0 then .data else .back1)) ∧
      (s.chState ch = chWait → s.triggered ch = true → (s.chan ch).stage ≠ .held →
        t.chState ch = chActive ∧ (t.chan ch).reread = some s.ns) ∧
      ((s.chState ch = chActive ∨ s.chState ch = chHalted) → s.triggered ch = true → (s.chan ch).trigs.length < 255 →
        (t.chan ch).trigs = (s.chan ch).trigs ++ [s.ns] ∧ t.chState ch = s.chState ch) ∧
      (s.chState ch = chIdle → s.triggered ch = false → t.chState ch = chActive ∧ (t.chan ch).stage = .fetch) ∧
      (s.chState ch = chDisabled → t.rdCh ch CH_TRIG_EMPTY_CNT.COUNT =
        satAdd (2 ^ CH_TRIG_EMPTY_CNT.COUNT.len - 1) (s.rdCh ch CH_TRIG_EMPTY_CNT.COUNT) 1))

/-- A descriptor read is issued as one access, which waits at the engine's interface or holds a tag; where its address decodes to
nothing it halts the channel with code 8 in phase DESC. A descriptor that has been read: with OWN = 1 a free-running channel holds
it and runs it, or goes to its write-back where it is bad or empty, and a triggered one whose lists are there is released by the
trigger of its re-read or the oldest held, or waits; with OWN = 0 and no stop pending, a free-running channel is IDLE, or stays
ACTIVE for a pending kick, and a triggered one waits. A list read issues its accesses; entries that have been read join their
list, those of length 0 skipped. The channel that its engine takes issues the reads of its next burst, cut at 512-byte boundaries,
or ends its data; data that have arrived are written on. A response that is OK counts a data write's bytes or keeps a read's data;
another halts the channel and latches code, phase and direction. The write-back writes words 8 and 9 and then word 0; its end
counts the descriptor and moves HEAD on. (12_spool.md (R314, R315, R316, R321, R322, R323, R324, R325).) -/
def Obligations.ChannelTransfers : Prop :=
  (∀ (s : State) (ch dev tg addr : Nat), ch < 64 → (s.chan ch).stage = .fetch → s.chState ch = chActive →
    (∀ e ∈ (s.chan ch).io, e.phase ≠ 1) →
    s.aim (initPlace (7 + ch / 16)).1 (spoolDest (s.on (pgChannel ch) CH_CTRL.RING_HOST) (s.ringBase ch + s.descSize ch * s.rdCh ch CH_HEAD.INDEX)) = some (dev, tg, addr) →
    ∃ t, exec (.descFetch ch .issue) s = .next t ∧ (t.chan ch).io = (s.chan ch).io ++
        [{ id := s.rig.ios, phase := 1, write := false, host := s.on (pgChannel ch) CH_CTRL.RING_HOST, addr := s.ringBase ch + s.descSize ch * s.rdCh ch CH_HEAD.INDEX,
           bytes := s.descSize ch, out := true }] ∧
      ((t.rigInit (7 + ch / 16)).queue.any (fun q => q.note == some (.spool ch s.rig.ios)) ||
        (t.rigInit (7 + ch / 16)).tags.any (fun g => g.2.note == some (.spool ch s.rig.ios))) = true ∧ t.chState ch = chActive ∧ t.mem = s.mem) ∧
  (∀ (s : State) (ch : Nat), ch < 64 → (s.chan ch).stage = .fetch → s.chState ch = chActive →
    (∀ e ∈ (s.chan ch).io, e.phase ≠ 1 ∧ e.id ≠ s.rig.ios) →
    s.aim (initPlace (7 + ch / 16)).1 (spoolDest (s.on (pgChannel ch) CH_CTRL.RING_HOST) (s.ringBase ch + s.descSize ch * s.rdCh ch CH_HEAD.INDEX)) = none →
    ∃ t, exec (.descFetch ch .issue) s = .next t ∧ t.chState ch = chHalted ∧ t.rdCh ch CH_ERR_INFO.CODE = 8 ∧ t.rdCh ch CH_ERR_INFO.PHASE = 1 ∧
      t.rdCh ch CH_ERR_INFO.DIR = 0 ∧ t.mem = s.mem) ∧
  (∀ (s s0 : State) (ch : Nat) (e : SpoolIo) (es : List SpoolIo) (d : List Word), ch < 64 → (s.chan ch).stage = .fetch → s.chState ch = chActive →
    (s.chan ch).answered (fun e => e.phase == 1) = e :: es → s0 = s.dropIo ch (e :: es) → d = wordsLE (e.bytes / 4) e.data →
    ∃ t, exec (.descFetch ch .take) s = .next t ∧
      (bitOf (d.getD 0 0).toNat 31 = true → (s.triggered ch = false ∨ s.on (pgChannel ch) CH_STATUS.STOP_PENDING = false) →
        (t.chan ch).desc = d ∧ (t.chan ch).status = descStatus (s.engLegacy (ch / 16)) d ∧
        (s.triggered ch = false → (t.chan ch).stage = (if (t.chan ch).status = 0 then .data else .back1) ∧ t.regs = s.regs) ∧
        (s.triggered ch = true → (s0.holdDesc ch d).listsHeld ch = false → (t.chan ch).stage = .held ∧ t.chState ch = chActive) ∧
        (s.triggered ch = true → (s0.holdDesc ch d).listsHeld ch = true → (s.chan ch).reread = none → (s.chan ch).trigs = [] →
          t.chState ch = chWait ∧ (t.chan ch).stage = .held) ∧
        (s.triggered ch = true → (s0.holdDesc ch d).listsHeld ch = true → ((s.chan ch).reread ≠ none ∨ (s.chan ch).trigs ≠ []) →
          t.chState ch = chActive ∧ (t.chan ch).stage = (if (t.chan ch).status = 0 then .data else .back1))) ∧
      (bitOf (d.getD 0 0).toNat 31 = true → s.on (pgChannel ch) CH_STATUS.STOP_PENDING = true → s.triggered ch = true →
        (s0.holdDesc ch d).listsHeld ch = true → (s.chan ch).reread = none → (s.chan ch).trigs = [] → t.chState ch = chDisabled) ∧
      (bitOf (d.getD 0 0).toNat 31 = false → s.on (pgChannel ch) CH_STATUS.STOP_PENDING = true → t.chState ch = chDisabled) ∧
      (bitOf (d.getD 0 0).toNat 31 = false → s.on (pgChannel ch) CH_STATUS.STOP_PENDING = false →
        (s.triggered ch = false → s.on (pgChannel ch) CH_STATUS.KICK_PENDING = false → t.chState ch = chIdle) ∧
        (s.triggered ch = false → s.on (pgChannel ch) CH_STATUS.KICK_PENDING = true →
          t.chState ch = chActive ∧ t.rdCh ch CH_STATUS.KICK_PENDING = 0) ∧
        (s.triggered ch = true → (s.chan ch).trigs = [] → t.chState ch = chWait ∧ (t.chan ch).stage = .fetch) ∧
        (s.triggered ch = true → (s.chan ch).trigs ≠ [] → t.chState ch = chActive ∧ (t.chan ch).stage = .fetch))) ∧
  (∀ (s : State) (ch base n next : Nat) (dst : Bool), ch < 64 → s.listOpen ch dst = true → (∀ e ∈ (s.chan ch).io, e.id < s.rig.ios) →
    next = (if dst then (s.chan ch).dstNext else (s.chan ch).srcNext) → n = min 4 (s.listCount ch dst - next) →
    base = (if dst then (s.chan ch).word 4 + (s.chan ch).word 5 * 2 ^ 32 else (s.chan ch).word 2 + (s.chan ch).word 3 * 2 ^ 32) + 16 * next →
    ∃ t, exec (.listFetch ch dst .issue) s = .next t ∧
      (t.chan ch).io.map (fun e => (e.phase, e.write, e.host, e.addr, e.bytes, e.dst)) =
        (s.chan ch).io.map (fun e => (e.phase, e.write, e.host, e.addr, e.bytes, e.dst)) ++
        (cutAll base (16 * n)).map (fun p => (2, false, (s.chan ch).flag (if dst then 26 else 27), base + p.1, p.2, (dst, 0))) ∧ t.mem = s.mem) ∧
  (∀ (s : State) (ch : Nat) (dst : Bool) (es : List SpoolIo) (bs : List Byte), ch < 64 → s.chState ch = chActive →
    (s.chan ch).answered (fun e => e.phase == 2 && e.dst.1 == dst) = es → es ≠ [] → bs = es.flatMap (·.data) →
    ((s.chan ch).stage ≠ .held ∨ s.triggered ch = false) →
    ∃ t, exec (.listFetch ch dst .take) s = .next t ∧ t.regs = s.regs ∧
      (dst = false → (t.chan ch).src = (s.chan ch).src ++ (listEntries (bs.length / 16) bs).filter (fun e => e.len != 0 || e.bad) ∧
        (t.chan ch).srcNext = (s.chan ch).srcNext + bs.length / 16 ∧ (t.chan ch).dst = (s.chan ch).dst) ∧
      (dst = true → (t.chan ch).dst = (s.chan ch).dst ++ (listEntries (bs.length / 16) bs).filter (fun e => e.len != 0 || e.bad) ∧
        (t.chan ch).dstNext = (s.chan ch).dstNext + bs.length / 16 ∧ (t.chan ch).src = (s.chan ch).src)) ∧
  (∀ (s : State) (ch : Nat) (dst : Bool) (es : List SpoolIo) (bs : List Byte), ch < 64 → s.chState ch = chActive →
    (s.chan ch).answered (fun e => e.phase == 2 && e.dst.1 == dst) = es → es ≠ [] → bs = es.flatMap (·.data) →
    (s.chan ch).stage = .held → s.triggered ch = true → (s.chan ch).reread = none → (s.chan ch).trigs = [] →
    s.on (pgChannel ch) CH_STATUS.STOP_PENDING = false →
    ∃ t, exec (.listFetch ch dst .take) s = .next t ∧ (t.chan ch).stage = .held ∧
      t.chState ch = (if t.listsHeld ch then chWait else chActive)) ∧
  (∀ (s : State) (ch i : Nat), ch < 64 → s.burstOpen ch i = true → (∀ e ∈ (s.chan ch).io, e.id < s.rig.ios) →
    ∃ t, exec (.dataBurst ch false i) s = .next t ∧ t.mem = s.mem ∧ (t.chan ch).done = (s.chan ch).done ∧
      nget t.engLast (8 * (ch / 16) + s.rdCh ch CH_CTRL.PRIO) = ch % 16 + 1 ∧
      (∀ st, s.nextBurst ch = .ends st → (t.chan ch).stage = .back1 ∧ (t.chan ch).status = st ∧ (t.chan ch).io = (s.chan ch).io) ∧
      (∀ a b n, s.nextBurst ch = .burst a b n →
        (t.chan ch).io.map (fun e => (e.phase, e.write, e.host, e.addr, e.bytes, e.dst, e.burst)) =
          (s.chan ch).io.map (fun e => (e.phase, e.write, e.host, e.addr, e.bytes, e.dst, e.burst)) ++
          (cutAll a.addr n).map (fun p => (0, false, a.host, a.addr + p.1, p.2, (b.host, b.addr + p.1), i)) ∧
        (t.chan ch).left = (s.chan ch).left - n ∧ (t.chan ch).burst = i + 1)) ∧
  (∀ (s : State) (ch i : Nat), ch < 64 → s.chState ch = chActive →
    exec (.dataBurst ch true i) s = .next (((s.chan ch).arrived i).foldl (fun s e => s.writeOn ch e) s)) ∧
  (∀ (s : State) (ch i : Nat) (e : SpoolIo), ch < 64 → s.chState ch = chActive → (s.chan ch).arrived i = [e] →
    (∀ x ∈ (s.chan ch).io, x.id < s.rig.ios) →
    (∀ p ∈ cutAll e.dst.2 e.bytes, (s.aim (initPlace (7 + ch / 16)).1 (spoolDest e.dst.1 (e.dst.2 + p.1))).all
      (fun x => !isDoorbell true p.2 x.2.1 x.2.2) = true) →
    ∃ t, exec (.dataBurst ch true i) s = .next t ∧
      (t.chan ch).io.map (fun x => (x.phase, x.write, x.host, x.addr, x.bytes, x.data, x.burst)) =
        ((s.chan ch).io.filter (fun x => x != e)).map (fun x => (x.phase, x.write, x.host, x.addr, x.bytes, x.data, x.burst)) ++
        (cutAll e.dst.2 e.bytes).map (fun p => (0, true, e.dst.1, e.dst.2 + p.1, p.2, (e.data.drop p.1).take p.2, e.burst)) ∧
      (t.chan ch).done = (s.chan ch).done) ∧
  (∀ (s : State) (i ch id code : Nat) (q : Packet) (g : RigTag) (e : SpoolIo) (bad : Bool), s.rig.packets[i]? = some q → s.atHome q = true →
    q.got = q.flits → lget (s.rigInit q.srcInit).tags q.tag = some g → g.quarantined = false → g.abandoned = false →
    g.note = some (.spool ch id) → nget (s.rigInit q.srcInit).gens q.tag = q.gen → (s.rigInit q.srcInit).queue = [] → ch < 64 →
    (s.chan ch).io.find? (fun e => e.id == id) = some e → e.dead = false → e.phase < 4 → q.status < 16 →
    code = (if (bad || q.spoiled) && q.payloadFlits != 0 then 1 else q.status) →
    ∃ t, exec (.rigResponse i bad) s = .next t ∧
      (code = 0 → e.write = true → e.phase = 0 → (t.chan ch).done = (s.chan ch).done + e.bytes ∧ ∀ x ∈ (t.chan ch).io, x.id ≠ id) ∧
      (code = 0 → (e.write = false ∨ e.phase ≠ 0) → (t.chan ch).io.find? (fun e => e.id == id) =
        some { e with out := false, answer := some 0, data := if e.write then e.data else q.data }) ∧
      (code ≠ 0 → s.chState ch ≠ chHalted → t.chState ch = chHalted ∧ t.rdCh ch CH_ERR_INFO.CODE = code ∧
        t.rdCh ch CH_ERR_INFO.PHASE = e.phase ∧ t.rdCh ch CH_ERR_INFO.DIR = bnat e.write ∧ (t.chan ch).halted = e.phase) ∧
      (code ≠ 0 → s.chState ch = chHalted → t.rdCh ch CH_ERR_INFO.MULTI = 1)) ∧
  (∀ (s : State) (ch : Nat) (zero : Bool), ch < 64 → s.backAt ch zero = true → (s.chan ch).io = [] →
    ∃ t, exec (.writeBack ch zero .issue) s = .next t ∧
      (t.chan ch).io.map (fun e => (e.phase, e.write, e.host, e.addr, e.data)) =
        [(3, true, s.on (pgChannel ch) CH_CTRL.RING_HOST, s.descAddr ch + (if zero then 0 else 32),
          if zero then s.backBytes ch else bytesLE 4 (s.chan ch).done ++ bytesLE 4 s.stamp)] ∧ t.mem = s.mem) ∧
  (∀ (s : State) (ch : Nat), ch < 64 → s.backAt ch false = true → (s.chan ch).answered (fun e => e.phase == 3) ≠ [] →
    ∃ t, exec (.writeBack ch false .take) s = .next t ∧ (t.chan ch).stage = .back0 ∧ t.regs = s.regs) ∧
  (∀ (s : State) (ch : Nat), ch < 64 → s.backAt ch true = true → (s.chan ch).answered (fun e => e.phase == 3) ≠ [] →
    ∃ t, exec (.writeBack ch true .take) s = .next t ∧
      t.rdCh ch CH_HEAD.INDEX = (s.rdCh ch CH_HEAD.INDEX + 1) % s.rdCh ch CH_RING_SIZE.SIZE % 2 ^ 16 ∧ (t.chan ch).stage = .fetch ∧
      t.rdCh ch CH_DESC_CNT.COUNT = satAdd (2 ^ CH_DESC_CNT.COUNT.len - 1) (s.rdCh ch CH_DESC_CNT.COUNT) 1 ∧
      ((s.chan ch).status = 3 → t.rdCh ch CH_EVENT.BAD_DESC = 1) ∧ ((s.chan ch).flag 30 = true → t.rdCh ch CH_EVENT.DONE = 1) ∧
      (s.on (pgChannel ch) CH_STATUS.STOP_PENDING = true → t.chState ch = chDisabled) ∧
      (s.on (pgChannel ch) CH_STATUS.STOP_PENDING = false → t.chState ch = chActive))

/-- A doorbell value that passes the checks makes an IDLE source PENDING and adds one to its COUNT and to INTC_DB_CNT; a value of
0 sets INTC_EVENT.DB_REJECT; every value is answered OK. A round delivers the best PENDING source to its target. An admitted claim
answers the best source delivered to the target, with its COUNT, and makes it ACTIVE with COUNT 0; a completion of it ends its
service, as PENDING where events have come meanwhile and as IDLE otherwise. The panel port claims and completes likewise, its
answer to show four edges of the panel later, and its CPR is taken. After a target is disabled no source is DELIVERED or ACTIVE at
it. (13_interrupts.md (R335, R338, R340, R343, R344, R345, R347).) -/
def Obligations.InterruptDelivery : Prop :=
  (∀ (s : State) (w : Who) (secure : Bool) (v : Word), s.intcBusy = false → (secure = true → s.visible w (pgIntc 0) = true) →
    s.doorbellCheck secure (s.whoSecure w) v.toNat = .event → s.srcState v.toNat = srcIdle → s.rd (pgSrc v.toNat) SRC_STATE.COUNT < s.srcMax →
    ∃ t, exec (.doorbell w secure v) s = .next t ∧ t.srcState v.toNat = srcPending ∧
      t.rd (pgSrc v.toNat) SRC_STATE.COUNT = s.rd (pgSrc v.toNat) SRC_STATE.COUNT + 1 ∧ t.resp = ⟨.ok, 0⟩ ∧
      t.rd (pgIntc 0) INTC_DB_CNT.COUNT = satAdd (2 ^ INTC_DB_CNT.COUNT.len - 1) (s.rd (pgIntc 0) INTC_DB_CNT.COUNT) 1) ∧
  (∀ (s : State) (w : Who) (secure : Bool) (v : Word), s.intcBusy = false → (secure = true → s.visible w (pgIntc 0) = true) →
    ∃ t, exec (.doorbell w secure v) s = .next t ∧ t.resp = ⟨.ok, 0⟩ ∧ (v = 0 → t.rd (pgIntc 0) INTC_EVENT.DB_REJECT = 1)) ∧
  (∀ (s : State) (v t0 : Nat), s.on (pgIntc 0) INTC_GLOBAL.DELIVER = true → s.intcBusy = false →
    bestSource s.srcPrio (fun v => s.srcState v == srcPending && s.on (pgSrc v) SRC_CFG.ENABLE && (s.chooseTarget v).isSome) = some v →
    s.chooseTarget v = some t0 →
    ∃ t, exec .intcRound s = .next t ∧ t.srcState v = srcDelivered ∧ t.srcTarget v = t0 ∧ nget t.lastTgt v = t0 + 1 ∧
      nget t.gotPrio v = s.srcPrio v) ∧
  (∀ (s : State) (a : Access) (k v : Nat), k < 32 → s.shows a.who (pgTgt k) (tgtFld TGT_CLAIM.VALUE k).off →
    (s.onTgt k TGT_CTRL.SECURE = true → s.whoSecure a.who = true) → partSeen a.who (s.rdTgt k TGT_CTRL.PART) = true → s.nextClaim k = some v →
    ∃ t, exec (.tgtClaim a k) s = .next t ∧ t.resp = ⟨.ok, v + s.rd (pgSrc v) SRC_STATE.COUNT * 2 ^ 16 + 2 ^ 31⟩ ∧ t.srcState v = srcActive ∧
      t.rd (pgSrc v) SRC_STATE.COUNT = 0 ∧ ∀ u, u ≠ v → t.srcState u = s.srcState u) ∧
  (∀ (s : State) (a : Access) (k : Nat) (v : Word), k < 32 → s.writeGate a (pgTgt k) (tgtFld TGT_COMPLETE.SOURCE k).off v = .pass →
    (s.onTgt k TGT_CTRL.SECURE = true → s.whoSecure a.who = true) → partSeen a.who (s.rdTgt k TGT_CTRL.PART) = true →
    getF v TGT_COMPLETE.SOURCE.lo TGT_COMPLETE.SOURCE.len ≠ 0 →
    s.srcState (getF v TGT_COMPLETE.SOURCE.lo TGT_COMPLETE.SOURCE.len) = srcActive →
    s.srcTarget (getF v TGT_COMPLETE.SOURCE.lo TGT_COMPLETE.SOURCE.len) = k →
    ∃ t, exec (.tgtComplete a k v) s = .next t ∧
      t.srcState (getF v TGT_COMPLETE.SOURCE.lo TGT_COMPLETE.SOURCE.len) =
        (if s.rd (pgSrc (getF v TGT_COMPLETE.SOURCE.lo TGT_COMPLETE.SOURCE.len)) SRC_STATE.COUNT ≠ 0 then srcPending else srcIdle) ∧
      t.srcTarget (getF v TGT_COMPLETE.SOURCE.lo TGT_COMPLETE.SOURCE.len) = 0) ∧
  (∀ (s : State) (p cpr k v : Nat), p < 576 → cpr < 16 → s.clkRun p = true → s.portTarget p = some k → s.nextClaim k = some v →
    ∃ t, exec (.portClaim p cpr) s = .next t ∧ t.rdTgt k TGT_CPR.CPR = cpr ∧ (t.panel p).cpr = cpr ∧ t.srcState v = srcActive ∧
      (t.panel p).claimDue = (s.panel p).claimDue ++ [⟨4, v + s.rd (pgSrc v) SRC_STATE.COUNT * 2 ^ 16 + 2 ^ 31⟩] ∧
      (t.panel p).claim = (s.panel p).claim) ∧
  (∀ (s : State) (p src cpr k : Nat), p < 576 → cpr < 16 → src < 4096 → src ≠ 0 → s.clkRun p = true → s.portTarget p = some k →
    s.srcState src = srcActive → s.srcTarget src = k →
    ∃ t, exec (.portComplete p src cpr) s = .next t ∧ t.rdTgt k TGT_CPR.CPR = cpr ∧ t.srcTarget src = 0 ∧
      t.srcState src = (if s.rd (pgSrc src) SRC_STATE.COUNT ≠ 0 then srcPending else srcIdle)) ∧
  (∀ (s : State) (a : Access) (k : Nat) (v : Word), k < 32 → s.writeGate a (pgTgt k) (tgtFld TGT_CTRL.ENABLE k).off v = .pass →
    s.whoSecure a.who = true → partSeen a.who (s.rdTgt k TGT_CTRL.PART) = true → s.onTgt k TGT_CTRL.ENABLE = true →
    (s.storeReg (pgTgt k) (tgtFld TGT_CTRL.ENABLE k).off v).onTgt k TGT_CTRL.ENABLE = false →
    ∃ t, exec (.targetDisable a k v) s = .next t ∧ t.onTgt k TGT_CTRL.ENABLE = false ∧
      ∀ u, u < 4096 → t.srcTarget u = k → t.srcState u ≠ srcDelivered ∧ t.srcState u ≠ srcActive)

/-- An accepted enable takes the port to BRINGUP with an empty replay buffer and sequence numbers of 0. A retrain of an enabled
port counts one, sets RETRAIN, offers the full width and leaves the port out of ACTIVE with its buffer kept. At an ACTIVE port a
good DATA flit in sequence moves EXPECT on and is counted, and a bad one is counted and asks for a replay once; the
acknowledgement of a good flit frees the flits it covers, and its credits are added. A REPLAY, and an acknowledgement timeout,
send the buffered flits again and count it; after REPLAY_LIMIT of them without progress the port restarts. A receiver that waits
as long for its replay asks again. (15_tether.md (R375, R376, R378, R382, R383, R384).) -/
def Obligations.TetherPortsAndFlits : Prop :=
  (∀ (s : State) (a : Access) (p : Nat) (v : Word), p < 8 → s.writeGate a (pgTether p) TETHER_CTRL.ENABLE.off (v ||| 1) = .pass →
    s.portOn p = false → getF (v ||| 1) 16 1 = 0 → (s.storeReg (pgTether p) TETHER_CTRL.ENABLE.off (v ||| 1)).portEnableBad p = false →
    ∃ t, exec (.portEnable a p v) s = .next t ∧ t.portState p = tpBringup ∧ (t.port p).buf = [] ∧ t.rdPort p TETHER_TX_SEQ.NEXT = 0 ∧
      t.rdPort p TETHER_RX_SEQ.EXPECT = 0) ∧
  (∀ (s : State) (a : Access) (p : Nat), p < 8 → s.portOn p = true →
    s.writeGate a (pgTether p) TETHER_CTRL.ENABLE.off
      ((s.reg (pgTether p * 4096 + TETHER_CTRL.ENABLE.off) &&& 0x000633F7) ||| 0x00010000) = .pass →
    ∃ t, exec (.portRetrain a p) s = .next t ∧ t.portState p ≠ tpActive ∧ (t.port p).buf = (s.port p).buf ∧
      t.rd (pgTether p) TETHER_EVENT.RETRAIN = 1 ∧
      t.rdPort p TETHER_RETRAIN_CNT.COUNT = satAdd (2 ^ TETHER_RETRAIN_CNT.COUNT.len - 1) (s.rdPort p TETHER_RETRAIN_CNT.COUNT) 1) ∧
  (∀ (s : State) (p n d h first : Nat) (bytes b : List Byte), p < 8 → bytes.length = 256 → openFlit bytes = (some b, n) →
    s.portState p = tpActive → h = natLE (b.take 4) → hdrField h 24 4 = 1 →
    first = ((s.port p).buf.head?.map (·.seq)).getD (s.rdPort p TETHER_TX_SEQ.NEXT) → first < 4096 →
    (hdrField h 12 12 + 1) % 4096 = (first + d) % 4096 → d ≤ (s.port p).buf.length → d < 4096 →
    (hdrField h 28 2 = 0 ∨ nget (s.port p).credits (hdrField h 30 2) + 4 * hdrField h 28 2 ≤ classSlots (hdrField h 30 2)) →
    hdrField h 0 12 = s.rdPort p TETHER_RX_SEQ.EXPECT →
    ∃ t, exec (.dataFlit p bytes) s = .next t ∧ t.rdPort p TETHER_RX_SEQ.EXPECT = (s.rdPort p TETHER_RX_SEQ.EXPECT + 1) % 4096 ∧
      t.rdPort p TETHER_RX_FLITS.COUNT = satAdd (2 ^ TETHER_RX_FLITS.COUNT.len - 1) (s.rdPort p TETHER_RX_FLITS.COUNT) 1 ∧
      (t.port p).buf = (s.port p).buf.drop d ∧ (t.port p).replayAt = none) ∧
  (∀ (s : State) (p n : Nat) (bytes : List Byte), p < 8 → bytes.length = 256 → openFlit bytes = (none, n) → s.portState p = tpActive →
    (s.port p).replayAt = none →
    ∃ t, exec (.dataFlit p bytes) s = .next t ∧ (t.port p).replayAt = some s.ns ∧ t.out.length = s.out.length + 1 ∧
      t.rdPort p TETHER_RX_SEQ.EXPECT = s.rdPort p TETHER_RX_SEQ.EXPECT ∧
      t.rdPort p TETHER_CRC_ERR_CNT.COUNT = satAdd (2 ^ TETHER_CRC_ERR_CNT.COUNT.len - 1) (s.rdPort p TETHER_CRC_ERR_CNT.COUNT) 1) ∧
  (∀ (s : State) (p n d h first : Nat) (bytes b : List Byte), p < 8 → bytes.length = 256 → openFlit bytes = (some b, n) →
    s.portState p = tpActive → h = natLE (b.take 4) → hdrField h 24 4 = 0 →
    first = ((s.port p).buf.head?.map (·.seq)).getD (s.rdPort p TETHER_TX_SEQ.NEXT) → first < 4096 →
    (hdrField h 12 12 + 1) % 4096 = (first + d) % 4096 → d ≤ (s.port p).buf.length → d < 4096 →
    (hdrField h 28 2 = 0 ∨ nget (s.port p).credits (hdrField h 30 2) + 4 * hdrField h 28 2 ≤ classSlots (hdrField h 30 2)) →
    ∃ t, exec (.nullFlit p bytes) s = .next t ∧ (t.port p).buf = (s.port p).buf.drop d ∧
      (t.port p).replays = (if d = 0 then (s.port p).replays else 0) ∧
      t.rdPort p TETHER_TX_SEQ.ACKED = (if d = 0 then s.rdPort p TETHER_TX_SEQ.ACKED else hdrField h 12 12) ∧
      nget (t.port p).credits (hdrField h 30 2) = nget (s.port p).credits (hdrField h 30 2) + 4 * hdrField h 28 2) ∧
  (∀ (s : State) (p n d h first : Nat) (bytes b : List Byte), p < 8 → bytes.length = 256 → openFlit bytes = (some b, n) →
    s.portState p = tpActive → h = natLE (b.take 4) → hdrField h 24 4 = 2 →
    first = ((s.port p).buf.head?.map (·.seq)).getD (s.rdPort p TETHER_TX_SEQ.NEXT) → first < 4096 →
    (hdrField h 12 12 + 1) % 4096 = (first + d) % 4096 → d ≤ (s.port p).buf.length → d < 4096 →
    (hdrField h 28 2 = 0 ∨ nget (s.port p).credits (hdrField h 30 2) + 4 * hdrField h 28 2 ≤ classSlots (hdrField h 30 2)) →
    ∃ t, exec (.replayRequest p bytes) s = .next t ∧ (t.port p).buf = (s.port p).buf.drop d ∧
      ((if d = 0 then (s.port p).replays else 0) < s.rdPort p TETHER_TIMERS.REPLAY_LIMIT →
        (t.port p).replays = (if d = 0 then (s.port p).replays else 0) + 1 ∧ t.rd (pgTether p) TETHER_EVENT.REPLAY = 1 ∧
        t.out.length = s.out.length + ((s.port p).buf.drop d).length) ∧
      (s.rdPort p TETHER_TIMERS.REPLAY_LIMIT ≤ (if d = 0 then (s.port p).replays else 0) →
        t.portState p ≠ tpActive ∧ t.rd (pgTether p) TETHER_EVENT.RETRAIN = 1)) ∧
  (∀ (s : State) (p : Nat), p < 8 → s.portState p = tpActive → (s.port p).replayAt = none → (s.port p).buf ≠ [] →
    (s.port p).ackAt + 1000 * s.rdPort p TETHER_TIMERS.ACK_TIMEOUT_US ≤ s.ns →
    ∃ t, exec (.ackTimeout p) s = .next t ∧ (t.port p).buf = (s.port p).buf ∧
      ((s.port p).replays < s.rdPort p TETHER_TIMERS.REPLAY_LIMIT → (t.port p).replays = (s.port p).replays + 1 ∧
        t.rd (pgTether p) TETHER_EVENT.REPLAY = 1 ∧ t.out.length = s.out.length + (s.port p).buf.length) ∧
      (s.rdPort p TETHER_TIMERS.REPLAY_LIMIT ≤ (s.port p).replays → t.portState p ≠ tpActive ∧ t.rd (pgTether p) TETHER_EVENT.RETRAIN = 1)) ∧
  (∀ (s : State) (p u : Nat), p < 8 → s.portState p = tpActive → (s.port p).replayAt = some u → (s.port p).buf = [] →
    u + 1000 * s.rdPort p TETHER_TIMERS.ACK_TIMEOUT_US ≤ s.ns →
    ∃ t, exec (.ackTimeout p) s = .next t ∧ (t.port p).replayAt = some s.ns ∧ t.out.length = s.out.length + 1)

/-- A good partner record in EXCHANGE is accepted and its device shown, and the port is ACTIVE once the partner has accepted too
and this end has sent an accepting record; a bad one shows its reason, sets EXCH_FAIL and holds as a refusal. A CAP flit at an
ACTIVE port is ignored. An ACTIVE port's partner is reached through that port in both tables of the port's node, and from every
other node on the way to that node. A port out of ACTIVE for DOWN_US is DOWN with its buffer discarded. At an ACTIVE port an echo
request leaves when 100 µs have passed since the last, a received one is answered, and an answer gives a valid delay. A
subscription takes its earlier number or the lowest free one and an unsubscription frees it; a sync message of a subscription is
posted at its slot. A DATA message that reaches a mirror in ACQUIRE sets its estimate and takes it to RUN. (15_tether.md (R386,
R387, R388, R389, R391, R392).) -/
def Obligations.TetherPartnersAndSync : Prop :=
  (∀ (s : State) (p n : Nat) (accepting : Bool) (bytes b : List Byte), p < 8 → bytes.length = 256 → openFlit bytes = (some b, n) →
    s.portState p ≠ tpActive → hdrField (natLE (b.take 4)) 24 4 = 4 → s.portOn p = true →
    (s.lanesUsed p).any (fun l => s.stage l != stExchange) = false → (s.port p).lanesOn ≠ 0 →
    (s.port p).refused = false →
    ∃ t, exec (.capFlit p accepting bytes) s = .next t ∧
      (s.capReason p (fun i => (b.getD i 0).toNat) = 0 → s.strangerLanes p (b.getD 5 0).toNat (b.getD 6 0).toNat = [] →
        (t.port p).accepts = true ∧ t.rdPort p TETHER_STATUS.PARTNER_VALID = 1 ∧
        t.rdPort p TETHER_STATUS.PARTNER_DEV = (b.getD 5 0).toNat % 2 ^ TETHER_STATUS.PARTNER_DEV.len ∧
        (accepting = true ∨ (s.port p).peerAccepts = true → (s.port p).sentAccept = true → t.portState p = tpActive) ∧
        ((s.port p).sentAccept = false → t.portState p = s.portState p)) ∧
      (s.capReason p (fun i => (b.getD i 0).toNat) ≠ 0 →
        t.rdPort p TETHER_STATUS.EXCH_REASON = s.capReason p (fun i => (b.getD i 0).toNat) ∧
        t.rd (pgTether p) TETHER_EVENT.EXCH_FAIL = 1 ∧ (t.port p).accepts = false ∧ (t.port p).refused = true)) ∧
  (∀ (s : State) (p n : Nat) (accepting : Bool) (bytes b : List Byte), p < 8 → bytes.length = 256 → openFlit bytes = (some b, n) →
    s.portState p = tpActive → hdrField (natLE (b.take 4)) 24 4 = 4 →
    ∃ t, exec (.capFlit p accepting bytes) s = .next t ∧ t.ports = s.ports ∧ t.portState p = tpActive ∧ t.out = s.out) ∧
  (∀ (s : State) (p : Nat), p < 8 → s.portState p = tpActive →
    ∃ t, exec (.portActive p) s = .next t ∧ ∀ q, q < 2 →
      t.route (targetPlace (101 + p)).1 q (128 + s.rdPort p TETHER_STATUS.PARTNER_DEV) = 6 + 8 * (targetPlace (101 + p)).2 ∧
      ∀ n, n < 128 → n ≠ (targetPlace (101 + p)).1 →
        t.route n q (128 + s.rdPort p TETHER_STATUS.PARTNER_DEV) = s.route n q (targetPlace (101 + p)).1 % 8) ∧
  (∀ (s : State) (p t0 : Nat), p < 8 → (s.port p).left = some t0 → s.portState p = tpWaiting →
    t0 + 1000 * s.rdPort p TETHER_TIMERS.DOWN_US ≤ s.ns →
    ∃ t, exec (.portDown p) s = .next t ∧ t.portState p = tpDown ∧ t.rd (pgTether p) TETHER_EVENT.DOWN = 1 ∧ (t.port p).buf = [] ∧
      (t.port p).before = none) ∧
  (∀ (s : State) (p sub : Nat), p < 8 → s.portState p = tpActive →
    (∀ t0, (s.port p).echoAt = some t0 → t0 + 100000 ≤ s.ns) →
    ∃ t b ls, exec (.echoSend p sub) s = .next t ∧ t.out = s.out ++ [.echo p false (s.grid sub) 0 0 b ls] ∧ (t.port p).echoAt = some s.ns ∧
      (t.port p).buf = (s.port p).buf) ∧
  (∀ (s : State) (p sub t0 : Nat), p < 8 → (s.port p).echoAt = some t0 → s.ns < t0 + 100000 → exec (.echoSend p sub) s = .next s) ∧
  (∀ (s : State) (p n d h first t1 t2 t3 sub : Nat) (bytes b : List Byte), p < 8 → bytes.length = 256 → openFlit bytes = (some b, n) →
    s.portState p = tpActive → h = natLE (b.take 4) → hdrField h 24 4 = 3 →
    first = ((s.port p).buf.head?.map (·.seq)).getD (s.rdPort p TETHER_TX_SEQ.NEXT) → first < 4096 →
    (hdrField h 12 12 + 1) % 4096 = (first + d) % 4096 → d ≤ (s.port p).buf.length → d < 4096 →
    (hdrField h 28 2 = 0 ∨ nget (s.port p).credits (hdrField h 30 2) + 4 * hdrField h 28 2 ≤ classSlots (hdrField h 30 2)) →
    (∃ t c ls, exec (.echoFlit p bytes false t1 t2 t3 sub) s = .next t ∧ t.out = s.out ++ [.echo p true t1 (s.grid sub) t3 c ls] ∧
      (t.port p).buf = (s.port p).buf.drop d) ∧
    ∃ t, exec (.echoFlit p bytes true t1 t2 t3 sub) s = .next t ∧ t.rdPort p TETHER_LINK_DELAY.VALID = 1 ∧ t.out = s.out ∧
      (t.port p).buf = (s.port p).buf.drop d) ∧
  (∀ (s : State) (dev track : BitVec 6) (ns : Bool) (inline : BitVec 128) (i : Nat),
    syncField inline 113 15 = modFold (s.trMod (syncField inline 91 6)) →
    (ns = true → s.on (pgTrack (syncField inline 91 6)) PAGE_WORLD.SECURE = false) → 
    (s.findSub dev.toNat track.toNat = some i ∨
      (s.findSub dev.toNat track.toNat = none ∧ (List.range 24).find? (fun i => (lget s.bridle.subs i).isNone) = some i)) →
    ∃ t, exec (.subscribe dev track ns inline) s = .next t ∧ lget t.bridle.subs i = some ⟨dev.toNat, track.toNat, syncField inline 91 6, ns⟩ ∧
      ∀ j, j ≠ i → lget t.bridle.subs j = lget s.bridle.subs j) ∧
  (∀ (s : State) (dev track : BitVec 6) (i : Nat), s.findSub dev.toNat track.toNat = some i →
    ∃ t, exec (.unsubscribe dev track) s = .next t ∧ lget t.bridle.subs i = none ∧ ∀ j, j ≠ i → lget t.bridle.subs j = lget s.bridle.subs j) ∧
  (∀ (s : State) (i : Nat) (e : Subscription), i < 24 → lget s.bridle.subs i = some e → s.bridleNs % 1000 = 40 * i →
    ∃ t m, exec (.syncSend i) s = .next t ∧ m ∈ t.rig.msgs ∧ m.dstDev = e.dev ∧ m.tag = e.track ∧ m.addr = syncPort ∧
      m.data = bytesLE 16 (s.syncData e.source 0) ∧ t.regs = s.regs) ∧
  (∀ (s : State) (track : BitVec 6) (inline : BitVec 128) (sub : Nat), s.trKind track.toNat = kRemote → s.trState track.toNat = trAcquire →
    (s.core track.toNat).acq = 0 → (s.track track.toNat).presetAt ≠ some s.bridleNs → syncField inline 88 2 = 2 →
    syncField inline 113 15 = modFold (s.trMod track.toNat) →
    ∃ t, exec (.syncMessage track false inline sub) s = .next t ∧ t.trState track.toNat = trRun ∧
      (t.core track.toNat).v0 = sint 32 (syncField inline 56 32) * 2 ^ 12 ∧
      (t.core track.toNat).p0 = sint 56 (syncField inline 0 56) * 2 ^ 24 +
        sint 32 (syncField inline 56 32) * 2 ^ 10 * (((syncField inline 97 16 + s.grid sub) % 65536 : Nat) : Int))

/-- An accepted enable powers the lane and starts it in DETECT with a backoff of 1 ms; a disable takes its power; a retrain starts
it again in DETECT with a cleared eye. A detected receiver takes it to TRAIN; in TRAIN the CDR locks, and where the values pass
the lane is trained and enters LOCK once the lanes of its port are; bit lock is kept; flit lock after it takes the lane to
EXCHANGE once the lanes of its port have it. A stage past its limit leaves the lane in BACKOFF, counted, with the backoff doubled
up to 1 s, and the other lanes that its port offers in DETECT and the port out of ACTIVE; a lane that its port has narrowed away
from leaves the port as it is, and one that narrowing drops at a LOCK timeout is set aside. After the backoff the lane is in
DETECT again. Loss of lock leaves it in TRAIN with its live PEAK, and the ACTIVE lanes of its port too. A quad with a powered lane
has its PLL locked. A PCI Express link reset takes the link down, and PERST low is kept. (14_lanes.md (R353, R368, R369, R370,
R372, R373), 23_package_ordering.md (R529).) -/
def Obligations.LaneBringUp : Prop :=
  (∀ (s : State) (a : Access) (l : Nat) (v : Word), l < 32 → s.writeGate a (pgLane l) LANE_CTRL.ENABLE.off (v ||| 1) = .pass →
    s.laneOwner l = 0 → getF (v ||| 1) 7 1 = 0 → getF (v ||| 1) 1 3 ≤ 2 → getF (v ||| 1) 4 1 = 1 → inPcieQuad l = false →
    s.bandClash l (getF (v ||| 1) 1 3) = false →
    ∃ t, exec (.laneEnable a l v) s = .next t ∧ t.laneOn l = true ∧
      (s.laneOn l = false → t.rdLane l LANE_STATUS.POWER = 1 ∧ t.stage l = stDetect ∧ t.rdLane l LANE_BACKOFF.MS = 1 ∧ (t.lane l).consec = 0) ∧
      (s.laneOn l = true → t.lanes = s.lanes)) ∧
  (∀ (s : State) (a : Access) (l : Nat), l < 32 → s.writeGate a (pgLane l) LANE_CTRL.ENABLE.off (s.laneCtrlNow l &&& ~~~ 1) = .pass →
    s.laneOwner l = 0 → s.laneOn l = true → s.rdLane l LANE_CTRL.RATE ≤ 2 → s.rdLane l LANE_CTRL.PRECODE = 1 →
    ∃ t, exec (.laneDisable a l) s = .next t ∧ t.rdLane l LANE_STATUS.POWER = 0 ∧ t.stage l = 0) ∧
  (∀ (s : State) (a : Access) (l : Nat), l < 32 → s.writeGate a (pgLane l) LANE_CTRL.ENABLE.off (s.laneCtrlNow l ||| 0x80) = .pass →
    s.laneOn l = true → s.rdLane l LANE_CTRL.RATE ≤ 2 → s.rdLane l LANE_CTRL.PRECODE = 1 → inPcieQuad l = false →
    ∃ t, exec (.laneRetrain a l) s = .next t ∧ t.stage l = stDetect ∧ t.rdLane l LANE_EYE.WIDTH = 0 ∧ t.rdLane l LANE_BACKOFF.MS = 1) ∧
  (∀ (s : State) (l : Nat), l < 32 → s.stage l = stDetect →
    exec (.detectProbe l false) s = .next s ∧
    ∃ t, exec (.detectProbe l true) s = .next t ∧ t.stage l = stTrain ∧ (t.lane l).bitLock = false ∧ (t.lane l).trained = false ∧
      t.rdLane l LANE_STATUS.CDR_LOCK = 0) ∧
  (∀ (s : State) (l : Nat) (eye : Eye), l < 32 → s.stage l = stTrain →
    ∃ t, exec (.cdrLock l eye) s = .next t ∧ t.rdLane l LANE_STATUS.CDR_LOCK = 1 ∧ t.rdLane l LANE_EYE.WIDTH = eye.width.toNat ∧
      (((s.lane l).adapting = false ∨ (s.lane l).adapted = true) → s.eyePasses l eye = true → (t.lane l).trained = true ∧
        ((∀ m ∈ s.partners l, m ≠ l → s.stage m = stTrain ∧ (s.lane m).trained = true) → t.stage l = stLock)) ∧
      (s.eyePasses l eye = false → t.stage l = stTrain ∧ t.lanes = s.lanes)) ∧
  (∀ (s : State) (l : Nat), l < 32 → s.stage l = stLock → ((s.lane l).bitLock = true → exec (.bitLock l) s = .next s) ∧
    ((s.lane l).bitLock = false → ∃ t, exec (.bitLock l) s = .next t ∧ (t.lane l).bitLock = true ∧ t.regs = s.regs ∧
      ∀ m, m ≠ l → t.lane m = s.lane m)) ∧
  (∀ (s : State) (l : Nat), l < 32 → s.stage l = stLock → (s.lane l).bitLock = true →
    ∃ t, exec (.flitLock l) s = .next t ∧ (t.lane l).flitLock = true ∧ 
      ((∀ m ∈ s.partners l, m ≠ l → s.stage m = stLock ∧ (s.lane m).flitLock = true) → t.stage l = stExchange)) ∧
  (∀ (s : State) (l d : Nat), l < 32 → s.stageLimit l = some d → (s.lane l).since + d ≤ s.ns →
    ∃ t, exec (.stageTimeout l) s = .next t ∧ t.stage l = (match s.lanePort l with
          | some p => if s.stage l = stLock ∧ (s.lanesIn p (s.port p).offered).contains l = true ∧
              (t.lanesIn p (t.port p).offered).contains l = false then 0 else stBackoff
          | none => stBackoff) ∧ (t.lane l).consec = (s.lane l).consec + 1 ∧
      t.rdLane l LANE_BACKOFF.MS = (if (s.lane l).consec = 0 then 1 else min 1000 (2 * s.rdLane l LANE_BACKOFF.MS)) ∧
      t.rdLane l LANE_RETRY_CNT.COUNT = satAdd (2 ^ LANE_RETRY_CNT.COUNT.len - 1) (s.rdLane l LANE_RETRY_CNT.COUNT) 1 ∧
      t.rd (pgLane l) LANE_EVENT.STAGE_TIMEOUT = 1 ∧
      ∀ p, s.lanePort l = some p →
        ((s.lanesIn p (s.port p).offered).contains l = false → t.ports = s.ports ∧ t.portState p = s.portState p) ∧
        ((s.lanesIn p (s.port p).offered).contains l = true → t.portState p ≠ tpActive ∧
          ∀ m, m ∈ t.lanesIn p (t.port p).offered → m ≠ l → m < 32 → s.stage m ≠ stBackoff → t.stage m = stDetect)) ∧
  (∀ (s : State) (l : Nat), l < 32 → s.stage l = stBackoff → (s.lane l).since + s.rdLane l LANE_BACKOFF.MS * 1000000 ≤ s.ns →
    ∃ t, exec (.backoffExpiry l) s = .next t ∧ t.stage l = stDetect ∧ (t.lane l).since = s.ns) ∧
  (∀ (s : State) (l : Nat), l < 32 → s.stage l = stActive →
    ∃ t, exec (.lockLost l) s = .next t ∧ t.stage l = stTrain ∧ t.rdLane l LANE_RX_LIVE.PEAK = s.rdLane l LANE_RX_LIVE.PEAK ∧
      t.rd (pgLane l) LANE_EVENT.LOCK_LOST = 1 ∧
      t.rdLane l LANE_LOCK_LOST_CNT.COUNT = satAdd (2 ^ LANE_LOCK_LOST_CNT.COUNT.len - 1) (s.rdLane l LANE_LOCK_LOST_CNT.COUNT) 1 ∧
      ∀ p m, s.lanePort l = some p → m ∈ s.portLanes p → m < 32 → s.stage m = stActive → t.stage m = stTrain) ∧
  (∀ (s : State) (q i : Nat), q < 8 → i < 4 → s.rdLane (4 * q + i) LANE_STATUS.POWER = 1 →
    ∃ t, exec (.pllRelock q) s = .next t ∧ ∀ j, j < 4 → t.rdLane (4 * q + j) LANE_PLL.LOCKED = 1) ∧
  (∀ (s : State), ∃ t, exec .pcieLinkReset s = .next t ∧ t.linkUp = false ∧ ∀ l, l < s.pcieLanes → t.rdLane l LANE_BACKOFF.MS = 1) ∧
  (∀ (s : State), exec (.perst false) s = .next { s with perstLow := false } ∧
    ∃ t, exec (.perst true) s = .next t ∧ t.perstLow = true)

/-- A full adaptation proposes one of the best combinations that pass, and with none is rejected; a trim run proposes one of the
best candidates that pass, unless it is the live value. A check that passes ends the proposal for saving, and that of an
adaptation is then the table; one that fails is counted, walks back, leaves the value out of the next runs and takes back what a
blob had set; a blob that is loaded in ACTIVE is walked to only once a check before it passes. The data path moves by at most one
step in a millisecond. A quality update shows the eye and the error rate, that of a Tether lane from its corrected symbols of the
last second. A captured blob passes the blob checks; a load takes the blob's table where it passes and sets BLOB_BAD where it does
not; a save asks for a commit of the blob and so does a due autosave. A restore loads each stored blob that passes and sets
BLOB_BAD where a record is bad; it happens once after a reset. (14_lanes.md (R358, R360, R361, R362, R363, R365, R366, R367).) -/
def Obligations.LaneEqualisationAndBlobs : Prop :=
  (∀ (s : State) (l : Nat) (evals : List Eye) (best : List Nat), l < 32 → evals.length = 533 → s.stage l = stTrain →
    (s.lane l).adapting = true → (s.lane l).adapted = false → (s.lane l).prop = none →
    best = bestOf (s.rdLane l LANE_CTRL.RATE) (((List.range 533).zip evals).filter (fun c => s.eyePasses l c.2)) →
    ∃ t, exec (.fullAdaptation l evals) s = .next t ∧ t.rdLane l LANE_RX_CTLE.PEAK = s.rdLane l LANE_RX_CTLE.PEAK ∧
      (best = [] → t.rd (pgLane l) LANE_EVENT.CAL_REJECTED = 1 ∧ t.lanes = s.lanes) ∧
      (best ≠ [] → best.any (fun c => t.rdLane l LANE_RX_LIVE.TARGET == c / 13 && (t.lane l).lfTarget == c % 13) = true ∧
        (t.lane l).prop = some { peak := s.rdLane l LANE_RX_LIVE.PEAK, lf := s.rdLane l LANE_RX_LIVE.LF_GAIN })) ∧
  (∀ (s : State) (l : Nat) (below at_ above : Eye) (best : List Nat), l < 32 → s.stage l = stActive → s.rdLane l LANE_RX_CTLE.TRIM_EN = 1 →
    (s.lane l).prop = none → s.rdLane l LANE_STATUS.TRIM_MOVING = 0 → s.rdLane l LANE_STATUS.POWER = 1 →
    (s.trimBegan l (s.trimCandidates l below at_ above).length).isSome = true →
    best = bestOf (s.rdLane l LANE_CTRL.RATE) ((s.trimCandidates l below at_ above).filter (fun c => s.eyePasses l c.2)) →
    ∃ t, exec (.trimRun l below at_ above) s = .next t ∧ t.rdLane l LANE_RX_LIVE.PEAK = s.rdLane l LANE_RX_LIVE.PEAK ∧
      t.rdLane l LANE_EYE.WIDTH = at_.width.toNat ∧ (t.lane l).trimAt = s.ns ∧
      (best = [] ∨ best = [s.rdLane l LANE_RX_LIVE.PEAK] → (t.lane l).prop = none ∧ t.rdLane l LANE_STATUS.TRIM_MOVING = 0) ∧
      (best ≠ [] → best.contains (s.rdLane l LANE_RX_LIVE.PEAK) = false → best.contains (t.rdLane l LANE_RX_LIVE.TARGET) = true ∧
        t.rdLane l LANE_STATUS.TRIM_MOVING = 1 ∧ (t.lane l).prop.isSome = true)) ∧
  (∀ (s : State) (l : Nat) (eye : Eye) (old : LaneProp), l < 32 → (s.lane l).prop = some old → s.rdLane l LANE_STATUS.TRIM_MOVING = 0 →
    (s.lane l).walkDone + 22000000 ≤ s.ns → old.next = none →
    ∃ t, exec (.dataPathCheck l eye) s = .next t ∧ (t.lane l).prop = none ∧
      (s.eyePasses l eye = true → (t.lane l).saveDue = true ∧ t.rdLane l LANE_RX_LIVE.PEAK = s.rdLane l LANE_RX_LIVE.PEAK ∧
        (s.stage l = stTrain → (s.lane l).adapting = true → (t.lane l).board = true ∧ (t.lane l).adapted = true ∧
          t.rdLane l LANE_RX_CTLE.PEAK = s.rdLane l LANE_RX_LIVE.PEAK ∧ t.rdLane l LANE_RX_CTLE.LF_GAIN = s.rdLane l LANE_RX_LIVE.LF_GAIN)) ∧
      (s.eyePasses l eye = false → (t.lane l).avoid.contains (s.rdLane l LANE_RX_LIVE.PEAK, 10) = true ∧
        t.rdLane l LANE_RX_LIVE.TARGET = old.peak % 64 ∧
        (∀ r b, old.undo = some (r, b) → t.laneRegs l = r ∧ (t.lane l).blob = b) ∧
        t.rdLane l LANE_CAL_REJ_CNT.COUNT = satAdd (2 ^ LANE_CAL_REJ_CNT.COUNT.len - 1) (s.rdLane l LANE_CAL_REJ_CNT.COUNT) 1)) ∧
  (∀ (s : State) (l peak lf : Nat) (eye : Eye) (old : LaneProp), l < 32 → (s.lane l).prop = some old → s.rdLane l LANE_STATUS.TRIM_MOVING = 0 →
    (s.lane l).walkDone + 22000000 ≤ s.ns → old.next = some (peak, lf) →
    ∃ t, exec (.dataPathCheck l eye) s = .next t ∧
      (s.eyePasses l eye = true → (t.lane l).prop = some { old with next := none } ∧ t.rdLane l LANE_RX_LIVE.TARGET = peak % 64 ∧
        (t.lane l).lfTarget = lf) ∧
      (s.eyePasses l eye = false → (t.lane l).prop = none ∧ t.rdLane l LANE_RX_LIVE.PEAK = s.rdLane l LANE_RX_LIVE.PEAK ∧
        (∀ r b, old.undo = some (r, b) → t.laneRegs l = r ∧ (t.lane l).blob = b) ∧
        t.rdLane l LANE_CAL_REJ_CNT.COUNT = satAdd (2 ^ LANE_CAL_REJ_CNT.COUNT.len - 1) (s.rdLane l LANE_CAL_REJ_CNT.COUNT) 1)) ∧
  (∀ (s : State) (l : Nat), l < 32 → s.rdLane l LANE_STATUS.TRIM_MOVING = 1 → (s.lane l).stepAt + 1000000 ≤ s.ns →
    ∃ t, exec (.ctleStep l) s = .next t ∧
      t.rdLane l LANE_RX_LIVE.PEAK = stepToward (s.rdLane l LANE_RX_LIVE.PEAK) (s.rdLane l LANE_RX_LIVE.TARGET) ∧
      t.rdLane l LANE_RX_LIVE.LF_GAIN = stepToward (s.rdLane l LANE_RX_LIVE.LF_GAIN) (s.lane l).lfTarget % 16 ∧ (t.lane l).stepAt = s.ns) ∧
  (∀ (s : State) (l mant : Nat) (eye : Eye) (exp : BitVec 5), l < 32 → mant < 10 → s.rdLane l LANE_STATUS.POWER = 1 →
    ∃ t, exec (.qualityUpdate l eye mant exp) s = .next t ∧ t.rdLane l LANE_EYE.WIDTH = eye.width.toNat ∧ t.rdLane l LANE_EYE.H0 = eye.h0.toNat ∧
      t.lanes = s.lanes ∧ (s.laneOwner l ≠ 2 → t.rdLane l LANE_BER.EXP = exp.toNat ∧ t.rdLane l LANE_BER.MANT = mant) ∧
      ∀ d, s.laneOwner l = 2 → d = berDigits ((s.lane l).corrected.filter (fun u => s.ns < u + 1000000000)).length
          (10000000 * rateBits (s.rdLane l LANE_CTRL.RATE)) →
        t.rdLane l LANE_BER.EXP = d.2.1 ∧ (t.rdLane l LANE_BER.MANT = d.1 ∨ d.2.2 = false ∧ d.1 < 9 ∧ t.rdLane l LANE_BER.MANT = d.1 + 1)) ∧
  (∀ (s : State) (a : Access) (l : Nat), l < 32 → s.writeGate a (pgLane l) LANE_CAL_CMD.OP.off 1 = .pass →
    s.rdLane l LANE_CAL_RESULT.RESULT ≠ 7 →
    ∃ t, exec (.calCapture a l) s = .next t ∧ (s.isPcie l = false → t.checkBlob l (t.blobRegs l) = 1) ∧ t.rdLane l LANE_CAL_RESULT.RESULT = 1 ∧
      (t.lane l).captures = ((s.lane l).captures + 1) % 2 ^ 32) ∧
  (∀ (s : State) (a : Access) (l : Nat), l < 32 → s.writeGate a (pgLane l) LANE_CAL_CMD.OP.off 2 = .pass →
    s.rdLane l LANE_CAL_RESULT.RESULT ≠ 7 →
    ∃ t, exec (.calLoad a l) s = .next t ∧ t.rdLane l LANE_CAL_RESULT.RESULT = s.checkBlob l (s.blobRegs l) ∧
      (s.checkBlob l (s.blobRegs l) = 1 → t.rdLane l LANE_RX_CTLE.PEAK = getF ((s.blobRegs l).getD 2 0) 0 6) ∧
      (s.checkBlob l (s.blobRegs l) ≠ 1 → t.rd (pgLane l) LANE_EVENT.BLOB_BAD = 1 ∧ t.lanes = s.lanes)) ∧
  (∀ (s : State) (a : Access) (l : Nat), l < 32 → s.writeGate a (pgLane l) LANE_CAL_CMD.OP.off 3 = .pass →
    s.rdLane l LANE_CAL_RESULT.RESULT ≠ 7 → 
    ∃ t, exec (.calSave a l) s = .next t ∧ t.store = s.store ∧
      (s.checkBlob l (s.blobRegs l) = 1 → (s.jobs ≠ [] ∨ (s.vbat = true ∧ s.pfBlocked = false)) → t.rdLane l LANE_CAL_RESULT.RESULT = 7 ∧
        t.jobs = s.jobs ++ [⟨recLane l, .lane l, false, wordsBytes (s.blobRegs l), []⟩]) ∧
      (s.checkBlob l (s.blobRegs l) ≠ 1 → t.rdLane l LANE_CAL_RESULT.RESULT = s.checkBlob l (s.blobRegs l) ∧ t.jobs = s.jobs)) ∧
  (∀ (s : State) (l : Nat), l < 32 → (s.lane l).saveDue = true → s.rdLane l LANE_CAL_AUTOSAVE.ENABLE = 1 →
    (∀ x, (s.lane l).savedAt = some x → x + 1000000000 ≤ s.ns) → s.rdLane l LANE_CAL_RESULT.RESULT ≠ 7 → s.vbat = true →
    s.pfBlocked = false →
    ∃ t, exec (.calAutosave l) s = .next t ∧ t.jobs.length = s.jobs.length + 1 ∧
      t.jobs.getLast?.any (fun j => j.id == recLane l && !j.erase) = true ∧ (t.lane l).saveDue = false ∧
      (t.lane l).savedAt = some s.ns ∧ t.rdLane l LANE_CAL_RESULT.RESULT = 7) ∧
  (∀ (s : State), s.restored = false → 26000000 ≤ s.ns → s.on pgReady READY_SUM.CENSUS = true →
    (∀ id, s.record id = none ∧ s.recordBad id = false) → exec .blobRestore s = .next { s with restored := true }) ∧
  (∀ (s : State), s.restored = true → exec .blobRestore s = .next s) ∧
  (∀ (s : State) (l : Nat), s.restored = false → 26000000 ≤ s.ns → s.on pgReady READY_SUM.CENSUS = true → l < 32 →
    ∃ t, exec .blobRestore s = .next t ∧ t.store = s.store ∧
      (s.record (recLane l) = none → s.recordBad (recLane l) = true → t.rd (pgLane l) LANE_EVENT.BLOB_BAD = 1) ∧
      ∀ r, s.record (recLane l) = some r →
        (s.checkBlob l (bytesWords r.data 16) = 1 → t.rdLane l LANE_RX_CTLE.PEAK = getF ((bytesWords r.data 16).getD 2 0) 0 6 ∧
          t.rdLane l LANE_RX_CTLE.LF_GAIN = getF ((bytesWords r.data 16).getD 2 0) 8 4) ∧
        (s.checkBlob l (bytesWords r.data 16) ≠ 1 → t.rd (pgLane l) LANE_EVENT.BLOB_BAD = 1))

/-- An accepted source of a domain with no switch in progress is stored, and unless it is live already the switch begins. GO
starts a switch in every armed domain whose source is not live, and in no other domain. A switch that is done takes the new code,
HFOSC after a failover, or OFF for a stopped domain, together with the domains that GO switched with it to the same code; one to a
source that does not run is not done. A gate command shows its node and result; with OK the gate is as commanded, and with another
result no gate changes. (16_clocks.md (R405, R406, R407, R408, R409).) -/
def Obligations.ClockDomainsAndGates : Prop :=
  (∀ (s : State) (a : Access) (d : Nat) (v : BitVec 8), d < 320 →
    s.writeGate a (pgDom d) (CLK_DOM_SEL.SRC.at (d % 80)).off (v.setWidth 32) = .pass → s.rdDom d CLK_DOM_SWITCH.DONE = 1 →
    s.domAccepts d v.toNat = true →
    ∃ t, exec (.domainSwitch a d v) s = .next t ∧ t.rdDom d CLK_DOM_SEL.SRC = v.toNat ∧ t.rdDom d CLK_DOM_SEL.ARM = 0 ∧
      t.rdDom d CLK_DOM_SWITCH.LIVE_SRC = s.rdDom d CLK_DOM_SWITCH.LIVE_SRC ∧
      t.rdDom d CLK_DOM_SWITCH.DONE =
        (if v.toNat = s.rdDom d CLK_DOM_SWITCH.LIVE_SRC ∧ s.rdDom d CLK_DOM_SWITCH.STOPPED = 0 then 1 else 0)) ∧
  (∀ (s : State) (a : Access), s.writeGate a pgClk0 CLK_SWITCH_GO.GO.off 1 = .pass →
    (∀ i, i < 320 → s.rdDom i CLK_DOM_SEL.ARM = 1 → s.rdDom i CLK_DOM_SWITCH.DONE ≠ 0) →
    ∃ t, exec (.clkSwitchGo a) s = .next t ∧
      (∀ i, i < 320 → s.rdDom i CLK_DOM_SEL.ARM = 1 → s.rdDom i CLK_DOM_SEL.SRC ≠ s.rdDom i CLK_DOM_SWITCH.LIVE_SRC →
        t.rdDom i CLK_DOM_SWITCH.DONE = 0) ∧
      ∀ i, i < 320 → s.rdDom i CLK_DOM_SEL.ARM ≠ 1 → t.rdDom i CLK_DOM_SWITCH.DONE = s.rdDom i CLK_DOM_SWITCH.DONE) ∧
  (∀ (s : State) (d : Nat) (g : List Nat), d < 320 → s.rdDom d CLK_DOM_SWITCH.DONE = 0 → s.codeRuns (s.nextCode d) = true →
    g = (s.goSets.find? (·.contains d)).getD [d] →
    ∃ t, exec (.switchDone d) s = .next t ∧ t.rdDom d CLK_DOM_SWITCH.DONE = 1 ∧
      t.rdDom d CLK_DOM_SWITCH.LIVE_SRC = (if s.rdDom d CLK_DOM_SWITCH.FAILOVER = 1 then 1
        else if s.rdDom d CLK_DOM_SWITCH.STOPPED = 1 then 0 else s.rdDom d CLK_DOM_SEL.SRC) ∧
      ∀ i, i < 320 → i ≠ d →
        (g.contains i = true ∧ s.rdDom i CLK_DOM_SWITCH.DONE = 0 ∧ s.nextCode i = s.nextCode d →
          t.rdDom i CLK_DOM_SWITCH.LIVE_SRC = s.nextCode d ∧ t.rdDom i CLK_DOM_SWITCH.DONE = 1) ∧
        (g.contains i = false ∨ s.rdDom i CLK_DOM_SWITCH.DONE ≠ 0 ∨ s.nextCode i ≠ s.nextCode d →
          t.rdDom i CLK_DOM_SWITCH.LIVE_SRC = s.rdDom i CLK_DOM_SWITCH.LIVE_SRC ∧ t.rdDom i CLK_DOM_SWITCH.DONE = s.rdDom i CLK_DOM_SWITCH.DONE)) ∧
  (∀ (s : State) (d : Nat), d < 320 → (s.rdDom d CLK_DOM_SWITCH.DONE = 1 ∨ s.codeRuns (s.nextCode d) = false) →
    exec (.switchDone d) s = .next s) ∧
  (∀ (s : State) (a : Access) (n : BitVec 9), n.toNat ≤ 340 → s.writeGate a pgClk1 CLK_GATE_CMD.NODE.off (setF (n.setWidth 32) 12 1 1) = .pass →
    ∃ t, exec (.gateOpen a n) s = .next t ∧ t.rd pgClk1 CLK_GATE_RESULT.NODE = n.toNat ∧
      t.rd pgClk1 CLK_GATE_RESULT.RESULT = s.gateResult n.toNat true ∧ (s.gateResult n.toNat true = 1 → t.gateOn n.toNat = true) ∧
      (s.gateResult n.toNat true ≠ 1 → t.gatesClosed = s.gatesClosed) ∧ ∀ m, m ≠ n.toNat → t.gateOn m = s.gateOn m) ∧
  (∀ (s : State) (a : Access) (n : BitVec 9), n.toNat ≤ 340 → s.writeGate a pgClk1 CLK_GATE_CMD.NODE.off (n.setWidth 32) = .pass →
    ∃ t, exec (.gateClose a n) s = .next t ∧ t.rd pgClk1 CLK_GATE_RESULT.NODE = n.toNat ∧
      t.rd pgClk1 CLK_GATE_RESULT.RESULT = s.gateResult n.toNat false ∧ (s.gateResult n.toNat false = 1 → t.gateOn n.toNat = false) ∧
      (s.gateResult n.toNat false ≠ 1 → t.gatesClosed = s.gatesClosed) ∧ ∀ m, m ≠ n.toNat → t.gateOn m = s.gateOn m)

/-- An accepted enable of a fabric PLL with settings in range stores them and restarts its search for lock; an enabled one locks.
The loss of a PLL's lock clears its lock bit and marks its source LOST. The counts of a window are judged one by one. A count out
of tolerance marks the source LOST; in tolerance, the eighth in a row of a lost source restores it, and an earlier one counts. A
stable XA is shown; without it after 20 ms, or with none fitted, the system reference is HFOSC. The system PLLs lock once they
have a reference, and the first lock takes every system domain to its default source. (16_clocks.md (R402, R403, R410, R411, R413,
R417).) -/
def Obligations.ClockSourcesAndMonitors : Prop :=
  (∀ (s : State) (a : Access) (p : Nat) (v : Word), p < 24 → s.writeGate a (pgPll p) (FPLL_CTRL.ENABLE.at (p % 12)).off (v ||| 1) = .pass →
    (s.rdPll p FPLL_CTRL.ENABLE = 0 ∨ s.fpllSelected p = false) →
    (s.storeReg (pgPll p) (FPLL_CTRL.ENABLE.at (p % 12)).off (v ||| 1)).fpllInRange p = true →
    ∃ t, exec (.fpllEnable a p v) s = .next t ∧ t.rdPll p FPLL_STATUS.LOCKED = 0 ∧
      ∀ b, b = pgPll p * 4096 + (FPLL_CTRL.ENABLE.at (p % 12)).off →
        t.reg b = (s.storeReg (pgPll p) (FPLL_CTRL.ENABLE.at (p % 12)).off (v ||| 1)).reg b) ∧
  (∀ (s : State) (p : Nat), p < 24 → s.rdPll p FPLL_CTRL.ENABLE = 1 →
    ∃ t, exec (.fpllLock p) s = .next t ∧ t.rdPll p FPLL_STATUS.LOCKED = 1 ∧
      ∀ b, b ≠ pgPll p * 4096 + (FPLL_STATUS.LOCKED.at (p % 12)).off → t.reg b = s.reg b) ∧
  (∀ (s : State) (src : Nat), src = 4 ∨ src = 5 ∨ (8 ≤ src ∧ src < 32) →
    ∃ t, exec (.pllLockLoss src) s = .next t ∧ t.srcLost src = true ∧ (src = 4 → t.rd pgClk0 CLK_STATUS.SYSA_LOCK = 0) ∧
      (src = 5 → t.rd pgClk0 CLK_STATUS.SYSB_LOCK = 0) ∧ (8 ≤ src → t.rdPll (src - 8) FPLL_STATUS.LOCKED = 0)) ∧
  (∀ (s : State) (counts : List (Nat × Nat)), (∀ c ∈ counts, c.1 < 6 ∨ (8 ≤ c.1 ∧ c.1 < 32)) →
    exec (.monitorWindow counts) s = .next (counts.foldl (fun s c => s.monitorOne c.1 c.2) s)) ∧
  (∀ (s : State) (i hz : Nat), (i < 6 ∨ (8 ≤ i ∧ i < 32)) → s.expected i ≠ 0 →
    s.tolerance i * s.expected i < (hz * 65536 - s.expected i + (s.expected i - hz * 65536)) * 100 →
    ∃ t, exec (.monitorWindow [(i, hz)]) s = .next t ∧ t.srcLost i = true) ∧
  (∀ (s : State) (i hz : Nat), (i < 6 ∨ (8 ≤ i ∧ i < 32)) → s.expected i ≠ 0 →
    (hz * 65536 - s.expected i + (s.expected i - hz * 65536)) * 100 ≤ s.tolerance i * s.expected i → s.srcLost i = true →
    ∃ t, exec (.monitorWindow [(i, hz)]) s = .next t ∧
      (nget s.monGood i < 7 → t.srcLost i = true ∧ nget t.monGood i = nget s.monGood i + 1) ∧
      (7 ≤ nget s.monGood i → t.srcLost i = false ∧ t.rd pgClk0 CLK_EVENT.RESTORED = 1)) ∧
  (∀ (s : State), xaHz s.straps.xaSel ≠ 0 →
    ∃ t, exec .xaStable s = .next t ∧ t.rd pgClk0 CLK_STATUS.XA_OK = 1 ∧
      ∀ b, b ≠ pgClk0 * 4096 + CLK_STATUS.XA_OK.off → t.reg b = s.reg b) ∧
  (∀ (s : State), s.on pgClk0 CLK_STATUS.XA_OK = false → (s.straps.xaSel = 7 ∨ 20000000 ≤ s.ns) →
    ∃ t, exec .xaTimeout s = .next t ∧ t.rd pgClk0 CLK_STATUS.SYS_REF = 1) ∧
  (∀ (s : State), (s.on pgClk0 CLK_STATUS.XA_OK = true ∨ s.on pgClk0 CLK_STATUS.SYS_REF = true) →
    ∃ t, exec .sysPllLock s = .next t ∧ t.rd pgClk0 CLK_STATUS.SYSA_LOCK = 1 ∧ t.rd pgClk0 CLK_STATUS.SYSB_LOCK = 1 ∧
      t.on pgReady READY_SUM.CLOCKS = true ∧
      (s.on pgReady READY_SUM.CLOCKS = false → ∀ i, i < 320 → isSystemDomain i = true →
        t.rdDom i CLK_DOM_SWITCH.LIVE_SRC = s.rdDom i CLK_DOM_SWITCH.DEFAULT_SRC))

/-- An accepted START of a panel joins the commands that wait, once. An ABORT of a panel with a slice in progress ends the slice,
counts it and sets ABORTED; without a slice it changes no panel. A sweep that falls due in AUTO mode begins at panel 0, and one
that falls due while a sweep runs refuses the panels still waiting. A START command whose checks pass begins the slice: the panel
is under test from now. One that a check refuses is recorded and counted, except that under AUTO a panel that is busy or staggered
waits. A sweeping Preflight begins the slice of the panel whose turn it is where its checks pass, and passes over one that is not
eligible. A slice whose scan has ended leaves the panel out of test, and counts as passed where the signature is the one expected
and otherwise as failed, with the panel's bit of the fail map set. (20_preflight.md (R481, R483, R484, R485, R487, R488, R490).)
-/
def Obligations.PreflightSlices : Prop :=
  (∀ (s : State) (a : Access) (p : BitVec 10), p.toNat < 576 → s.writeGate a pgPreflight PF_CMD.PANEL.off (BitVec.ofNat 32 (p.toNat + 2 ^ 12)) = .pass →
    s.rd pgPreflight PF_CTRL.MODE ≠ 0 →
    ∃ t, exec (.pfStart a p) s = .next t ∧
      t.pf.starts = (if s.pf.starts.contains p.toNat then s.pf.starts else s.pf.starts ++ [p.toNat]) ∧ t.pf.running = s.pf.running ∧ t.panels = s.panels) ∧
  (∀ (s : State) (a : Access) (p : BitVec 10), p.toNat < 576 → s.writeGate a pgPreflight PF_CMD.PANEL.off (BitVec.ofNat 32 (p.toNat + 2 ^ 13)) = .pass →
    ∃ t, exec (.pfAbort a p) s = .next t ∧
      ((lget s.pf.running p.toNat).isSome = true → lget t.pf.running p.toNat = none ∧ (t.panel p.toNat).underTest = false ∧
        t.rd pgPreflight PF_EVENT.ABORTED = 1 ∧
        t.rd pgPreflight PF_ABORT_CNT.COUNT = satAdd (2 ^ PF_ABORT_CNT.COUNT.len - 1) (s.rd pgPreflight PF_ABORT_CNT.COUNT) 1) ∧
      (lget s.pf.running p.toNat = none → t.panels = s.panels ∧ t.pf = s.pf)) ∧
  (∀ (s : State), s.rd pgPreflight PF_CTRL.MODE = 2 → s.pf.overdue = false → s.on pgPreflight PF_STATUS.SWEEPING = false →
    (∀ t0, s.pf.sweepAt = some t0 → 10 ^ 9 * s.rd pgPreflight PF_SWEEP_PERIOD.S ≤ s.ns - t0) →
    ∃ t, exec .sweepStart s = .next t ∧ t.on pgPreflight PF_STATUS.SWEEPING = true ∧ t.rd pgPreflight PF_STATUS.NEXT = 0 ∧ t.pf.finished = [] ∧
      t.pf.sweepAt = some s.ns ∧ t.panels = s.panels) ∧
  (∀ (s : State), s.rd pgPreflight PF_CTRL.MODE = 2 → s.pf.overdue = false → s.on pgPreflight PF_STATUS.SWEEPING = true →
    (∀ t0, s.pf.sweepAt = some t0 → 10 ^ 9 * s.rd pgPreflight PF_SWEEP_PERIOD.S ≤ s.ns - t0) →
    ∃ t, exec .sweepStart s = .next t ∧ t.on pgPreflight PF_STATUS.SWEEPING = true ∧ t.panels = s.panels ∧
      t.rd pgPreflight PF_REFUSE_CNT.COUNT =
        satAdd (2 ^ PF_REFUSE_CNT.COUNT.len - 1) (s.rd pgPreflight PF_REFUSE_CNT.COUNT) s.sweepWaiting.length ∧
      (s.pf.running.any (fun e => e.2.auto) = true → t.pf.overdue = true)) ∧
  (∀ (s : State) (p : Nat), p < 576 → s.rd pgPreflight PF_CTRL.MODE ≠ 0 → p ∈ s.pf.starts → s.pfCheck p = .ok →
    ∃ t x, exec (.sliceStart p) s = .next t ∧ (t.panel p).underTest = true ∧ lget t.pf.running p = some x ∧ x.at_ = s.ns ∧ x.auto = false ∧
      t.pf.starts = s.pf.starts.erase p) ∧
  (∀ (s : State) (p code : Nat), p < 576 → s.rd pgPreflight PF_CTRL.MODE ≠ 0 → p ∈ s.pf.starts → s.pfCheck p = .refused code →
    (s.rd pgPreflight PF_CTRL.MODE = 2 → code ≠ pcStagger) →
    ∃ t, exec (.sliceStart p) s = .next t ∧ t.pf.starts = s.pf.starts.erase p ∧ t.panels = s.panels ∧ t.rd pgPreflight PF_EVENT.REFUSED = 1 ∧
      t.rd pgPreflight PF_REFUSE_CNT.COUNT = satAdd (2 ^ PF_REFUSE_CNT.COUNT.len - 1) (s.rd pgPreflight PF_REFUSE_CNT.COUNT) 1) ∧
  (∀ (s : State) (p : Nat), p < 576 → s.rd pgPreflight PF_CTRL.MODE = 2 → p ∈ s.pf.starts →
    (s.pfCheck p = .busy ∨ s.pfCheck p = .refused pcStagger) → exec (.sliceStart p) s = .next s) ∧
  (∀ (s : State) (p : Nat), p < 576 → s.rd pgPreflight PF_CTRL.MODE = 2 → s.pf.starts.contains p = false →
    s.on pgPreflight PF_STATUS.SWEEPING = true → p ∈ s.sweepWaiting → s.sweepTurn (s.rd pgPreflight PF_STATUS.NEXT) p = true →
    ∃ t, exec (.sliceStart p) s = .next t ∧
      (s.pfCheck p = .ok → (t.panel p).underTest = true ∧ (lget t.pf.running p).any (fun x => x.auto && x.at_ == s.ns) = true) ∧
      (s.pfCheck p = .refused pcNotEligible → t.panels = s.panels ∧ t.pf.running = s.pf.running ∧
        t.rd pgPreflight PF_REFUSE_CNT.COUNT = s.rd pgPreflight PF_REFUSE_CNT.COUNT)) ∧
  (∀ (s : State) (p : Nat) (misr : BitVec 64) (x : PfSlice), p < 576 → lget s.pf.running p = some x → scanNs ≤ s.ns - x.at_ →
    ∃ t, exec (.sliceEnd p misr) s = .next t ∧ lget t.pf.running p = none ∧ (t.panel p).underTest = false ∧
      (misr = (if p < 288 then s.fuses.misr0 else s.fuses.misr1) →
        t.rd pgPreflight PF_PASS_CNT.COUNT = satAdd (2 ^ PF_PASS_CNT.COUNT.len - 1) (s.rd pgPreflight PF_PASS_CNT.COUNT) 1) ∧
      (misr ≠ (if p < 288 then s.fuses.misr0 else s.fuses.misr1) → t.rd pgPreflight PF_EVENT.FAIL = 1 ∧
        bitOf (t.rd pgPreflight (PF_FAIL_MAP.FAIL.at (p / 32))) (p % 32) = true))

/-- An accepted start begins an attempt at its header from the selected source, and so do the first attempt after the census and a
backoff that ends; each is counted. An abort of an attempt leaves the loader IDLE with ABORTED, and of a waiting retry IDLE. A
header of any source with a fault ends the attempt with its code, and flash without SFDP with NO_SOURCE; a header without a fault
begins to stream where the signature holds, from the first segment or, of the same image, from the one after those applied, and
ends with BAD_SIGNATURE where it does not. A segment that opens is the plaintext to apply, and another ends with BAD_TAG. An
attempt idle past its limit ends with IDLE and backs off, or halts the ZY12 loader. Stream bytes from the hub that continue the
stream join it, and others end the attempt with STREAM; the next bytes of the image, which are what the loader has had, leave for
the flock ports that are ACTIVE unless one of them is still coming up, and a flock port that is down or answers with an error gets
no more. A frame under repair whose source still holds the image has a good copy. (18_loading.md (R437, R438, R440, R441, R454,
R455, R456, R458, R459), 19_startup_and_reset.md (R464).) -/
def Obligations.LoadAttempts : Prop :=
  (∀ (s : State) (a : Access), s.writeGate a pgLoad LOAD_CMD.OP.off 1 = .pass → s.attempting = false → s.loadState ≠ ldHalted →
    (s.rd pgLoad LOAD_CTRL.SRC ≠ 1 ∨ s.rd pgLoad LOAD_HOST_LEN.BYTES ≠ 0) →
    ∃ t, exec (.loadStart a) s = .next t ∧ t.loadState = ldHeader ∧ t.load.src = s.rd pgLoad LOAD_CTRL.SRC ∧ t.load.buf = [] ∧ t.load.seg = 0 ∧
      t.rd pgLoad LOAD_BACKOFF.MS = 10 ∧
      t.rd pgLoad LOAD_ATTEMPTS.COUNT = satAdd (2 ^ LOAD_ATTEMPTS.COUNT.len - 1) (s.rd pgLoad LOAD_ATTEMPTS.COUNT) 1) ∧
  (∀ (s : State) (a : Access), s.writeGate a pgLoad LOAD_CMD.OP.off 2 = .pass → (s.attempting = true ∨ s.loadState = ldBackoff) →
    ∃ t, exec (.loadAbort a) s = .next t ∧ t.loadState = ldIdle ∧
      (s.attempting = true → t.rd pgLoad LOAD_STATUS.RESULT = lrAborted ∧ t.rd pgLoad LOAD_EVENT.FAIL = 1)) ∧
  (∀ (s : State), s.on pgReady READY_SUM.CENSUS = true → s.on pgReady READY_SUM.LOAD_STARTED = false →
    ∃ t, exec .bootAttempt s = .next t ∧ t.loadState = ldHeader ∧ t.rd pgReady READY_SUM.LOAD_STARTED = 1 ∧
      t.rd pgLoad LOAD_ATTEMPTS.COUNT = satAdd (2 ^ LOAD_ATTEMPTS.COUNT.len - 1) (s.rd pgLoad LOAD_ATTEMPTS.COUNT) 1) ∧
  (∀ (s : State) (sfdp : Bool) (bytes bs : List Byte) (code : Nat), s.loadState = ldHeader → (s.load.src = 0 → sfdp = true) →
    bs = (if s.load.src = 2 then s.load.stream else bytes) → s.sourceEnds 512 = false → 512 ≤ bs.length → s.headerFault (bs.take 512) = some code →
    ∃ t, exec (.headerCheck sfdp bytes) s = .next t ∧ t.rd pgLoad LOAD_STATUS.RESULT = code ∧
      t.loadState = (if s.loadLegacy then ldHalted else ldBackoff)) ∧
  (∀ (s : State) (bytes : List Byte), s.loadState = ldHeader → s.load.src = 0 →
    ∃ t, exec (.headerCheck false bytes) s = .next t ∧ t.rd pgLoad LOAD_STATUS.RESULT = lrNoSource) ∧
  (∀ (s : State) (sfdp : Bool) (bytes bs : List Byte) (n seg : Nat), s.loadState = ldHeader → (s.load.src = 0 → sfdp = true) →
    bs = (if s.load.src = 2 then s.load.stream else bytes) → n = fieldAt (bs.take 512) 0x14 4 → s.sourceEnds 512 = false →
    s.sourceEnds (512 + 16 * n) = false → 512 + 16 * n ≤ bs.length → s.headerFault (bs.take 512) = none →
    seg = (if s.load.digest = some (imageDigest bs n) ∧ s.loadLegacy = false then s.rd pgLoad LOAD_PROGRESS.APPLIED else 0) →
    ∃ t, exec (.headerCheck sfdp bytes) s = .next t ∧
      if Config.ecdsaVerify (bytesAt (bs.take 512) 0x100 96) (imageDigest bs n) (bytesAt (bs.take 512) 0x1A0 96) then
        t.load.hdr = some (parseHeader bs) ∧ t.load.seg = seg ∧ t.load.digest = some (imageDigest bs n) ∧
          t.loadState = (if seg = n then ldDone else ldStream)
      else t.rd pgLoad LOAD_STATUS.RESULT = lrBadSignature) ∧
  (∀ (s : State) (h : ImgHeader) (bytes c : List Byte), s.loadState = ldStream → s.load.hdr = some h → s.load.buf = [] →
    c = (if s.load.src = 2 then bytesAt s.load.stream (h.segPlace (s.load.seg + 1)).1 (h.segPlace (s.load.seg + 1)).2 else bytes) →
    s.sourceEnds ((h.segPlace (s.load.seg + 1)).1 + (h.segPlace (s.load.seg + 1)).2) = false → c.length = (h.segPlace (s.load.seg + 1)).2 →
    ∃ t, exec (.segmentVerify bytes) s = .next t ∧
      (∀ p, (s.rootKey h.ksrc).bind (fun k => h.openSeg k (s.load.seg + 1) c) = some p →
        t.load.buf = p ∧ t.load.seg = s.load.seg + 1 ∧ t.load.addr = none ∧ t.load.dict = [] ∧ t.regs = s.regs) ∧
      ((s.rootKey h.ksrc).bind (fun k => h.openSeg k (s.load.seg + 1) c) = none → t.rd pgLoad LOAD_STATUS.RESULT = lrBadTag)) ∧
  (∀ (s : State), s.attempting = true → 1000000 * s.rd pgLoad LOAD_IDLE_TIMEOUT.MS ≤ s.ns - s.load.since →
    ∃ t, exec .loadIdleTimeout s = .next t ∧ t.rd pgLoad LOAD_STATUS.RESULT = lrIdle ∧
      (s.loadLegacy = false → t.loadState = ldBackoff ∧ t.load.since = s.ns) ∧ (s.loadLegacy = true → t.loadState = ldHalted ∧ t.halted = true)) ∧
  (∀ (s : State), s.loadState = ldBackoff → 1000000 * s.load.wait ≤ s.ns - s.load.since →
    ∃ t, exec .loadBackoffExpiry s = .next t ∧ t.loadState = ldHeader ∧
      t.load.src = (if s.load.src ≠ 0 ∧ s.on pgLoad LOAD_CTRL.FLASH_FALLBACK = true then 0 else s.rd pgLoad LOAD_CTRL.SRC)) ∧
  (∀ (s : State) (a : Access) (off : Nat) (ws : List Word), 0x200 ≤ off → off + 4 * ws.length ≤ 0x400 → off % 4 = 0 →
    s.writeGate a pgLoad off 0 = .pass → s.rd pgLoad LOAD_CTRL.SRC = 2 → whoInit a.who = 11 + s.rd pgLoad LOAD_CTRL.HUB_PORT →
    s.attempting = true → s.load.src = 2 →
    ∃ t, exec (.loadStreamWrite a off ws) s = .next t ∧
      (off = 0x200 + s.load.stream.length % 512 → t.load.stream = s.load.stream ++ wordsBytes ws ∧ t.load.since = s.ns ∧ t.regs = s.regs) ∧
      (off ≠ 0x200 + s.load.stream.length % 512 → t.rd pgLoad LOAD_STATUS.RESULT = lrStream)) ∧
  (∀ (s : State) (bytes : List Byte) (answers : List (Nat × Nat)), s.imageHas s.load.forwarded bytes = true →
    (∀ p, p < 8 → s.flocks p = true → s.portState p ≠ tpBringup ∧ s.portState p ≠ tpWaiting) →
    ∃ t, exec (.flockForward bytes answers) s = .next t ∧ t.load.forwarded = s.load.forwarded + bytes.length ∧ t.regs = s.regs ∧
      t.out = s.out ++ (((List.range 8).filter (fun p => s.flocks p && s.portState p == tpActive)).map
        (fun p => OutMsg.flock p (0x200 + s.load.forwarded % 512) bytes)) ∧
      ∀ p, p < 8 → (t.flocks p = true ↔
        s.flocks p = true ∧ s.portState p = tpActive ∧ ∀ c, (p, c) ∈ answers → c = 0)) ∧
  (∀ (s : State) (p : Nat) (bytes : List Byte) (answers : List (Nat × Nat)),
    (s.imageHas s.load.forwarded bytes = false ∨ p < 8 ∧ s.flocks p = true ∧ (s.portState p = tpBringup ∨ s.portState p = tpWaiting)) →
    exec (.flockForward bytes answers) s = .next s) ∧
  (∀ (s : State) (f : Nat) (hdr : List Byte) (segs : List (List Byte)), f < 2 ^ 20 → f / 2 ^ 10 % 2 ^ 9 < 288 → (s.frame f).bad = true →
    (s.frame f).repairing.isSome = true → s.slotValid (framePanel f) (frameSlot f) = true →
    exec (.sourceRepair f hdr segs) s = .next
      (if s.sourceGood (s.origin (framePanel f) (frameSlot f)) hdr segs then s.setFrame f { s.frame f with fromSource := true } else s))

/-- The next record of a streaming attempt leaves the rest of the plaintext and has its effect: SET_ADDR sets the frame address; a
LITERAL writes its frames from that address and moves it on, and one admitted frame is then stored as it was given; DICT_DEFINE
defines an entry; DICT_WRITE writes an entry to its addresses; CONTEXT_SEED stores its quarters; an admitted REGION is defined; a
COMMIT that no check refuses sends its panels to their commit edges, and a refused one shows its reason. END in the last segment
completes the load. A commit edge commits the panel's region, unless the panel has been grounded: then it is dropped. KRAM_WRITE
moves KRAM_DATA into the slot and clears it, and KRAM_ERASE empties the slot. (18_loading.md (R442, R443, R444, R446, R447, R448,
R449, R452, R453, R462).) -/
def Obligations.LoadRecords : Prop :=
  (∀ (s : State) (body rest : List Byte), s.loadState = ldStream → loadFront s.load.buf = .record 1 body rest →
    allZero (body.drop 4) = true →
    exec .setAddr s = .next ({ s with load := { s.load with addr := some (fieldAt body 0 4 % 2 ^ 20) } }.afterRecord rest)) ∧
  (∀ (s t0 : State) (body rest d : List Byte) (a n : Nat), s.loadState = ldStream → loadFront s.load.buf = .record 2 body rest →
    n = fieldAt body 0 2 → n ≠ 0 → s.load.addr = some a → decodeExact (576 * n) (body.drop 4) = some d → s.writeFrames a (framesOf n d) = some t0 →
    exec .literal s = .next ({ t0 with load := { t0.load with addr := some ((a + n) % 2 ^ 20) } }.afterRecord rest)) ∧
  (∀ (s : State) (body rest d dig : List Byte) (a : Nat) (h : ImgHeader), s.loadState = ldStream → loadFront s.load.buf = .record 2 body rest →
    rest ≠ [] → fieldAt body 0 2 = 1 → s.load.addr = some a → a < 2 ^ 20 → decodeExact 576 (body.drop 4) = some d → s.load.hdr = some h →
    s.load.digest = some dig → a / 2 ^ 10 % 2 ^ 9 < 288 → h.panels.getLsbD (framePanel a) = true → bitOf h.planes (frameSlot a) = true →
    s.inDefined (framePanel a) = true → (a % 128 = 0 → headerRefused (BitVec.ofNat 4608 (natLE d)) = false) →
    s.slotValid (framePanel a) (frameSlot a) = false → (s.column (colOf (framePanel a))).off = false → d.length = 576 →
    ∃ t, exec .literal s = .next t ∧ (t.frame a).data = BitVec.ofNat 4608 (natLE d) ∧ (t.frame a).bad = false ∧
      t.load.addr = some ((a + 1) % 2 ^ 20) ∧ t.load.buf = rest ∧ ∀ b, b ≠ a → t.frame b = s.frame b) ∧
  (∀ (s : State) (body rest d : List Byte), s.loadState = ldStream → loadFront s.load.buf = .record 3 body rest →
    decodeExact 576 (body.drop 4) = some d → fieldAt body 0 2 ≤ 1023 →
    ∃ t, exec .dictDefine s = .next t ∧ t.load.buf = rest ∧ t.frames = s.frames ∧
      (rest ≠ [] → lget t.load.dict (fieldAt body 0 2) = some (BitVec.ofNat 4608 (natLE d)) ∧ t.regs = s.regs)) ∧
  (∀ (s t0 : State) (body rest : List Byte) (d : BitVec 4608) (n : Nat), s.loadState = ldStream → loadFront s.load.buf = .record 4 body rest →
    n = fieldAt body 2 2 → 0 < n → 4 + 4 * n ≤ body.length → allZero (body.drop (4 + 4 * n)) = true →
    lget s.load.dict (fieldAt body 0 2) = some d →
    s.writeCopies d ((List.range n).map (fun i => fieldAt body (4 + 4 * i) 4 % 2 ^ 20)) = some t0 →
    ∃ t, exec .dictWrite s = .next t ∧ t.frames = t0.frames ∧ t.load.buf = rest) ∧
  (∀ (s : State) (body rest d : List Byte) (p i : Nat) (h : ImgHeader), s.loadState = ldStream → loadFront s.load.buf = .record 5 body rest →
    p = bitsOf (fieldAt body 0 4) 0 10 → p < 576 → bitsOf (fieldAt body 0 4) 12 2 ≤ 1 → i = bitsOf (fieldAt body 0 4) 16 8 →
    (bitsOf (fieldAt body 0 4) 12 2 = 0 → i < s.share p) → quartersOf (bitsOf (fieldAt body 0 4) 28 4) ≠ [] → s.load.hdr = some h → h.panels.getLsbD p = true →
    (s.panel p).region.any s.load.parked.contains = true →
    decodeExact (512 * (quartersOf (bitsOf (fieldAt body 0 4) 28 4)).length) (body.drop 4) = some d →
    ∃ t, exec .contextSeed s = .next t ∧
      t.ctx = (s.storeSeed (colOf p) (if bitsOf (fieldAt body 0 4) 12 2 = 0 then s.slotOf p i else fallbackSlot p) d
        (quartersOf (bitsOf (fieldAt body 0 4) 28 4))).ctx ∧ t.load.buf = rest) ∧
  (∀ (s : State) (body rest : List Byte) (d : RegionDef), s.loadState = ldStream → loadFront s.load.buf = .record 6 body rest →
    parseRegion body = some d → s.regionSound d = true →
    ∃ t, exec .region s = .next t ∧ t.load.defined.contains d.region = true ∧ t.load.buf = rest ∧
      ((s.regionCommitted d.region = false ∨ lget s.load.regDigests d.region ≠ s.load.digest) → t.regionDefined d.region = true ∧
        t.regionCommitted d.region = false ∧ ∀ p ∈ d.panels, p < 576 → (t.panel p).region = some d.region) ∧
      (s.regionCommitted d.region = true → lget s.load.regDigests d.region = s.load.digest → t.panels = s.panels)) ∧
  (∀ (s : State) (body rest : List Byte) (r : Nat), s.loadState = ldStream → loadFront s.load.buf = .record 7 body rest →
    r = fieldAt body 0 4 % 64 → allZero (body.drop 4) = true →
    ∃ t, exec .commit s = .next t ∧ t.load.buf = rest ∧ t.panels = s.panels ∧
      (s.commitRefusal r = 0 → t.load.edges = s.load.edges ++ s.regionPanels r ∧ (rest ≠ [] → t.regs = s.regs)) ∧
      (s.commitRefusal r ≠ 0 → t.load.edges = s.load.edges ∧ t.rd pgLoad LOAD_REFUSE.REASON = s.commitRefusal r ∧
        t.rd pgLoad LOAD_REFUSE.REGION = r ∧ t.rd pgLoad LOAD_EVENT.COMMIT_REFUSED = 1)) ∧
  (∀ (s : State) (body rest : List Byte) (h : ImgHeader), s.loadState = ldStream → loadFront s.load.buf = .record 8 body rest →
    allZero body = true → allZero rest = true → s.load.hdr = some h → h.segs = s.load.seg →
    ∃ t, exec .endRecord s = .next t ∧ t.loadState = ldDone ∧ t.rd pgLoad LOAD_STATUS.RESULT = 0 ∧ t.rd pgLoad LOAD_EVENT.DONE = 1 ∧
      t.rd pgReady READY_SUM.PLANES = 1 ∧ t.load.ended = true) ∧
  (∀ (s : State) (p r : Nat), p < 576 → r < 64 → (s.panel p).region = some r → s.load.edges.contains p = true → s.devState = devRun →

    ∃ t, exec (.commitEdge p) s = .next t ∧ t.load.edges.contains p = false ∧
      ((s.panel p).grounded = 0 → t.regionCommitted r = true ∧ t.firstCommit = true ∧ t.rd pgLoad LOAD_EVENT.COMMIT = 1) ∧
      ((s.panel p).grounded ≠ 0 → t.regs = s.regs ∧ t.panels = s.panels)) ∧
  (∀ (s : State) (a : Access) (slot : Bool), s.writeGate a pgLoad KRAM_CMD.SLOT.off (BitVec.ofNat 32 (16 + bnat slot)) = .pass → s.vbat = true →
    ∃ t, exec (.kramWrite a slot) s = .next t ∧ lget t.kram (bnat slot) = some s.kramData ∧
      (∀ w, w < 8 → t.reg (pgLoad * 4096 + (KRAM_DATA.KEY.at w).off) = 0) ∧ lget t.kram (1 - bnat slot) = lget s.kram (1 - bnat slot)) ∧
  (∀ (s : State) (a : Access) (slot : Bool), s.writeGate a pgLoad KRAM_CMD.SLOT.off (BitVec.ofNat 32 (32 + bnat slot)) = .pass →
    ∃ t, exec (.kramErase a slot) s = .next t ∧ lget t.kram (bnat slot) = none ∧ lget t.kram (1 - bnat slot) = lget s.kram (1 - bnat slot) ∧
      t.regs = s.regs)

/-- The rise of power good samples the straps, keeps the fuses, and with VBAT the retained store and key RAM, and starts the time
at 0 with every bank byte, panel and packet at its reset value. Its fall loses the same and keeps the store. RESET_N low for 1 µs
is a C reset with SRC 1, which keeps the store, key RAM and fuses. An accepted reset request, cold by PF0 alone, is answered OK
and acts 1 µs later, a warm one unless a cold one is pending: the nanosecond at whose end its instant has come is a C reset with
SRC 2 or a W reset with SRC 4. A watchdog expiry is a W reset with SRC 5, unless a cold request is pending. A W reset takes the
link down. After a warm restart the device in HOLD is in RUN, and one in a requested PARK wakes. (19_startup_and_reset.md (R463,
R467, R468, R469, R475).) -/
def Obligations.PowerGoodAndResets : Prop :=
  (∀ (s : State) (straps : Straps) (vbat : Bool), s.powerGood = false →
    ∃ t, exec (.powerGood straps vbat) s = .next t ∧ t.powerGood = true ∧ t.straps = straps ∧ t.vbat = vbat ∧ t.ns = 0 ∧ t.mem = [] ∧
      t.panels = [] ∧ t.rig = {} ∧ t.fuses = s.fuses ∧ t.store = (if vbat then s.store else []) ∧ t.kram = (if vbat then s.kram else [])) ∧
  (∀ (s : State), s.powerGood = true →
    ∃ t, exec .powerGoodFall s = .next t ∧ t.powerGood = false ∧ t.mem = [] ∧ t.panels = [] ∧ t.store = s.store ∧ t.kram = s.kram ∧
      t.fuses = s.fuses ∧ t.rd pgReset RESET_CAUSE.PF_SEEN = s.rd pgPwr PWR_STATUS.PF_WARN) ∧
  (∀ (s : State) (lowNs : Nat), (lowNs < 1000 → exec (.resetN lowNs) s = .next s) ∧
    (1000 ≤ lowNs → s.powerGood = true →
      ∃ t, exec (.resetN lowNs) s = .next t ∧ t.rd pgReset RESET_CAUSE.CLASS = 1 ∧ t.rd pgReset RESET_CAUSE.SRC = 1 ∧ t.mem = [] ∧
        t.panels = [] ∧ t.ns = 0 ∧ t.store = s.store ∧ t.kram = s.kram ∧ t.fuses = s.fuses)) ∧
  (∀ (s : State) (a : Access), s.writeGate a pgReset RESET_REQ.KEY.off 0x5A040000 = .pass →
    ∃ t, exec (.coldResetReq a) s = .next t ∧ t.mem = s.mem ∧
      (a.who = .pf 0 → t.resets = s.resets ++ [(true, s.ns + 1000)] ∧ t.regs = s.regs ∧ t.resp = ⟨.ok, 0⟩) ∧
      (a.who ≠ .pf 0 → t.resets = s.resets ∧ t.resp = ⟨.rejected, 0⟩)) ∧
  (∀ (s : State) (a : Access), s.writeGate a pgReset RESET_REQ.KEY.off 0x5A030000 = .pass →
    ∃ t, exec (.warmResetReq a) s = .next t ∧ t.regs = s.regs ∧ t.resp = ⟨.ok, 0⟩ ∧
      t.resets = (if s.coldPending then s.resets else s.resets ++ [(false, s.ns + 1000)])) ∧
  (∀ (s : State) (at_ : Nat) (rest : List (Bool × Nat)), s.pending = [] → s.powerGood = true → s.resets = (true, at_) :: rest → at_ ≤ s.ns + 1 →
    ∃ t, step s = .next t ∧ t.rd pgReset RESET_CAUSE.CLASS = 1 ∧ t.rd pgReset RESET_CAUSE.SRC = 2 ∧ t.mem = [] ∧ t.panels = [] ∧
      t.store = s.store ∧ t.fuses = s.fuses) ∧
  (∀ (s : State) (at_ : Nat) (rest : List (Bool × Nat)), s.pending = [] → s.powerGood = true → s.resets = (false, at_) :: rest → at_ ≤ s.ns + 1 →
    ∃ t, step s = .next t ∧ t.rd pgReset RESET_CAUSE.CLASS = 2 ∧ t.rd pgReset RESET_CAUSE.SRC = 4 ∧ t.linkUp = false ∧ t.warm = 1 ∧
      t.resets = rest) ∧
  (∀ (s : State), s.powerGood = true →
    ∃ t, exec .watchdogExpiry s = .next t ∧ (s.coldPending = true → t = s) ∧
      (s.coldPending = false → t.rd pgReset RESET_CAUSE.CLASS = 2 ∧ t.rd pgReset RESET_CAUSE.SRC = 5 ∧ t.linkUp = false ∧ t.warm = 1)) ∧
  (∀ (s : State), s.warm = 2 →
    ∃ t, exec .warmRestartDone s = .next t ∧ t.warm = 0 ∧ (s.devState = devHold → t.devState = devRun) ∧
      (s.devState = devPark → s.rd pgReset DEV_STATE.CAUSE = 0 → t.devState = devWaking))

/-- An accepted RUN request takes a device in HOLD to RUN and one in a requested PARK to waking; HOLD takes RUN to HOLD and PARK
takes RUN or HOLD to ENTERING, with cause 0; a request for the state the device is in leaves it. With the Sail domains off the
entry to PARK is done, and with the Sail groups and domains on the waking device is in RUN. The supervisor that runs sets its
route entries in both tables and READY_SUM.SUPV, or after a W lets the Keel's pages answer. The PCI Express controller that is
ready has its lanes powered and in its stage; its link up is shown with the rate of its lanes, the precoding of each direction,
from states of 0 at 32 and 64 GT/s, and the taps that link equalisation has left within the limits. (19_startup_and_reset.md
(R464, R469, R471), 13_interrupts.md (R341), 14_lanes.md (R371).) -/
def Obligations.DeviceStatesAndStart : Prop :=
  (∀ (s : State) (a : Access), s.writeGate a pgReset DEV_STATE.STATE.off 0x100 = .pass → s.warm = 0 →
    (s.devState = devRun ∨ s.devState = devHold ∨ (s.devState = devPark ∧ s.rd pgReset DEV_STATE.CAUSE = 0)) →
    ∃ t, exec (.devRunReq a) s = .next t ∧ (s.devState ≠ devPark → t.devState = devRun) ∧ (s.devState = devPark → t.devState = devWaking)) ∧
  (∀ (s : State) (a : Access) (edges : List PanelEdge), s.writeGate a pgReset DEV_STATE.STATE.off 0x200 = .pass → s.warm = 0 →
    (s.devState = devRun ∨ s.devState = devHold) →
    ∃ t, exec (.devHoldReq ⟨a, edges⟩) s = .next t ∧ t.devState = devHold ∧ (s.devState = devRun → t.rd pgReset DEV_STATE.CAUSE = 0) ∧
      (s.devState = devHold → t.regs = s.regs ∧ t.panels = s.panels)) ∧
  (∀ (s : State) (a : Access) (edges : List PanelEdge), s.writeGate a pgReset DEV_STATE.STATE.off 0x300 = .pass → s.warm = 0 →
    (s.devState = devRun ∨ s.devState = devHold ∨ (s.devState = devPark ∧ s.rd pgReset DEV_STATE.CAUSE = 0)) →
    ∃ t, exec (.devParkReq ⟨a, edges⟩) s = .next t ∧ t.rd pgReset DEV_STATE.CAUSE = 0 ∧
      t.devState = (if s.devState = devPark then devPark else devEntering)) ∧
  (∀ (s : State), s.devState = devEntering → (∀ g, g ∈ sailRegs → s.domainState g = dmOff) →
    ∃ t, exec .parkEntryDone s = .next t ∧ t.devState = devPark) ∧
  (∀ (s : State), s.devState = devWaking → (∀ g, g ∈ sailRegs → s.regState g = rgOn ∧ s.domainState g = dmOn) →
    ∃ t, exec .wakeDone s = .next t ∧ t.devState = devRun) ∧
  (∀ (s : State) (routes : List (Nat × Nat × Nat)), (∀ r ∈ routes, r.1 < 128 ∧ r.2.1 < 192 ∧ r.2.2 < 64) →
    (routes.map (fun r => (r.1, r.2.1))).Nodup →
    ∃ t, exec (.supervisorRunning routes) s = .next t ∧ (s.warm = 1 → t = { s with warm := 2 }) ∧
      (s.warm ≠ 1 → s.on pgReady READY_SUM.SUPV = true → t = s) ∧
      (s.warm ≠ 1 → s.on pgReady READY_SUM.SUPV = false → t.rd pgReady READY_SUM.SUPV = 1 ∧
        ∀ r ∈ routes, t.route r.1 0 r.2.1 = r.2.2 ∧ t.route r.1 1 r.2.1 = r.2.2)) ∧
  (∀ (s : State), s.on pgReady READY_SUM.CLOCKS = true →
    ∃ t, exec .pcieTrainReady s = .next t ∧ t.rd pgReady READY_SUM.PCIE_TRAIN = 1 ∧
      ∀ l, l < s.pcieLanes → t.stage l = stPcie ∧ t.rdLane l LANE_STATUS.POWER = 1) ∧
  (∀ (s : State) (width : Nat) (r : PcieRate), (width = 16 ∨ width = 8 ∨ width = 4 ∨ width = 1) → 2 ≤ r.rate →
    r.rate < 8 → s.pcieRuns = true → width ≤ s.pcieLanes → (∀ l, l < width → s.laneOn l = true) →
    ∃ t, exec (.pcieLinkUp width r) s = .next t ∧ t.linkUp = true ∧ ∀ l, l < width → t.rdLane l LANE_CTRL.RATE = r.rate ∧
      t.rdLane l LANE_STATUS.CDR_LOCK = 1 ∧ t.rdLane l LANE_STATUS.PRECODE_LIVE = (if r.precode.getLsbD l = true ∧ r.rate ≤ 3 then 1 else 0) ∧
      ((t.lane l).txPrecode = true ↔ r.txPrecode.getLsbD l = true ∧ r.rate ≤ 3) ∧
      (r.rate ≤ 3 → (t.lane l).rxSym = 0 ∧ (t.lane l).txSym = 0) ∧
      (ffeAccepted (r.ffe.getD l 0) = true → ffeLow (r.ffe.getD l 0) = true →
        t.rdLane l LANE_TX_FFE_LIVE.FFE = getF (r.ffe.getD l 0) 0 30))

/-- Where the access checks of the target block pass, a write of TGT_COMPLETE with SOURCE s ends the service of s if s is ACTIVE
with this target. With any other SOURCE but 0 it completes nothing: no ACTIVE source leaves its state or target,
INTC_SPURIOUS_COMPLETE counts one, INTC_EVENT.SPURIOUS is set, and the write is answered OK and not as a rejection. With SOURCE 0
it is rejected as in R7 and no source changes. (13_interrupts.md (R344).) -/
def Obligations.CompletionOfSources : Prop :=
  ∀ (s : State) (a : Access) (k : Nat) (v : Word) (src : Nat), k < 32 →
    s.writeGate a (pgTgt k) (tgtFld TGT_COMPLETE.SOURCE k).off v = .pass →
    (s.onTgt k TGT_CTRL.SECURE = true → s.whoSecure a.who = true) → partSeen a.who (s.rdTgt k TGT_CTRL.PART) = true →
    src = getF v TGT_COMPLETE.SOURCE.lo TGT_COMPLETE.SOURCE.len →
    (src ≠ 0 → s.srcState src = srcActive → s.srcTarget src = k →
      ∃ t, exec (.tgtComplete a k v) s = .next t ∧ t.srcState src ≠ srcActive ∧ t.srcTarget src = 0 ∧ t.resp = ⟨.ok, 0⟩ ∧
        t.rd (pgIntc 0) INTC_SPURIOUS_COMPLETE.COUNT = s.rd (pgIntc 0) INTC_SPURIOUS_COMPLETE.COUNT ∧
        ∀ u, u < 4096 → u ≠ src → t.srcState u = s.srcState u ∧ t.srcTarget u = s.srcTarget u) ∧
    (src ≠ 0 → ¬ (s.srcState src = srcActive ∧ s.srcTarget src = k) →
      ∃ t, exec (.tgtComplete a k v) s = .next t ∧ t.resp = ⟨.ok, 0⟩ ∧ t.rd (pgIntc 0) INTC_EVENT.SPURIOUS = 1 ∧
        t.rd (pgIntc 0) INTC_SPURIOUS_COMPLETE.COUNT =
          satAdd (2 ^ INTC_SPURIOUS_COMPLETE.COUNT.len - 1) (s.rd (pgIntc 0) INTC_SPURIOUS_COMPLETE.COUNT) 1 ∧
        ∀ u, u < 4096 → s.srcState u = srcActive → t.srcState u = srcActive ∧ t.srcTarget u = s.srcTarget u) ∧
    (src = 0 →
      ∃ t, exec (.tgtComplete a k v) s = .next t ∧ t = { s with regs := t.regs, resp := ⟨.rejected, 0⟩ } ∧
        t.rd (headerPage (pgTgt k)) PAGE_ERRSUM.REJECT = 1 ∧
        ∀ b, b ≠ headerPage (pgTgt k) * 4096 + PAGE_ERRSUM.REJECT.off → b ≠ headerPage (pgTgt k) * 4096 + PAGE_REJCNT.COUNT.off →
          t.reg b = s.reg b)

/-- State.reset, and every state that a rise of power good answers, is at time 0 with the device in RUN and RESET_CAUSE.CLASS P;
every bank owned by PARTITION 0, unretired, not initialised yet and reading 0; every quarter-state EMPTY; every riser keeper 0; no
region committed; every track and channel DISABLED; every regulator group OFF with its set point at the fused value; no packet in
the network and no switch on its way. The codes of the states are those of their registers; the fused values themselves are the
choice of the model (log entry 6). (19_startup_and_reset.md (R463, R467, R471, R472), 10_scratchpad.md (R260, R276, R278),
06_contexts.md (R157), 04_routing.md (R116), 17_power_and_wear.md (R420).) -/
def Obligations.ResetValues : Prop :=
  ∀ (t : State), (t = State.reset ∨ ∃ (s : State) (straps : Straps) (vbat : Bool), s.powerGood = false ∧ exec (.powerGood straps vbat) s = .next t) →
      t.ns = 0 ∧ t.rd pgReset RESET_CAUSE.CLASS = 0 ∧ t.devState = devRun ∧
      (∀ b, b < 576 → (t.bank b).kind = 2 ∧ (t.bank b).part = 0 ∧ (t.bank b).retired = 0 ∧ (t.bank b).whole = false ∧ (t.bank b).ready = false) ∧
      (∀ a, t.memByte a = 0) ∧ (∀ c n q, t.quarterValid c n q = false) ∧ (∀ c, (t.column c).keeper = 0) ∧
      (∀ r, r < 64 → t.regionCommitted r = false) ∧ (∀ k, k < 64 → t.trState k = trDisabled) ∧ (∀ ch, ch < 64 → t.chState ch = chDisabled) ∧
      (∀ g, g < 16 → t.regState g = rgOff ∧ t.rd pgPwr (PWR_REG.VSET.at g) = nget t.fuses.vset g % 2 ^ PWR_REG.VSET.len) ∧
      t.rig.packets = [] ∧ t.switches = []

/-- At State.reset the memory, the register file and the table of line CRC differences are in their canonical form, and no command
waits. (19_startup_and_reset.md (R463, R472), 10_scratchpad.md (R276).) -/
def Obligations.ResetStateIsWellFormed : Prop :=
  State.reset.wf = true ∧ State.reset.pending = []

/-- For every state s whose memory, register file and line CRC differences are in their canonical form (numbers strictly rising,
no entry equal to what an unlisted number reads as), if step s answers next t, then those of t are. That this form is kept is an
invariant of the model. (10_scratchpad.md (R250, R276, R278), 00_scope.md (R4), 19_startup_and_reset.md (R472).) -/
def Obligations.EveryStepKeepsWellFormedness : Prop :=
  ∀ (s t : State), s.wf = true → step s = .next t → t.wf = true

/-- If a step of a state with c at the front and rest behind it answers next t, exactly rest waits in t. No command that answers a
next state changes the queue, and neither does the nanosecond of an empty queue. (INDEX.md (commands), 00_scope.md (R13).) -/
def Obligations.StepsTakeOneCommand : Prop :=
  (∀ (s t : State) (c : Instr) (rest : List Instr), s.pending = c :: rest → step s = .next t → t.pending = rest) ∧
  (∀ (s t : State) (i : Instr), exec i s = .next t → t.pending = s.pending) ∧
  (∀ (s t : State), s.pending = [] → step s = .next t → t.pending = [])

/-- A command that answers a next state and is none of the rows through which a register write of any page or a P or C reset can
come leaves the time, the straps, VBAT and power good; and it leaves the scratchpad bytes and CRCs, the stored contexts, the
stored frames, the Spool channels, the retained store, key RAM, the fuses, the Bridle time and the JTAG port, unless it is one of
the rows listed for that part. A register write outside the RESET page leaves the scratchpad, the fuses, the straps and the time.
(10_scratchpad.md (R260, R278), 19_startup_and_reset.md (R472, R476), 06_contexts.md (R157), 00_scope.md (R6), 01_stack.md (R29),
17_power_and_wear.md (R430), 18_loading.md (R462), 21_field_io.md (R506).) -/
def Obligations.KeptByOtherCommands : Prop :=
  (∀ (i : Instr) (s t : State), exec i s = .next t → rowsWide i = false →
    (t.ns = s.ns ∧ t.straps = s.straps ∧ t.vbat = s.vbat ∧ t.powerGood = s.powerGood) ∧
    (rowsMovesBanks i = false → t.mem = s.mem ∧ t.crcDiff = s.crcDiff) ∧
    (rowsMovesContexts i = false → t.ctx = s.ctx) ∧
    (rowsMovesFrames i = false → t.frames = s.frames) ∧
    (rowsMovesChannels i = false → t.chans = s.chans) ∧
    (rowsMovesStore i = false → t.store = s.store) ∧
    (rowsMovesKeys i = false → t.kram = s.kram) ∧
    (rowsBurns i = false → t.fuses = s.fuses) ∧
    (rowsJtags i = false → t.jtag = s.jtag) ∧
    (i ≠ .bridleStart → t.bridleNs = s.bridleNs)) ∧
  (∀ (s t : State) (a : Access) (addr : Nat) (v : Word), addr / 4096 ≠ pgReset → exec (.registerWrite a addr v) s = .next t →
    t.mem = s.mem ∧ t.crcDiff = s.crcDiff ∧ t.fuses = s.fuses ∧ t.straps = s.straps ∧ t.ns = s.ns)
end

