-- ==== Sys2Proof/Laws/Maps.lean ====
section
/-! SUPPORT. Sparse maps and bit fields: a read after a write, and the canonical form. -/

namespace Sys2Proof.Machine

open Sys2Proof

/-! ### Sparse maps -/

variable {α : Type}

/-- Numbers at or below `k` read as unlisted once they are dropped from the front; the others keep their entries. -/
theorem mget_mdrop (d : Nat → α) (m : SMap α) (k k' : Nat) (h : k < k') : mget d (mdrop m k) k' = mget d m k' := by
  induction m with
  | nil => rfl
  | cons e t ih =>
    obtain ⟨n, v⟩ := e
    simp only [mdrop]
    split
    · simp only [ih, mget]; split
      · omega
      · split
        · omega
        · rfl
    · rfl

/-- Below the entries that stay, a map reads as unlisted. -/
theorem mget_mdrop_le (d : Nat → α) (m : SMap α) (k k' : Nat) (h : k' ≤ k) : mget d (mdrop m k) k' = d k' := by
  induction m with
  | nil => rfl
  | cons e t ih =>
    obtain ⟨n, v⟩ := e
    simp only [mdrop]
    split
    · exact ih
    · simp only [mget]; split
      · omega
      · split
        · rfl
        · omega

/-- A read after a write: the written number reads as what was written, and every other as before. -/
theorem mget_mset [DecidableEq α] (d : Nat → α) (m : SMap α) (k k' : Nat) (v : α) :
    mget d (mset d m k v) k' = if k' = k then v else mget d m k' := by
  induction m with
  | nil => simp only [mset]; repeat' split
           all_goals simp_all [mget]
  | cons e t ih =>
    obtain ⟨n, w⟩ := e
    simp only [mset]
    split
    · split <;> simp only [mget] <;> repeat' split
      all_goals first | rfl | omega | simp_all
    · split
      · subst_vars
        split
        · rename_i h
          rcases Nat.lt_or_ge n k' with hk | hk
          · rw [mget_mdrop d t n k' hk]; simp only [mget]; repeat' split
            all_goals first | rfl | omega
          · rw [mget_mdrop_le d t n k' hk]; simp only [mget]; repeat' split
            all_goals first | rfl | omega | simp_all
        · simp only [mget]
          rcases Nat.lt_or_ge n k' with hk | hk
          · rw [mget_mdrop d t n k' hk]; repeat' split
            all_goals first | rfl | omega
          · repeat' split
            all_goals first | rfl | omega
      · simp only [mget, ih]; repeat' split
        all_goals first | rfl | omega

@[simp] theorem mget_mset_same [DecidableEq α] (d : Nat → α) (m : SMap α) (k : Nat) (v : α) :
    mget d (mset d m k v) k = v := by simp [mget_mset]

theorem mget_mset_ne [DecidableEq α] (d : Nat → α) (m : SMap α) (k k' : Nat) (v : α) (h : k' ≠ k) :
    mget d (mset d m k v) k' = mget d m k' := by simp [mget_mset, h]

/-! ### Bit fields -/

/-- A field reads back what was put into it, modulo its width. -/
theorem getF_setF_same (w : Word) (lo len v : Nat) (h : lo + len ≤ 32) : getF (setF w lo len v) lo len = v % 2 ^ len := by
  apply Nat.eq_of_testBit_eq
  intro i
  simp only [getF, setF, maskF, Nat.testBit_mod_two_pow, Nat.testBit_div_two_pow, BitVec.testBit_toNat, BitVec.getLsbD_or, BitVec.getLsbD_and,
    BitVec.getLsbD_not, BitVec.getLsbD_ofNat, Nat.testBit_mul_two_pow, Nat.testBit_two_pow_sub_one]
  by_cases hi : i < len
  · have : i + lo < 32 := by omega
    simp [hi, this]
  · simp [hi]

/-- A field keeps its value when a field beside it is written. -/
theorem getF_setF_ne (w : Word) (lo len lo' len' v : Nat) (h : lo' + len' ≤ lo ∨ lo + len ≤ lo') :
    getF (setF w lo len v) lo' len' = getF w lo' len' := by
  apply Nat.eq_of_testBit_eq
  intro i
  simp only [getF, setF, maskF, Nat.testBit_mod_two_pow, Nat.testBit_div_two_pow, BitVec.testBit_toNat, BitVec.getLsbD_or, BitVec.getLsbD_and,
    BitVec.getLsbD_not, BitVec.getLsbD_ofNat, Nat.testBit_mul_two_pow, Nat.testBit_two_pow_sub_one]
  by_cases hi : i < len'
  · by_cases h32 : i + lo' < 32
    · have h2 : (decide (i + lo' ≥ lo) && decide (i + lo' - lo < len)) = false := by
        simp only [Bool.and_eq_false_iff, decide_eq_false_iff_not]; omega
      have h3 : (decide (lo ≤ i + lo') && (decide (i + lo' - lo < len) && v.testBit (i + lo' - lo))) = false := by
        rw [← Bool.and_assoc]; simp only [ge_iff_le] at h2; rw [h2]; rfl
      simp [hi, h32] at h2 h3 ⊢
      grind
    · simp [h32, BitVec.getLsbD_of_ge, Nat.le_of_not_lt h32]
  · simp [hi]

end Sys2Proof.Machine
end

