-- ==== Sys2Proof/Laws/State.lean ====
section
/-! SUPPORT. What each update of one field of the state leaves: every other field, and, of a register, every other register. -/

namespace Sys2Proof.Machine

open Sys2Proof

variable (s : State)


/-! ### `State.setReg` -/

@[simp] theorem State.setReg_pending (a : Nat) (w : Word) : (s.setReg a w).pending = s.pending := rfl
@[simp] theorem State.setReg_ns (a : Nat) (w : Word) : (s.setReg a w).ns = s.ns := rfl
@[simp] theorem State.setReg_powerGood (a : Nat) (w : Word) : (s.setReg a w).powerGood = s.powerGood := rfl
@[simp] theorem State.setReg_freeCtr (a : Nat) (w : Word) : (s.setReg a w).freeCtr = s.freeCtr := rfl
@[simp] theorem State.setReg_resp (a : Nat) (w : Word) : (s.setReg a w).resp = s.resp := rfl
@[simp] theorem State.setReg_out (a : Nat) (w : Word) : (s.setReg a w).out = s.out := rfl
@[simp] theorem State.setReg_straps (a : Nat) (w : Word) : (s.setReg a w).straps = s.straps := rfl
@[simp] theorem State.setReg_fuses (a : Nat) (w : Word) : (s.setReg a w).fuses = s.fuses := rfl
@[simp] theorem State.setReg_worldSeq (a : Nat) (w : Word) : (s.setReg a w).worldSeq = s.worldSeq := rfl
@[simp] theorem State.setReg_stack (a : Nat) (w : Word) : (s.setReg a w).stack = s.stack := rfl
@[simp] theorem State.setReg_panels (a : Nat) (w : Word) : (s.setReg a w).panels = s.panels := rfl
@[simp] theorem State.setReg_switches (a : Nat) (w : Word) : (s.setReg a w).switches = s.switches := rfl
@[simp] theorem State.setReg_frames (a : Nat) (w : Word) : (s.setReg a w).frames = s.frames := rfl
@[simp] theorem State.setReg_columns (a : Nat) (w : Word) : (s.setReg a w).columns = s.columns := rfl
@[simp] theorem State.setReg_ctx (a : Nat) (w : Word) : (s.setReg a w).ctx = s.ctx := rfl
@[simp] theorem State.setReg_ctxValid (a : Nat) (w : Word) : (s.setReg a w).ctxValid = s.ctxValid := rfl
@[simp] theorem State.setReg_ctxNext (a : Nat) (w : Word) : (s.setReg a w).ctxNext = s.ctxNext := rfl
@[simp] theorem State.setReg_gov (a : Nat) (w : Word) : (s.setReg a w).gov = s.gov := rfl
@[simp] theorem State.setReg_fray (a : Nat) (w : Word) : (s.setReg a w).fray = s.fray := rfl
@[simp] theorem State.setReg_bridleNs (a : Nat) (w : Word) : (s.setReg a w).bridleNs = s.bridleNs := rfl
@[simp] theorem State.setReg_srcSel (a : Nat) (w : Word) : (s.setReg a w).srcSel = s.srcSel := rfl
@[simp] theorem State.setReg_gotPrio (a : Nat) (w : Word) : (s.setReg a w).gotPrio = s.gotPrio := rfl
@[simp] theorem State.setReg_lastTgt (a : Nat) (w : Word) : (s.setReg a w).lastTgt = s.lastTgt := rfl
@[simp] theorem State.setReg_linkUp (a : Nat) (w : Word) : (s.setReg a w).linkUp = s.linkUp := rfl
@[simp] theorem State.setReg_fabPorts (a : Nat) (w : Word) : (s.setReg a w).fabPorts = s.fabPorts := rfl
@[simp] theorem State.setReg_warm (a : Nat) (w : Word) : (s.setReg a w).warm = s.warm := rfl
@[simp] theorem State.setReg_resets (a : Nat) (w : Word) : (s.setReg a w).resets = s.resets := rfl
@[simp] theorem State.setReg_banks (a : Nat) (w : Word) : (s.setReg a w).banks = s.banks := rfl
@[simp] theorem State.setReg_mem (a : Nat) (w : Word) : (s.setReg a w).mem = s.mem := rfl
@[simp] theorem State.setReg_crcDiff (a : Nat) (w : Word) : (s.setReg a w).crcDiff = s.crcDiff := rfl
@[simp] theorem State.setReg_initRunning (a : Nat) (w : Word) : (s.setReg a w).initRunning = s.initRunning := rfl
@[simp] theorem State.setReg_heldCtr (a : Nat) (w : Word) : (s.setReg a w).heldCtr = s.heldCtr := rfl
@[simp] theorem State.setReg_handover (a : Nat) (w : Word) : (s.setReg a w).handover = s.handover := rfl
@[simp] theorem State.setReg_repairs (a : Nat) (w : Word) : (s.setReg a w).repairs = s.repairs := rfl
@[simp] theorem State.setReg_ctxTestNext (a : Nat) (w : Word) : (s.setReg a w).ctxTestNext = s.ctxTestNext := rfl
@[simp] theorem State.setReg_gatesClosed (a : Nat) (w : Word) : (s.setReg a w).gatesClosed = s.gatesClosed := rfl
@[simp] theorem State.setReg_root337Was (a : Nat) (w : Word) : (s.setReg a w).root337Was = s.root337Was := rfl
@[simp] theorem State.setReg_lossGates (a : Nat) (w : Word) : (s.setReg a w).lossGates = s.lossGates := rfl
@[simp] theorem State.setReg_oldEdges (a : Nat) (w : Word) : (s.setReg a w).oldEdges = s.oldEdges := rfl
@[simp] theorem State.setReg_goSets (a : Nat) (w : Word) : (s.setReg a w).goSets = s.goSets := rfl
@[simp] theorem State.setReg_planeWait (a : Nat) (w : Word) : (s.setReg a w).planeWait = s.planeWait := rfl
@[simp] theorem State.setReg_planeNow (a : Nat) (w : Word) : (s.setReg a w).planeNow = s.planeNow := rfl
@[simp] theorem State.setReg_monGood (a : Nat) (w : Word) : (s.setReg a w).monGood = s.monGood := rfl
@[simp] theorem State.setReg_pins (a : Nat) (w : Word) : (s.setReg a w).pins = s.pins := rfl
@[simp] theorem State.setReg_halted (a : Nat) (w : Word) : (s.setReg a w).halted = s.halted := rfl
@[simp] theorem State.setReg_jtag (a : Nat) (w : Word) : (s.setReg a w).jtag = s.jtag := rfl
@[simp] theorem State.setReg_madcNext (a : Nat) (w : Word) : (s.setReg a w).madcNext = s.madcNext := rfl
@[simp] theorem State.setReg_tracks (a : Nat) (w : Word) : (s.setReg a w).tracks = s.tracks := rfl
@[simp] theorem State.setReg_bridle (a : Nat) (w : Word) : (s.setReg a w).bridle = s.bridle := rfl
@[simp] theorem State.setReg_firstCommit (a : Nat) (w : Word) : (s.setReg a w).firstCommit = s.firstCommit := rfl
@[simp] theorem State.setReg_rig (a : Nat) (w : Word) : (s.setReg a w).rig = s.rig := rfl
@[simp] theorem State.setReg_chans (a : Nat) (w : Word) : (s.setReg a w).chans = s.chans := rfl
@[simp] theorem State.setReg_engLast (a : Nat) (w : Word) : (s.setReg a w).engLast = s.engLast := rfl
@[simp] theorem State.setReg_store (a : Nat) (w : Word) : (s.setReg a w).store = s.store := rfl
@[simp] theorem State.setReg_jobs (a : Nat) (w : Word) : (s.setReg a w).jobs = s.jobs := rfl
@[simp] theorem State.setReg_jobAt (a : Nat) (w : Word) : (s.setReg a w).jobAt = s.jobAt := rfl
@[simp] theorem State.setReg_restored (a : Nat) (w : Word) : (s.setReg a w).restored = s.restored := rfl
@[simp] theorem State.setReg_vbat (a : Nat) (w : Word) : (s.setReg a w).vbat = s.vbat := rfl
@[simp] theorem State.setReg_lanes (a : Nat) (w : Word) : (s.setReg a w).lanes = s.lanes := rfl
@[simp] theorem State.setReg_ports (a : Nat) (w : Word) : (s.setReg a w).ports = s.ports := rfl
@[simp] theorem State.setReg_kram (a : Nat) (w : Word) : (s.setReg a w).kram = s.kram := rfl
@[simp] theorem State.setReg_ramps (a : Nat) (w : Word) : (s.setReg a w).ramps = s.ramps := rfl
@[simp] theorem State.setReg_pf (a : Nat) (w : Word) : (s.setReg a w).pf = s.pf := rfl
@[simp] theorem State.setReg_load (a : Nat) (w : Word) : (s.setReg a w).load = s.load := rfl
@[simp] theorem State.setReg_perstLow (a : Nat) (w : Word) : (s.setReg a w).perstLow = s.perstLow := rfl
@[simp] theorem State.setReg_partPages (a : Nat) (w : Word) : (s.setReg a w).partPages = s.partPages := rfl

/-! ### `State.respond` -/

@[simp] theorem State.respond_pending (st : BusStatus) (d : Nat) : (s.respond st d).pending = s.pending := rfl
@[simp] theorem State.respond_ns (st : BusStatus) (d : Nat) : (s.respond st d).ns = s.ns := rfl
@[simp] theorem State.respond_powerGood (st : BusStatus) (d : Nat) : (s.respond st d).powerGood = s.powerGood := rfl
@[simp] theorem State.respond_regs (st : BusStatus) (d : Nat) : (s.respond st d).regs = s.regs := rfl
@[simp] theorem State.respond_freeCtr (st : BusStatus) (d : Nat) : (s.respond st d).freeCtr = s.freeCtr := rfl
@[simp] theorem State.respond_out (st : BusStatus) (d : Nat) : (s.respond st d).out = s.out := rfl
@[simp] theorem State.respond_straps (st : BusStatus) (d : Nat) : (s.respond st d).straps = s.straps := rfl
@[simp] theorem State.respond_fuses (st : BusStatus) (d : Nat) : (s.respond st d).fuses = s.fuses := rfl
@[simp] theorem State.respond_worldSeq (st : BusStatus) (d : Nat) : (s.respond st d).worldSeq = s.worldSeq := rfl
@[simp] theorem State.respond_stack (st : BusStatus) (d : Nat) : (s.respond st d).stack = s.stack := rfl
@[simp] theorem State.respond_panels (st : BusStatus) (d : Nat) : (s.respond st d).panels = s.panels := rfl
@[simp] theorem State.respond_switches (st : BusStatus) (d : Nat) : (s.respond st d).switches = s.switches := rfl
@[simp] theorem State.respond_frames (st : BusStatus) (d : Nat) : (s.respond st d).frames = s.frames := rfl
@[simp] theorem State.respond_columns (st : BusStatus) (d : Nat) : (s.respond st d).columns = s.columns := rfl
@[simp] theorem State.respond_ctx (st : BusStatus) (d : Nat) : (s.respond st d).ctx = s.ctx := rfl
@[simp] theorem State.respond_ctxValid (st : BusStatus) (d : Nat) : (s.respond st d).ctxValid = s.ctxValid := rfl
@[simp] theorem State.respond_ctxNext (st : BusStatus) (d : Nat) : (s.respond st d).ctxNext = s.ctxNext := rfl
@[simp] theorem State.respond_gov (st : BusStatus) (d : Nat) : (s.respond st d).gov = s.gov := rfl
@[simp] theorem State.respond_fray (st : BusStatus) (d : Nat) : (s.respond st d).fray = s.fray := rfl
@[simp] theorem State.respond_bridleNs (st : BusStatus) (d : Nat) : (s.respond st d).bridleNs = s.bridleNs := rfl
@[simp] theorem State.respond_srcSel (st : BusStatus) (d : Nat) : (s.respond st d).srcSel = s.srcSel := rfl
@[simp] theorem State.respond_gotPrio (st : BusStatus) (d : Nat) : (s.respond st d).gotPrio = s.gotPrio := rfl
@[simp] theorem State.respond_lastTgt (st : BusStatus) (d : Nat) : (s.respond st d).lastTgt = s.lastTgt := rfl
@[simp] theorem State.respond_linkUp (st : BusStatus) (d : Nat) : (s.respond st d).linkUp = s.linkUp := rfl
@[simp] theorem State.respond_fabPorts (st : BusStatus) (d : Nat) : (s.respond st d).fabPorts = s.fabPorts := rfl
@[simp] theorem State.respond_warm (st : BusStatus) (d : Nat) : (s.respond st d).warm = s.warm := rfl
@[simp] theorem State.respond_resets (st : BusStatus) (d : Nat) : (s.respond st d).resets = s.resets := rfl
@[simp] theorem State.respond_banks (st : BusStatus) (d : Nat) : (s.respond st d).banks = s.banks := rfl
@[simp] theorem State.respond_mem (st : BusStatus) (d : Nat) : (s.respond st d).mem = s.mem := rfl
@[simp] theorem State.respond_crcDiff (st : BusStatus) (d : Nat) : (s.respond st d).crcDiff = s.crcDiff := rfl
@[simp] theorem State.respond_initRunning (st : BusStatus) (d : Nat) : (s.respond st d).initRunning = s.initRunning := rfl
@[simp] theorem State.respond_heldCtr (st : BusStatus) (d : Nat) : (s.respond st d).heldCtr = s.heldCtr := rfl
@[simp] theorem State.respond_handover (st : BusStatus) (d : Nat) : (s.respond st d).handover = s.handover := rfl
@[simp] theorem State.respond_repairs (st : BusStatus) (d : Nat) : (s.respond st d).repairs = s.repairs := rfl
@[simp] theorem State.respond_ctxTestNext (st : BusStatus) (d : Nat) : (s.respond st d).ctxTestNext = s.ctxTestNext := rfl
@[simp] theorem State.respond_gatesClosed (st : BusStatus) (d : Nat) : (s.respond st d).gatesClosed = s.gatesClosed := rfl
@[simp] theorem State.respond_root337Was (st : BusStatus) (d : Nat) : (s.respond st d).root337Was = s.root337Was := rfl
@[simp] theorem State.respond_lossGates (st : BusStatus) (d : Nat) : (s.respond st d).lossGates = s.lossGates := rfl
@[simp] theorem State.respond_oldEdges (st : BusStatus) (d : Nat) : (s.respond st d).oldEdges = s.oldEdges := rfl
@[simp] theorem State.respond_goSets (st : BusStatus) (d : Nat) : (s.respond st d).goSets = s.goSets := rfl
@[simp] theorem State.respond_planeWait (st : BusStatus) (d : Nat) : (s.respond st d).planeWait = s.planeWait := rfl
@[simp] theorem State.respond_planeNow (st : BusStatus) (d : Nat) : (s.respond st d).planeNow = s.planeNow := rfl
@[simp] theorem State.respond_monGood (st : BusStatus) (d : Nat) : (s.respond st d).monGood = s.monGood := rfl
@[simp] theorem State.respond_pins (st : BusStatus) (d : Nat) : (s.respond st d).pins = s.pins := rfl
@[simp] theorem State.respond_halted (st : BusStatus) (d : Nat) : (s.respond st d).halted = s.halted := rfl
@[simp] theorem State.respond_jtag (st : BusStatus) (d : Nat) : (s.respond st d).jtag = s.jtag := rfl
@[simp] theorem State.respond_madcNext (st : BusStatus) (d : Nat) : (s.respond st d).madcNext = s.madcNext := rfl
@[simp] theorem State.respond_tracks (st : BusStatus) (d : Nat) : (s.respond st d).tracks = s.tracks := rfl
@[simp] theorem State.respond_bridle (st : BusStatus) (d : Nat) : (s.respond st d).bridle = s.bridle := rfl
@[simp] theorem State.respond_firstCommit (st : BusStatus) (d : Nat) : (s.respond st d).firstCommit = s.firstCommit := rfl
@[simp] theorem State.respond_rig (st : BusStatus) (d : Nat) : (s.respond st d).rig = s.rig := rfl
@[simp] theorem State.respond_chans (st : BusStatus) (d : Nat) : (s.respond st d).chans = s.chans := rfl
@[simp] theorem State.respond_engLast (st : BusStatus) (d : Nat) : (s.respond st d).engLast = s.engLast := rfl
@[simp] theorem State.respond_store (st : BusStatus) (d : Nat) : (s.respond st d).store = s.store := rfl
@[simp] theorem State.respond_jobs (st : BusStatus) (d : Nat) : (s.respond st d).jobs = s.jobs := rfl
@[simp] theorem State.respond_jobAt (st : BusStatus) (d : Nat) : (s.respond st d).jobAt = s.jobAt := rfl
@[simp] theorem State.respond_restored (st : BusStatus) (d : Nat) : (s.respond st d).restored = s.restored := rfl
@[simp] theorem State.respond_vbat (st : BusStatus) (d : Nat) : (s.respond st d).vbat = s.vbat := rfl
@[simp] theorem State.respond_lanes (st : BusStatus) (d : Nat) : (s.respond st d).lanes = s.lanes := rfl
@[simp] theorem State.respond_ports (st : BusStatus) (d : Nat) : (s.respond st d).ports = s.ports := rfl
@[simp] theorem State.respond_kram (st : BusStatus) (d : Nat) : (s.respond st d).kram = s.kram := rfl
@[simp] theorem State.respond_ramps (st : BusStatus) (d : Nat) : (s.respond st d).ramps = s.ramps := rfl
@[simp] theorem State.respond_pf (st : BusStatus) (d : Nat) : (s.respond st d).pf = s.pf := rfl
@[simp] theorem State.respond_load (st : BusStatus) (d : Nat) : (s.respond st d).load = s.load := rfl
@[simp] theorem State.respond_perstLow (st : BusStatus) (d : Nat) : (s.respond st d).perstLow = s.perstLow := rfl
@[simp] theorem State.respond_partPages (st : BusStatus) (d : Nat) : (s.respond st d).partPages = s.partPages := rfl

/-! ### `State.setPanel` -/

@[simp] theorem State.setPanel_pending (p : Nat) (x : Panel) : (s.setPanel p x).pending = s.pending := rfl
@[simp] theorem State.setPanel_ns (p : Nat) (x : Panel) : (s.setPanel p x).ns = s.ns := rfl
@[simp] theorem State.setPanel_powerGood (p : Nat) (x : Panel) : (s.setPanel p x).powerGood = s.powerGood := rfl
@[simp] theorem State.setPanel_regs (p : Nat) (x : Panel) : (s.setPanel p x).regs = s.regs := rfl
@[simp] theorem State.setPanel_freeCtr (p : Nat) (x : Panel) : (s.setPanel p x).freeCtr = s.freeCtr := rfl
@[simp] theorem State.setPanel_resp (p : Nat) (x : Panel) : (s.setPanel p x).resp = s.resp := rfl
@[simp] theorem State.setPanel_out (p : Nat) (x : Panel) : (s.setPanel p x).out = s.out := rfl
@[simp] theorem State.setPanel_straps (p : Nat) (x : Panel) : (s.setPanel p x).straps = s.straps := rfl
@[simp] theorem State.setPanel_fuses (p : Nat) (x : Panel) : (s.setPanel p x).fuses = s.fuses := rfl
@[simp] theorem State.setPanel_worldSeq (p : Nat) (x : Panel) : (s.setPanel p x).worldSeq = s.worldSeq := rfl
@[simp] theorem State.setPanel_stack (p : Nat) (x : Panel) : (s.setPanel p x).stack = s.stack := rfl
@[simp] theorem State.setPanel_switches (p : Nat) (x : Panel) : (s.setPanel p x).switches = s.switches := rfl
@[simp] theorem State.setPanel_frames (p : Nat) (x : Panel) : (s.setPanel p x).frames = s.frames := rfl
@[simp] theorem State.setPanel_columns (p : Nat) (x : Panel) : (s.setPanel p x).columns = s.columns := rfl
@[simp] theorem State.setPanel_ctx (p : Nat) (x : Panel) : (s.setPanel p x).ctx = s.ctx := rfl
@[simp] theorem State.setPanel_ctxValid (p : Nat) (x : Panel) : (s.setPanel p x).ctxValid = s.ctxValid := rfl
@[simp] theorem State.setPanel_ctxNext (p : Nat) (x : Panel) : (s.setPanel p x).ctxNext = s.ctxNext := rfl
@[simp] theorem State.setPanel_gov (p : Nat) (x : Panel) : (s.setPanel p x).gov = s.gov := rfl
@[simp] theorem State.setPanel_fray (p : Nat) (x : Panel) : (s.setPanel p x).fray = s.fray := rfl
@[simp] theorem State.setPanel_bridleNs (p : Nat) (x : Panel) : (s.setPanel p x).bridleNs = s.bridleNs := rfl
@[simp] theorem State.setPanel_srcSel (p : Nat) (x : Panel) : (s.setPanel p x).srcSel = s.srcSel := rfl
@[simp] theorem State.setPanel_gotPrio (p : Nat) (x : Panel) : (s.setPanel p x).gotPrio = s.gotPrio := rfl
@[simp] theorem State.setPanel_lastTgt (p : Nat) (x : Panel) : (s.setPanel p x).lastTgt = s.lastTgt := rfl
@[simp] theorem State.setPanel_linkUp (p : Nat) (x : Panel) : (s.setPanel p x).linkUp = s.linkUp := rfl
@[simp] theorem State.setPanel_fabPorts (p : Nat) (x : Panel) : (s.setPanel p x).fabPorts = s.fabPorts := rfl
@[simp] theorem State.setPanel_warm (p : Nat) (x : Panel) : (s.setPanel p x).warm = s.warm := rfl
@[simp] theorem State.setPanel_resets (p : Nat) (x : Panel) : (s.setPanel p x).resets = s.resets := rfl
@[simp] theorem State.setPanel_banks (p : Nat) (x : Panel) : (s.setPanel p x).banks = s.banks := rfl
@[simp] theorem State.setPanel_mem (p : Nat) (x : Panel) : (s.setPanel p x).mem = s.mem := rfl
@[simp] theorem State.setPanel_crcDiff (p : Nat) (x : Panel) : (s.setPanel p x).crcDiff = s.crcDiff := rfl
@[simp] theorem State.setPanel_initRunning (p : Nat) (x : Panel) : (s.setPanel p x).initRunning = s.initRunning := rfl
@[simp] theorem State.setPanel_heldCtr (p : Nat) (x : Panel) : (s.setPanel p x).heldCtr = s.heldCtr := rfl
@[simp] theorem State.setPanel_handover (p : Nat) (x : Panel) : (s.setPanel p x).handover = s.handover := rfl
@[simp] theorem State.setPanel_repairs (p : Nat) (x : Panel) : (s.setPanel p x).repairs = s.repairs := rfl
@[simp] theorem State.setPanel_ctxTestNext (p : Nat) (x : Panel) : (s.setPanel p x).ctxTestNext = s.ctxTestNext := rfl
@[simp] theorem State.setPanel_gatesClosed (p : Nat) (x : Panel) : (s.setPanel p x).gatesClosed = s.gatesClosed := rfl
@[simp] theorem State.setPanel_root337Was (p : Nat) (x : Panel) : (s.setPanel p x).root337Was = s.root337Was := rfl
@[simp] theorem State.setPanel_lossGates (p : Nat) (x : Panel) : (s.setPanel p x).lossGates = s.lossGates := rfl
@[simp] theorem State.setPanel_oldEdges (p : Nat) (x : Panel) : (s.setPanel p x).oldEdges = s.oldEdges := rfl
@[simp] theorem State.setPanel_goSets (p : Nat) (x : Panel) : (s.setPanel p x).goSets = s.goSets := rfl
@[simp] theorem State.setPanel_planeWait (p : Nat) (x : Panel) : (s.setPanel p x).planeWait = s.planeWait := rfl
@[simp] theorem State.setPanel_planeNow (p : Nat) (x : Panel) : (s.setPanel p x).planeNow = s.planeNow := rfl
@[simp] theorem State.setPanel_monGood (p : Nat) (x : Panel) : (s.setPanel p x).monGood = s.monGood := rfl
@[simp] theorem State.setPanel_pins (p : Nat) (x : Panel) : (s.setPanel p x).pins = s.pins := rfl
@[simp] theorem State.setPanel_halted (p : Nat) (x : Panel) : (s.setPanel p x).halted = s.halted := rfl
@[simp] theorem State.setPanel_jtag (p : Nat) (x : Panel) : (s.setPanel p x).jtag = s.jtag := rfl
@[simp] theorem State.setPanel_madcNext (p : Nat) (x : Panel) : (s.setPanel p x).madcNext = s.madcNext := rfl
@[simp] theorem State.setPanel_tracks (p : Nat) (x : Panel) : (s.setPanel p x).tracks = s.tracks := rfl
@[simp] theorem State.setPanel_bridle (p : Nat) (x : Panel) : (s.setPanel p x).bridle = s.bridle := rfl
@[simp] theorem State.setPanel_firstCommit (p : Nat) (x : Panel) : (s.setPanel p x).firstCommit = s.firstCommit := rfl
@[simp] theorem State.setPanel_rig (p : Nat) (x : Panel) : (s.setPanel p x).rig = s.rig := rfl
@[simp] theorem State.setPanel_chans (p : Nat) (x : Panel) : (s.setPanel p x).chans = s.chans := rfl
@[simp] theorem State.setPanel_engLast (p : Nat) (x : Panel) : (s.setPanel p x).engLast = s.engLast := rfl
@[simp] theorem State.setPanel_store (p : Nat) (x : Panel) : (s.setPanel p x).store = s.store := rfl
@[simp] theorem State.setPanel_jobs (p : Nat) (x : Panel) : (s.setPanel p x).jobs = s.jobs := rfl
@[simp] theorem State.setPanel_jobAt (p : Nat) (x : Panel) : (s.setPanel p x).jobAt = s.jobAt := rfl
@[simp] theorem State.setPanel_restored (p : Nat) (x : Panel) : (s.setPanel p x).restored = s.restored := rfl
@[simp] theorem State.setPanel_vbat (p : Nat) (x : Panel) : (s.setPanel p x).vbat = s.vbat := rfl
@[simp] theorem State.setPanel_lanes (p : Nat) (x : Panel) : (s.setPanel p x).lanes = s.lanes := rfl
@[simp] theorem State.setPanel_ports (p : Nat) (x : Panel) : (s.setPanel p x).ports = s.ports := rfl
@[simp] theorem State.setPanel_kram (p : Nat) (x : Panel) : (s.setPanel p x).kram = s.kram := rfl
@[simp] theorem State.setPanel_ramps (p : Nat) (x : Panel) : (s.setPanel p x).ramps = s.ramps := rfl
@[simp] theorem State.setPanel_pf (p : Nat) (x : Panel) : (s.setPanel p x).pf = s.pf := rfl
@[simp] theorem State.setPanel_load (p : Nat) (x : Panel) : (s.setPanel p x).load = s.load := rfl
@[simp] theorem State.setPanel_perstLow (p : Nat) (x : Panel) : (s.setPanel p x).perstLow = s.perstLow := rfl
@[simp] theorem State.setPanel_partPages (p : Nat) (x : Panel) : (s.setPanel p x).partPages = s.partPages := rfl

/-! ### `State.setColumn` -/

@[simp] theorem State.setColumn_pending (c : Nat) (x : Column) : (s.setColumn c x).pending = s.pending := rfl
@[simp] theorem State.setColumn_ns (c : Nat) (x : Column) : (s.setColumn c x).ns = s.ns := rfl
@[simp] theorem State.setColumn_powerGood (c : Nat) (x : Column) : (s.setColumn c x).powerGood = s.powerGood := rfl
@[simp] theorem State.setColumn_regs (c : Nat) (x : Column) : (s.setColumn c x).regs = s.regs := rfl
@[simp] theorem State.setColumn_freeCtr (c : Nat) (x : Column) : (s.setColumn c x).freeCtr = s.freeCtr := rfl
@[simp] theorem State.setColumn_resp (c : Nat) (x : Column) : (s.setColumn c x).resp = s.resp := rfl
@[simp] theorem State.setColumn_out (c : Nat) (x : Column) : (s.setColumn c x).out = s.out := rfl
@[simp] theorem State.setColumn_straps (c : Nat) (x : Column) : (s.setColumn c x).straps = s.straps := rfl
@[simp] theorem State.setColumn_fuses (c : Nat) (x : Column) : (s.setColumn c x).fuses = s.fuses := rfl
@[simp] theorem State.setColumn_worldSeq (c : Nat) (x : Column) : (s.setColumn c x).worldSeq = s.worldSeq := rfl
@[simp] theorem State.setColumn_stack (c : Nat) (x : Column) : (s.setColumn c x).stack = s.stack := rfl
@[simp] theorem State.setColumn_panels (c : Nat) (x : Column) : (s.setColumn c x).panels = s.panels := rfl
@[simp] theorem State.setColumn_switches (c : Nat) (x : Column) : (s.setColumn c x).switches = s.switches := rfl
@[simp] theorem State.setColumn_frames (c : Nat) (x : Column) : (s.setColumn c x).frames = s.frames := rfl
@[simp] theorem State.setColumn_ctx (c : Nat) (x : Column) : (s.setColumn c x).ctx = s.ctx := rfl
@[simp] theorem State.setColumn_ctxValid (c : Nat) (x : Column) : (s.setColumn c x).ctxValid = s.ctxValid := rfl
@[simp] theorem State.setColumn_ctxNext (c : Nat) (x : Column) : (s.setColumn c x).ctxNext = s.ctxNext := rfl
@[simp] theorem State.setColumn_gov (c : Nat) (x : Column) : (s.setColumn c x).gov = s.gov := rfl
@[simp] theorem State.setColumn_fray (c : Nat) (x : Column) : (s.setColumn c x).fray = s.fray := rfl
@[simp] theorem State.setColumn_bridleNs (c : Nat) (x : Column) : (s.setColumn c x).bridleNs = s.bridleNs := rfl
@[simp] theorem State.setColumn_srcSel (c : Nat) (x : Column) : (s.setColumn c x).srcSel = s.srcSel := rfl
@[simp] theorem State.setColumn_gotPrio (c : Nat) (x : Column) : (s.setColumn c x).gotPrio = s.gotPrio := rfl
@[simp] theorem State.setColumn_lastTgt (c : Nat) (x : Column) : (s.setColumn c x).lastTgt = s.lastTgt := rfl
@[simp] theorem State.setColumn_linkUp (c : Nat) (x : Column) : (s.setColumn c x).linkUp = s.linkUp := rfl
@[simp] theorem State.setColumn_fabPorts (c : Nat) (x : Column) : (s.setColumn c x).fabPorts = s.fabPorts := rfl
@[simp] theorem State.setColumn_warm (c : Nat) (x : Column) : (s.setColumn c x).warm = s.warm := rfl
@[simp] theorem State.setColumn_resets (c : Nat) (x : Column) : (s.setColumn c x).resets = s.resets := rfl
@[simp] theorem State.setColumn_banks (c : Nat) (x : Column) : (s.setColumn c x).banks = s.banks := rfl
@[simp] theorem State.setColumn_mem (c : Nat) (x : Column) : (s.setColumn c x).mem = s.mem := rfl
@[simp] theorem State.setColumn_crcDiff (c : Nat) (x : Column) : (s.setColumn c x).crcDiff = s.crcDiff := rfl
@[simp] theorem State.setColumn_initRunning (c : Nat) (x : Column) : (s.setColumn c x).initRunning = s.initRunning := rfl
@[simp] theorem State.setColumn_heldCtr (c : Nat) (x : Column) : (s.setColumn c x).heldCtr = s.heldCtr := rfl
@[simp] theorem State.setColumn_handover (c : Nat) (x : Column) : (s.setColumn c x).handover = s.handover := rfl
@[simp] theorem State.setColumn_repairs (c : Nat) (x : Column) : (s.setColumn c x).repairs = s.repairs := rfl
@[simp] theorem State.setColumn_ctxTestNext (c : Nat) (x : Column) : (s.setColumn c x).ctxTestNext = s.ctxTestNext := rfl
@[simp] theorem State.setColumn_gatesClosed (c : Nat) (x : Column) : (s.setColumn c x).gatesClosed = s.gatesClosed := rfl
@[simp] theorem State.setColumn_root337Was (c : Nat) (x : Column) : (s.setColumn c x).root337Was = s.root337Was := rfl
@[simp] theorem State.setColumn_lossGates (c : Nat) (x : Column) : (s.setColumn c x).lossGates = s.lossGates := rfl
@[simp] theorem State.setColumn_oldEdges (c : Nat) (x : Column) : (s.setColumn c x).oldEdges = s.oldEdges := rfl
@[simp] theorem State.setColumn_goSets (c : Nat) (x : Column) : (s.setColumn c x).goSets = s.goSets := rfl
@[simp] theorem State.setColumn_planeWait (c : Nat) (x : Column) : (s.setColumn c x).planeWait = s.planeWait := rfl
@[simp] theorem State.setColumn_planeNow (c : Nat) (x : Column) : (s.setColumn c x).planeNow = s.planeNow := rfl
@[simp] theorem State.setColumn_monGood (c : Nat) (x : Column) : (s.setColumn c x).monGood = s.monGood := rfl
@[simp] theorem State.setColumn_pins (c : Nat) (x : Column) : (s.setColumn c x).pins = s.pins := rfl
@[simp] theorem State.setColumn_halted (c : Nat) (x : Column) : (s.setColumn c x).halted = s.halted := rfl
@[simp] theorem State.setColumn_jtag (c : Nat) (x : Column) : (s.setColumn c x).jtag = s.jtag := rfl
@[simp] theorem State.setColumn_madcNext (c : Nat) (x : Column) : (s.setColumn c x).madcNext = s.madcNext := rfl
@[simp] theorem State.setColumn_tracks (c : Nat) (x : Column) : (s.setColumn c x).tracks = s.tracks := rfl
@[simp] theorem State.setColumn_bridle (c : Nat) (x : Column) : (s.setColumn c x).bridle = s.bridle := rfl
@[simp] theorem State.setColumn_firstCommit (c : Nat) (x : Column) : (s.setColumn c x).firstCommit = s.firstCommit := rfl
@[simp] theorem State.setColumn_rig (c : Nat) (x : Column) : (s.setColumn c x).rig = s.rig := rfl
@[simp] theorem State.setColumn_chans (c : Nat) (x : Column) : (s.setColumn c x).chans = s.chans := rfl
@[simp] theorem State.setColumn_engLast (c : Nat) (x : Column) : (s.setColumn c x).engLast = s.engLast := rfl
@[simp] theorem State.setColumn_store (c : Nat) (x : Column) : (s.setColumn c x).store = s.store := rfl
@[simp] theorem State.setColumn_jobs (c : Nat) (x : Column) : (s.setColumn c x).jobs = s.jobs := rfl
@[simp] theorem State.setColumn_jobAt (c : Nat) (x : Column) : (s.setColumn c x).jobAt = s.jobAt := rfl
@[simp] theorem State.setColumn_restored (c : Nat) (x : Column) : (s.setColumn c x).restored = s.restored := rfl
@[simp] theorem State.setColumn_vbat (c : Nat) (x : Column) : (s.setColumn c x).vbat = s.vbat := rfl
@[simp] theorem State.setColumn_lanes (c : Nat) (x : Column) : (s.setColumn c x).lanes = s.lanes := rfl
@[simp] theorem State.setColumn_ports (c : Nat) (x : Column) : (s.setColumn c x).ports = s.ports := rfl
@[simp] theorem State.setColumn_kram (c : Nat) (x : Column) : (s.setColumn c x).kram = s.kram := rfl
@[simp] theorem State.setColumn_ramps (c : Nat) (x : Column) : (s.setColumn c x).ramps = s.ramps := rfl
@[simp] theorem State.setColumn_pf (c : Nat) (x : Column) : (s.setColumn c x).pf = s.pf := rfl
@[simp] theorem State.setColumn_load (c : Nat) (x : Column) : (s.setColumn c x).load = s.load := rfl
@[simp] theorem State.setColumn_perstLow (c : Nat) (x : Column) : (s.setColumn c x).perstLow = s.perstLow := rfl
@[simp] theorem State.setColumn_partPages (c : Nat) (x : Column) : (s.setColumn c x).partPages = s.partPages := rfl

/-! ### `State.setBank` -/

@[simp] theorem State.setBank_pending (b : Nat) (x : Bank) : (s.setBank b x).pending = s.pending := rfl
@[simp] theorem State.setBank_ns (b : Nat) (x : Bank) : (s.setBank b x).ns = s.ns := rfl
@[simp] theorem State.setBank_powerGood (b : Nat) (x : Bank) : (s.setBank b x).powerGood = s.powerGood := rfl
@[simp] theorem State.setBank_regs (b : Nat) (x : Bank) : (s.setBank b x).regs = s.regs := rfl
@[simp] theorem State.setBank_freeCtr (b : Nat) (x : Bank) : (s.setBank b x).freeCtr = s.freeCtr := rfl
@[simp] theorem State.setBank_resp (b : Nat) (x : Bank) : (s.setBank b x).resp = s.resp := rfl
@[simp] theorem State.setBank_out (b : Nat) (x : Bank) : (s.setBank b x).out = s.out := rfl
@[simp] theorem State.setBank_straps (b : Nat) (x : Bank) : (s.setBank b x).straps = s.straps := rfl
@[simp] theorem State.setBank_fuses (b : Nat) (x : Bank) : (s.setBank b x).fuses = s.fuses := rfl
@[simp] theorem State.setBank_worldSeq (b : Nat) (x : Bank) : (s.setBank b x).worldSeq = s.worldSeq := rfl
@[simp] theorem State.setBank_stack (b : Nat) (x : Bank) : (s.setBank b x).stack = s.stack := rfl
@[simp] theorem State.setBank_panels (b : Nat) (x : Bank) : (s.setBank b x).panels = s.panels := rfl
@[simp] theorem State.setBank_switches (b : Nat) (x : Bank) : (s.setBank b x).switches = s.switches := rfl
@[simp] theorem State.setBank_frames (b : Nat) (x : Bank) : (s.setBank b x).frames = s.frames := rfl
@[simp] theorem State.setBank_columns (b : Nat) (x : Bank) : (s.setBank b x).columns = s.columns := rfl
@[simp] theorem State.setBank_ctx (b : Nat) (x : Bank) : (s.setBank b x).ctx = s.ctx := rfl
@[simp] theorem State.setBank_ctxValid (b : Nat) (x : Bank) : (s.setBank b x).ctxValid = s.ctxValid := rfl
@[simp] theorem State.setBank_ctxNext (b : Nat) (x : Bank) : (s.setBank b x).ctxNext = s.ctxNext := rfl
@[simp] theorem State.setBank_gov (b : Nat) (x : Bank) : (s.setBank b x).gov = s.gov := rfl
@[simp] theorem State.setBank_fray (b : Nat) (x : Bank) : (s.setBank b x).fray = s.fray := rfl
@[simp] theorem State.setBank_bridleNs (b : Nat) (x : Bank) : (s.setBank b x).bridleNs = s.bridleNs := rfl
@[simp] theorem State.setBank_srcSel (b : Nat) (x : Bank) : (s.setBank b x).srcSel = s.srcSel := rfl
@[simp] theorem State.setBank_gotPrio (b : Nat) (x : Bank) : (s.setBank b x).gotPrio = s.gotPrio := rfl
@[simp] theorem State.setBank_lastTgt (b : Nat) (x : Bank) : (s.setBank b x).lastTgt = s.lastTgt := rfl
@[simp] theorem State.setBank_linkUp (b : Nat) (x : Bank) : (s.setBank b x).linkUp = s.linkUp := rfl
@[simp] theorem State.setBank_fabPorts (b : Nat) (x : Bank) : (s.setBank b x).fabPorts = s.fabPorts := rfl
@[simp] theorem State.setBank_warm (b : Nat) (x : Bank) : (s.setBank b x).warm = s.warm := rfl
@[simp] theorem State.setBank_resets (b : Nat) (x : Bank) : (s.setBank b x).resets = s.resets := rfl
@[simp] theorem State.setBank_mem (b : Nat) (x : Bank) : (s.setBank b x).mem = s.mem := rfl
@[simp] theorem State.setBank_crcDiff (b : Nat) (x : Bank) : (s.setBank b x).crcDiff = s.crcDiff := rfl
@[simp] theorem State.setBank_initRunning (b : Nat) (x : Bank) : (s.setBank b x).initRunning = s.initRunning := rfl
@[simp] theorem State.setBank_heldCtr (b : Nat) (x : Bank) : (s.setBank b x).heldCtr = s.heldCtr := rfl
@[simp] theorem State.setBank_handover (b : Nat) (x : Bank) : (s.setBank b x).handover = s.handover := rfl
@[simp] theorem State.setBank_repairs (b : Nat) (x : Bank) : (s.setBank b x).repairs = s.repairs := rfl
@[simp] theorem State.setBank_ctxTestNext (b : Nat) (x : Bank) : (s.setBank b x).ctxTestNext = s.ctxTestNext := rfl
@[simp] theorem State.setBank_gatesClosed (b : Nat) (x : Bank) : (s.setBank b x).gatesClosed = s.gatesClosed := rfl
@[simp] theorem State.setBank_root337Was (b : Nat) (x : Bank) : (s.setBank b x).root337Was = s.root337Was := rfl
@[simp] theorem State.setBank_lossGates (b : Nat) (x : Bank) : (s.setBank b x).lossGates = s.lossGates := rfl
@[simp] theorem State.setBank_oldEdges (b : Nat) (x : Bank) : (s.setBank b x).oldEdges = s.oldEdges := rfl
@[simp] theorem State.setBank_goSets (b : Nat) (x : Bank) : (s.setBank b x).goSets = s.goSets := rfl
@[simp] theorem State.setBank_planeWait (b : Nat) (x : Bank) : (s.setBank b x).planeWait = s.planeWait := rfl
@[simp] theorem State.setBank_planeNow (b : Nat) (x : Bank) : (s.setBank b x).planeNow = s.planeNow := rfl
@[simp] theorem State.setBank_monGood (b : Nat) (x : Bank) : (s.setBank b x).monGood = s.monGood := rfl
@[simp] theorem State.setBank_pins (b : Nat) (x : Bank) : (s.setBank b x).pins = s.pins := rfl
@[simp] theorem State.setBank_halted (b : Nat) (x : Bank) : (s.setBank b x).halted = s.halted := rfl
@[simp] theorem State.setBank_jtag (b : Nat) (x : Bank) : (s.setBank b x).jtag = s.jtag := rfl
@[simp] theorem State.setBank_madcNext (b : Nat) (x : Bank) : (s.setBank b x).madcNext = s.madcNext := rfl
@[simp] theorem State.setBank_tracks (b : Nat) (x : Bank) : (s.setBank b x).tracks = s.tracks := rfl
@[simp] theorem State.setBank_bridle (b : Nat) (x : Bank) : (s.setBank b x).bridle = s.bridle := rfl
@[simp] theorem State.setBank_firstCommit (b : Nat) (x : Bank) : (s.setBank b x).firstCommit = s.firstCommit := rfl
@[simp] theorem State.setBank_rig (b : Nat) (x : Bank) : (s.setBank b x).rig = s.rig := rfl
@[simp] theorem State.setBank_chans (b : Nat) (x : Bank) : (s.setBank b x).chans = s.chans := rfl
@[simp] theorem State.setBank_engLast (b : Nat) (x : Bank) : (s.setBank b x).engLast = s.engLast := rfl
@[simp] theorem State.setBank_store (b : Nat) (x : Bank) : (s.setBank b x).store = s.store := rfl
@[simp] theorem State.setBank_jobs (b : Nat) (x : Bank) : (s.setBank b x).jobs = s.jobs := rfl
@[simp] theorem State.setBank_jobAt (b : Nat) (x : Bank) : (s.setBank b x).jobAt = s.jobAt := rfl
@[simp] theorem State.setBank_restored (b : Nat) (x : Bank) : (s.setBank b x).restored = s.restored := rfl
@[simp] theorem State.setBank_vbat (b : Nat) (x : Bank) : (s.setBank b x).vbat = s.vbat := rfl
@[simp] theorem State.setBank_lanes (b : Nat) (x : Bank) : (s.setBank b x).lanes = s.lanes := rfl
@[simp] theorem State.setBank_ports (b : Nat) (x : Bank) : (s.setBank b x).ports = s.ports := rfl
@[simp] theorem State.setBank_kram (b : Nat) (x : Bank) : (s.setBank b x).kram = s.kram := rfl
@[simp] theorem State.setBank_ramps (b : Nat) (x : Bank) : (s.setBank b x).ramps = s.ramps := rfl
@[simp] theorem State.setBank_pf (b : Nat) (x : Bank) : (s.setBank b x).pf = s.pf := rfl
@[simp] theorem State.setBank_load (b : Nat) (x : Bank) : (s.setBank b x).load = s.load := rfl
@[simp] theorem State.setBank_perstLow (b : Nat) (x : Bank) : (s.setBank b x).perstLow = s.perstLow := rfl
@[simp] theorem State.setBank_partPages (b : Nat) (x : Bank) : (s.setBank b x).partPages = s.partPages := rfl

/-! ### `State.setMemByte` -/

@[simp] theorem State.setMemByte_pending (a : Nat) (b : Byte) : (s.setMemByte a b).pending = s.pending := rfl
@[simp] theorem State.setMemByte_ns (a : Nat) (b : Byte) : (s.setMemByte a b).ns = s.ns := rfl
@[simp] theorem State.setMemByte_powerGood (a : Nat) (b : Byte) : (s.setMemByte a b).powerGood = s.powerGood := rfl
@[simp] theorem State.setMemByte_regs (a : Nat) (b : Byte) : (s.setMemByte a b).regs = s.regs := rfl
@[simp] theorem State.setMemByte_freeCtr (a : Nat) (b : Byte) : (s.setMemByte a b).freeCtr = s.freeCtr := rfl
@[simp] theorem State.setMemByte_resp (a : Nat) (b : Byte) : (s.setMemByte a b).resp = s.resp := rfl
@[simp] theorem State.setMemByte_out (a : Nat) (b : Byte) : (s.setMemByte a b).out = s.out := rfl
@[simp] theorem State.setMemByte_straps (a : Nat) (b : Byte) : (s.setMemByte a b).straps = s.straps := rfl
@[simp] theorem State.setMemByte_fuses (a : Nat) (b : Byte) : (s.setMemByte a b).fuses = s.fuses := rfl
@[simp] theorem State.setMemByte_worldSeq (a : Nat) (b : Byte) : (s.setMemByte a b).worldSeq = s.worldSeq := rfl
@[simp] theorem State.setMemByte_stack (a : Nat) (b : Byte) : (s.setMemByte a b).stack = s.stack := rfl
@[simp] theorem State.setMemByte_panels (a : Nat) (b : Byte) : (s.setMemByte a b).panels = s.panels := rfl
@[simp] theorem State.setMemByte_switches (a : Nat) (b : Byte) : (s.setMemByte a b).switches = s.switches := rfl
@[simp] theorem State.setMemByte_frames (a : Nat) (b : Byte) : (s.setMemByte a b).frames = s.frames := rfl
@[simp] theorem State.setMemByte_columns (a : Nat) (b : Byte) : (s.setMemByte a b).columns = s.columns := rfl
@[simp] theorem State.setMemByte_ctx (a : Nat) (b : Byte) : (s.setMemByte a b).ctx = s.ctx := rfl
@[simp] theorem State.setMemByte_ctxValid (a : Nat) (b : Byte) : (s.setMemByte a b).ctxValid = s.ctxValid := rfl
@[simp] theorem State.setMemByte_ctxNext (a : Nat) (b : Byte) : (s.setMemByte a b).ctxNext = s.ctxNext := rfl
@[simp] theorem State.setMemByte_gov (a : Nat) (b : Byte) : (s.setMemByte a b).gov = s.gov := rfl
@[simp] theorem State.setMemByte_fray (a : Nat) (b : Byte) : (s.setMemByte a b).fray = s.fray := rfl
@[simp] theorem State.setMemByte_bridleNs (a : Nat) (b : Byte) : (s.setMemByte a b).bridleNs = s.bridleNs := rfl
@[simp] theorem State.setMemByte_srcSel (a : Nat) (b : Byte) : (s.setMemByte a b).srcSel = s.srcSel := rfl
@[simp] theorem State.setMemByte_gotPrio (a : Nat) (b : Byte) : (s.setMemByte a b).gotPrio = s.gotPrio := rfl
@[simp] theorem State.setMemByte_lastTgt (a : Nat) (b : Byte) : (s.setMemByte a b).lastTgt = s.lastTgt := rfl
@[simp] theorem State.setMemByte_linkUp (a : Nat) (b : Byte) : (s.setMemByte a b).linkUp = s.linkUp := rfl
@[simp] theorem State.setMemByte_fabPorts (a : Nat) (b : Byte) : (s.setMemByte a b).fabPorts = s.fabPorts := rfl
@[simp] theorem State.setMemByte_warm (a : Nat) (b : Byte) : (s.setMemByte a b).warm = s.warm := rfl
@[simp] theorem State.setMemByte_resets (a : Nat) (b : Byte) : (s.setMemByte a b).resets = s.resets := rfl
@[simp] theorem State.setMemByte_banks (a : Nat) (b : Byte) : (s.setMemByte a b).banks = s.banks := rfl
@[simp] theorem State.setMemByte_crcDiff (a : Nat) (b : Byte) : (s.setMemByte a b).crcDiff = s.crcDiff := rfl
@[simp] theorem State.setMemByte_initRunning (a : Nat) (b : Byte) : (s.setMemByte a b).initRunning = s.initRunning := rfl
@[simp] theorem State.setMemByte_heldCtr (a : Nat) (b : Byte) : (s.setMemByte a b).heldCtr = s.heldCtr := rfl
@[simp] theorem State.setMemByte_handover (a : Nat) (b : Byte) : (s.setMemByte a b).handover = s.handover := rfl
@[simp] theorem State.setMemByte_repairs (a : Nat) (b : Byte) : (s.setMemByte a b).repairs = s.repairs := rfl
@[simp] theorem State.setMemByte_ctxTestNext (a : Nat) (b : Byte) : (s.setMemByte a b).ctxTestNext = s.ctxTestNext := rfl
@[simp] theorem State.setMemByte_gatesClosed (a : Nat) (b : Byte) : (s.setMemByte a b).gatesClosed = s.gatesClosed := rfl
@[simp] theorem State.setMemByte_root337Was (a : Nat) (b : Byte) : (s.setMemByte a b).root337Was = s.root337Was := rfl
@[simp] theorem State.setMemByte_lossGates (a : Nat) (b : Byte) : (s.setMemByte a b).lossGates = s.lossGates := rfl
@[simp] theorem State.setMemByte_oldEdges (a : Nat) (b : Byte) : (s.setMemByte a b).oldEdges = s.oldEdges := rfl
@[simp] theorem State.setMemByte_goSets (a : Nat) (b : Byte) : (s.setMemByte a b).goSets = s.goSets := rfl
@[simp] theorem State.setMemByte_planeWait (a : Nat) (b : Byte) : (s.setMemByte a b).planeWait = s.planeWait := rfl
@[simp] theorem State.setMemByte_planeNow (a : Nat) (b : Byte) : (s.setMemByte a b).planeNow = s.planeNow := rfl
@[simp] theorem State.setMemByte_monGood (a : Nat) (b : Byte) : (s.setMemByte a b).monGood = s.monGood := rfl
@[simp] theorem State.setMemByte_pins (a : Nat) (b : Byte) : (s.setMemByte a b).pins = s.pins := rfl
@[simp] theorem State.setMemByte_halted (a : Nat) (b : Byte) : (s.setMemByte a b).halted = s.halted := rfl
@[simp] theorem State.setMemByte_jtag (a : Nat) (b : Byte) : (s.setMemByte a b).jtag = s.jtag := rfl
@[simp] theorem State.setMemByte_madcNext (a : Nat) (b : Byte) : (s.setMemByte a b).madcNext = s.madcNext := rfl
@[simp] theorem State.setMemByte_tracks (a : Nat) (b : Byte) : (s.setMemByte a b).tracks = s.tracks := rfl
@[simp] theorem State.setMemByte_bridle (a : Nat) (b : Byte) : (s.setMemByte a b).bridle = s.bridle := rfl
@[simp] theorem State.setMemByte_firstCommit (a : Nat) (b : Byte) : (s.setMemByte a b).firstCommit = s.firstCommit := rfl
@[simp] theorem State.setMemByte_rig (a : Nat) (b : Byte) : (s.setMemByte a b).rig = s.rig := rfl
@[simp] theorem State.setMemByte_chans (a : Nat) (b : Byte) : (s.setMemByte a b).chans = s.chans := rfl
@[simp] theorem State.setMemByte_engLast (a : Nat) (b : Byte) : (s.setMemByte a b).engLast = s.engLast := rfl
@[simp] theorem State.setMemByte_store (a : Nat) (b : Byte) : (s.setMemByte a b).store = s.store := rfl
@[simp] theorem State.setMemByte_jobs (a : Nat) (b : Byte) : (s.setMemByte a b).jobs = s.jobs := rfl
@[simp] theorem State.setMemByte_jobAt (a : Nat) (b : Byte) : (s.setMemByte a b).jobAt = s.jobAt := rfl
@[simp] theorem State.setMemByte_restored (a : Nat) (b : Byte) : (s.setMemByte a b).restored = s.restored := rfl
@[simp] theorem State.setMemByte_vbat (a : Nat) (b : Byte) : (s.setMemByte a b).vbat = s.vbat := rfl
@[simp] theorem State.setMemByte_lanes (a : Nat) (b : Byte) : (s.setMemByte a b).lanes = s.lanes := rfl
@[simp] theorem State.setMemByte_ports (a : Nat) (b : Byte) : (s.setMemByte a b).ports = s.ports := rfl
@[simp] theorem State.setMemByte_kram (a : Nat) (b : Byte) : (s.setMemByte a b).kram = s.kram := rfl
@[simp] theorem State.setMemByte_ramps (a : Nat) (b : Byte) : (s.setMemByte a b).ramps = s.ramps := rfl
@[simp] theorem State.setMemByte_pf (a : Nat) (b : Byte) : (s.setMemByte a b).pf = s.pf := rfl
@[simp] theorem State.setMemByte_load (a : Nat) (b : Byte) : (s.setMemByte a b).load = s.load := rfl
@[simp] theorem State.setMemByte_perstLow (a : Nat) (b : Byte) : (s.setMemByte a b).perstLow = s.perstLow := rfl
@[simp] theorem State.setMemByte_partPages (a : Nat) (b : Byte) : (s.setMemByte a b).partPages = s.partPages := rfl

/-! ### `State.setLineDiff` -/

@[simp] theorem State.setLineDiff_pending (n : Nat) (d : BitVec 16) : (s.setLineDiff n d).pending = s.pending := rfl
@[simp] theorem State.setLineDiff_ns (n : Nat) (d : BitVec 16) : (s.setLineDiff n d).ns = s.ns := rfl
@[simp] theorem State.setLineDiff_powerGood (n : Nat) (d : BitVec 16) : (s.setLineDiff n d).powerGood = s.powerGood := rfl
@[simp] theorem State.setLineDiff_regs (n : Nat) (d : BitVec 16) : (s.setLineDiff n d).regs = s.regs := rfl
@[simp] theorem State.setLineDiff_freeCtr (n : Nat) (d : BitVec 16) : (s.setLineDiff n d).freeCtr = s.freeCtr := rfl
@[simp] theorem State.setLineDiff_resp (n : Nat) (d : BitVec 16) : (s.setLineDiff n d).resp = s.resp := rfl
@[simp] theorem State.setLineDiff_out (n : Nat) (d : BitVec 16) : (s.setLineDiff n d).out = s.out := rfl
@[simp] theorem State.setLineDiff_straps (n : Nat) (d : BitVec 16) : (s.setLineDiff n d).straps = s.straps := rfl
@[simp] theorem State.setLineDiff_fuses (n : Nat) (d : BitVec 16) : (s.setLineDiff n d).fuses = s.fuses := rfl
@[simp] theorem State.setLineDiff_worldSeq (n : Nat) (d : BitVec 16) : (s.setLineDiff n d).worldSeq = s.worldSeq := rfl
@[simp] theorem State.setLineDiff_stack (n : Nat) (d : BitVec 16) : (s.setLineDiff n d).stack = s.stack := rfl
@[simp] theorem State.setLineDiff_panels (n : Nat) (d : BitVec 16) : (s.setLineDiff n d).panels = s.panels := rfl
@[simp] theorem State.setLineDiff_switches (n : Nat) (d : BitVec 16) : (s.setLineDiff n d).switches = s.switches := rfl
@[simp] theorem State.setLineDiff_frames (n : Nat) (d : BitVec 16) : (s.setLineDiff n d).frames = s.frames := rfl
@[simp] theorem State.setLineDiff_columns (n : Nat) (d : BitVec 16) : (s.setLineDiff n d).columns = s.columns := rfl
@[simp] theorem State.setLineDiff_ctx (n : Nat) (d : BitVec 16) : (s.setLineDiff n d).ctx = s.ctx := rfl
@[simp] theorem State.setLineDiff_ctxValid (n : Nat) (d : BitVec 16) : (s.setLineDiff n d).ctxValid = s.ctxValid := rfl
@[simp] theorem State.setLineDiff_ctxNext (n : Nat) (d : BitVec 16) : (s.setLineDiff n d).ctxNext = s.ctxNext := rfl
@[simp] theorem State.setLineDiff_gov (n : Nat) (d : BitVec 16) : (s.setLineDiff n d).gov = s.gov := rfl
@[simp] theorem State.setLineDiff_fray (n : Nat) (d : BitVec 16) : (s.setLineDiff n d).fray = s.fray := rfl
@[simp] theorem State.setLineDiff_bridleNs (n : Nat) (d : BitVec 16) : (s.setLineDiff n d).bridleNs = s.bridleNs := rfl
@[simp] theorem State.setLineDiff_srcSel (n : Nat) (d : BitVec 16) : (s.setLineDiff n d).srcSel = s.srcSel := rfl
@[simp] theorem State.setLineDiff_gotPrio (n : Nat) (d : BitVec 16) : (s.setLineDiff n d).gotPrio = s.gotPrio := rfl
@[simp] theorem State.setLineDiff_lastTgt (n : Nat) (d : BitVec 16) : (s.setLineDiff n d).lastTgt = s.lastTgt := rfl
@[simp] theorem State.setLineDiff_linkUp (n : Nat) (d : BitVec 16) : (s.setLineDiff n d).linkUp = s.linkUp := rfl
@[simp] theorem State.setLineDiff_fabPorts (n : Nat) (d : BitVec 16) : (s.setLineDiff n d).fabPorts = s.fabPorts := rfl
@[simp] theorem State.setLineDiff_warm (n : Nat) (d : BitVec 16) : (s.setLineDiff n d).warm = s.warm := rfl
@[simp] theorem State.setLineDiff_resets (n : Nat) (d : BitVec 16) : (s.setLineDiff n d).resets = s.resets := rfl
@[simp] theorem State.setLineDiff_banks (n : Nat) (d : BitVec 16) : (s.setLineDiff n d).banks = s.banks := rfl
@[simp] theorem State.setLineDiff_mem (n : Nat) (d : BitVec 16) : (s.setLineDiff n d).mem = s.mem := rfl
@[simp] theorem State.setLineDiff_initRunning (n : Nat) (d : BitVec 16) : (s.setLineDiff n d).initRunning = s.initRunning := rfl
@[simp] theorem State.setLineDiff_heldCtr (n : Nat) (d : BitVec 16) : (s.setLineDiff n d).heldCtr = s.heldCtr := rfl
@[simp] theorem State.setLineDiff_handover (n : Nat) (d : BitVec 16) : (s.setLineDiff n d).handover = s.handover := rfl
@[simp] theorem State.setLineDiff_repairs (n : Nat) (d : BitVec 16) : (s.setLineDiff n d).repairs = s.repairs := rfl
@[simp] theorem State.setLineDiff_ctxTestNext (n : Nat) (d : BitVec 16) : (s.setLineDiff n d).ctxTestNext = s.ctxTestNext := rfl
@[simp] theorem State.setLineDiff_gatesClosed (n : Nat) (d : BitVec 16) : (s.setLineDiff n d).gatesClosed = s.gatesClosed := rfl
@[simp] theorem State.setLineDiff_root337Was (n : Nat) (d : BitVec 16) : (s.setLineDiff n d).root337Was = s.root337Was := rfl
@[simp] theorem State.setLineDiff_lossGates (n : Nat) (d : BitVec 16) : (s.setLineDiff n d).lossGates = s.lossGates := rfl
@[simp] theorem State.setLineDiff_oldEdges (n : Nat) (d : BitVec 16) : (s.setLineDiff n d).oldEdges = s.oldEdges := rfl
@[simp] theorem State.setLineDiff_goSets (n : Nat) (d : BitVec 16) : (s.setLineDiff n d).goSets = s.goSets := rfl
@[simp] theorem State.setLineDiff_planeWait (n : Nat) (d : BitVec 16) : (s.setLineDiff n d).planeWait = s.planeWait := rfl
@[simp] theorem State.setLineDiff_planeNow (n : Nat) (d : BitVec 16) : (s.setLineDiff n d).planeNow = s.planeNow := rfl
@[simp] theorem State.setLineDiff_monGood (n : Nat) (d : BitVec 16) : (s.setLineDiff n d).monGood = s.monGood := rfl
@[simp] theorem State.setLineDiff_pins (n : Nat) (d : BitVec 16) : (s.setLineDiff n d).pins = s.pins := rfl
@[simp] theorem State.setLineDiff_halted (n : Nat) (d : BitVec 16) : (s.setLineDiff n d).halted = s.halted := rfl
@[simp] theorem State.setLineDiff_jtag (n : Nat) (d : BitVec 16) : (s.setLineDiff n d).jtag = s.jtag := rfl
@[simp] theorem State.setLineDiff_madcNext (n : Nat) (d : BitVec 16) : (s.setLineDiff n d).madcNext = s.madcNext := rfl
@[simp] theorem State.setLineDiff_tracks (n : Nat) (d : BitVec 16) : (s.setLineDiff n d).tracks = s.tracks := rfl
@[simp] theorem State.setLineDiff_bridle (n : Nat) (d : BitVec 16) : (s.setLineDiff n d).bridle = s.bridle := rfl
@[simp] theorem State.setLineDiff_firstCommit (n : Nat) (d : BitVec 16) : (s.setLineDiff n d).firstCommit = s.firstCommit := rfl
@[simp] theorem State.setLineDiff_rig (n : Nat) (d : BitVec 16) : (s.setLineDiff n d).rig = s.rig := rfl
@[simp] theorem State.setLineDiff_chans (n : Nat) (d : BitVec 16) : (s.setLineDiff n d).chans = s.chans := rfl
@[simp] theorem State.setLineDiff_engLast (n : Nat) (d : BitVec 16) : (s.setLineDiff n d).engLast = s.engLast := rfl
@[simp] theorem State.setLineDiff_store (n : Nat) (d : BitVec 16) : (s.setLineDiff n d).store = s.store := rfl
@[simp] theorem State.setLineDiff_jobs (n : Nat) (d : BitVec 16) : (s.setLineDiff n d).jobs = s.jobs := rfl
@[simp] theorem State.setLineDiff_jobAt (n : Nat) (d : BitVec 16) : (s.setLineDiff n d).jobAt = s.jobAt := rfl
@[simp] theorem State.setLineDiff_restored (n : Nat) (d : BitVec 16) : (s.setLineDiff n d).restored = s.restored := rfl
@[simp] theorem State.setLineDiff_vbat (n : Nat) (d : BitVec 16) : (s.setLineDiff n d).vbat = s.vbat := rfl
@[simp] theorem State.setLineDiff_lanes (n : Nat) (d : BitVec 16) : (s.setLineDiff n d).lanes = s.lanes := rfl
@[simp] theorem State.setLineDiff_ports (n : Nat) (d : BitVec 16) : (s.setLineDiff n d).ports = s.ports := rfl
@[simp] theorem State.setLineDiff_kram (n : Nat) (d : BitVec 16) : (s.setLineDiff n d).kram = s.kram := rfl
@[simp] theorem State.setLineDiff_ramps (n : Nat) (d : BitVec 16) : (s.setLineDiff n d).ramps = s.ramps := rfl
@[simp] theorem State.setLineDiff_pf (n : Nat) (d : BitVec 16) : (s.setLineDiff n d).pf = s.pf := rfl
@[simp] theorem State.setLineDiff_load (n : Nat) (d : BitVec 16) : (s.setLineDiff n d).load = s.load := rfl
@[simp] theorem State.setLineDiff_perstLow (n : Nat) (d : BitVec 16) : (s.setLineDiff n d).perstLow = s.perstLow := rfl
@[simp] theorem State.setLineDiff_partPages (n : Nat) (d : BitVec 16) : (s.setLineDiff n d).partPages = s.partPages := rfl

/-! ### `State.setTrack` -/

@[simp] theorem State.setTrack_pending (k : Nat) (x : Track) : (s.setTrack k x).pending = s.pending := rfl
@[simp] theorem State.setTrack_ns (k : Nat) (x : Track) : (s.setTrack k x).ns = s.ns := rfl
@[simp] theorem State.setTrack_powerGood (k : Nat) (x : Track) : (s.setTrack k x).powerGood = s.powerGood := rfl
@[simp] theorem State.setTrack_regs (k : Nat) (x : Track) : (s.setTrack k x).regs = s.regs := rfl
@[simp] theorem State.setTrack_freeCtr (k : Nat) (x : Track) : (s.setTrack k x).freeCtr = s.freeCtr := rfl
@[simp] theorem State.setTrack_resp (k : Nat) (x : Track) : (s.setTrack k x).resp = s.resp := rfl
@[simp] theorem State.setTrack_out (k : Nat) (x : Track) : (s.setTrack k x).out = s.out := rfl
@[simp] theorem State.setTrack_straps (k : Nat) (x : Track) : (s.setTrack k x).straps = s.straps := rfl
@[simp] theorem State.setTrack_fuses (k : Nat) (x : Track) : (s.setTrack k x).fuses = s.fuses := rfl
@[simp] theorem State.setTrack_worldSeq (k : Nat) (x : Track) : (s.setTrack k x).worldSeq = s.worldSeq := rfl
@[simp] theorem State.setTrack_stack (k : Nat) (x : Track) : (s.setTrack k x).stack = s.stack := rfl
@[simp] theorem State.setTrack_panels (k : Nat) (x : Track) : (s.setTrack k x).panels = s.panels := rfl
@[simp] theorem State.setTrack_switches (k : Nat) (x : Track) : (s.setTrack k x).switches = s.switches := rfl
@[simp] theorem State.setTrack_frames (k : Nat) (x : Track) : (s.setTrack k x).frames = s.frames := rfl
@[simp] theorem State.setTrack_columns (k : Nat) (x : Track) : (s.setTrack k x).columns = s.columns := rfl
@[simp] theorem State.setTrack_ctx (k : Nat) (x : Track) : (s.setTrack k x).ctx = s.ctx := rfl
@[simp] theorem State.setTrack_ctxValid (k : Nat) (x : Track) : (s.setTrack k x).ctxValid = s.ctxValid := rfl
@[simp] theorem State.setTrack_ctxNext (k : Nat) (x : Track) : (s.setTrack k x).ctxNext = s.ctxNext := rfl
@[simp] theorem State.setTrack_gov (k : Nat) (x : Track) : (s.setTrack k x).gov = s.gov := rfl
@[simp] theorem State.setTrack_fray (k : Nat) (x : Track) : (s.setTrack k x).fray = s.fray := rfl
@[simp] theorem State.setTrack_bridleNs (k : Nat) (x : Track) : (s.setTrack k x).bridleNs = s.bridleNs := rfl
@[simp] theorem State.setTrack_srcSel (k : Nat) (x : Track) : (s.setTrack k x).srcSel = s.srcSel := rfl
@[simp] theorem State.setTrack_gotPrio (k : Nat) (x : Track) : (s.setTrack k x).gotPrio = s.gotPrio := rfl
@[simp] theorem State.setTrack_lastTgt (k : Nat) (x : Track) : (s.setTrack k x).lastTgt = s.lastTgt := rfl
@[simp] theorem State.setTrack_linkUp (k : Nat) (x : Track) : (s.setTrack k x).linkUp = s.linkUp := rfl
@[simp] theorem State.setTrack_fabPorts (k : Nat) (x : Track) : (s.setTrack k x).fabPorts = s.fabPorts := rfl
@[simp] theorem State.setTrack_warm (k : Nat) (x : Track) : (s.setTrack k x).warm = s.warm := rfl
@[simp] theorem State.setTrack_resets (k : Nat) (x : Track) : (s.setTrack k x).resets = s.resets := rfl
@[simp] theorem State.setTrack_banks (k : Nat) (x : Track) : (s.setTrack k x).banks = s.banks := rfl
@[simp] theorem State.setTrack_mem (k : Nat) (x : Track) : (s.setTrack k x).mem = s.mem := rfl
@[simp] theorem State.setTrack_crcDiff (k : Nat) (x : Track) : (s.setTrack k x).crcDiff = s.crcDiff := rfl
@[simp] theorem State.setTrack_initRunning (k : Nat) (x : Track) : (s.setTrack k x).initRunning = s.initRunning := rfl
@[simp] theorem State.setTrack_heldCtr (k : Nat) (x : Track) : (s.setTrack k x).heldCtr = s.heldCtr := rfl
@[simp] theorem State.setTrack_handover (k : Nat) (x : Track) : (s.setTrack k x).handover = s.handover := rfl
@[simp] theorem State.setTrack_repairs (k : Nat) (x : Track) : (s.setTrack k x).repairs = s.repairs := rfl
@[simp] theorem State.setTrack_ctxTestNext (k : Nat) (x : Track) : (s.setTrack k x).ctxTestNext = s.ctxTestNext := rfl
@[simp] theorem State.setTrack_gatesClosed (k : Nat) (x : Track) : (s.setTrack k x).gatesClosed = s.gatesClosed := rfl
@[simp] theorem State.setTrack_root337Was (k : Nat) (x : Track) : (s.setTrack k x).root337Was = s.root337Was := rfl
@[simp] theorem State.setTrack_lossGates (k : Nat) (x : Track) : (s.setTrack k x).lossGates = s.lossGates := rfl
@[simp] theorem State.setTrack_oldEdges (k : Nat) (x : Track) : (s.setTrack k x).oldEdges = s.oldEdges := rfl
@[simp] theorem State.setTrack_goSets (k : Nat) (x : Track) : (s.setTrack k x).goSets = s.goSets := rfl
@[simp] theorem State.setTrack_planeWait (k : Nat) (x : Track) : (s.setTrack k x).planeWait = s.planeWait := rfl
@[simp] theorem State.setTrack_planeNow (k : Nat) (x : Track) : (s.setTrack k x).planeNow = s.planeNow := rfl
@[simp] theorem State.setTrack_monGood (k : Nat) (x : Track) : (s.setTrack k x).monGood = s.monGood := rfl
@[simp] theorem State.setTrack_pins (k : Nat) (x : Track) : (s.setTrack k x).pins = s.pins := rfl
@[simp] theorem State.setTrack_halted (k : Nat) (x : Track) : (s.setTrack k x).halted = s.halted := rfl
@[simp] theorem State.setTrack_jtag (k : Nat) (x : Track) : (s.setTrack k x).jtag = s.jtag := rfl
@[simp] theorem State.setTrack_madcNext (k : Nat) (x : Track) : (s.setTrack k x).madcNext = s.madcNext := rfl
@[simp] theorem State.setTrack_bridle (k : Nat) (x : Track) : (s.setTrack k x).bridle = s.bridle := rfl
@[simp] theorem State.setTrack_firstCommit (k : Nat) (x : Track) : (s.setTrack k x).firstCommit = s.firstCommit := rfl
@[simp] theorem State.setTrack_rig (k : Nat) (x : Track) : (s.setTrack k x).rig = s.rig := rfl
@[simp] theorem State.setTrack_chans (k : Nat) (x : Track) : (s.setTrack k x).chans = s.chans := rfl
@[simp] theorem State.setTrack_engLast (k : Nat) (x : Track) : (s.setTrack k x).engLast = s.engLast := rfl
@[simp] theorem State.setTrack_store (k : Nat) (x : Track) : (s.setTrack k x).store = s.store := rfl
@[simp] theorem State.setTrack_jobs (k : Nat) (x : Track) : (s.setTrack k x).jobs = s.jobs := rfl
@[simp] theorem State.setTrack_jobAt (k : Nat) (x : Track) : (s.setTrack k x).jobAt = s.jobAt := rfl
@[simp] theorem State.setTrack_restored (k : Nat) (x : Track) : (s.setTrack k x).restored = s.restored := rfl
@[simp] theorem State.setTrack_vbat (k : Nat) (x : Track) : (s.setTrack k x).vbat = s.vbat := rfl
@[simp] theorem State.setTrack_lanes (k : Nat) (x : Track) : (s.setTrack k x).lanes = s.lanes := rfl
@[simp] theorem State.setTrack_ports (k : Nat) (x : Track) : (s.setTrack k x).ports = s.ports := rfl
@[simp] theorem State.setTrack_kram (k : Nat) (x : Track) : (s.setTrack k x).kram = s.kram := rfl
@[simp] theorem State.setTrack_ramps (k : Nat) (x : Track) : (s.setTrack k x).ramps = s.ramps := rfl
@[simp] theorem State.setTrack_pf (k : Nat) (x : Track) : (s.setTrack k x).pf = s.pf := rfl
@[simp] theorem State.setTrack_load (k : Nat) (x : Track) : (s.setTrack k x).load = s.load := rfl
@[simp] theorem State.setTrack_perstLow (k : Nat) (x : Track) : (s.setTrack k x).perstLow = s.perstLow := rfl
@[simp] theorem State.setTrack_partPages (k : Nat) (x : Track) : (s.setTrack k x).partPages = s.partPages := rfl

/-! ### `State.setPin` -/

@[simp] theorem State.setPin_pending (n : Nat) (x : Pin) : (s.setPin n x).pending = s.pending := rfl
@[simp] theorem State.setPin_ns (n : Nat) (x : Pin) : (s.setPin n x).ns = s.ns := rfl
@[simp] theorem State.setPin_powerGood (n : Nat) (x : Pin) : (s.setPin n x).powerGood = s.powerGood := rfl
@[simp] theorem State.setPin_regs (n : Nat) (x : Pin) : (s.setPin n x).regs = s.regs := rfl
@[simp] theorem State.setPin_freeCtr (n : Nat) (x : Pin) : (s.setPin n x).freeCtr = s.freeCtr := rfl
@[simp] theorem State.setPin_resp (n : Nat) (x : Pin) : (s.setPin n x).resp = s.resp := rfl
@[simp] theorem State.setPin_out (n : Nat) (x : Pin) : (s.setPin n x).out = s.out := rfl
@[simp] theorem State.setPin_straps (n : Nat) (x : Pin) : (s.setPin n x).straps = s.straps := rfl
@[simp] theorem State.setPin_fuses (n : Nat) (x : Pin) : (s.setPin n x).fuses = s.fuses := rfl
@[simp] theorem State.setPin_worldSeq (n : Nat) (x : Pin) : (s.setPin n x).worldSeq = s.worldSeq := rfl
@[simp] theorem State.setPin_stack (n : Nat) (x : Pin) : (s.setPin n x).stack = s.stack := rfl
@[simp] theorem State.setPin_panels (n : Nat) (x : Pin) : (s.setPin n x).panels = s.panels := rfl
@[simp] theorem State.setPin_switches (n : Nat) (x : Pin) : (s.setPin n x).switches = s.switches := rfl
@[simp] theorem State.setPin_frames (n : Nat) (x : Pin) : (s.setPin n x).frames = s.frames := rfl
@[simp] theorem State.setPin_columns (n : Nat) (x : Pin) : (s.setPin n x).columns = s.columns := rfl
@[simp] theorem State.setPin_ctx (n : Nat) (x : Pin) : (s.setPin n x).ctx = s.ctx := rfl
@[simp] theorem State.setPin_ctxValid (n : Nat) (x : Pin) : (s.setPin n x).ctxValid = s.ctxValid := rfl
@[simp] theorem State.setPin_ctxNext (n : Nat) (x : Pin) : (s.setPin n x).ctxNext = s.ctxNext := rfl
@[simp] theorem State.setPin_gov (n : Nat) (x : Pin) : (s.setPin n x).gov = s.gov := rfl
@[simp] theorem State.setPin_fray (n : Nat) (x : Pin) : (s.setPin n x).fray = s.fray := rfl
@[simp] theorem State.setPin_bridleNs (n : Nat) (x : Pin) : (s.setPin n x).bridleNs = s.bridleNs := rfl
@[simp] theorem State.setPin_srcSel (n : Nat) (x : Pin) : (s.setPin n x).srcSel = s.srcSel := rfl
@[simp] theorem State.setPin_gotPrio (n : Nat) (x : Pin) : (s.setPin n x).gotPrio = s.gotPrio := rfl
@[simp] theorem State.setPin_lastTgt (n : Nat) (x : Pin) : (s.setPin n x).lastTgt = s.lastTgt := rfl
@[simp] theorem State.setPin_linkUp (n : Nat) (x : Pin) : (s.setPin n x).linkUp = s.linkUp := rfl
@[simp] theorem State.setPin_fabPorts (n : Nat) (x : Pin) : (s.setPin n x).fabPorts = s.fabPorts := rfl
@[simp] theorem State.setPin_warm (n : Nat) (x : Pin) : (s.setPin n x).warm = s.warm := rfl
@[simp] theorem State.setPin_resets (n : Nat) (x : Pin) : (s.setPin n x).resets = s.resets := rfl
@[simp] theorem State.setPin_banks (n : Nat) (x : Pin) : (s.setPin n x).banks = s.banks := rfl
@[simp] theorem State.setPin_mem (n : Nat) (x : Pin) : (s.setPin n x).mem = s.mem := rfl
@[simp] theorem State.setPin_crcDiff (n : Nat) (x : Pin) : (s.setPin n x).crcDiff = s.crcDiff := rfl
@[simp] theorem State.setPin_initRunning (n : Nat) (x : Pin) : (s.setPin n x).initRunning = s.initRunning := rfl
@[simp] theorem State.setPin_heldCtr (n : Nat) (x : Pin) : (s.setPin n x).heldCtr = s.heldCtr := rfl
@[simp] theorem State.setPin_handover (n : Nat) (x : Pin) : (s.setPin n x).handover = s.handover := rfl
@[simp] theorem State.setPin_repairs (n : Nat) (x : Pin) : (s.setPin n x).repairs = s.repairs := rfl
@[simp] theorem State.setPin_ctxTestNext (n : Nat) (x : Pin) : (s.setPin n x).ctxTestNext = s.ctxTestNext := rfl
@[simp] theorem State.setPin_gatesClosed (n : Nat) (x : Pin) : (s.setPin n x).gatesClosed = s.gatesClosed := rfl
@[simp] theorem State.setPin_root337Was (n : Nat) (x : Pin) : (s.setPin n x).root337Was = s.root337Was := rfl
@[simp] theorem State.setPin_lossGates (n : Nat) (x : Pin) : (s.setPin n x).lossGates = s.lossGates := rfl
@[simp] theorem State.setPin_oldEdges (n : Nat) (x : Pin) : (s.setPin n x).oldEdges = s.oldEdges := rfl
@[simp] theorem State.setPin_goSets (n : Nat) (x : Pin) : (s.setPin n x).goSets = s.goSets := rfl
@[simp] theorem State.setPin_planeWait (n : Nat) (x : Pin) : (s.setPin n x).planeWait = s.planeWait := rfl
@[simp] theorem State.setPin_planeNow (n : Nat) (x : Pin) : (s.setPin n x).planeNow = s.planeNow := rfl
@[simp] theorem State.setPin_monGood (n : Nat) (x : Pin) : (s.setPin n x).monGood = s.monGood := rfl
@[simp] theorem State.setPin_halted (n : Nat) (x : Pin) : (s.setPin n x).halted = s.halted := rfl
@[simp] theorem State.setPin_jtag (n : Nat) (x : Pin) : (s.setPin n x).jtag = s.jtag := rfl
@[simp] theorem State.setPin_madcNext (n : Nat) (x : Pin) : (s.setPin n x).madcNext = s.madcNext := rfl
@[simp] theorem State.setPin_tracks (n : Nat) (x : Pin) : (s.setPin n x).tracks = s.tracks := rfl
@[simp] theorem State.setPin_bridle (n : Nat) (x : Pin) : (s.setPin n x).bridle = s.bridle := rfl
@[simp] theorem State.setPin_firstCommit (n : Nat) (x : Pin) : (s.setPin n x).firstCommit = s.firstCommit := rfl
@[simp] theorem State.setPin_rig (n : Nat) (x : Pin) : (s.setPin n x).rig = s.rig := rfl
@[simp] theorem State.setPin_chans (n : Nat) (x : Pin) : (s.setPin n x).chans = s.chans := rfl
@[simp] theorem State.setPin_engLast (n : Nat) (x : Pin) : (s.setPin n x).engLast = s.engLast := rfl
@[simp] theorem State.setPin_store (n : Nat) (x : Pin) : (s.setPin n x).store = s.store := rfl
@[simp] theorem State.setPin_jobs (n : Nat) (x : Pin) : (s.setPin n x).jobs = s.jobs := rfl
@[simp] theorem State.setPin_jobAt (n : Nat) (x : Pin) : (s.setPin n x).jobAt = s.jobAt := rfl
@[simp] theorem State.setPin_restored (n : Nat) (x : Pin) : (s.setPin n x).restored = s.restored := rfl
@[simp] theorem State.setPin_vbat (n : Nat) (x : Pin) : (s.setPin n x).vbat = s.vbat := rfl
@[simp] theorem State.setPin_lanes (n : Nat) (x : Pin) : (s.setPin n x).lanes = s.lanes := rfl
@[simp] theorem State.setPin_ports (n : Nat) (x : Pin) : (s.setPin n x).ports = s.ports := rfl
@[simp] theorem State.setPin_kram (n : Nat) (x : Pin) : (s.setPin n x).kram = s.kram := rfl
@[simp] theorem State.setPin_ramps (n : Nat) (x : Pin) : (s.setPin n x).ramps = s.ramps := rfl
@[simp] theorem State.setPin_pf (n : Nat) (x : Pin) : (s.setPin n x).pf = s.pf := rfl
@[simp] theorem State.setPin_load (n : Nat) (x : Pin) : (s.setPin n x).load = s.load := rfl
@[simp] theorem State.setPin_perstLow (n : Nat) (x : Pin) : (s.setPin n x).perstLow = s.perstLow := rfl
@[simp] theorem State.setPin_partPages (n : Nat) (x : Pin) : (s.setPin n x).partPages = s.partPages := rfl

/-! ### `State.setLane` -/

@[simp] theorem State.setLane_pending (l : Nat) (x : Lane) : (s.setLane l x).pending = s.pending := rfl
@[simp] theorem State.setLane_ns (l : Nat) (x : Lane) : (s.setLane l x).ns = s.ns := rfl
@[simp] theorem State.setLane_powerGood (l : Nat) (x : Lane) : (s.setLane l x).powerGood = s.powerGood := rfl
@[simp] theorem State.setLane_regs (l : Nat) (x : Lane) : (s.setLane l x).regs = s.regs := rfl
@[simp] theorem State.setLane_freeCtr (l : Nat) (x : Lane) : (s.setLane l x).freeCtr = s.freeCtr := rfl
@[simp] theorem State.setLane_resp (l : Nat) (x : Lane) : (s.setLane l x).resp = s.resp := rfl
@[simp] theorem State.setLane_out (l : Nat) (x : Lane) : (s.setLane l x).out = s.out := rfl
@[simp] theorem State.setLane_straps (l : Nat) (x : Lane) : (s.setLane l x).straps = s.straps := rfl
@[simp] theorem State.setLane_fuses (l : Nat) (x : Lane) : (s.setLane l x).fuses = s.fuses := rfl
@[simp] theorem State.setLane_worldSeq (l : Nat) (x : Lane) : (s.setLane l x).worldSeq = s.worldSeq := rfl
@[simp] theorem State.setLane_stack (l : Nat) (x : Lane) : (s.setLane l x).stack = s.stack := rfl
@[simp] theorem State.setLane_panels (l : Nat) (x : Lane) : (s.setLane l x).panels = s.panels := rfl
@[simp] theorem State.setLane_switches (l : Nat) (x : Lane) : (s.setLane l x).switches = s.switches := rfl
@[simp] theorem State.setLane_frames (l : Nat) (x : Lane) : (s.setLane l x).frames = s.frames := rfl
@[simp] theorem State.setLane_columns (l : Nat) (x : Lane) : (s.setLane l x).columns = s.columns := rfl
@[simp] theorem State.setLane_ctx (l : Nat) (x : Lane) : (s.setLane l x).ctx = s.ctx := rfl
@[simp] theorem State.setLane_ctxValid (l : Nat) (x : Lane) : (s.setLane l x).ctxValid = s.ctxValid := rfl
@[simp] theorem State.setLane_ctxNext (l : Nat) (x : Lane) : (s.setLane l x).ctxNext = s.ctxNext := rfl
@[simp] theorem State.setLane_gov (l : Nat) (x : Lane) : (s.setLane l x).gov = s.gov := rfl
@[simp] theorem State.setLane_fray (l : Nat) (x : Lane) : (s.setLane l x).fray = s.fray := rfl
@[simp] theorem State.setLane_bridleNs (l : Nat) (x : Lane) : (s.setLane l x).bridleNs = s.bridleNs := rfl
@[simp] theorem State.setLane_srcSel (l : Nat) (x : Lane) : (s.setLane l x).srcSel = s.srcSel := rfl
@[simp] theorem State.setLane_gotPrio (l : Nat) (x : Lane) : (s.setLane l x).gotPrio = s.gotPrio := rfl
@[simp] theorem State.setLane_lastTgt (l : Nat) (x : Lane) : (s.setLane l x).lastTgt = s.lastTgt := rfl
@[simp] theorem State.setLane_linkUp (l : Nat) (x : Lane) : (s.setLane l x).linkUp = s.linkUp := rfl
@[simp] theorem State.setLane_fabPorts (l : Nat) (x : Lane) : (s.setLane l x).fabPorts = s.fabPorts := rfl
@[simp] theorem State.setLane_warm (l : Nat) (x : Lane) : (s.setLane l x).warm = s.warm := rfl
@[simp] theorem State.setLane_resets (l : Nat) (x : Lane) : (s.setLane l x).resets = s.resets := rfl
@[simp] theorem State.setLane_banks (l : Nat) (x : Lane) : (s.setLane l x).banks = s.banks := rfl
@[simp] theorem State.setLane_mem (l : Nat) (x : Lane) : (s.setLane l x).mem = s.mem := rfl
@[simp] theorem State.setLane_crcDiff (l : Nat) (x : Lane) : (s.setLane l x).crcDiff = s.crcDiff := rfl
@[simp] theorem State.setLane_initRunning (l : Nat) (x : Lane) : (s.setLane l x).initRunning = s.initRunning := rfl
@[simp] theorem State.setLane_heldCtr (l : Nat) (x : Lane) : (s.setLane l x).heldCtr = s.heldCtr := rfl
@[simp] theorem State.setLane_handover (l : Nat) (x : Lane) : (s.setLane l x).handover = s.handover := rfl
@[simp] theorem State.setLane_repairs (l : Nat) (x : Lane) : (s.setLane l x).repairs = s.repairs := rfl
@[simp] theorem State.setLane_ctxTestNext (l : Nat) (x : Lane) : (s.setLane l x).ctxTestNext = s.ctxTestNext := rfl
@[simp] theorem State.setLane_gatesClosed (l : Nat) (x : Lane) : (s.setLane l x).gatesClosed = s.gatesClosed := rfl
@[simp] theorem State.setLane_root337Was (l : Nat) (x : Lane) : (s.setLane l x).root337Was = s.root337Was := rfl
@[simp] theorem State.setLane_lossGates (l : Nat) (x : Lane) : (s.setLane l x).lossGates = s.lossGates := rfl
@[simp] theorem State.setLane_oldEdges (l : Nat) (x : Lane) : (s.setLane l x).oldEdges = s.oldEdges := rfl
@[simp] theorem State.setLane_goSets (l : Nat) (x : Lane) : (s.setLane l x).goSets = s.goSets := rfl
@[simp] theorem State.setLane_planeWait (l : Nat) (x : Lane) : (s.setLane l x).planeWait = s.planeWait := rfl
@[simp] theorem State.setLane_planeNow (l : Nat) (x : Lane) : (s.setLane l x).planeNow = s.planeNow := rfl
@[simp] theorem State.setLane_monGood (l : Nat) (x : Lane) : (s.setLane l x).monGood = s.monGood := rfl
@[simp] theorem State.setLane_pins (l : Nat) (x : Lane) : (s.setLane l x).pins = s.pins := rfl
@[simp] theorem State.setLane_halted (l : Nat) (x : Lane) : (s.setLane l x).halted = s.halted := rfl
@[simp] theorem State.setLane_jtag (l : Nat) (x : Lane) : (s.setLane l x).jtag = s.jtag := rfl
@[simp] theorem State.setLane_madcNext (l : Nat) (x : Lane) : (s.setLane l x).madcNext = s.madcNext := rfl
@[simp] theorem State.setLane_tracks (l : Nat) (x : Lane) : (s.setLane l x).tracks = s.tracks := rfl
@[simp] theorem State.setLane_bridle (l : Nat) (x : Lane) : (s.setLane l x).bridle = s.bridle := rfl
@[simp] theorem State.setLane_firstCommit (l : Nat) (x : Lane) : (s.setLane l x).firstCommit = s.firstCommit := rfl
@[simp] theorem State.setLane_rig (l : Nat) (x : Lane) : (s.setLane l x).rig = s.rig := rfl
@[simp] theorem State.setLane_chans (l : Nat) (x : Lane) : (s.setLane l x).chans = s.chans := rfl
@[simp] theorem State.setLane_engLast (l : Nat) (x : Lane) : (s.setLane l x).engLast = s.engLast := rfl
@[simp] theorem State.setLane_store (l : Nat) (x : Lane) : (s.setLane l x).store = s.store := rfl
@[simp] theorem State.setLane_jobs (l : Nat) (x : Lane) : (s.setLane l x).jobs = s.jobs := rfl
@[simp] theorem State.setLane_jobAt (l : Nat) (x : Lane) : (s.setLane l x).jobAt = s.jobAt := rfl
@[simp] theorem State.setLane_restored (l : Nat) (x : Lane) : (s.setLane l x).restored = s.restored := rfl
@[simp] theorem State.setLane_vbat (l : Nat) (x : Lane) : (s.setLane l x).vbat = s.vbat := rfl
@[simp] theorem State.setLane_ports (l : Nat) (x : Lane) : (s.setLane l x).ports = s.ports := rfl
@[simp] theorem State.setLane_kram (l : Nat) (x : Lane) : (s.setLane l x).kram = s.kram := rfl
@[simp] theorem State.setLane_ramps (l : Nat) (x : Lane) : (s.setLane l x).ramps = s.ramps := rfl
@[simp] theorem State.setLane_pf (l : Nat) (x : Lane) : (s.setLane l x).pf = s.pf := rfl
@[simp] theorem State.setLane_load (l : Nat) (x : Lane) : (s.setLane l x).load = s.load := rfl
@[simp] theorem State.setLane_perstLow (l : Nat) (x : Lane) : (s.setLane l x).perstLow = s.perstLow := rfl
@[simp] theorem State.setLane_partPages (l : Nat) (x : Lane) : (s.setLane l x).partPages = s.partPages := rfl

/-! ### `State.setPort` -/

@[simp] theorem State.setPort_pending (p : Nat) (x : Port) : (s.setPort p x).pending = s.pending := rfl
@[simp] theorem State.setPort_ns (p : Nat) (x : Port) : (s.setPort p x).ns = s.ns := rfl
@[simp] theorem State.setPort_powerGood (p : Nat) (x : Port) : (s.setPort p x).powerGood = s.powerGood := rfl
@[simp] theorem State.setPort_regs (p : Nat) (x : Port) : (s.setPort p x).regs = s.regs := rfl
@[simp] theorem State.setPort_freeCtr (p : Nat) (x : Port) : (s.setPort p x).freeCtr = s.freeCtr := rfl
@[simp] theorem State.setPort_resp (p : Nat) (x : Port) : (s.setPort p x).resp = s.resp := rfl
@[simp] theorem State.setPort_out (p : Nat) (x : Port) : (s.setPort p x).out = s.out := rfl
@[simp] theorem State.setPort_straps (p : Nat) (x : Port) : (s.setPort p x).straps = s.straps := rfl
@[simp] theorem State.setPort_fuses (p : Nat) (x : Port) : (s.setPort p x).fuses = s.fuses := rfl
@[simp] theorem State.setPort_worldSeq (p : Nat) (x : Port) : (s.setPort p x).worldSeq = s.worldSeq := rfl
@[simp] theorem State.setPort_stack (p : Nat) (x : Port) : (s.setPort p x).stack = s.stack := rfl
@[simp] theorem State.setPort_panels (p : Nat) (x : Port) : (s.setPort p x).panels = s.panels := rfl
@[simp] theorem State.setPort_switches (p : Nat) (x : Port) : (s.setPort p x).switches = s.switches := rfl
@[simp] theorem State.setPort_frames (p : Nat) (x : Port) : (s.setPort p x).frames = s.frames := rfl
@[simp] theorem State.setPort_columns (p : Nat) (x : Port) : (s.setPort p x).columns = s.columns := rfl
@[simp] theorem State.setPort_ctx (p : Nat) (x : Port) : (s.setPort p x).ctx = s.ctx := rfl
@[simp] theorem State.setPort_ctxValid (p : Nat) (x : Port) : (s.setPort p x).ctxValid = s.ctxValid := rfl
@[simp] theorem State.setPort_ctxNext (p : Nat) (x : Port) : (s.setPort p x).ctxNext = s.ctxNext := rfl
@[simp] theorem State.setPort_gov (p : Nat) (x : Port) : (s.setPort p x).gov = s.gov := rfl
@[simp] theorem State.setPort_fray (p : Nat) (x : Port) : (s.setPort p x).fray = s.fray := rfl
@[simp] theorem State.setPort_bridleNs (p : Nat) (x : Port) : (s.setPort p x).bridleNs = s.bridleNs := rfl
@[simp] theorem State.setPort_srcSel (p : Nat) (x : Port) : (s.setPort p x).srcSel = s.srcSel := rfl
@[simp] theorem State.setPort_gotPrio (p : Nat) (x : Port) : (s.setPort p x).gotPrio = s.gotPrio := rfl
@[simp] theorem State.setPort_lastTgt (p : Nat) (x : Port) : (s.setPort p x).lastTgt = s.lastTgt := rfl
@[simp] theorem State.setPort_linkUp (p : Nat) (x : Port) : (s.setPort p x).linkUp = s.linkUp := rfl
@[simp] theorem State.setPort_fabPorts (p : Nat) (x : Port) : (s.setPort p x).fabPorts = s.fabPorts := rfl
@[simp] theorem State.setPort_warm (p : Nat) (x : Port) : (s.setPort p x).warm = s.warm := rfl
@[simp] theorem State.setPort_resets (p : Nat) (x : Port) : (s.setPort p x).resets = s.resets := rfl
@[simp] theorem State.setPort_banks (p : Nat) (x : Port) : (s.setPort p x).banks = s.banks := rfl
@[simp] theorem State.setPort_mem (p : Nat) (x : Port) : (s.setPort p x).mem = s.mem := rfl
@[simp] theorem State.setPort_crcDiff (p : Nat) (x : Port) : (s.setPort p x).crcDiff = s.crcDiff := rfl
@[simp] theorem State.setPort_initRunning (p : Nat) (x : Port) : (s.setPort p x).initRunning = s.initRunning := rfl
@[simp] theorem State.setPort_heldCtr (p : Nat) (x : Port) : (s.setPort p x).heldCtr = s.heldCtr := rfl
@[simp] theorem State.setPort_handover (p : Nat) (x : Port) : (s.setPort p x).handover = s.handover := rfl
@[simp] theorem State.setPort_repairs (p : Nat) (x : Port) : (s.setPort p x).repairs = s.repairs := rfl
@[simp] theorem State.setPort_ctxTestNext (p : Nat) (x : Port) : (s.setPort p x).ctxTestNext = s.ctxTestNext := rfl
@[simp] theorem State.setPort_gatesClosed (p : Nat) (x : Port) : (s.setPort p x).gatesClosed = s.gatesClosed := rfl
@[simp] theorem State.setPort_root337Was (p : Nat) (x : Port) : (s.setPort p x).root337Was = s.root337Was := rfl
@[simp] theorem State.setPort_lossGates (p : Nat) (x : Port) : (s.setPort p x).lossGates = s.lossGates := rfl
@[simp] theorem State.setPort_oldEdges (p : Nat) (x : Port) : (s.setPort p x).oldEdges = s.oldEdges := rfl
@[simp] theorem State.setPort_goSets (p : Nat) (x : Port) : (s.setPort p x).goSets = s.goSets := rfl
@[simp] theorem State.setPort_planeWait (p : Nat) (x : Port) : (s.setPort p x).planeWait = s.planeWait := rfl
@[simp] theorem State.setPort_planeNow (p : Nat) (x : Port) : (s.setPort p x).planeNow = s.planeNow := rfl
@[simp] theorem State.setPort_monGood (p : Nat) (x : Port) : (s.setPort p x).monGood = s.monGood := rfl
@[simp] theorem State.setPort_pins (p : Nat) (x : Port) : (s.setPort p x).pins = s.pins := rfl
@[simp] theorem State.setPort_halted (p : Nat) (x : Port) : (s.setPort p x).halted = s.halted := rfl
@[simp] theorem State.setPort_jtag (p : Nat) (x : Port) : (s.setPort p x).jtag = s.jtag := rfl
@[simp] theorem State.setPort_madcNext (p : Nat) (x : Port) : (s.setPort p x).madcNext = s.madcNext := rfl
@[simp] theorem State.setPort_tracks (p : Nat) (x : Port) : (s.setPort p x).tracks = s.tracks := rfl
@[simp] theorem State.setPort_bridle (p : Nat) (x : Port) : (s.setPort p x).bridle = s.bridle := rfl
@[simp] theorem State.setPort_firstCommit (p : Nat) (x : Port) : (s.setPort p x).firstCommit = s.firstCommit := rfl
@[simp] theorem State.setPort_rig (p : Nat) (x : Port) : (s.setPort p x).rig = s.rig := rfl
@[simp] theorem State.setPort_chans (p : Nat) (x : Port) : (s.setPort p x).chans = s.chans := rfl
@[simp] theorem State.setPort_engLast (p : Nat) (x : Port) : (s.setPort p x).engLast = s.engLast := rfl
@[simp] theorem State.setPort_store (p : Nat) (x : Port) : (s.setPort p x).store = s.store := rfl
@[simp] theorem State.setPort_jobs (p : Nat) (x : Port) : (s.setPort p x).jobs = s.jobs := rfl
@[simp] theorem State.setPort_jobAt (p : Nat) (x : Port) : (s.setPort p x).jobAt = s.jobAt := rfl
@[simp] theorem State.setPort_restored (p : Nat) (x : Port) : (s.setPort p x).restored = s.restored := rfl
@[simp] theorem State.setPort_vbat (p : Nat) (x : Port) : (s.setPort p x).vbat = s.vbat := rfl
@[simp] theorem State.setPort_lanes (p : Nat) (x : Port) : (s.setPort p x).lanes = s.lanes := rfl
@[simp] theorem State.setPort_kram (p : Nat) (x : Port) : (s.setPort p x).kram = s.kram := rfl
@[simp] theorem State.setPort_ramps (p : Nat) (x : Port) : (s.setPort p x).ramps = s.ramps := rfl
@[simp] theorem State.setPort_pf (p : Nat) (x : Port) : (s.setPort p x).pf = s.pf := rfl
@[simp] theorem State.setPort_load (p : Nat) (x : Port) : (s.setPort p x).load = s.load := rfl
@[simp] theorem State.setPort_perstLow (p : Nat) (x : Port) : (s.setPort p x).perstLow = s.perstLow := rfl
@[simp] theorem State.setPort_partPages (p : Nat) (x : Port) : (s.setPort p x).partPages = s.partPages := rfl

/-! ### `State.setFrame` -/

@[simp] theorem State.setFrame_pending (a : Nat) (f : Frame) : (s.setFrame a f).pending = s.pending := rfl
@[simp] theorem State.setFrame_ns (a : Nat) (f : Frame) : (s.setFrame a f).ns = s.ns := rfl
@[simp] theorem State.setFrame_powerGood (a : Nat) (f : Frame) : (s.setFrame a f).powerGood = s.powerGood := rfl
@[simp] theorem State.setFrame_regs (a : Nat) (f : Frame) : (s.setFrame a f).regs = s.regs := rfl
@[simp] theorem State.setFrame_freeCtr (a : Nat) (f : Frame) : (s.setFrame a f).freeCtr = s.freeCtr := rfl
@[simp] theorem State.setFrame_resp (a : Nat) (f : Frame) : (s.setFrame a f).resp = s.resp := rfl
@[simp] theorem State.setFrame_out (a : Nat) (f : Frame) : (s.setFrame a f).out = s.out := rfl
@[simp] theorem State.setFrame_straps (a : Nat) (f : Frame) : (s.setFrame a f).straps = s.straps := rfl
@[simp] theorem State.setFrame_fuses (a : Nat) (f : Frame) : (s.setFrame a f).fuses = s.fuses := rfl
@[simp] theorem State.setFrame_worldSeq (a : Nat) (f : Frame) : (s.setFrame a f).worldSeq = s.worldSeq := rfl
@[simp] theorem State.setFrame_stack (a : Nat) (f : Frame) : (s.setFrame a f).stack = s.stack := rfl
@[simp] theorem State.setFrame_panels (a : Nat) (f : Frame) : (s.setFrame a f).panels = s.panels := rfl
@[simp] theorem State.setFrame_switches (a : Nat) (f : Frame) : (s.setFrame a f).switches = s.switches := rfl
@[simp] theorem State.setFrame_columns (a : Nat) (f : Frame) : (s.setFrame a f).columns = s.columns := rfl
@[simp] theorem State.setFrame_ctx (a : Nat) (f : Frame) : (s.setFrame a f).ctx = s.ctx := rfl
@[simp] theorem State.setFrame_ctxValid (a : Nat) (f : Frame) : (s.setFrame a f).ctxValid = s.ctxValid := rfl
@[simp] theorem State.setFrame_ctxNext (a : Nat) (f : Frame) : (s.setFrame a f).ctxNext = s.ctxNext := rfl
@[simp] theorem State.setFrame_gov (a : Nat) (f : Frame) : (s.setFrame a f).gov = s.gov := rfl
@[simp] theorem State.setFrame_fray (a : Nat) (f : Frame) : (s.setFrame a f).fray = s.fray := rfl
@[simp] theorem State.setFrame_bridleNs (a : Nat) (f : Frame) : (s.setFrame a f).bridleNs = s.bridleNs := rfl
@[simp] theorem State.setFrame_srcSel (a : Nat) (f : Frame) : (s.setFrame a f).srcSel = s.srcSel := rfl
@[simp] theorem State.setFrame_gotPrio (a : Nat) (f : Frame) : (s.setFrame a f).gotPrio = s.gotPrio := rfl
@[simp] theorem State.setFrame_lastTgt (a : Nat) (f : Frame) : (s.setFrame a f).lastTgt = s.lastTgt := rfl
@[simp] theorem State.setFrame_linkUp (a : Nat) (f : Frame) : (s.setFrame a f).linkUp = s.linkUp := rfl
@[simp] theorem State.setFrame_fabPorts (a : Nat) (f : Frame) : (s.setFrame a f).fabPorts = s.fabPorts := rfl
@[simp] theorem State.setFrame_warm (a : Nat) (f : Frame) : (s.setFrame a f).warm = s.warm := rfl
@[simp] theorem State.setFrame_resets (a : Nat) (f : Frame) : (s.setFrame a f).resets = s.resets := rfl
@[simp] theorem State.setFrame_banks (a : Nat) (f : Frame) : (s.setFrame a f).banks = s.banks := rfl
@[simp] theorem State.setFrame_mem (a : Nat) (f : Frame) : (s.setFrame a f).mem = s.mem := rfl
@[simp] theorem State.setFrame_crcDiff (a : Nat) (f : Frame) : (s.setFrame a f).crcDiff = s.crcDiff := rfl
@[simp] theorem State.setFrame_initRunning (a : Nat) (f : Frame) : (s.setFrame a f).initRunning = s.initRunning := rfl
@[simp] theorem State.setFrame_heldCtr (a : Nat) (f : Frame) : (s.setFrame a f).heldCtr = s.heldCtr := rfl
@[simp] theorem State.setFrame_handover (a : Nat) (f : Frame) : (s.setFrame a f).handover = s.handover := rfl
@[simp] theorem State.setFrame_repairs (a : Nat) (f : Frame) : (s.setFrame a f).repairs = s.repairs := rfl
@[simp] theorem State.setFrame_ctxTestNext (a : Nat) (f : Frame) : (s.setFrame a f).ctxTestNext = s.ctxTestNext := rfl
@[simp] theorem State.setFrame_gatesClosed (a : Nat) (f : Frame) : (s.setFrame a f).gatesClosed = s.gatesClosed := rfl
@[simp] theorem State.setFrame_root337Was (a : Nat) (f : Frame) : (s.setFrame a f).root337Was = s.root337Was := rfl
@[simp] theorem State.setFrame_lossGates (a : Nat) (f : Frame) : (s.setFrame a f).lossGates = s.lossGates := rfl
@[simp] theorem State.setFrame_oldEdges (a : Nat) (f : Frame) : (s.setFrame a f).oldEdges = s.oldEdges := rfl
@[simp] theorem State.setFrame_goSets (a : Nat) (f : Frame) : (s.setFrame a f).goSets = s.goSets := rfl
@[simp] theorem State.setFrame_planeWait (a : Nat) (f : Frame) : (s.setFrame a f).planeWait = s.planeWait := rfl
@[simp] theorem State.setFrame_planeNow (a : Nat) (f : Frame) : (s.setFrame a f).planeNow = s.planeNow := rfl
@[simp] theorem State.setFrame_monGood (a : Nat) (f : Frame) : (s.setFrame a f).monGood = s.monGood := rfl
@[simp] theorem State.setFrame_pins (a : Nat) (f : Frame) : (s.setFrame a f).pins = s.pins := rfl
@[simp] theorem State.setFrame_halted (a : Nat) (f : Frame) : (s.setFrame a f).halted = s.halted := rfl
@[simp] theorem State.setFrame_jtag (a : Nat) (f : Frame) : (s.setFrame a f).jtag = s.jtag := rfl
@[simp] theorem State.setFrame_madcNext (a : Nat) (f : Frame) : (s.setFrame a f).madcNext = s.madcNext := rfl
@[simp] theorem State.setFrame_tracks (a : Nat) (f : Frame) : (s.setFrame a f).tracks = s.tracks := rfl
@[simp] theorem State.setFrame_bridle (a : Nat) (f : Frame) : (s.setFrame a f).bridle = s.bridle := rfl
@[simp] theorem State.setFrame_firstCommit (a : Nat) (f : Frame) : (s.setFrame a f).firstCommit = s.firstCommit := rfl
@[simp] theorem State.setFrame_rig (a : Nat) (f : Frame) : (s.setFrame a f).rig = s.rig := rfl
@[simp] theorem State.setFrame_chans (a : Nat) (f : Frame) : (s.setFrame a f).chans = s.chans := rfl
@[simp] theorem State.setFrame_engLast (a : Nat) (f : Frame) : (s.setFrame a f).engLast = s.engLast := rfl
@[simp] theorem State.setFrame_store (a : Nat) (f : Frame) : (s.setFrame a f).store = s.store := rfl
@[simp] theorem State.setFrame_jobs (a : Nat) (f : Frame) : (s.setFrame a f).jobs = s.jobs := rfl
@[simp] theorem State.setFrame_jobAt (a : Nat) (f : Frame) : (s.setFrame a f).jobAt = s.jobAt := rfl
@[simp] theorem State.setFrame_restored (a : Nat) (f : Frame) : (s.setFrame a f).restored = s.restored := rfl
@[simp] theorem State.setFrame_vbat (a : Nat) (f : Frame) : (s.setFrame a f).vbat = s.vbat := rfl
@[simp] theorem State.setFrame_lanes (a : Nat) (f : Frame) : (s.setFrame a f).lanes = s.lanes := rfl
@[simp] theorem State.setFrame_ports (a : Nat) (f : Frame) : (s.setFrame a f).ports = s.ports := rfl
@[simp] theorem State.setFrame_kram (a : Nat) (f : Frame) : (s.setFrame a f).kram = s.kram := rfl
@[simp] theorem State.setFrame_ramps (a : Nat) (f : Frame) : (s.setFrame a f).ramps = s.ramps := rfl
@[simp] theorem State.setFrame_pf (a : Nat) (f : Frame) : (s.setFrame a f).pf = s.pf := rfl
@[simp] theorem State.setFrame_load (a : Nat) (f : Frame) : (s.setFrame a f).load = s.load := rfl
@[simp] theorem State.setFrame_perstLow (a : Nat) (f : Frame) : (s.setFrame a f).perstLow = s.perstLow := rfl
@[simp] theorem State.setFrame_partPages (a : Nat) (f : Frame) : (s.setFrame a f).partPages = s.partPages := rfl

/-! ### `State.setRsBuf` -/

@[simp] theorem State.setRsBuf_pending (i b : Nat) (x : RsBuf) : (s.setRsBuf i b x).pending = s.pending := rfl
@[simp] theorem State.setRsBuf_ns (i b : Nat) (x : RsBuf) : (s.setRsBuf i b x).ns = s.ns := rfl
@[simp] theorem State.setRsBuf_powerGood (i b : Nat) (x : RsBuf) : (s.setRsBuf i b x).powerGood = s.powerGood := rfl
@[simp] theorem State.setRsBuf_regs (i b : Nat) (x : RsBuf) : (s.setRsBuf i b x).regs = s.regs := rfl
@[simp] theorem State.setRsBuf_freeCtr (i b : Nat) (x : RsBuf) : (s.setRsBuf i b x).freeCtr = s.freeCtr := rfl
@[simp] theorem State.setRsBuf_resp (i b : Nat) (x : RsBuf) : (s.setRsBuf i b x).resp = s.resp := rfl
@[simp] theorem State.setRsBuf_out (i b : Nat) (x : RsBuf) : (s.setRsBuf i b x).out = s.out := rfl
@[simp] theorem State.setRsBuf_straps (i b : Nat) (x : RsBuf) : (s.setRsBuf i b x).straps = s.straps := rfl
@[simp] theorem State.setRsBuf_fuses (i b : Nat) (x : RsBuf) : (s.setRsBuf i b x).fuses = s.fuses := rfl
@[simp] theorem State.setRsBuf_worldSeq (i b : Nat) (x : RsBuf) : (s.setRsBuf i b x).worldSeq = s.worldSeq := rfl
@[simp] theorem State.setRsBuf_stack (i b : Nat) (x : RsBuf) : (s.setRsBuf i b x).stack = s.stack := rfl
@[simp] theorem State.setRsBuf_panels (i b : Nat) (x : RsBuf) : (s.setRsBuf i b x).panels = s.panels := rfl
@[simp] theorem State.setRsBuf_switches (i b : Nat) (x : RsBuf) : (s.setRsBuf i b x).switches = s.switches := rfl
@[simp] theorem State.setRsBuf_frames (i b : Nat) (x : RsBuf) : (s.setRsBuf i b x).frames = s.frames := rfl
@[simp] theorem State.setRsBuf_columns (i b : Nat) (x : RsBuf) : (s.setRsBuf i b x).columns = s.columns := rfl
@[simp] theorem State.setRsBuf_ctx (i b : Nat) (x : RsBuf) : (s.setRsBuf i b x).ctx = s.ctx := rfl
@[simp] theorem State.setRsBuf_ctxValid (i b : Nat) (x : RsBuf) : (s.setRsBuf i b x).ctxValid = s.ctxValid := rfl
@[simp] theorem State.setRsBuf_ctxNext (i b : Nat) (x : RsBuf) : (s.setRsBuf i b x).ctxNext = s.ctxNext := rfl
@[simp] theorem State.setRsBuf_gov (i b : Nat) (x : RsBuf) : (s.setRsBuf i b x).gov = s.gov := rfl
@[simp] theorem State.setRsBuf_fray (i b : Nat) (x : RsBuf) : (s.setRsBuf i b x).fray = s.fray := rfl
@[simp] theorem State.setRsBuf_bridleNs (i b : Nat) (x : RsBuf) : (s.setRsBuf i b x).bridleNs = s.bridleNs := rfl
@[simp] theorem State.setRsBuf_srcSel (i b : Nat) (x : RsBuf) : (s.setRsBuf i b x).srcSel = s.srcSel := rfl
@[simp] theorem State.setRsBuf_gotPrio (i b : Nat) (x : RsBuf) : (s.setRsBuf i b x).gotPrio = s.gotPrio := rfl
@[simp] theorem State.setRsBuf_lastTgt (i b : Nat) (x : RsBuf) : (s.setRsBuf i b x).lastTgt = s.lastTgt := rfl
@[simp] theorem State.setRsBuf_linkUp (i b : Nat) (x : RsBuf) : (s.setRsBuf i b x).linkUp = s.linkUp := rfl
@[simp] theorem State.setRsBuf_fabPorts (i b : Nat) (x : RsBuf) : (s.setRsBuf i b x).fabPorts = s.fabPorts := rfl
@[simp] theorem State.setRsBuf_warm (i b : Nat) (x : RsBuf) : (s.setRsBuf i b x).warm = s.warm := rfl
@[simp] theorem State.setRsBuf_resets (i b : Nat) (x : RsBuf) : (s.setRsBuf i b x).resets = s.resets := rfl
@[simp] theorem State.setRsBuf_banks (i b : Nat) (x : RsBuf) : (s.setRsBuf i b x).banks = s.banks := rfl
@[simp] theorem State.setRsBuf_mem (i b : Nat) (x : RsBuf) : (s.setRsBuf i b x).mem = s.mem := rfl
@[simp] theorem State.setRsBuf_crcDiff (i b : Nat) (x : RsBuf) : (s.setRsBuf i b x).crcDiff = s.crcDiff := rfl
@[simp] theorem State.setRsBuf_initRunning (i b : Nat) (x : RsBuf) : (s.setRsBuf i b x).initRunning = s.initRunning := rfl
@[simp] theorem State.setRsBuf_heldCtr (i b : Nat) (x : RsBuf) : (s.setRsBuf i b x).heldCtr = s.heldCtr := rfl
@[simp] theorem State.setRsBuf_handover (i b : Nat) (x : RsBuf) : (s.setRsBuf i b x).handover = s.handover := rfl
@[simp] theorem State.setRsBuf_repairs (i b : Nat) (x : RsBuf) : (s.setRsBuf i b x).repairs = s.repairs := rfl
@[simp] theorem State.setRsBuf_ctxTestNext (i b : Nat) (x : RsBuf) : (s.setRsBuf i b x).ctxTestNext = s.ctxTestNext := rfl
@[simp] theorem State.setRsBuf_gatesClosed (i b : Nat) (x : RsBuf) : (s.setRsBuf i b x).gatesClosed = s.gatesClosed := rfl
@[simp] theorem State.setRsBuf_root337Was (i b : Nat) (x : RsBuf) : (s.setRsBuf i b x).root337Was = s.root337Was := rfl
@[simp] theorem State.setRsBuf_lossGates (i b : Nat) (x : RsBuf) : (s.setRsBuf i b x).lossGates = s.lossGates := rfl
@[simp] theorem State.setRsBuf_oldEdges (i b : Nat) (x : RsBuf) : (s.setRsBuf i b x).oldEdges = s.oldEdges := rfl
@[simp] theorem State.setRsBuf_goSets (i b : Nat) (x : RsBuf) : (s.setRsBuf i b x).goSets = s.goSets := rfl
@[simp] theorem State.setRsBuf_planeWait (i b : Nat) (x : RsBuf) : (s.setRsBuf i b x).planeWait = s.planeWait := rfl
@[simp] theorem State.setRsBuf_planeNow (i b : Nat) (x : RsBuf) : (s.setRsBuf i b x).planeNow = s.planeNow := rfl
@[simp] theorem State.setRsBuf_monGood (i b : Nat) (x : RsBuf) : (s.setRsBuf i b x).monGood = s.monGood := rfl
@[simp] theorem State.setRsBuf_pins (i b : Nat) (x : RsBuf) : (s.setRsBuf i b x).pins = s.pins := rfl
@[simp] theorem State.setRsBuf_halted (i b : Nat) (x : RsBuf) : (s.setRsBuf i b x).halted = s.halted := rfl
@[simp] theorem State.setRsBuf_jtag (i b : Nat) (x : RsBuf) : (s.setRsBuf i b x).jtag = s.jtag := rfl
@[simp] theorem State.setRsBuf_madcNext (i b : Nat) (x : RsBuf) : (s.setRsBuf i b x).madcNext = s.madcNext := rfl
@[simp] theorem State.setRsBuf_tracks (i b : Nat) (x : RsBuf) : (s.setRsBuf i b x).tracks = s.tracks := rfl
@[simp] theorem State.setRsBuf_bridle (i b : Nat) (x : RsBuf) : (s.setRsBuf i b x).bridle = s.bridle := rfl
@[simp] theorem State.setRsBuf_firstCommit (i b : Nat) (x : RsBuf) : (s.setRsBuf i b x).firstCommit = s.firstCommit := rfl
@[simp] theorem State.setRsBuf_rig (i b : Nat) (x : RsBuf) : (s.setRsBuf i b x).rig = s.rig := rfl
@[simp] theorem State.setRsBuf_chans (i b : Nat) (x : RsBuf) : (s.setRsBuf i b x).chans = s.chans := rfl
@[simp] theorem State.setRsBuf_engLast (i b : Nat) (x : RsBuf) : (s.setRsBuf i b x).engLast = s.engLast := rfl
@[simp] theorem State.setRsBuf_jobs (i b : Nat) (x : RsBuf) : (s.setRsBuf i b x).jobs = s.jobs := rfl
@[simp] theorem State.setRsBuf_jobAt (i b : Nat) (x : RsBuf) : (s.setRsBuf i b x).jobAt = s.jobAt := rfl
@[simp] theorem State.setRsBuf_restored (i b : Nat) (x : RsBuf) : (s.setRsBuf i b x).restored = s.restored := rfl
@[simp] theorem State.setRsBuf_vbat (i b : Nat) (x : RsBuf) : (s.setRsBuf i b x).vbat = s.vbat := rfl
@[simp] theorem State.setRsBuf_lanes (i b : Nat) (x : RsBuf) : (s.setRsBuf i b x).lanes = s.lanes := rfl
@[simp] theorem State.setRsBuf_ports (i b : Nat) (x : RsBuf) : (s.setRsBuf i b x).ports = s.ports := rfl
@[simp] theorem State.setRsBuf_kram (i b : Nat) (x : RsBuf) : (s.setRsBuf i b x).kram = s.kram := rfl
@[simp] theorem State.setRsBuf_ramps (i b : Nat) (x : RsBuf) : (s.setRsBuf i b x).ramps = s.ramps := rfl
@[simp] theorem State.setRsBuf_pf (i b : Nat) (x : RsBuf) : (s.setRsBuf i b x).pf = s.pf := rfl
@[simp] theorem State.setRsBuf_load (i b : Nat) (x : RsBuf) : (s.setRsBuf i b x).load = s.load := rfl
@[simp] theorem State.setRsBuf_perstLow (i b : Nat) (x : RsBuf) : (s.setRsBuf i b x).perstLow = s.perstLow := rfl
@[simp] theorem State.setRsBuf_partPages (i b : Nat) (x : RsBuf) : (s.setRsBuf i b x).partPages = s.partPages := rfl

/-! ### `State.setChan` -/

@[simp] theorem State.setChan_pending (ch : Nat) (x : Chan) : (s.setChan ch x).pending = s.pending := rfl
@[simp] theorem State.setChan_ns (ch : Nat) (x : Chan) : (s.setChan ch x).ns = s.ns := rfl
@[simp] theorem State.setChan_powerGood (ch : Nat) (x : Chan) : (s.setChan ch x).powerGood = s.powerGood := rfl
@[simp] theorem State.setChan_regs (ch : Nat) (x : Chan) : (s.setChan ch x).regs = s.regs := rfl
@[simp] theorem State.setChan_freeCtr (ch : Nat) (x : Chan) : (s.setChan ch x).freeCtr = s.freeCtr := rfl
@[simp] theorem State.setChan_resp (ch : Nat) (x : Chan) : (s.setChan ch x).resp = s.resp := rfl
@[simp] theorem State.setChan_out (ch : Nat) (x : Chan) : (s.setChan ch x).out = s.out := rfl
@[simp] theorem State.setChan_straps (ch : Nat) (x : Chan) : (s.setChan ch x).straps = s.straps := rfl
@[simp] theorem State.setChan_fuses (ch : Nat) (x : Chan) : (s.setChan ch x).fuses = s.fuses := rfl
@[simp] theorem State.setChan_worldSeq (ch : Nat) (x : Chan) : (s.setChan ch x).worldSeq = s.worldSeq := rfl
@[simp] theorem State.setChan_stack (ch : Nat) (x : Chan) : (s.setChan ch x).stack = s.stack := rfl
@[simp] theorem State.setChan_panels (ch : Nat) (x : Chan) : (s.setChan ch x).panels = s.panels := rfl
@[simp] theorem State.setChan_switches (ch : Nat) (x : Chan) : (s.setChan ch x).switches = s.switches := rfl
@[simp] theorem State.setChan_frames (ch : Nat) (x : Chan) : (s.setChan ch x).frames = s.frames := rfl
@[simp] theorem State.setChan_columns (ch : Nat) (x : Chan) : (s.setChan ch x).columns = s.columns := rfl
@[simp] theorem State.setChan_ctx (ch : Nat) (x : Chan) : (s.setChan ch x).ctx = s.ctx := rfl
@[simp] theorem State.setChan_ctxValid (ch : Nat) (x : Chan) : (s.setChan ch x).ctxValid = s.ctxValid := rfl
@[simp] theorem State.setChan_ctxNext (ch : Nat) (x : Chan) : (s.setChan ch x).ctxNext = s.ctxNext := rfl
@[simp] theorem State.setChan_gov (ch : Nat) (x : Chan) : (s.setChan ch x).gov = s.gov := rfl
@[simp] theorem State.setChan_fray (ch : Nat) (x : Chan) : (s.setChan ch x).fray = s.fray := rfl
@[simp] theorem State.setChan_bridleNs (ch : Nat) (x : Chan) : (s.setChan ch x).bridleNs = s.bridleNs := rfl
@[simp] theorem State.setChan_srcSel (ch : Nat) (x : Chan) : (s.setChan ch x).srcSel = s.srcSel := rfl
@[simp] theorem State.setChan_gotPrio (ch : Nat) (x : Chan) : (s.setChan ch x).gotPrio = s.gotPrio := rfl
@[simp] theorem State.setChan_lastTgt (ch : Nat) (x : Chan) : (s.setChan ch x).lastTgt = s.lastTgt := rfl
@[simp] theorem State.setChan_linkUp (ch : Nat) (x : Chan) : (s.setChan ch x).linkUp = s.linkUp := rfl
@[simp] theorem State.setChan_fabPorts (ch : Nat) (x : Chan) : (s.setChan ch x).fabPorts = s.fabPorts := rfl
@[simp] theorem State.setChan_warm (ch : Nat) (x : Chan) : (s.setChan ch x).warm = s.warm := rfl
@[simp] theorem State.setChan_resets (ch : Nat) (x : Chan) : (s.setChan ch x).resets = s.resets := rfl
@[simp] theorem State.setChan_banks (ch : Nat) (x : Chan) : (s.setChan ch x).banks = s.banks := rfl
@[simp] theorem State.setChan_mem (ch : Nat) (x : Chan) : (s.setChan ch x).mem = s.mem := rfl
@[simp] theorem State.setChan_crcDiff (ch : Nat) (x : Chan) : (s.setChan ch x).crcDiff = s.crcDiff := rfl
@[simp] theorem State.setChan_initRunning (ch : Nat) (x : Chan) : (s.setChan ch x).initRunning = s.initRunning := rfl
@[simp] theorem State.setChan_heldCtr (ch : Nat) (x : Chan) : (s.setChan ch x).heldCtr = s.heldCtr := rfl
@[simp] theorem State.setChan_handover (ch : Nat) (x : Chan) : (s.setChan ch x).handover = s.handover := rfl
@[simp] theorem State.setChan_repairs (ch : Nat) (x : Chan) : (s.setChan ch x).repairs = s.repairs := rfl
@[simp] theorem State.setChan_ctxTestNext (ch : Nat) (x : Chan) : (s.setChan ch x).ctxTestNext = s.ctxTestNext := rfl
@[simp] theorem State.setChan_gatesClosed (ch : Nat) (x : Chan) : (s.setChan ch x).gatesClosed = s.gatesClosed := rfl
@[simp] theorem State.setChan_root337Was (ch : Nat) (x : Chan) : (s.setChan ch x).root337Was = s.root337Was := rfl
@[simp] theorem State.setChan_lossGates (ch : Nat) (x : Chan) : (s.setChan ch x).lossGates = s.lossGates := rfl
@[simp] theorem State.setChan_oldEdges (ch : Nat) (x : Chan) : (s.setChan ch x).oldEdges = s.oldEdges := rfl
@[simp] theorem State.setChan_goSets (ch : Nat) (x : Chan) : (s.setChan ch x).goSets = s.goSets := rfl
@[simp] theorem State.setChan_planeWait (ch : Nat) (x : Chan) : (s.setChan ch x).planeWait = s.planeWait := rfl
@[simp] theorem State.setChan_planeNow (ch : Nat) (x : Chan) : (s.setChan ch x).planeNow = s.planeNow := rfl
@[simp] theorem State.setChan_monGood (ch : Nat) (x : Chan) : (s.setChan ch x).monGood = s.monGood := rfl
@[simp] theorem State.setChan_pins (ch : Nat) (x : Chan) : (s.setChan ch x).pins = s.pins := rfl
@[simp] theorem State.setChan_halted (ch : Nat) (x : Chan) : (s.setChan ch x).halted = s.halted := rfl
@[simp] theorem State.setChan_jtag (ch : Nat) (x : Chan) : (s.setChan ch x).jtag = s.jtag := rfl
@[simp] theorem State.setChan_madcNext (ch : Nat) (x : Chan) : (s.setChan ch x).madcNext = s.madcNext := rfl
@[simp] theorem State.setChan_tracks (ch : Nat) (x : Chan) : (s.setChan ch x).tracks = s.tracks := rfl
@[simp] theorem State.setChan_bridle (ch : Nat) (x : Chan) : (s.setChan ch x).bridle = s.bridle := rfl
@[simp] theorem State.setChan_firstCommit (ch : Nat) (x : Chan) : (s.setChan ch x).firstCommit = s.firstCommit := rfl
@[simp] theorem State.setChan_rig (ch : Nat) (x : Chan) : (s.setChan ch x).rig = s.rig := rfl
@[simp] theorem State.setChan_engLast (ch : Nat) (x : Chan) : (s.setChan ch x).engLast = s.engLast := rfl
@[simp] theorem State.setChan_store (ch : Nat) (x : Chan) : (s.setChan ch x).store = s.store := rfl
@[simp] theorem State.setChan_jobs (ch : Nat) (x : Chan) : (s.setChan ch x).jobs = s.jobs := rfl
@[simp] theorem State.setChan_jobAt (ch : Nat) (x : Chan) : (s.setChan ch x).jobAt = s.jobAt := rfl
@[simp] theorem State.setChan_restored (ch : Nat) (x : Chan) : (s.setChan ch x).restored = s.restored := rfl
@[simp] theorem State.setChan_vbat (ch : Nat) (x : Chan) : (s.setChan ch x).vbat = s.vbat := rfl
@[simp] theorem State.setChan_lanes (ch : Nat) (x : Chan) : (s.setChan ch x).lanes = s.lanes := rfl
@[simp] theorem State.setChan_ports (ch : Nat) (x : Chan) : (s.setChan ch x).ports = s.ports := rfl
@[simp] theorem State.setChan_kram (ch : Nat) (x : Chan) : (s.setChan ch x).kram = s.kram := rfl
@[simp] theorem State.setChan_ramps (ch : Nat) (x : Chan) : (s.setChan ch x).ramps = s.ramps := rfl
@[simp] theorem State.setChan_pf (ch : Nat) (x : Chan) : (s.setChan ch x).pf = s.pf := rfl
@[simp] theorem State.setChan_load (ch : Nat) (x : Chan) : (s.setChan ch x).load = s.load := rfl
@[simp] theorem State.setChan_perstLow (ch : Nat) (x : Chan) : (s.setChan ch x).perstLow = s.perstLow := rfl
@[simp] theorem State.setChan_partPages (ch : Nat) (x : Chan) : (s.setChan ch x).partPages = s.partPages := rfl

/-! ### `State.setCtxRow` -/

@[simp] theorem State.setCtxRow_pending (c i r : Nat) (x : CtxRow) : (s.setCtxRow c i r x).pending = s.pending := rfl
@[simp] theorem State.setCtxRow_ns (c i r : Nat) (x : CtxRow) : (s.setCtxRow c i r x).ns = s.ns := rfl
@[simp] theorem State.setCtxRow_powerGood (c i r : Nat) (x : CtxRow) : (s.setCtxRow c i r x).powerGood = s.powerGood := rfl
@[simp] theorem State.setCtxRow_regs (c i r : Nat) (x : CtxRow) : (s.setCtxRow c i r x).regs = s.regs := rfl
@[simp] theorem State.setCtxRow_freeCtr (c i r : Nat) (x : CtxRow) : (s.setCtxRow c i r x).freeCtr = s.freeCtr := rfl
@[simp] theorem State.setCtxRow_resp (c i r : Nat) (x : CtxRow) : (s.setCtxRow c i r x).resp = s.resp := rfl
@[simp] theorem State.setCtxRow_out (c i r : Nat) (x : CtxRow) : (s.setCtxRow c i r x).out = s.out := rfl
@[simp] theorem State.setCtxRow_straps (c i r : Nat) (x : CtxRow) : (s.setCtxRow c i r x).straps = s.straps := rfl
@[simp] theorem State.setCtxRow_fuses (c i r : Nat) (x : CtxRow) : (s.setCtxRow c i r x).fuses = s.fuses := rfl
@[simp] theorem State.setCtxRow_worldSeq (c i r : Nat) (x : CtxRow) : (s.setCtxRow c i r x).worldSeq = s.worldSeq := rfl
@[simp] theorem State.setCtxRow_stack (c i r : Nat) (x : CtxRow) : (s.setCtxRow c i r x).stack = s.stack := rfl
@[simp] theorem State.setCtxRow_panels (c i r : Nat) (x : CtxRow) : (s.setCtxRow c i r x).panels = s.panels := rfl
@[simp] theorem State.setCtxRow_switches (c i r : Nat) (x : CtxRow) : (s.setCtxRow c i r x).switches = s.switches := rfl
@[simp] theorem State.setCtxRow_frames (c i r : Nat) (x : CtxRow) : (s.setCtxRow c i r x).frames = s.frames := rfl
@[simp] theorem State.setCtxRow_columns (c i r : Nat) (x : CtxRow) : (s.setCtxRow c i r x).columns = s.columns := rfl
@[simp] theorem State.setCtxRow_ctxValid (c i r : Nat) (x : CtxRow) : (s.setCtxRow c i r x).ctxValid = s.ctxValid := rfl
@[simp] theorem State.setCtxRow_ctxNext (c i r : Nat) (x : CtxRow) : (s.setCtxRow c i r x).ctxNext = s.ctxNext := rfl
@[simp] theorem State.setCtxRow_gov (c i r : Nat) (x : CtxRow) : (s.setCtxRow c i r x).gov = s.gov := rfl
@[simp] theorem State.setCtxRow_fray (c i r : Nat) (x : CtxRow) : (s.setCtxRow c i r x).fray = s.fray := rfl
@[simp] theorem State.setCtxRow_bridleNs (c i r : Nat) (x : CtxRow) : (s.setCtxRow c i r x).bridleNs = s.bridleNs := rfl
@[simp] theorem State.setCtxRow_srcSel (c i r : Nat) (x : CtxRow) : (s.setCtxRow c i r x).srcSel = s.srcSel := rfl
@[simp] theorem State.setCtxRow_gotPrio (c i r : Nat) (x : CtxRow) : (s.setCtxRow c i r x).gotPrio = s.gotPrio := rfl
@[simp] theorem State.setCtxRow_lastTgt (c i r : Nat) (x : CtxRow) : (s.setCtxRow c i r x).lastTgt = s.lastTgt := rfl
@[simp] theorem State.setCtxRow_linkUp (c i r : Nat) (x : CtxRow) : (s.setCtxRow c i r x).linkUp = s.linkUp := rfl
@[simp] theorem State.setCtxRow_fabPorts (c i r : Nat) (x : CtxRow) : (s.setCtxRow c i r x).fabPorts = s.fabPorts := rfl
@[simp] theorem State.setCtxRow_warm (c i r : Nat) (x : CtxRow) : (s.setCtxRow c i r x).warm = s.warm := rfl
@[simp] theorem State.setCtxRow_resets (c i r : Nat) (x : CtxRow) : (s.setCtxRow c i r x).resets = s.resets := rfl
@[simp] theorem State.setCtxRow_banks (c i r : Nat) (x : CtxRow) : (s.setCtxRow c i r x).banks = s.banks := rfl
@[simp] theorem State.setCtxRow_mem (c i r : Nat) (x : CtxRow) : (s.setCtxRow c i r x).mem = s.mem := rfl
@[simp] theorem State.setCtxRow_crcDiff (c i r : Nat) (x : CtxRow) : (s.setCtxRow c i r x).crcDiff = s.crcDiff := rfl
@[simp] theorem State.setCtxRow_initRunning (c i r : Nat) (x : CtxRow) : (s.setCtxRow c i r x).initRunning = s.initRunning := rfl
@[simp] theorem State.setCtxRow_heldCtr (c i r : Nat) (x : CtxRow) : (s.setCtxRow c i r x).heldCtr = s.heldCtr := rfl
@[simp] theorem State.setCtxRow_handover (c i r : Nat) (x : CtxRow) : (s.setCtxRow c i r x).handover = s.handover := rfl
@[simp] theorem State.setCtxRow_repairs (c i r : Nat) (x : CtxRow) : (s.setCtxRow c i r x).repairs = s.repairs := rfl
@[simp] theorem State.setCtxRow_ctxTestNext (c i r : Nat) (x : CtxRow) : (s.setCtxRow c i r x).ctxTestNext = s.ctxTestNext := rfl
@[simp] theorem State.setCtxRow_gatesClosed (c i r : Nat) (x : CtxRow) : (s.setCtxRow c i r x).gatesClosed = s.gatesClosed := rfl
@[simp] theorem State.setCtxRow_root337Was (c i r : Nat) (x : CtxRow) : (s.setCtxRow c i r x).root337Was = s.root337Was := rfl
@[simp] theorem State.setCtxRow_lossGates (c i r : Nat) (x : CtxRow) : (s.setCtxRow c i r x).lossGates = s.lossGates := rfl
@[simp] theorem State.setCtxRow_oldEdges (c i r : Nat) (x : CtxRow) : (s.setCtxRow c i r x).oldEdges = s.oldEdges := rfl
@[simp] theorem State.setCtxRow_goSets (c i r : Nat) (x : CtxRow) : (s.setCtxRow c i r x).goSets = s.goSets := rfl
@[simp] theorem State.setCtxRow_planeWait (c i r : Nat) (x : CtxRow) : (s.setCtxRow c i r x).planeWait = s.planeWait := rfl
@[simp] theorem State.setCtxRow_planeNow (c i r : Nat) (x : CtxRow) : (s.setCtxRow c i r x).planeNow = s.planeNow := rfl
@[simp] theorem State.setCtxRow_monGood (c i r : Nat) (x : CtxRow) : (s.setCtxRow c i r x).monGood = s.monGood := rfl
@[simp] theorem State.setCtxRow_pins (c i r : Nat) (x : CtxRow) : (s.setCtxRow c i r x).pins = s.pins := rfl
@[simp] theorem State.setCtxRow_halted (c i r : Nat) (x : CtxRow) : (s.setCtxRow c i r x).halted = s.halted := rfl
@[simp] theorem State.setCtxRow_jtag (c i r : Nat) (x : CtxRow) : (s.setCtxRow c i r x).jtag = s.jtag := rfl
@[simp] theorem State.setCtxRow_madcNext (c i r : Nat) (x : CtxRow) : (s.setCtxRow c i r x).madcNext = s.madcNext := rfl
@[simp] theorem State.setCtxRow_tracks (c i r : Nat) (x : CtxRow) : (s.setCtxRow c i r x).tracks = s.tracks := rfl
@[simp] theorem State.setCtxRow_bridle (c i r : Nat) (x : CtxRow) : (s.setCtxRow c i r x).bridle = s.bridle := rfl
@[simp] theorem State.setCtxRow_firstCommit (c i r : Nat) (x : CtxRow) : (s.setCtxRow c i r x).firstCommit = s.firstCommit := rfl
@[simp] theorem State.setCtxRow_rig (c i r : Nat) (x : CtxRow) : (s.setCtxRow c i r x).rig = s.rig := rfl
@[simp] theorem State.setCtxRow_chans (c i r : Nat) (x : CtxRow) : (s.setCtxRow c i r x).chans = s.chans := rfl
@[simp] theorem State.setCtxRow_engLast (c i r : Nat) (x : CtxRow) : (s.setCtxRow c i r x).engLast = s.engLast := rfl
@[simp] theorem State.setCtxRow_store (c i r : Nat) (x : CtxRow) : (s.setCtxRow c i r x).store = s.store := rfl
@[simp] theorem State.setCtxRow_jobs (c i r : Nat) (x : CtxRow) : (s.setCtxRow c i r x).jobs = s.jobs := rfl
@[simp] theorem State.setCtxRow_jobAt (c i r : Nat) (x : CtxRow) : (s.setCtxRow c i r x).jobAt = s.jobAt := rfl
@[simp] theorem State.setCtxRow_restored (c i r : Nat) (x : CtxRow) : (s.setCtxRow c i r x).restored = s.restored := rfl
@[simp] theorem State.setCtxRow_vbat (c i r : Nat) (x : CtxRow) : (s.setCtxRow c i r x).vbat = s.vbat := rfl
@[simp] theorem State.setCtxRow_lanes (c i r : Nat) (x : CtxRow) : (s.setCtxRow c i r x).lanes = s.lanes := rfl
@[simp] theorem State.setCtxRow_ports (c i r : Nat) (x : CtxRow) : (s.setCtxRow c i r x).ports = s.ports := rfl
@[simp] theorem State.setCtxRow_kram (c i r : Nat) (x : CtxRow) : (s.setCtxRow c i r x).kram = s.kram := rfl
@[simp] theorem State.setCtxRow_ramps (c i r : Nat) (x : CtxRow) : (s.setCtxRow c i r x).ramps = s.ramps := rfl
@[simp] theorem State.setCtxRow_pf (c i r : Nat) (x : CtxRow) : (s.setCtxRow c i r x).pf = s.pf := rfl
@[simp] theorem State.setCtxRow_load (c i r : Nat) (x : CtxRow) : (s.setCtxRow c i r x).load = s.load := rfl
@[simp] theorem State.setCtxRow_perstLow (c i r : Nat) (x : CtxRow) : (s.setCtxRow c i r x).perstLow = s.perstLow := rfl
@[simp] theorem State.setCtxRow_partPages (c i r : Nat) (x : CtxRow) : (s.setCtxRow c i r x).partPages = s.partPages := rfl

/-! ### `State.setFrayCol` -/

@[simp] theorem State.setFrayCol_pending (c : Nat) (x : FrayCol) : (s.setFrayCol c x).pending = s.pending := rfl
@[simp] theorem State.setFrayCol_ns (c : Nat) (x : FrayCol) : (s.setFrayCol c x).ns = s.ns := rfl
@[simp] theorem State.setFrayCol_powerGood (c : Nat) (x : FrayCol) : (s.setFrayCol c x).powerGood = s.powerGood := rfl
@[simp] theorem State.setFrayCol_regs (c : Nat) (x : FrayCol) : (s.setFrayCol c x).regs = s.regs := rfl
@[simp] theorem State.setFrayCol_freeCtr (c : Nat) (x : FrayCol) : (s.setFrayCol c x).freeCtr = s.freeCtr := rfl
@[simp] theorem State.setFrayCol_resp (c : Nat) (x : FrayCol) : (s.setFrayCol c x).resp = s.resp := rfl
@[simp] theorem State.setFrayCol_out (c : Nat) (x : FrayCol) : (s.setFrayCol c x).out = s.out := rfl
@[simp] theorem State.setFrayCol_straps (c : Nat) (x : FrayCol) : (s.setFrayCol c x).straps = s.straps := rfl
@[simp] theorem State.setFrayCol_fuses (c : Nat) (x : FrayCol) : (s.setFrayCol c x).fuses = s.fuses := rfl
@[simp] theorem State.setFrayCol_worldSeq (c : Nat) (x : FrayCol) : (s.setFrayCol c x).worldSeq = s.worldSeq := rfl
@[simp] theorem State.setFrayCol_stack (c : Nat) (x : FrayCol) : (s.setFrayCol c x).stack = s.stack := rfl
@[simp] theorem State.setFrayCol_panels (c : Nat) (x : FrayCol) : (s.setFrayCol c x).panels = s.panels := rfl
@[simp] theorem State.setFrayCol_switches (c : Nat) (x : FrayCol) : (s.setFrayCol c x).switches = s.switches := rfl
@[simp] theorem State.setFrayCol_frames (c : Nat) (x : FrayCol) : (s.setFrayCol c x).frames = s.frames := rfl
@[simp] theorem State.setFrayCol_columns (c : Nat) (x : FrayCol) : (s.setFrayCol c x).columns = s.columns := rfl
@[simp] theorem State.setFrayCol_ctx (c : Nat) (x : FrayCol) : (s.setFrayCol c x).ctx = s.ctx := rfl
@[simp] theorem State.setFrayCol_ctxValid (c : Nat) (x : FrayCol) : (s.setFrayCol c x).ctxValid = s.ctxValid := rfl
@[simp] theorem State.setFrayCol_ctxNext (c : Nat) (x : FrayCol) : (s.setFrayCol c x).ctxNext = s.ctxNext := rfl
@[simp] theorem State.setFrayCol_gov (c : Nat) (x : FrayCol) : (s.setFrayCol c x).gov = s.gov := rfl
@[simp] theorem State.setFrayCol_bridleNs (c : Nat) (x : FrayCol) : (s.setFrayCol c x).bridleNs = s.bridleNs := rfl
@[simp] theorem State.setFrayCol_srcSel (c : Nat) (x : FrayCol) : (s.setFrayCol c x).srcSel = s.srcSel := rfl
@[simp] theorem State.setFrayCol_gotPrio (c : Nat) (x : FrayCol) : (s.setFrayCol c x).gotPrio = s.gotPrio := rfl
@[simp] theorem State.setFrayCol_lastTgt (c : Nat) (x : FrayCol) : (s.setFrayCol c x).lastTgt = s.lastTgt := rfl
@[simp] theorem State.setFrayCol_linkUp (c : Nat) (x : FrayCol) : (s.setFrayCol c x).linkUp = s.linkUp := rfl
@[simp] theorem State.setFrayCol_fabPorts (c : Nat) (x : FrayCol) : (s.setFrayCol c x).fabPorts = s.fabPorts := rfl
@[simp] theorem State.setFrayCol_warm (c : Nat) (x : FrayCol) : (s.setFrayCol c x).warm = s.warm := rfl
@[simp] theorem State.setFrayCol_resets (c : Nat) (x : FrayCol) : (s.setFrayCol c x).resets = s.resets := rfl
@[simp] theorem State.setFrayCol_banks (c : Nat) (x : FrayCol) : (s.setFrayCol c x).banks = s.banks := rfl
@[simp] theorem State.setFrayCol_mem (c : Nat) (x : FrayCol) : (s.setFrayCol c x).mem = s.mem := rfl
@[simp] theorem State.setFrayCol_crcDiff (c : Nat) (x : FrayCol) : (s.setFrayCol c x).crcDiff = s.crcDiff := rfl
@[simp] theorem State.setFrayCol_initRunning (c : Nat) (x : FrayCol) : (s.setFrayCol c x).initRunning = s.initRunning := rfl
@[simp] theorem State.setFrayCol_heldCtr (c : Nat) (x : FrayCol) : (s.setFrayCol c x).heldCtr = s.heldCtr := rfl
@[simp] theorem State.setFrayCol_handover (c : Nat) (x : FrayCol) : (s.setFrayCol c x).handover = s.handover := rfl
@[simp] theorem State.setFrayCol_repairs (c : Nat) (x : FrayCol) : (s.setFrayCol c x).repairs = s.repairs := rfl
@[simp] theorem State.setFrayCol_ctxTestNext (c : Nat) (x : FrayCol) : (s.setFrayCol c x).ctxTestNext = s.ctxTestNext := rfl
@[simp] theorem State.setFrayCol_gatesClosed (c : Nat) (x : FrayCol) : (s.setFrayCol c x).gatesClosed = s.gatesClosed := rfl
@[simp] theorem State.setFrayCol_root337Was (c : Nat) (x : FrayCol) : (s.setFrayCol c x).root337Was = s.root337Was := rfl
@[simp] theorem State.setFrayCol_lossGates (c : Nat) (x : FrayCol) : (s.setFrayCol c x).lossGates = s.lossGates := rfl
@[simp] theorem State.setFrayCol_oldEdges (c : Nat) (x : FrayCol) : (s.setFrayCol c x).oldEdges = s.oldEdges := rfl
@[simp] theorem State.setFrayCol_goSets (c : Nat) (x : FrayCol) : (s.setFrayCol c x).goSets = s.goSets := rfl
@[simp] theorem State.setFrayCol_planeWait (c : Nat) (x : FrayCol) : (s.setFrayCol c x).planeWait = s.planeWait := rfl
@[simp] theorem State.setFrayCol_planeNow (c : Nat) (x : FrayCol) : (s.setFrayCol c x).planeNow = s.planeNow := rfl
@[simp] theorem State.setFrayCol_monGood (c : Nat) (x : FrayCol) : (s.setFrayCol c x).monGood = s.monGood := rfl
@[simp] theorem State.setFrayCol_pins (c : Nat) (x : FrayCol) : (s.setFrayCol c x).pins = s.pins := rfl
@[simp] theorem State.setFrayCol_halted (c : Nat) (x : FrayCol) : (s.setFrayCol c x).halted = s.halted := rfl
@[simp] theorem State.setFrayCol_jtag (c : Nat) (x : FrayCol) : (s.setFrayCol c x).jtag = s.jtag := rfl
@[simp] theorem State.setFrayCol_madcNext (c : Nat) (x : FrayCol) : (s.setFrayCol c x).madcNext = s.madcNext := rfl
@[simp] theorem State.setFrayCol_tracks (c : Nat) (x : FrayCol) : (s.setFrayCol c x).tracks = s.tracks := rfl
@[simp] theorem State.setFrayCol_bridle (c : Nat) (x : FrayCol) : (s.setFrayCol c x).bridle = s.bridle := rfl
@[simp] theorem State.setFrayCol_firstCommit (c : Nat) (x : FrayCol) : (s.setFrayCol c x).firstCommit = s.firstCommit := rfl
@[simp] theorem State.setFrayCol_rig (c : Nat) (x : FrayCol) : (s.setFrayCol c x).rig = s.rig := rfl
@[simp] theorem State.setFrayCol_chans (c : Nat) (x : FrayCol) : (s.setFrayCol c x).chans = s.chans := rfl
@[simp] theorem State.setFrayCol_engLast (c : Nat) (x : FrayCol) : (s.setFrayCol c x).engLast = s.engLast := rfl
@[simp] theorem State.setFrayCol_store (c : Nat) (x : FrayCol) : (s.setFrayCol c x).store = s.store := rfl
@[simp] theorem State.setFrayCol_jobs (c : Nat) (x : FrayCol) : (s.setFrayCol c x).jobs = s.jobs := rfl
@[simp] theorem State.setFrayCol_jobAt (c : Nat) (x : FrayCol) : (s.setFrayCol c x).jobAt = s.jobAt := rfl
@[simp] theorem State.setFrayCol_restored (c : Nat) (x : FrayCol) : (s.setFrayCol c x).restored = s.restored := rfl
@[simp] theorem State.setFrayCol_vbat (c : Nat) (x : FrayCol) : (s.setFrayCol c x).vbat = s.vbat := rfl
@[simp] theorem State.setFrayCol_lanes (c : Nat) (x : FrayCol) : (s.setFrayCol c x).lanes = s.lanes := rfl
@[simp] theorem State.setFrayCol_ports (c : Nat) (x : FrayCol) : (s.setFrayCol c x).ports = s.ports := rfl
@[simp] theorem State.setFrayCol_kram (c : Nat) (x : FrayCol) : (s.setFrayCol c x).kram = s.kram := rfl
@[simp] theorem State.setFrayCol_ramps (c : Nat) (x : FrayCol) : (s.setFrayCol c x).ramps = s.ramps := rfl
@[simp] theorem State.setFrayCol_pf (c : Nat) (x : FrayCol) : (s.setFrayCol c x).pf = s.pf := rfl
@[simp] theorem State.setFrayCol_load (c : Nat) (x : FrayCol) : (s.setFrayCol c x).load = s.load := rfl
@[simp] theorem State.setFrayCol_perstLow (c : Nat) (x : FrayCol) : (s.setFrayCol c x).perstLow = s.perstLow := rfl
@[simp] theorem State.setFrayCol_partPages (c : Nat) (x : FrayCol) : (s.setFrayCol c x).partPages = s.partPages := rfl

/-! ### `State.setGate` -/

@[simp] theorem State.setGate_pending (n : Nat) (on : Bool) : (s.setGate n on).pending = s.pending := rfl
@[simp] theorem State.setGate_ns (n : Nat) (on : Bool) : (s.setGate n on).ns = s.ns := rfl
@[simp] theorem State.setGate_powerGood (n : Nat) (on : Bool) : (s.setGate n on).powerGood = s.powerGood := rfl
@[simp] theorem State.setGate_regs (n : Nat) (on : Bool) : (s.setGate n on).regs = s.regs := rfl
@[simp] theorem State.setGate_freeCtr (n : Nat) (on : Bool) : (s.setGate n on).freeCtr = s.freeCtr := rfl
@[simp] theorem State.setGate_resp (n : Nat) (on : Bool) : (s.setGate n on).resp = s.resp := rfl
@[simp] theorem State.setGate_out (n : Nat) (on : Bool) : (s.setGate n on).out = s.out := rfl
@[simp] theorem State.setGate_straps (n : Nat) (on : Bool) : (s.setGate n on).straps = s.straps := rfl
@[simp] theorem State.setGate_fuses (n : Nat) (on : Bool) : (s.setGate n on).fuses = s.fuses := rfl
@[simp] theorem State.setGate_worldSeq (n : Nat) (on : Bool) : (s.setGate n on).worldSeq = s.worldSeq := rfl
@[simp] theorem State.setGate_stack (n : Nat) (on : Bool) : (s.setGate n on).stack = s.stack := rfl
@[simp] theorem State.setGate_panels (n : Nat) (on : Bool) : (s.setGate n on).panels = s.panels := rfl
@[simp] theorem State.setGate_switches (n : Nat) (on : Bool) : (s.setGate n on).switches = s.switches := rfl
@[simp] theorem State.setGate_frames (n : Nat) (on : Bool) : (s.setGate n on).frames = s.frames := rfl
@[simp] theorem State.setGate_columns (n : Nat) (on : Bool) : (s.setGate n on).columns = s.columns := rfl
@[simp] theorem State.setGate_ctx (n : Nat) (on : Bool) : (s.setGate n on).ctx = s.ctx := rfl
@[simp] theorem State.setGate_ctxValid (n : Nat) (on : Bool) : (s.setGate n on).ctxValid = s.ctxValid := rfl
@[simp] theorem State.setGate_ctxNext (n : Nat) (on : Bool) : (s.setGate n on).ctxNext = s.ctxNext := rfl
@[simp] theorem State.setGate_gov (n : Nat) (on : Bool) : (s.setGate n on).gov = s.gov := rfl
@[simp] theorem State.setGate_fray (n : Nat) (on : Bool) : (s.setGate n on).fray = s.fray := rfl
@[simp] theorem State.setGate_bridleNs (n : Nat) (on : Bool) : (s.setGate n on).bridleNs = s.bridleNs := rfl
@[simp] theorem State.setGate_srcSel (n : Nat) (on : Bool) : (s.setGate n on).srcSel = s.srcSel := rfl
@[simp] theorem State.setGate_gotPrio (n : Nat) (on : Bool) : (s.setGate n on).gotPrio = s.gotPrio := rfl
@[simp] theorem State.setGate_lastTgt (n : Nat) (on : Bool) : (s.setGate n on).lastTgt = s.lastTgt := rfl
@[simp] theorem State.setGate_linkUp (n : Nat) (on : Bool) : (s.setGate n on).linkUp = s.linkUp := rfl
@[simp] theorem State.setGate_fabPorts (n : Nat) (on : Bool) : (s.setGate n on).fabPorts = s.fabPorts := rfl
@[simp] theorem State.setGate_warm (n : Nat) (on : Bool) : (s.setGate n on).warm = s.warm := rfl
@[simp] theorem State.setGate_resets (n : Nat) (on : Bool) : (s.setGate n on).resets = s.resets := rfl
@[simp] theorem State.setGate_banks (n : Nat) (on : Bool) : (s.setGate n on).banks = s.banks := rfl
@[simp] theorem State.setGate_mem (n : Nat) (on : Bool) : (s.setGate n on).mem = s.mem := rfl
@[simp] theorem State.setGate_crcDiff (n : Nat) (on : Bool) : (s.setGate n on).crcDiff = s.crcDiff := rfl
@[simp] theorem State.setGate_initRunning (n : Nat) (on : Bool) : (s.setGate n on).initRunning = s.initRunning := rfl
@[simp] theorem State.setGate_heldCtr (n : Nat) (on : Bool) : (s.setGate n on).heldCtr = s.heldCtr := rfl
@[simp] theorem State.setGate_handover (n : Nat) (on : Bool) : (s.setGate n on).handover = s.handover := rfl
@[simp] theorem State.setGate_repairs (n : Nat) (on : Bool) : (s.setGate n on).repairs = s.repairs := rfl
@[simp] theorem State.setGate_ctxTestNext (n : Nat) (on : Bool) : (s.setGate n on).ctxTestNext = s.ctxTestNext := rfl
@[simp] theorem State.setGate_root337Was (n : Nat) (on : Bool) : (s.setGate n on).root337Was = s.root337Was := rfl
@[simp] theorem State.setGate_lossGates (n : Nat) (on : Bool) : (s.setGate n on).lossGates = s.lossGates := rfl
@[simp] theorem State.setGate_oldEdges (n : Nat) (on : Bool) : (s.setGate n on).oldEdges = s.oldEdges := rfl
@[simp] theorem State.setGate_goSets (n : Nat) (on : Bool) : (s.setGate n on).goSets = s.goSets := rfl
@[simp] theorem State.setGate_planeWait (n : Nat) (on : Bool) : (s.setGate n on).planeWait = s.planeWait := rfl
@[simp] theorem State.setGate_planeNow (n : Nat) (on : Bool) : (s.setGate n on).planeNow = s.planeNow := rfl
@[simp] theorem State.setGate_monGood (n : Nat) (on : Bool) : (s.setGate n on).monGood = s.monGood := rfl
@[simp] theorem State.setGate_pins (n : Nat) (on : Bool) : (s.setGate n on).pins = s.pins := rfl
@[simp] theorem State.setGate_halted (n : Nat) (on : Bool) : (s.setGate n on).halted = s.halted := rfl
@[simp] theorem State.setGate_jtag (n : Nat) (on : Bool) : (s.setGate n on).jtag = s.jtag := rfl
@[simp] theorem State.setGate_madcNext (n : Nat) (on : Bool) : (s.setGate n on).madcNext = s.madcNext := rfl
@[simp] theorem State.setGate_tracks (n : Nat) (on : Bool) : (s.setGate n on).tracks = s.tracks := rfl
@[simp] theorem State.setGate_bridle (n : Nat) (on : Bool) : (s.setGate n on).bridle = s.bridle := rfl
@[simp] theorem State.setGate_firstCommit (n : Nat) (on : Bool) : (s.setGate n on).firstCommit = s.firstCommit := rfl
@[simp] theorem State.setGate_rig (n : Nat) (on : Bool) : (s.setGate n on).rig = s.rig := rfl
@[simp] theorem State.setGate_chans (n : Nat) (on : Bool) : (s.setGate n on).chans = s.chans := rfl
@[simp] theorem State.setGate_engLast (n : Nat) (on : Bool) : (s.setGate n on).engLast = s.engLast := rfl
@[simp] theorem State.setGate_store (n : Nat) (on : Bool) : (s.setGate n on).store = s.store := rfl
@[simp] theorem State.setGate_jobs (n : Nat) (on : Bool) : (s.setGate n on).jobs = s.jobs := rfl
@[simp] theorem State.setGate_jobAt (n : Nat) (on : Bool) : (s.setGate n on).jobAt = s.jobAt := rfl
@[simp] theorem State.setGate_restored (n : Nat) (on : Bool) : (s.setGate n on).restored = s.restored := rfl
@[simp] theorem State.setGate_vbat (n : Nat) (on : Bool) : (s.setGate n on).vbat = s.vbat := rfl
@[simp] theorem State.setGate_lanes (n : Nat) (on : Bool) : (s.setGate n on).lanes = s.lanes := rfl
@[simp] theorem State.setGate_ports (n : Nat) (on : Bool) : (s.setGate n on).ports = s.ports := rfl
@[simp] theorem State.setGate_kram (n : Nat) (on : Bool) : (s.setGate n on).kram = s.kram := rfl
@[simp] theorem State.setGate_ramps (n : Nat) (on : Bool) : (s.setGate n on).ramps = s.ramps := rfl
@[simp] theorem State.setGate_pf (n : Nat) (on : Bool) : (s.setGate n on).pf = s.pf := rfl
@[simp] theorem State.setGate_load (n : Nat) (on : Bool) : (s.setGate n on).load = s.load := rfl
@[simp] theorem State.setGate_perstLow (n : Nat) (on : Bool) : (s.setGate n on).perstLow = s.perstLow := rfl
@[simp] theorem State.setGate_partPages (n : Nat) (on : Bool) : (s.setGate n on).partPages = s.partPages := rfl

/-! ### `State.setRigInit` -/

@[simp] theorem State.setRigInit_pending (i : Nat) (x : RigInit) : (s.setRigInit i x).pending = s.pending := rfl
@[simp] theorem State.setRigInit_ns (i : Nat) (x : RigInit) : (s.setRigInit i x).ns = s.ns := rfl
@[simp] theorem State.setRigInit_powerGood (i : Nat) (x : RigInit) : (s.setRigInit i x).powerGood = s.powerGood := rfl
@[simp] theorem State.setRigInit_regs (i : Nat) (x : RigInit) : (s.setRigInit i x).regs = s.regs := rfl
@[simp] theorem State.setRigInit_freeCtr (i : Nat) (x : RigInit) : (s.setRigInit i x).freeCtr = s.freeCtr := rfl
@[simp] theorem State.setRigInit_resp (i : Nat) (x : RigInit) : (s.setRigInit i x).resp = s.resp := rfl
@[simp] theorem State.setRigInit_out (i : Nat) (x : RigInit) : (s.setRigInit i x).out = s.out := rfl
@[simp] theorem State.setRigInit_straps (i : Nat) (x : RigInit) : (s.setRigInit i x).straps = s.straps := rfl
@[simp] theorem State.setRigInit_fuses (i : Nat) (x : RigInit) : (s.setRigInit i x).fuses = s.fuses := rfl
@[simp] theorem State.setRigInit_worldSeq (i : Nat) (x : RigInit) : (s.setRigInit i x).worldSeq = s.worldSeq := rfl
@[simp] theorem State.setRigInit_stack (i : Nat) (x : RigInit) : (s.setRigInit i x).stack = s.stack := rfl
@[simp] theorem State.setRigInit_panels (i : Nat) (x : RigInit) : (s.setRigInit i x).panels = s.panels := rfl
@[simp] theorem State.setRigInit_switches (i : Nat) (x : RigInit) : (s.setRigInit i x).switches = s.switches := rfl
@[simp] theorem State.setRigInit_frames (i : Nat) (x : RigInit) : (s.setRigInit i x).frames = s.frames := rfl
@[simp] theorem State.setRigInit_columns (i : Nat) (x : RigInit) : (s.setRigInit i x).columns = s.columns := rfl
@[simp] theorem State.setRigInit_ctx (i : Nat) (x : RigInit) : (s.setRigInit i x).ctx = s.ctx := rfl
@[simp] theorem State.setRigInit_ctxValid (i : Nat) (x : RigInit) : (s.setRigInit i x).ctxValid = s.ctxValid := rfl
@[simp] theorem State.setRigInit_ctxNext (i : Nat) (x : RigInit) : (s.setRigInit i x).ctxNext = s.ctxNext := rfl
@[simp] theorem State.setRigInit_gov (i : Nat) (x : RigInit) : (s.setRigInit i x).gov = s.gov := rfl
@[simp] theorem State.setRigInit_fray (i : Nat) (x : RigInit) : (s.setRigInit i x).fray = s.fray := rfl
@[simp] theorem State.setRigInit_bridleNs (i : Nat) (x : RigInit) : (s.setRigInit i x).bridleNs = s.bridleNs := rfl
@[simp] theorem State.setRigInit_srcSel (i : Nat) (x : RigInit) : (s.setRigInit i x).srcSel = s.srcSel := rfl
@[simp] theorem State.setRigInit_gotPrio (i : Nat) (x : RigInit) : (s.setRigInit i x).gotPrio = s.gotPrio := rfl
@[simp] theorem State.setRigInit_lastTgt (i : Nat) (x : RigInit) : (s.setRigInit i x).lastTgt = s.lastTgt := rfl
@[simp] theorem State.setRigInit_linkUp (i : Nat) (x : RigInit) : (s.setRigInit i x).linkUp = s.linkUp := rfl
@[simp] theorem State.setRigInit_fabPorts (i : Nat) (x : RigInit) : (s.setRigInit i x).fabPorts = s.fabPorts := rfl
@[simp] theorem State.setRigInit_warm (i : Nat) (x : RigInit) : (s.setRigInit i x).warm = s.warm := rfl
@[simp] theorem State.setRigInit_resets (i : Nat) (x : RigInit) : (s.setRigInit i x).resets = s.resets := rfl
@[simp] theorem State.setRigInit_banks (i : Nat) (x : RigInit) : (s.setRigInit i x).banks = s.banks := rfl
@[simp] theorem State.setRigInit_mem (i : Nat) (x : RigInit) : (s.setRigInit i x).mem = s.mem := rfl
@[simp] theorem State.setRigInit_crcDiff (i : Nat) (x : RigInit) : (s.setRigInit i x).crcDiff = s.crcDiff := rfl
@[simp] theorem State.setRigInit_initRunning (i : Nat) (x : RigInit) : (s.setRigInit i x).initRunning = s.initRunning := rfl
@[simp] theorem State.setRigInit_heldCtr (i : Nat) (x : RigInit) : (s.setRigInit i x).heldCtr = s.heldCtr := rfl
@[simp] theorem State.setRigInit_handover (i : Nat) (x : RigInit) : (s.setRigInit i x).handover = s.handover := rfl
@[simp] theorem State.setRigInit_repairs (i : Nat) (x : RigInit) : (s.setRigInit i x).repairs = s.repairs := rfl
@[simp] theorem State.setRigInit_ctxTestNext (i : Nat) (x : RigInit) : (s.setRigInit i x).ctxTestNext = s.ctxTestNext := rfl
@[simp] theorem State.setRigInit_gatesClosed (i : Nat) (x : RigInit) : (s.setRigInit i x).gatesClosed = s.gatesClosed := rfl
@[simp] theorem State.setRigInit_root337Was (i : Nat) (x : RigInit) : (s.setRigInit i x).root337Was = s.root337Was := rfl
@[simp] theorem State.setRigInit_lossGates (i : Nat) (x : RigInit) : (s.setRigInit i x).lossGates = s.lossGates := rfl
@[simp] theorem State.setRigInit_oldEdges (i : Nat) (x : RigInit) : (s.setRigInit i x).oldEdges = s.oldEdges := rfl
@[simp] theorem State.setRigInit_goSets (i : Nat) (x : RigInit) : (s.setRigInit i x).goSets = s.goSets := rfl
@[simp] theorem State.setRigInit_planeWait (i : Nat) (x : RigInit) : (s.setRigInit i x).planeWait = s.planeWait := rfl
@[simp] theorem State.setRigInit_planeNow (i : Nat) (x : RigInit) : (s.setRigInit i x).planeNow = s.planeNow := rfl
@[simp] theorem State.setRigInit_monGood (i : Nat) (x : RigInit) : (s.setRigInit i x).monGood = s.monGood := rfl
@[simp] theorem State.setRigInit_pins (i : Nat) (x : RigInit) : (s.setRigInit i x).pins = s.pins := rfl
@[simp] theorem State.setRigInit_halted (i : Nat) (x : RigInit) : (s.setRigInit i x).halted = s.halted := rfl
@[simp] theorem State.setRigInit_jtag (i : Nat) (x : RigInit) : (s.setRigInit i x).jtag = s.jtag := rfl
@[simp] theorem State.setRigInit_madcNext (i : Nat) (x : RigInit) : (s.setRigInit i x).madcNext = s.madcNext := rfl
@[simp] theorem State.setRigInit_tracks (i : Nat) (x : RigInit) : (s.setRigInit i x).tracks = s.tracks := rfl
@[simp] theorem State.setRigInit_bridle (i : Nat) (x : RigInit) : (s.setRigInit i x).bridle = s.bridle := rfl
@[simp] theorem State.setRigInit_firstCommit (i : Nat) (x : RigInit) : (s.setRigInit i x).firstCommit = s.firstCommit := rfl
@[simp] theorem State.setRigInit_chans (i : Nat) (x : RigInit) : (s.setRigInit i x).chans = s.chans := rfl
@[simp] theorem State.setRigInit_engLast (i : Nat) (x : RigInit) : (s.setRigInit i x).engLast = s.engLast := rfl
@[simp] theorem State.setRigInit_store (i : Nat) (x : RigInit) : (s.setRigInit i x).store = s.store := rfl
@[simp] theorem State.setRigInit_jobs (i : Nat) (x : RigInit) : (s.setRigInit i x).jobs = s.jobs := rfl
@[simp] theorem State.setRigInit_jobAt (i : Nat) (x : RigInit) : (s.setRigInit i x).jobAt = s.jobAt := rfl
@[simp] theorem State.setRigInit_restored (i : Nat) (x : RigInit) : (s.setRigInit i x).restored = s.restored := rfl
@[simp] theorem State.setRigInit_vbat (i : Nat) (x : RigInit) : (s.setRigInit i x).vbat = s.vbat := rfl
@[simp] theorem State.setRigInit_lanes (i : Nat) (x : RigInit) : (s.setRigInit i x).lanes = s.lanes := rfl
@[simp] theorem State.setRigInit_ports (i : Nat) (x : RigInit) : (s.setRigInit i x).ports = s.ports := rfl
@[simp] theorem State.setRigInit_kram (i : Nat) (x : RigInit) : (s.setRigInit i x).kram = s.kram := rfl
@[simp] theorem State.setRigInit_ramps (i : Nat) (x : RigInit) : (s.setRigInit i x).ramps = s.ramps := rfl
@[simp] theorem State.setRigInit_pf (i : Nat) (x : RigInit) : (s.setRigInit i x).pf = s.pf := rfl
@[simp] theorem State.setRigInit_load (i : Nat) (x : RigInit) : (s.setRigInit i x).load = s.load := rfl
@[simp] theorem State.setRigInit_perstLow (i : Nat) (x : RigInit) : (s.setRigInit i x).perstLow = s.perstLow := rfl
@[simp] theorem State.setRigInit_partPages (i : Nat) (x : RigInit) : (s.setRigInit i x).partPages = s.partPages := rfl

/-! ### `State.setQueue` -/

@[simp] theorem State.setQueue_pending (q : List QEntry) : (s.setQueue q).pending = s.pending := rfl
@[simp] theorem State.setQueue_ns (q : List QEntry) : (s.setQueue q).ns = s.ns := rfl
@[simp] theorem State.setQueue_powerGood (q : List QEntry) : (s.setQueue q).powerGood = s.powerGood := rfl
@[simp] theorem State.setQueue_regs (q : List QEntry) : (s.setQueue q).regs = s.regs := rfl
@[simp] theorem State.setQueue_freeCtr (q : List QEntry) : (s.setQueue q).freeCtr = s.freeCtr := rfl
@[simp] theorem State.setQueue_resp (q : List QEntry) : (s.setQueue q).resp = s.resp := rfl
@[simp] theorem State.setQueue_out (q : List QEntry) : (s.setQueue q).out = s.out := rfl
@[simp] theorem State.setQueue_straps (q : List QEntry) : (s.setQueue q).straps = s.straps := rfl
@[simp] theorem State.setQueue_fuses (q : List QEntry) : (s.setQueue q).fuses = s.fuses := rfl
@[simp] theorem State.setQueue_worldSeq (q : List QEntry) : (s.setQueue q).worldSeq = s.worldSeq := rfl
@[simp] theorem State.setQueue_stack (q : List QEntry) : (s.setQueue q).stack = s.stack := rfl
@[simp] theorem State.setQueue_panels (q : List QEntry) : (s.setQueue q).panels = s.panels := rfl
@[simp] theorem State.setQueue_switches (q : List QEntry) : (s.setQueue q).switches = s.switches := rfl
@[simp] theorem State.setQueue_frames (q : List QEntry) : (s.setQueue q).frames = s.frames := rfl
@[simp] theorem State.setQueue_columns (q : List QEntry) : (s.setQueue q).columns = s.columns := rfl
@[simp] theorem State.setQueue_ctx (q : List QEntry) : (s.setQueue q).ctx = s.ctx := rfl
@[simp] theorem State.setQueue_ctxValid (q : List QEntry) : (s.setQueue q).ctxValid = s.ctxValid := rfl
@[simp] theorem State.setQueue_ctxNext (q : List QEntry) : (s.setQueue q).ctxNext = s.ctxNext := rfl
@[simp] theorem State.setQueue_gov (q : List QEntry) : (s.setQueue q).gov = s.gov := rfl
@[simp] theorem State.setQueue_fray (q : List QEntry) : (s.setQueue q).fray = s.fray := rfl
@[simp] theorem State.setQueue_bridleNs (q : List QEntry) : (s.setQueue q).bridleNs = s.bridleNs := rfl
@[simp] theorem State.setQueue_srcSel (q : List QEntry) : (s.setQueue q).srcSel = s.srcSel := rfl
@[simp] theorem State.setQueue_gotPrio (q : List QEntry) : (s.setQueue q).gotPrio = s.gotPrio := rfl
@[simp] theorem State.setQueue_lastTgt (q : List QEntry) : (s.setQueue q).lastTgt = s.lastTgt := rfl
@[simp] theorem State.setQueue_linkUp (q : List QEntry) : (s.setQueue q).linkUp = s.linkUp := rfl
@[simp] theorem State.setQueue_fabPorts (q : List QEntry) : (s.setQueue q).fabPorts = s.fabPorts := rfl
@[simp] theorem State.setQueue_warm (q : List QEntry) : (s.setQueue q).warm = s.warm := rfl
@[simp] theorem State.setQueue_resets (q : List QEntry) : (s.setQueue q).resets = s.resets := rfl
@[simp] theorem State.setQueue_banks (q : List QEntry) : (s.setQueue q).banks = s.banks := rfl
@[simp] theorem State.setQueue_mem (q : List QEntry) : (s.setQueue q).mem = s.mem := rfl
@[simp] theorem State.setQueue_crcDiff (q : List QEntry) : (s.setQueue q).crcDiff = s.crcDiff := rfl
@[simp] theorem State.setQueue_initRunning (q : List QEntry) : (s.setQueue q).initRunning = s.initRunning := rfl
@[simp] theorem State.setQueue_heldCtr (q : List QEntry) : (s.setQueue q).heldCtr = s.heldCtr := rfl
@[simp] theorem State.setQueue_handover (q : List QEntry) : (s.setQueue q).handover = s.handover := rfl
@[simp] theorem State.setQueue_repairs (q : List QEntry) : (s.setQueue q).repairs = s.repairs := rfl
@[simp] theorem State.setQueue_ctxTestNext (q : List QEntry) : (s.setQueue q).ctxTestNext = s.ctxTestNext := rfl
@[simp] theorem State.setQueue_gatesClosed (q : List QEntry) : (s.setQueue q).gatesClosed = s.gatesClosed := rfl
@[simp] theorem State.setQueue_root337Was (q : List QEntry) : (s.setQueue q).root337Was = s.root337Was := rfl
@[simp] theorem State.setQueue_lossGates (q : List QEntry) : (s.setQueue q).lossGates = s.lossGates := rfl
@[simp] theorem State.setQueue_oldEdges (q : List QEntry) : (s.setQueue q).oldEdges = s.oldEdges := rfl
@[simp] theorem State.setQueue_goSets (q : List QEntry) : (s.setQueue q).goSets = s.goSets := rfl
@[simp] theorem State.setQueue_planeWait (q : List QEntry) : (s.setQueue q).planeWait = s.planeWait := rfl
@[simp] theorem State.setQueue_planeNow (q : List QEntry) : (s.setQueue q).planeNow = s.planeNow := rfl
@[simp] theorem State.setQueue_monGood (q : List QEntry) : (s.setQueue q).monGood = s.monGood := rfl
@[simp] theorem State.setQueue_pins (q : List QEntry) : (s.setQueue q).pins = s.pins := rfl
@[simp] theorem State.setQueue_halted (q : List QEntry) : (s.setQueue q).halted = s.halted := rfl
@[simp] theorem State.setQueue_jtag (q : List QEntry) : (s.setQueue q).jtag = s.jtag := rfl
@[simp] theorem State.setQueue_madcNext (q : List QEntry) : (s.setQueue q).madcNext = s.madcNext := rfl
@[simp] theorem State.setQueue_tracks (q : List QEntry) : (s.setQueue q).tracks = s.tracks := rfl
@[simp] theorem State.setQueue_firstCommit (q : List QEntry) : (s.setQueue q).firstCommit = s.firstCommit := rfl
@[simp] theorem State.setQueue_rig (q : List QEntry) : (s.setQueue q).rig = s.rig := rfl
@[simp] theorem State.setQueue_chans (q : List QEntry) : (s.setQueue q).chans = s.chans := rfl
@[simp] theorem State.setQueue_engLast (q : List QEntry) : (s.setQueue q).engLast = s.engLast := rfl
@[simp] theorem State.setQueue_store (q : List QEntry) : (s.setQueue q).store = s.store := rfl
@[simp] theorem State.setQueue_jobs (q : List QEntry) : (s.setQueue q).jobs = s.jobs := rfl
@[simp] theorem State.setQueue_jobAt (q : List QEntry) : (s.setQueue q).jobAt = s.jobAt := rfl
@[simp] theorem State.setQueue_restored (q : List QEntry) : (s.setQueue q).restored = s.restored := rfl
@[simp] theorem State.setQueue_vbat (q : List QEntry) : (s.setQueue q).vbat = s.vbat := rfl
@[simp] theorem State.setQueue_lanes (q : List QEntry) : (s.setQueue q).lanes = s.lanes := rfl
@[simp] theorem State.setQueue_ports (q : List QEntry) : (s.setQueue q).ports = s.ports := rfl
@[simp] theorem State.setQueue_kram (q : List QEntry) : (s.setQueue q).kram = s.kram := rfl
@[simp] theorem State.setQueue_ramps (q : List QEntry) : (s.setQueue q).ramps = s.ramps := rfl
@[simp] theorem State.setQueue_pf (q : List QEntry) : (s.setQueue q).pf = s.pf := rfl
@[simp] theorem State.setQueue_load (q : List QEntry) : (s.setQueue q).load = s.load := rfl
@[simp] theorem State.setQueue_perstLow (q : List QEntry) : (s.setQueue q).perstLow = s.perstLow := rfl
@[simp] theorem State.setQueue_partPages (q : List QEntry) : (s.setQueue q).partPages = s.partPages := rfl

/-! ### `State.wr` -/

@[simp] theorem State.wr_pending (pg : Nat) (f : Fld) (v : Nat) : (s.wr pg f v).pending = s.pending := rfl
@[simp] theorem State.wr_ns (pg : Nat) (f : Fld) (v : Nat) : (s.wr pg f v).ns = s.ns := rfl
@[simp] theorem State.wr_powerGood (pg : Nat) (f : Fld) (v : Nat) : (s.wr pg f v).powerGood = s.powerGood := rfl
@[simp] theorem State.wr_freeCtr (pg : Nat) (f : Fld) (v : Nat) : (s.wr pg f v).freeCtr = s.freeCtr := rfl
@[simp] theorem State.wr_resp (pg : Nat) (f : Fld) (v : Nat) : (s.wr pg f v).resp = s.resp := rfl
@[simp] theorem State.wr_out (pg : Nat) (f : Fld) (v : Nat) : (s.wr pg f v).out = s.out := rfl
@[simp] theorem State.wr_straps (pg : Nat) (f : Fld) (v : Nat) : (s.wr pg f v).straps = s.straps := rfl
@[simp] theorem State.wr_fuses (pg : Nat) (f : Fld) (v : Nat) : (s.wr pg f v).fuses = s.fuses := rfl
@[simp] theorem State.wr_worldSeq (pg : Nat) (f : Fld) (v : Nat) : (s.wr pg f v).worldSeq = s.worldSeq := rfl
@[simp] theorem State.wr_stack (pg : Nat) (f : Fld) (v : Nat) : (s.wr pg f v).stack = s.stack := rfl
@[simp] theorem State.wr_panels (pg : Nat) (f : Fld) (v : Nat) : (s.wr pg f v).panels = s.panels := rfl
@[simp] theorem State.wr_switches (pg : Nat) (f : Fld) (v : Nat) : (s.wr pg f v).switches = s.switches := rfl
@[simp] theorem State.wr_frames (pg : Nat) (f : Fld) (v : Nat) : (s.wr pg f v).frames = s.frames := rfl
@[simp] theorem State.wr_columns (pg : Nat) (f : Fld) (v : Nat) : (s.wr pg f v).columns = s.columns := rfl
@[simp] theorem State.wr_ctx (pg : Nat) (f : Fld) (v : Nat) : (s.wr pg f v).ctx = s.ctx := rfl
@[simp] theorem State.wr_ctxValid (pg : Nat) (f : Fld) (v : Nat) : (s.wr pg f v).ctxValid = s.ctxValid := rfl
@[simp] theorem State.wr_ctxNext (pg : Nat) (f : Fld) (v : Nat) : (s.wr pg f v).ctxNext = s.ctxNext := rfl
@[simp] theorem State.wr_gov (pg : Nat) (f : Fld) (v : Nat) : (s.wr pg f v).gov = s.gov := rfl
@[simp] theorem State.wr_fray (pg : Nat) (f : Fld) (v : Nat) : (s.wr pg f v).fray = s.fray := rfl
@[simp] theorem State.wr_bridleNs (pg : Nat) (f : Fld) (v : Nat) : (s.wr pg f v).bridleNs = s.bridleNs := rfl
@[simp] theorem State.wr_srcSel (pg : Nat) (f : Fld) (v : Nat) : (s.wr pg f v).srcSel = s.srcSel := rfl
@[simp] theorem State.wr_gotPrio (pg : Nat) (f : Fld) (v : Nat) : (s.wr pg f v).gotPrio = s.gotPrio := rfl
@[simp] theorem State.wr_lastTgt (pg : Nat) (f : Fld) (v : Nat) : (s.wr pg f v).lastTgt = s.lastTgt := rfl
@[simp] theorem State.wr_linkUp (pg : Nat) (f : Fld) (v : Nat) : (s.wr pg f v).linkUp = s.linkUp := rfl
@[simp] theorem State.wr_fabPorts (pg : Nat) (f : Fld) (v : Nat) : (s.wr pg f v).fabPorts = s.fabPorts := rfl
@[simp] theorem State.wr_warm (pg : Nat) (f : Fld) (v : Nat) : (s.wr pg f v).warm = s.warm := rfl
@[simp] theorem State.wr_resets (pg : Nat) (f : Fld) (v : Nat) : (s.wr pg f v).resets = s.resets := rfl
@[simp] theorem State.wr_banks (pg : Nat) (f : Fld) (v : Nat) : (s.wr pg f v).banks = s.banks := rfl
@[simp] theorem State.wr_mem (pg : Nat) (f : Fld) (v : Nat) : (s.wr pg f v).mem = s.mem := rfl
@[simp] theorem State.wr_crcDiff (pg : Nat) (f : Fld) (v : Nat) : (s.wr pg f v).crcDiff = s.crcDiff := rfl
@[simp] theorem State.wr_initRunning (pg : Nat) (f : Fld) (v : Nat) : (s.wr pg f v).initRunning = s.initRunning := rfl
@[simp] theorem State.wr_heldCtr (pg : Nat) (f : Fld) (v : Nat) : (s.wr pg f v).heldCtr = s.heldCtr := rfl
@[simp] theorem State.wr_handover (pg : Nat) (f : Fld) (v : Nat) : (s.wr pg f v).handover = s.handover := rfl
@[simp] theorem State.wr_repairs (pg : Nat) (f : Fld) (v : Nat) : (s.wr pg f v).repairs = s.repairs := rfl
@[simp] theorem State.wr_ctxTestNext (pg : Nat) (f : Fld) (v : Nat) : (s.wr pg f v).ctxTestNext = s.ctxTestNext := rfl
@[simp] theorem State.wr_gatesClosed (pg : Nat) (f : Fld) (v : Nat) : (s.wr pg f v).gatesClosed = s.gatesClosed := rfl
@[simp] theorem State.wr_root337Was (pg : Nat) (f : Fld) (v : Nat) : (s.wr pg f v).root337Was = s.root337Was := rfl
@[simp] theorem State.wr_lossGates (pg : Nat) (f : Fld) (v : Nat) : (s.wr pg f v).lossGates = s.lossGates := rfl
@[simp] theorem State.wr_oldEdges (pg : Nat) (f : Fld) (v : Nat) : (s.wr pg f v).oldEdges = s.oldEdges := rfl
@[simp] theorem State.wr_goSets (pg : Nat) (f : Fld) (v : Nat) : (s.wr pg f v).goSets = s.goSets := rfl
@[simp] theorem State.wr_planeWait (pg : Nat) (f : Fld) (v : Nat) : (s.wr pg f v).planeWait = s.planeWait := rfl
@[simp] theorem State.wr_planeNow (pg : Nat) (f : Fld) (v : Nat) : (s.wr pg f v).planeNow = s.planeNow := rfl
@[simp] theorem State.wr_monGood (pg : Nat) (f : Fld) (v : Nat) : (s.wr pg f v).monGood = s.monGood := rfl
@[simp] theorem State.wr_pins (pg : Nat) (f : Fld) (v : Nat) : (s.wr pg f v).pins = s.pins := rfl
@[simp] theorem State.wr_halted (pg : Nat) (f : Fld) (v : Nat) : (s.wr pg f v).halted = s.halted := rfl
@[simp] theorem State.wr_jtag (pg : Nat) (f : Fld) (v : Nat) : (s.wr pg f v).jtag = s.jtag := rfl
@[simp] theorem State.wr_madcNext (pg : Nat) (f : Fld) (v : Nat) : (s.wr pg f v).madcNext = s.madcNext := rfl
@[simp] theorem State.wr_tracks (pg : Nat) (f : Fld) (v : Nat) : (s.wr pg f v).tracks = s.tracks := rfl
@[simp] theorem State.wr_bridle (pg : Nat) (f : Fld) (v : Nat) : (s.wr pg f v).bridle = s.bridle := rfl
@[simp] theorem State.wr_firstCommit (pg : Nat) (f : Fld) (v : Nat) : (s.wr pg f v).firstCommit = s.firstCommit := rfl
@[simp] theorem State.wr_rig (pg : Nat) (f : Fld) (v : Nat) : (s.wr pg f v).rig = s.rig := rfl
@[simp] theorem State.wr_chans (pg : Nat) (f : Fld) (v : Nat) : (s.wr pg f v).chans = s.chans := rfl
@[simp] theorem State.wr_engLast (pg : Nat) (f : Fld) (v : Nat) : (s.wr pg f v).engLast = s.engLast := rfl
@[simp] theorem State.wr_store (pg : Nat) (f : Fld) (v : Nat) : (s.wr pg f v).store = s.store := rfl
@[simp] theorem State.wr_jobs (pg : Nat) (f : Fld) (v : Nat) : (s.wr pg f v).jobs = s.jobs := rfl
@[simp] theorem State.wr_jobAt (pg : Nat) (f : Fld) (v : Nat) : (s.wr pg f v).jobAt = s.jobAt := rfl
@[simp] theorem State.wr_restored (pg : Nat) (f : Fld) (v : Nat) : (s.wr pg f v).restored = s.restored := rfl
@[simp] theorem State.wr_vbat (pg : Nat) (f : Fld) (v : Nat) : (s.wr pg f v).vbat = s.vbat := rfl
@[simp] theorem State.wr_lanes (pg : Nat) (f : Fld) (v : Nat) : (s.wr pg f v).lanes = s.lanes := rfl
@[simp] theorem State.wr_ports (pg : Nat) (f : Fld) (v : Nat) : (s.wr pg f v).ports = s.ports := rfl
@[simp] theorem State.wr_kram (pg : Nat) (f : Fld) (v : Nat) : (s.wr pg f v).kram = s.kram := rfl
@[simp] theorem State.wr_ramps (pg : Nat) (f : Fld) (v : Nat) : (s.wr pg f v).ramps = s.ramps := rfl
@[simp] theorem State.wr_pf (pg : Nat) (f : Fld) (v : Nat) : (s.wr pg f v).pf = s.pf := rfl
@[simp] theorem State.wr_load (pg : Nat) (f : Fld) (v : Nat) : (s.wr pg f v).load = s.load := rfl
@[simp] theorem State.wr_perstLow (pg : Nat) (f : Fld) (v : Nat) : (s.wr pg f v).perstLow = s.perstLow := rfl
@[simp] theorem State.wr_partPages (pg : Nat) (f : Fld) (v : Nat) : (s.wr pg f v).partPages = s.partPages := rfl

/-! ### `State.inc` -/

@[simp] theorem State.inc_pending (pg : Nat) (f : Fld) : (s.inc pg f).pending = s.pending := rfl
@[simp] theorem State.inc_ns (pg : Nat) (f : Fld) : (s.inc pg f).ns = s.ns := rfl
@[simp] theorem State.inc_powerGood (pg : Nat) (f : Fld) : (s.inc pg f).powerGood = s.powerGood := rfl
@[simp] theorem State.inc_freeCtr (pg : Nat) (f : Fld) : (s.inc pg f).freeCtr = s.freeCtr := rfl
@[simp] theorem State.inc_resp (pg : Nat) (f : Fld) : (s.inc pg f).resp = s.resp := rfl
@[simp] theorem State.inc_out (pg : Nat) (f : Fld) : (s.inc pg f).out = s.out := rfl
@[simp] theorem State.inc_straps (pg : Nat) (f : Fld) : (s.inc pg f).straps = s.straps := rfl
@[simp] theorem State.inc_fuses (pg : Nat) (f : Fld) : (s.inc pg f).fuses = s.fuses := rfl
@[simp] theorem State.inc_worldSeq (pg : Nat) (f : Fld) : (s.inc pg f).worldSeq = s.worldSeq := rfl
@[simp] theorem State.inc_stack (pg : Nat) (f : Fld) : (s.inc pg f).stack = s.stack := rfl
@[simp] theorem State.inc_panels (pg : Nat) (f : Fld) : (s.inc pg f).panels = s.panels := rfl
@[simp] theorem State.inc_switches (pg : Nat) (f : Fld) : (s.inc pg f).switches = s.switches := rfl
@[simp] theorem State.inc_frames (pg : Nat) (f : Fld) : (s.inc pg f).frames = s.frames := rfl
@[simp] theorem State.inc_columns (pg : Nat) (f : Fld) : (s.inc pg f).columns = s.columns := rfl
@[simp] theorem State.inc_ctx (pg : Nat) (f : Fld) : (s.inc pg f).ctx = s.ctx := rfl
@[simp] theorem State.inc_ctxValid (pg : Nat) (f : Fld) : (s.inc pg f).ctxValid = s.ctxValid := rfl
@[simp] theorem State.inc_ctxNext (pg : Nat) (f : Fld) : (s.inc pg f).ctxNext = s.ctxNext := rfl
@[simp] theorem State.inc_gov (pg : Nat) (f : Fld) : (s.inc pg f).gov = s.gov := rfl
@[simp] theorem State.inc_fray (pg : Nat) (f : Fld) : (s.inc pg f).fray = s.fray := rfl
@[simp] theorem State.inc_bridleNs (pg : Nat) (f : Fld) : (s.inc pg f).bridleNs = s.bridleNs := rfl
@[simp] theorem State.inc_srcSel (pg : Nat) (f : Fld) : (s.inc pg f).srcSel = s.srcSel := rfl
@[simp] theorem State.inc_gotPrio (pg : Nat) (f : Fld) : (s.inc pg f).gotPrio = s.gotPrio := rfl
@[simp] theorem State.inc_lastTgt (pg : Nat) (f : Fld) : (s.inc pg f).lastTgt = s.lastTgt := rfl
@[simp] theorem State.inc_linkUp (pg : Nat) (f : Fld) : (s.inc pg f).linkUp = s.linkUp := rfl
@[simp] theorem State.inc_fabPorts (pg : Nat) (f : Fld) : (s.inc pg f).fabPorts = s.fabPorts := rfl
@[simp] theorem State.inc_warm (pg : Nat) (f : Fld) : (s.inc pg f).warm = s.warm := rfl
@[simp] theorem State.inc_resets (pg : Nat) (f : Fld) : (s.inc pg f).resets = s.resets := rfl
@[simp] theorem State.inc_banks (pg : Nat) (f : Fld) : (s.inc pg f).banks = s.banks := rfl
@[simp] theorem State.inc_mem (pg : Nat) (f : Fld) : (s.inc pg f).mem = s.mem := rfl
@[simp] theorem State.inc_crcDiff (pg : Nat) (f : Fld) : (s.inc pg f).crcDiff = s.crcDiff := rfl
@[simp] theorem State.inc_initRunning (pg : Nat) (f : Fld) : (s.inc pg f).initRunning = s.initRunning := rfl
@[simp] theorem State.inc_heldCtr (pg : Nat) (f : Fld) : (s.inc pg f).heldCtr = s.heldCtr := rfl
@[simp] theorem State.inc_handover (pg : Nat) (f : Fld) : (s.inc pg f).handover = s.handover := rfl
@[simp] theorem State.inc_repairs (pg : Nat) (f : Fld) : (s.inc pg f).repairs = s.repairs := rfl
@[simp] theorem State.inc_ctxTestNext (pg : Nat) (f : Fld) : (s.inc pg f).ctxTestNext = s.ctxTestNext := rfl
@[simp] theorem State.inc_gatesClosed (pg : Nat) (f : Fld) : (s.inc pg f).gatesClosed = s.gatesClosed := rfl
@[simp] theorem State.inc_root337Was (pg : Nat) (f : Fld) : (s.inc pg f).root337Was = s.root337Was := rfl
@[simp] theorem State.inc_lossGates (pg : Nat) (f : Fld) : (s.inc pg f).lossGates = s.lossGates := rfl
@[simp] theorem State.inc_oldEdges (pg : Nat) (f : Fld) : (s.inc pg f).oldEdges = s.oldEdges := rfl
@[simp] theorem State.inc_goSets (pg : Nat) (f : Fld) : (s.inc pg f).goSets = s.goSets := rfl
@[simp] theorem State.inc_planeWait (pg : Nat) (f : Fld) : (s.inc pg f).planeWait = s.planeWait := rfl
@[simp] theorem State.inc_planeNow (pg : Nat) (f : Fld) : (s.inc pg f).planeNow = s.planeNow := rfl
@[simp] theorem State.inc_monGood (pg : Nat) (f : Fld) : (s.inc pg f).monGood = s.monGood := rfl
@[simp] theorem State.inc_pins (pg : Nat) (f : Fld) : (s.inc pg f).pins = s.pins := rfl
@[simp] theorem State.inc_halted (pg : Nat) (f : Fld) : (s.inc pg f).halted = s.halted := rfl
@[simp] theorem State.inc_jtag (pg : Nat) (f : Fld) : (s.inc pg f).jtag = s.jtag := rfl
@[simp] theorem State.inc_madcNext (pg : Nat) (f : Fld) : (s.inc pg f).madcNext = s.madcNext := rfl
@[simp] theorem State.inc_tracks (pg : Nat) (f : Fld) : (s.inc pg f).tracks = s.tracks := rfl
@[simp] theorem State.inc_bridle (pg : Nat) (f : Fld) : (s.inc pg f).bridle = s.bridle := rfl
@[simp] theorem State.inc_firstCommit (pg : Nat) (f : Fld) : (s.inc pg f).firstCommit = s.firstCommit := rfl
@[simp] theorem State.inc_rig (pg : Nat) (f : Fld) : (s.inc pg f).rig = s.rig := rfl
@[simp] theorem State.inc_chans (pg : Nat) (f : Fld) : (s.inc pg f).chans = s.chans := rfl
@[simp] theorem State.inc_engLast (pg : Nat) (f : Fld) : (s.inc pg f).engLast = s.engLast := rfl
@[simp] theorem State.inc_store (pg : Nat) (f : Fld) : (s.inc pg f).store = s.store := rfl
@[simp] theorem State.inc_jobs (pg : Nat) (f : Fld) : (s.inc pg f).jobs = s.jobs := rfl
@[simp] theorem State.inc_jobAt (pg : Nat) (f : Fld) : (s.inc pg f).jobAt = s.jobAt := rfl
@[simp] theorem State.inc_restored (pg : Nat) (f : Fld) : (s.inc pg f).restored = s.restored := rfl
@[simp] theorem State.inc_vbat (pg : Nat) (f : Fld) : (s.inc pg f).vbat = s.vbat := rfl
@[simp] theorem State.inc_lanes (pg : Nat) (f : Fld) : (s.inc pg f).lanes = s.lanes := rfl
@[simp] theorem State.inc_ports (pg : Nat) (f : Fld) : (s.inc pg f).ports = s.ports := rfl
@[simp] theorem State.inc_kram (pg : Nat) (f : Fld) : (s.inc pg f).kram = s.kram := rfl
@[simp] theorem State.inc_ramps (pg : Nat) (f : Fld) : (s.inc pg f).ramps = s.ramps := rfl
@[simp] theorem State.inc_pf (pg : Nat) (f : Fld) : (s.inc pg f).pf = s.pf := rfl
@[simp] theorem State.inc_load (pg : Nat) (f : Fld) : (s.inc pg f).load = s.load := rfl
@[simp] theorem State.inc_perstLow (pg : Nat) (f : Fld) : (s.inc pg f).perstLow = s.perstLow := rfl
@[simp] theorem State.inc_partPages (pg : Nat) (f : Fld) : (s.inc pg f).partPages = s.partPages := rfl

/-! ### Reading back -/

theorem State.setPanel_panel (p p' : Nat) (x : Panel) : (s.setPanel p x).panel p' = if p' = p then x else s.panel p' := mget_mset _ _ _ _ _
@[simp] theorem State.setPanel_panel_same (p : Nat) (x : Panel) : (s.setPanel p x).panel p = x := by simp [State.setPanel_panel]
theorem State.setColumn_column (c c' : Nat) (x : Column) : (s.setColumn c x).column c' = if c' = c then x else s.column c' := mget_mset _ _ _ _ _
@[simp] theorem State.setColumn_column_same (c : Nat) (x : Column) : (s.setColumn c x).column c = x := by simp [State.setColumn_column]
theorem State.setBank_bank (b b' : Nat) (x : Bank) : (s.setBank b x).bank b' = if b' = b then x else s.bank b' := mget_mset _ _ _ _ _
@[simp] theorem State.setBank_bank_same (b : Nat) (x : Bank) : (s.setBank b x).bank b = x := by simp [State.setBank_bank]
theorem State.setTrack_track (k k' : Nat) (x : Track) : (s.setTrack k x).track k' = if k' = k then x else s.track k' := mget_mset _ _ _ _ _
@[simp] theorem State.setTrack_track_same (k : Nat) (x : Track) : (s.setTrack k x).track k = x := by simp [State.setTrack_track]
theorem State.setPin_pin (n n' : Nat) (x : Pin) : (s.setPin n x).pin n' = if n' = n then x else s.pin n' := mget_mset _ _ _ _ _
@[simp] theorem State.setPin_pin_same (n : Nat) (x : Pin) : (s.setPin n x).pin n = x := by simp [State.setPin_pin]
theorem State.setLane_lane (l l' : Nat) (x : Lane) : (s.setLane l x).lane l' = if l' = l then x else s.lane l' := mget_mset _ _ _ _ _
@[simp] theorem State.setLane_lane_same (l : Nat) (x : Lane) : (s.setLane l x).lane l = x := by simp [State.setLane_lane]
theorem State.setPort_port (p p' : Nat) (x : Port) : (s.setPort p x).port p' = if p' = p then x else s.port p' := mget_mset _ _ _ _ _
@[simp] theorem State.setPort_port_same (p : Nat) (x : Port) : (s.setPort p x).port p = x := by simp [State.setPort_port]
theorem State.setFrame_frame (a a' : Nat) (x : Frame) : (s.setFrame a x).frame a' = if a' = a then x else s.frame a' := mget_mset _ _ _ _ _
@[simp] theorem State.setFrame_frame_same (a : Nat) (x : Frame) : (s.setFrame a x).frame a = x := by simp [State.setFrame_frame]
theorem State.setChan_chan (c c' : Nat) (x : Chan) : (s.setChan c x).chan c' = if c' = c then x else s.chan c' := mget_mset _ _ _ _ _
@[simp] theorem State.setChan_chan_same (c : Nat) (x : Chan) : (s.setChan c x).chan c = x := by simp [State.setChan_chan]
theorem State.setReg_reg (a a' : Nat) (x : Word) : (s.setReg a x).reg a' = if a' = a then x else s.reg a' := mget_mset _ _ _ _ _
@[simp] theorem State.setReg_reg_same (a : Nat) (x : Word) : (s.setReg a x).reg a = x := by simp [State.setReg_reg]

end Sys2Proof.Machine
end

