-- ==== Sys2Proof/Laws/Canonical.lean ====
section
/-! SUPPORT. The canonical form of a sparse map (numbers rising, no entry that an unlisted number reads as), and that every operation
over the maps, the registers and the scratchpad keeps it. -/

namespace Sys2Proof.Machine

open Sys2Proof

variable {α : Type} [DecidableEq α]

/-- Every number listed is above `k`. -/
def mabove (k : Nat) (m : SMap α) : Prop := ∀ e ∈ m, k < e.1

theorem sorted_cons (d : Nat → α) (k : Nat) (v : α) (t : SMap α) :
    sorted d ((k, v) :: t) = true ↔ v ≠ d k ∧ mabove k t ∧ sorted d t = true := by
  induction t generalizing k v with
  | nil => simp [sorted, mabove]
  | cons e t ih =>
    obtain ⟨n, w⟩ := e
    have h := ih n w
    constructor
    · intro hs
      have hs' : (v != d k && decide (k < n) && sorted d ((n, w) :: t)) = true := hs
      simp only [Bool.and_eq_true, bne_iff_ne, decide_eq_true_eq] at hs'
      obtain ⟨⟨hv, hk⟩, ht⟩ := hs'
      refine ⟨hv, ?_, ht⟩
      intro e he
      rcases List.mem_cons.mp he with rfl | he
      · exact hk
      · exact Nat.lt_trans hk ((h.mp ht).2.1 e he)
    · rintro ⟨hv, ha, ht⟩
      show (v != d k && decide (k < n) && sorted d ((n, w) :: t)) = true
      simp only [Bool.and_eq_true, bne_iff_ne, decide_eq_true_eq]
      exact ⟨⟨hv, ha _ (List.mem_cons_self ..)⟩, ht⟩

theorem mabove_mset (d : Nat → α) (m : SMap α) (k b : Nat) (v : α) (h : mabove b m) (hk : b < k) : mabove b (mset d m k v) := by
  have hd : ∀ t : SMap α, mabove b t → mabove b (mdrop t k) := by
    intro t; induction t with
    | nil => exact id
    | cons e t ih =>
      intro h; simp only [mdrop]; split
      · exact ih fun e he => h e (List.mem_cons_of_mem _ he)
      · exact h
  induction m with
  | nil => simp only [mset]; split <;> intro e he <;> simp_all
  | cons e t ih =>
    have ht : mabove b t := fun e he => h e (List.mem_cons_of_mem _ he)
    have he := h e (List.mem_cons_self ..)
    simp only [mset]
    repeat' split
    all_goals intro x hx
    all_goals (try simp only [List.mem_cons] at hx)
    · exact h x (List.mem_cons.mpr hx)
    · rcases hx with rfl | hx
      · exact hk
      · exact h x (List.mem_cons.mpr hx)
    · exact hd t ht x hx
    · rcases hx with rfl | hx
      · exact hk
      · exact hd t ht x hx
    · rcases hx with rfl | hx
      · exact he
      · exact ih ht x hx

omit [DecidableEq α] in
/-- Nothing is dropped from a map whose numbers are all above `k`. -/
theorem mdrop_above (m : SMap α) (k : Nat) (h : mabove k m) : mdrop m k = m := by
  cases m with
  | nil => rfl
  | cons e t => simp only [mdrop]; rw [if_neg]; exact Nat.not_le.mpr (h e (List.mem_cons_self ..))

/-- Writing an entry keeps the canonical form. -/
theorem sorted_mset (d : Nat → α) (m : SMap α) (k : Nat) (v : α) (h : sorted d m = true) : sorted d (mset d m k v) = true := by
  induction m with
  | nil => simp only [mset]; split <;> simp_all [sorted]
  | cons e t ih =>
    obtain ⟨n, w⟩ := e
    obtain ⟨hw, ha, ht⟩ := (sorted_cons d n w t).mp h
    simp only [mset]
    split
    · split
      · exact h
      · refine (sorted_cons d k v _).mpr ⟨‹_›, ?_, h⟩
        intro e he
        rcases List.mem_cons.mp he with rfl | he
        · assumption
        · exact Nat.lt_trans ‹_› (ha e he)
    · split
      · subst_vars
        rw [mdrop_above t _ ha]
        split
        · exact ht
        · exact (sorted_cons d _ v t).mpr ⟨‹_›, ha, ht⟩
      · exact (sorted_cons d n w _).mpr ⟨hw, mabove_mset d t k n v ha (by omega), ih ht⟩

/-- Keeping some of the entries keeps the canonical form. -/
theorem sorted_mkeep (d : Nat → α) (p : Nat → Bool) (m : SMap α) (h : sorted d m = true) : sorted d (mkeep p m) = true := by
  induction m with
  | nil => rfl
  | cons e t ih =>
    obtain ⟨n, w⟩ := e
    obtain ⟨hw, ha, ht⟩ := (sorted_cons d n w t).mp h
    simp only [mkeep, List.filter_cons]
    split
    · exact (sorted_cons d n w _).mpr ⟨hw, fun e he => ha e (List.mem_filter.mp he).1, ih ht⟩
    · exact ih ht

/-- Changing every listed entry keeps the canonical form. -/
theorem sorted_mmap (d : Nat → α) (f : Nat → α → α) (m : SMap α) (h : sorted d m = true) : sorted d (mmap d f m) = true := by
  have hm : ∀ (t : SMap α) b, mabove b t → mabove b (mmap d f t) := by
    intro t b; induction t with
    | nil => exact id
    | cons e t ih =>
      intro h
      have := ih fun e he => h e (List.mem_cons_of_mem _ he)
      simp only [mmap]; split
      · exact this
      · intro x hx
        rcases List.mem_cons.mp hx with rfl | hx
        · exact h e (List.mem_cons_self ..)
        · exact this x hx
  induction m with
  | nil => rfl
  | cons e t ih =>
    obtain ⟨n, w⟩ := e
    obtain ⟨hw, ha, ht⟩ := (sorted_cons d n w t).mp h
    simp only [mmap]
    split
    · exact ih ht
    · exact (sorted_cons d n _ _).mpr ⟨‹_›, hm t n ha, ih ht⟩

/-- An entry after every listed one was changed: what an unlisted number reads as must not change. -/
theorem mget_mmap (d : Nat → α) (f : Nat → α → α) (m : SMap α) (k : Nat) (h : sorted d m = true) (hd : f k (d k) = d k) :
    mget d (mmap d f m) k = f k (mget d m k) := by
  induction m with
  | nil => exact hd.symm
  | cons e t ih =>
    obtain ⟨n, w⟩ := e
    obtain ⟨hw, ha, ht⟩ := (sorted_cons d n w t).mp h
    have low : ∀ t : SMap α, mabove n t → k ≤ n → mget d (mmap d f t) k = d k := by
      intro t; induction t with
      | nil => intros; rfl
      | cons e t ih2 =>
        intro ha hk
        have h2 := ih2 (fun e he => ha e (List.mem_cons_of_mem _ he)) hk
        have h1 := ha e (List.mem_cons_self ..)
        simp only [mmap]; split
        · exact h2
        · simp only [mget]; rw [if_neg (by omega), if_pos (by omega)]
    simp only [mmap]
    split
    · simp only [mget]
      split
      · subst_vars; rw [low t ha (Nat.le_refl _)]; exact (Eq.symm ‹_›)
      · split
        · rw [low t ha (by omega), hd]
        · exact ih ht
    · simp only [mget]
      split
      · subst_vars; rfl
      · split
        · exact hd.symm
        · exact ih ht

/-! ### The scratchpad and the registers -/

/-- A write of one byte keeps the memory's canonical form. -/
theorem State.setMemByte_wf (s : State) (a : Nat) (b : Byte) (h : Memory.wf s.mem = true) : Memory.wf (s.setMemByte a b).mem = true :=
  sorted_mset memDefault s.mem a b h

/-- A write of bytes keeps the memory's canonical form. -/
theorem State.setMemBytes_wf (s : State) (a : Nat) (bs : List Byte) (h : Memory.wf s.mem = true) :
    Memory.wf (s.setMemBytes a bs).mem = true := by
  induction bs generalizing s a with
  | nil => exact h
  | cons b bs ih => exact ih _ _ (State.setMemByte_wf s a b h)

/-- Clearing a bank keeps the memory's canonical form (R276). -/
theorem Memory.wf_mkeep (p : Nat → Bool) (m : List Host.Cell) (h : Memory.wf m = true) : Memory.wf (mkeep p m) = true :=
  sorted_mkeep memDefault p m h

@[simp] theorem State.memByte_setMemByte (s : State) (a a' : Nat) (b : Byte) :
    (s.setMemByte a b).memByte a' = if a' = a then b else s.memByte a' := mget_mset memDefault s.mem a a' b

/-- Bytes outside the written ones read as before. -/
theorem State.memByte_setMemBytes_ne (s : State) (a a' : Nat) (bs : List Byte) (h : a' < a ∨ a + bs.length ≤ a') :
    (s.setMemBytes a bs).memByte a' = s.memByte a' := by
  induction bs generalizing s a with
  | nil => rfl
  | cons b bs ih =>
    simp only [List.length_cons] at h
    rw [State.setMemBytes, ih _ _ (by omega), State.memByte_setMemByte, if_neg (by omega)]

/-- The written bytes read back. -/
theorem State.memByte_setMemBytes (s : State) (a i : Nat) (bs : List Byte) (h : i < bs.length) :
    (s.setMemBytes a bs).memByte (a + i) = bs[i] := by
  induction bs generalizing s a i with
  | nil => simp at h
  | cons b bs ih =>
    cases i with
    | zero => rw [State.setMemBytes, State.memByte_setMemBytes_ne _ _ _ _ (by omega)]; simp
    | succ i =>
      simp only [List.length_cons, Nat.add_lt_add_iff_right] at h
      have := ih (s.setMemByte a b) (a + 1) i h
      rw [State.setMemBytes, show a + (i + 1) = a + 1 + i from by omega, this]
      rfl

/-- A write of a line's check-bit differences keeps their canonical form. -/
theorem State.setLineDiff_sorted (s : State) (n : Nat) (d : BitVec 16) (h : sorted (fun _ => (0 : BitVec 16)) s.crcDiff = true) :
    sorted (fun _ => (0 : BitVec 16)) (s.setLineDiff n d).crcDiff = true := sorted_mset _ s.crcDiff n d h

/-- A register write keeps the registers' canonical form. -/
theorem State.setReg_sorted (s : State) (a : Nat) (w : Word) (h : sorted regReset s.regs = true) :
    sorted regReset (s.setReg a w).regs = true := sorted_mset regReset s.regs a w h

/-- A register write keeps the well-formedness of the state. -/
theorem State.setReg_wf (s : State) (a : Nat) (w : Word) (h : s.wf = true) : (s.setReg a w).wf = true := by
  simp only [State.wf, Bool.and_eq_true] at h ⊢
  exact ⟨⟨h.1.1, State.setReg_sorted s a w h.1.2⟩, h.2⟩

/-- A write of a register field keeps the well-formedness of the state. -/
theorem State.wr_wf (s : State) (pg : Nat) (f : Fld) (v : Nat) (h : s.wf = true) : (s.wr pg f v).wf = true :=
  State.setReg_wf _ _ _ h

theorem State.setMemByte_state_wf (s : State) (a : Nat) (b : Byte) (h : s.wf = true) : (s.setMemByte a b).wf = true := by
  simp only [State.wf, Bool.and_eq_true] at h ⊢
  exact ⟨⟨State.setMemByte_wf s a b h.1.1, h.1.2⟩, h.2⟩

theorem State.setLineDiff_wf (s : State) (n : Nat) (d : BitVec 16) (h : s.wf = true) : (s.setLineDiff n d).wf = true := by
  simp only [State.wf, Bool.and_eq_true] at h ⊢
  exact ⟨h.1, State.setLineDiff_sorted s n d h.2⟩

/-- A state with the registers, the scratchpad and the check-bit differences of a well-formed one is well formed. -/
theorem State.wf_congr (s t : State) (h : s.wf = true) (hr : t.regs = s.regs) (hm : t.mem = s.mem) (hc : t.crcDiff = s.crcDiff) :
    t.wf = true := by rw [State.wf, hr, hm, hc]; exact h

end Sys2Proof.Machine
end

