-- ==== Sys2Proof/Laws/Checks.lean ====
section
/-! SUPPORT. Check codes and reset values of registers: the facts that need no evaluation of a code or of a whole table. -/

namespace Sys2Proof.Machine

open Sys2Proof

/-! ### Check codes -/

theorem crcShiftR_lt (poly n c m : Nat) (hp : poly < 2 ^ m) (hc : c < 2 ^ m) : crcShiftR poly n c < 2 ^ m := by
  induction n generalizing c with
  | zero => exact hc
  | succ n ih =>
    have h2 : c / 2 < 2 ^ m := Nat.lt_of_le_of_lt (Nat.div_le_self _ _) hc
    rw [crcShiftR]; split
    · exact ih _ (Nat.xor_lt_two_pow h2 hp)
    · exact ih _ h2

theorem crcReflected_lt (poly : Nat) (bs : List Byte) (hp : poly < 2 ^ 32) : crcReflected poly bs < 2 ^ 32 := by
  have h : ∀ (l : List Byte) (c : Nat), c < 2 ^ 32 → l.foldl (fun c b => crcShiftR poly 8 (Nat.xor c b.toNat)) c < 2 ^ 32 := by
    intro l; induction l with
    | nil => exact fun _ h => h
    | cons b l ih =>
      intro c hc
      exact ih _ (crcShiftR_lt _ _ _ _ hp (Nat.xor_lt_two_pow hc (Nat.lt_trans b.isLt (by decide))))
  exact Nat.xor_lt_two_pow (h bs _ (by decide)) (by decide)

theorem crc32_lt (bs : List Byte) : crc32 bs < 2 ^ 32 := crcReflected_lt _ _ (by decide)
theorem crc32c_lt (bs : List Byte) : crc32c bs < 2 ^ 32 := crcReflected_lt _ _ (by decide)

/-- A copy of a row that was stored with its CRC is good (R158). -/
theorem freshCopy_good (x : Row) : (freshCopy x).good = true := by
  show (crc32 (rowBytes x) == (BitVec.ofNat 32 (crc32 (rowBytes x))).toNat) = true
  rw [BitVec.toNat_ofNat, Nat.mod_eq_of_lt (crc32_lt _)]
  exact beq_self_eq_true _

/-- A frame stored with its signature matches it (R133). -/
theorem Frame.matches_sig (d : BitVec 4608) : ({ data := d, sig := BitVec.ofNat 32 (crc32c (frameBytes d)) } : Frame).mismatch = false := by
  show (false || crc32c (frameBytes (d ^^^ 0)) != (BitVec.ofNat 32 (crc32c (frameBytes d))).toNat) = false
  have hx : d ^^^ (0 : BitVec 4608) = d := BitVec.xor_zero
  rw [hx, BitVec.toNat_ofNat, Nat.mod_eq_of_lt (crc32c_lt _), Bool.false_or]
  exact bne_self_eq_false _

/-! ### Context rows -/

@[simp] theorem State.ctxRow_setCtxRow (s : State) (c i r c' i' r' : Nat) (x : CtxRow) :
    (s.setCtxRow c i r x).ctxRow c' i' r' = if ctxKey c' i' r' = ctxKey c i r then x else s.ctxRow c' i' r' :=
  mget_mset _ _ _ _ _

@[simp] theorem State.ctxRow_setColumn (s : State) (c c' i r : Nat) (x : Column) : (s.setColumn c x).ctxRow c' i r = s.ctxRow c' i r := rfl

@[simp] theorem State.ctxRow_storeRow (s : State) (c i r c' i' r' : Nat) (x : Row) :
    (s.storeRow c i r x).ctxRow c' i' r' =
      if ctxKey c' i' r' = ctxKey c i r ∧ (s.column c).off = false then ⟨freshCopy x, freshCopy x⟩ else s.ctxRow c' i' r' := by
  unfold State.storeRow
  cases h : (s.column c).off
  · simp only [Bool.false_eq_true, if_false, and_true]; split
    · exact State.ctxRow_setCtxRow ..
    · exact State.ctxRow_setCtxRow ..
  · simp

/-! ### Maps with one value, and registers that nothing has written -/

/-- A map that gives every listed number the same entry. -/
theorem mget_const {α : Type} (d : Nat → α) (l : List Nat) (x : α) (k : Nat)
    (h : mget (fun _ => false) (l.map (fun a => (a, true))) k = true) : mget d (l.map (fun a => (a, x))) k = x := by
  induction l with
  | nil => simp [mget] at h
  | cons a l ih =>
    simp only [List.map_cons, mget] at h ⊢
    split
    · rfl
    · split
      · simp_all
      · simp_all

theorem mget_unlisted {α : Type} (d : Nat → α) (m : SMap α) (k : Nat) (h : m.all (fun e => e.1 != k) = true) : mget d m k = d k := by
  induction m with
  | nil => rfl
  | cons e m ih =>
    obtain ⟨n, v⟩ := e
    simp only [List.all_cons, Bool.and_eq_true, bne_iff_ne] at h
    simp only [mget]; rw [if_neg (fun hh => h.1 hh.symm)]; split
    · rfl
    · exact ih h.2

/-- A register that no entry lists reads as its reset value. -/
theorem State.reg_unlisted (s : State) (a : Nat) (h : s.regs.all (fun e => e.1 != a) = true) : s.reg a = regReset a :=
  mget_unlisted _ _ _ h

/-- Pages of one kind, but for the Spar blocks, the clock domains and the Tether ports, have the same reset values. -/
theorem regReset_congr (pg pg' off i i' : Nat) (k : PageKind) (h : pageOf pg = some (k, i)) (h' : pageOf pg' = some (k, i'))
    (hk : k ≠ .sparBlk ∧ k ≠ .clkDom ∧ k ≠ .tether) (ho : off < 4096) : regReset (pg * 4096 + off) = regReset (pg' * 4096 + off) := by
  obtain ⟨h1, h2, h3⟩ := hk
  have e : ∀ p : Nat, (p * 4096 + off) / 4096 = p ∧ (p * 4096 + off) % 4096 = off := fun p => ⟨by omega, by omega⟩
  have er : rowsAt k i off = rowsAt k i' off := by cases k <;> first | rfl | contradiction
  simp only [regReset, (e pg).1, (e pg).2, (e pg').1, (e pg').2, h, h', h1, h2, er, false_and, if_false]

/-! ### Interrupt sources -/

/-- Where only source 4,095 meets a condition, it is the one found. -/
theorem bestSource_last (prio : Nat → Nat) (p : Nat → Bool) (h : ∀ v, v < 4095 → v ≠ 0 → p v = false) (hp : p 4095 = true) :
    bestSource prio p = some 4095 := by
  have hf : (List.range 4096).filter (fun v => v != 0 && p v) = [4095] := by
    rw [show (4096 : Nat) = 4095 + 1 from rfl, List.range_succ, List.filter_append, List.filter_eq_nil_iff.mpr]
    · simp [hp]
    · intro v hv
      rw [List.mem_range] at hv
      by_cases h0 : v = 0
      · simp [h0]
      · simp [h v hv h0]
  simp only [bestSource, hf]; rfl

/-- The word of a claim that finds source `v` (R343). -/
theorem State.claimSource_word (s : State) (k v : Nat) (h : s.nextClaim k = some v) :
    (s.claimSource k).1 = v + s.rd (pgSrc v) SRC_STATE.COUNT * 2 ^ 16 + 2 ^ 31 := by
  unfold State.claimSource
  generalize s.nextClaim k = o at h ⊢
  subst h
  rfl

/-- Where only panel 575 is a member of a group, it is the list of its members. -/
theorem State.members_last (s : State) (g : Nat) (h : ∀ p, p < 575 → s.isMember g p = false) (hp : s.isMember g 575 = true) :
    s.members g = [575] := by
  simp only [State.members]
  rw [show (576 : Nat) = 575 + 1 from rfl, List.range_succ, List.filter_append, List.filter_eq_nil_iff.mpr]
  · simp [hp]
  · intro v hv; rw [List.mem_range] at hv; simp [h v hv]

end Sys2Proof.Machine
end

