-- ==== Sys2Proof/Laws/Ops.lean ====
section
/-! SUPPORT. Registers and their fields, world violations, doorbells and event bits: what each operation can change. -/

namespace Sys2Proof.Machine

open Sys2Proof

/-! ### Registers -/

theorem State.wr_reg (s : State) (pg : Nat) (f : Fld) (v a : Nat) (h : a ≠ pg * 4096 + f.off) : (s.wr pg f v).reg a = s.reg a := by
  simp [State.wr, State.setReg_reg, h]

theorem State.wr_reg_same (s : State) (pg : Nat) (f : Fld) (v : Nat) :
    (s.wr pg f v).reg (pg * 4096 + f.off) = setF (s.reg (pg * 4096 + f.off)) f.lo f.len v := by simp [State.wr]

/-- A field reads what was written to it, modulo its width. -/
theorem State.rd_wr_same (s : State) (pg : Nat) (f : Fld) (v : Nat) (h : f.lo + f.len ≤ 32) :
    (s.wr pg f v).rd pg f = v % 2 ^ f.len := by
  simp [State.rd, State.wr_reg_same, getF_setF_same _ _ _ _ h]

/-- A field of another register keeps its value. -/
theorem State.rd_wr_reg (s : State) (pg pg' : Nat) (f f' : Fld) (v : Nat) (h : pg' * 4096 + f'.off ≠ pg * 4096 + f.off) :
    (s.wr pg f v).rd pg' f' = s.rd pg' f' := by
  simp [State.rd, State.wr_reg _ _ _ _ _ h]

/-- A field beside the written one keeps its value. -/
theorem State.rd_wr_fld (s : State) (pg : Nat) (f f' : Fld) (v : Nat) (ho : f'.off = f.off)
    (h : f'.lo + f'.len ≤ f.lo ∨ f.lo + f.len ≤ f'.lo) : (s.wr pg f v).rd pg f' = s.rd pg f' := by
  simp [State.rd, State.wr, ho, getF_setF_ne _ _ _ _ _ _ h]

theorem State.inc_reg (s : State) (pg : Nat) (f : Fld) (a : Nat) (h : a ≠ pg * 4096 + f.off) : (s.inc pg f).reg a = s.reg a :=
  State.wr_reg _ _ _ _ _ h

/-- A counter that counts once is one higher, or stays at its maximum (R12). -/
theorem State.rd_inc (s : State) (pg : Nat) (f : Fld) (h : f.lo + f.len ≤ 32) :
    (s.inc pg f).rd pg f = satAdd (2 ^ f.len - 1) (s.rd pg f) 1 := by
  have h1 : satAdd (2 ^ f.len - 1) (s.rd pg f) 1 < 2 ^ f.len := by
    have := Nat.two_pow_pos f.len
    unfold satAdd; split <;> omega
  rw [State.inc, State.add, State.rd_wr_same _ _ _ _ h, Nat.mod_eq_of_lt h1]

theorem State.rd_lt (s : State) (pg : Nat) (f : Fld) : s.rd pg f < 2 ^ f.len := Nat.mod_lt _ (Nat.two_pow_pos _)

theorem State.setReg_rd (s : State) (a pg : Nat) (w : Word) (f : Fld) (h : pg * 4096 + f.off ≠ a) :
    (s.setReg a w).rd pg f = s.rd pg f := by
  simp [State.rd, State.setReg_reg, h]

/-! ### Notices: violations, doorbells and event bits -/

/-- Registers that a violation or a doorbell never touches: those of no interrupt controller page, no source, not the WORLD page's,
and no PAGE_ERRSUM (0x01C). -/
def quiet (a : Nat) : Prop :=
  a / 4096 ≠ pgIntc 0 ∧ a / 4096 ≠ pgIntc 1 ∧ a / 4096 ≠ pgWorld ∧ a / 4096 < 0x10000 ∧ a % 4096 ≠ 0x01C

/-- `s` with other registers, another count of violations and other messages that wait for the rigging. -/
def State.noticed (s : State) (r : List (Nat × Word)) (n : Nat) (m : List Packet) : State :=
  { s with regs := r, worldSeq := n, rig := { s.rig with msgs := m } }

/-- `t` is `s` but for registers that are not quiet, the count of violations and the messages that wait for the rigging. -/
def Noticed (s t : State) : Prop :=
  (∃ r n m, t = s.noticed r n m) ∧ ∀ a, quiet a → t.reg a = s.reg a

theorem Noticed.refl (s : State) : Noticed s s := ⟨⟨s.regs, s.worldSeq, s.rig.msgs, rfl⟩, fun _ _ => rfl⟩

theorem Noticed.trans {s t u : State} (h : Noticed s t) (k : Noticed t u) : Noticed s u := by
  obtain ⟨⟨r, n, m, rfl⟩, h2⟩ := h
  obtain ⟨⟨r', n', m', rfl⟩, k2⟩ := k
  exact ⟨⟨r', n', m', rfl⟩, fun a ha => (k2 a ha).trans (h2 a ha)⟩

theorem Noticed.setReg (s : State) (a : Nat) (w : Word) (h : ¬ quiet a) : Noticed s (s.setReg a w) :=
  ⟨⟨_, s.worldSeq, s.rig.msgs, rfl⟩, fun b hb => by
    have : b ≠ a := fun e => h (e ▸ hb)
    simp [State.setReg_reg, this]⟩

theorem Noticed.wr (s : State) (pg : Nat) (f : Fld) (v : Nat) (h : ¬ quiet (pg * 4096 + f.off)) : Noticed s (s.wr pg f v) :=
  Noticed.setReg _ _ _ h

theorem Noticed.inc (s : State) (pg : Nat) (f : Fld) (h : ¬ quiet (pg * 4096 + f.off)) : Noticed s (s.inc pg f) :=
  Noticed.setReg _ _ _ h

theorem not_quiet_page (pg off : Nat) (h : off < 4096) (hp : pg = pgIntc 0 ∨ pg = pgIntc 1 ∨ pg = pgWorld ∨ 0x10000 ≤ pg) :
    ¬ quiet (pg * 4096 + off) := by
  have : (pg * 4096 + off) / 4096 = pg := by omega
  unfold quiet; rw [this]
  rcases hp with h | h | h | h
  · simp [h]
  · simp [h]
  · simp [h]
  · rintro ⟨-, -, -, h', -⟩; omega

theorem not_quiet_errsum (pg : Nat) : ¬ quiet (pg * 4096 + PAGE_ERRSUM.WORLD.off) := by
  rw [show PAGE_ERRSUM.WORLD.off = 0x01C from rfl]
  unfold quiet
  omega

theorem Noticed.seq (s : State) (n : Nat) : Noticed s { s with worldSeq := n } := ⟨⟨s.regs, n, s.rig.msgs, rfl⟩, fun _ _ => rfl⟩

/-- A message that the device's own block hands to the rigging is a notice. -/
theorem State.postMsg_noticed (s : State) (who : Who) (init dev t addr tag gen : Nat) (ns : Bool) (data : List Byte) :
    Noticed s (s.postMsg who init dev t addr tag gen ns data) := ⟨⟨s.regs, s.worldSeq, _, rfl⟩, fun _ _ => rfl⟩

theorem State.postDoorbell_noticed (s : State) (init pg : Nat) (secure : Bool) (v : Nat) : Noticed s (s.postDoorbell init pg secure v) :=
  State.postMsg_noticed _ _ _ _ _ _ _ _ _ _

theorem State.logViolation_noticed (s : State) (write ns : Bool) (kind init lo hi : Nat) :
    Noticed s (s.logViolation write ns kind init lo hi) := by
  have hw : ∀ off, off < 4096 → ¬ quiet (pgWorld * 4096 + off) := fun off h => not_quiet_page _ _ h (by simp)
  have he : s.rd pgWorld WORLD_LOG_HEAD.HEAD < 16 := State.rd_lt s pgWorld WORLD_LOG_HEAD.HEAD
  have hq : ∀ i, i < 13 → ¬ quiet (pgWorld * 4096 + WORLD_LOG.WORD.off + 16 * s.rd pgWorld WORLD_LOG_HEAD.HEAD + i) := by
    intro i hi
    have hoff : WORLD_LOG.WORD.off < 3000 := by decide
    rw [Nat.add_assoc, Nat.add_assoc]
    exact hw _ (by omega)
  have hq0 : ¬ quiet (pgWorld * 4096 + WORLD_LOG.WORD.off + 16 * s.rd pgWorld WORLD_LOG_HEAD.HEAD) := by have := hq 0 (by omega); rwa [Nat.add_zero] at this
  simp only [State.logViolation]
  split
  · rename_i pg _
    refine Noticed.trans ?_ (Noticed.seq _ _)
    refine Noticed.trans (Noticed.trans (Noticed.trans (Noticed.trans (Noticed.trans (Noticed.trans (Noticed.setReg _ _ _ hq0)
      (Noticed.setReg _ _ _ (hq 4 (by omega)))) (Noticed.setReg _ _ _ (hq 8 (by omega)))) (Noticed.setReg _ _ _ (hq 12 (by omega))))
      (Noticed.wr _ _ _ _ (hw _ (by decide)))) (Noticed.inc _ _ _ (hw _ (by decide)))) (Noticed.wr _ _ _ _ (not_quiet_errsum pg))
  · refine Noticed.trans ?_ (Noticed.seq _ _)
    exact Noticed.trans (Noticed.trans (Noticed.trans (Noticed.trans (Noticed.trans (Noticed.setReg _ _ _ hq0)
      (Noticed.setReg _ _ _ (hq 4 (by omega)))) (Noticed.setReg _ _ _ (hq 8 (by omega)))) (Noticed.setReg _ _ _ (hq 12 (by omega))))
      (Noticed.wr _ _ _ _ (hw _ (by decide)))) (Noticed.inc _ _ _ (hw _ (by decide)))

theorem State.countEvent_noticed (s : State) (src : Nat) : Noticed s (s.countEvent src) := by
  have hw : ∀ off, off < 4096 → ¬ quiet (pgSrc src * 4096 + off) := fun off h => not_quiet_page _ _ h (by simp [pgSrc])
  have h1 : Noticed s (if s.rd (pgSrc src) SRC_STATE.COUNT < s.srcMax then s.inc (pgSrc src) SRC_STATE.COUNT
      else s.wr (pgSrc src) SRC_STATE.OVF 1) := by
    split
    · exact Noticed.inc _ _ SRC_STATE.COUNT (hw _ (by decide))
    · exact Noticed.wr _ _ SRC_STATE.OVF _ (hw _ (by decide))
  unfold State.countEvent
  revert h1
  generalize (if s.rd (pgSrc src) SRC_STATE.COUNT < s.srcMax then s.inc (pgSrc src) SRC_STATE.COUNT
      else s.wr (pgSrc src) SRC_STATE.OVF 1) = u
  intro h1
  dsimp only
  split
  · exact h1.trans (Noticed.wr _ _ SRC_STATE.STATE _ (hw _ (by decide)))
  · exact h1

/-- An event bit of the interrupt controller, and the doorbell that it may ring, are notices. -/
theorem State.intcEvent_noticed (s : State) (b : Fld) (hb : b.off < 4096) : Noticed s (s.intcEvent b) := by
  have hq : ¬ quiet (pgIntc 0 * 4096 + b.off) := not_quiet_page _ _ hb (by simp)
  simp only [State.intcEvent]
  split
  · exact Noticed.refl s
  · split
    · exact (Noticed.wr _ _ _ _ hq).trans (State.postDoorbell_noticed _ _ _ _ _)
    · exact Noticed.wr _ _ _ _ hq

/-- A doorbell that reaches the interrupt controller changes nothing but notices. -/
theorem State.takeDoorbell_noticed (s : State) (db ws : Bool) (v init hi : Nat) : Noticed s (s.takeDoorbell db ws v init hi) := by
  have hw : ∀ off, off < 4096 → ¬ quiet (pgIntc 0 * 4096 + off) := fun off h => not_quiet_page _ _ h (by simp)
  have rej (t : State) : Noticed t (t.intcEvent INTC_EVENT.DB_REJECT) := t.intcEvent_noticed _ (by decide)
  simp only [State.takeDoorbell]
  split
  · exact Noticed.inc _ _ INTC_DB_RESET_CNT.COUNT (hw _ (by decide))
  · split
    · exact (Noticed.inc _ _ INTC_DB_REJ_ZERO.COUNT (hw _ (by decide))).trans (rej _)
    · exact (Noticed.inc _ _ INTC_DB_REJ_RANGE.COUNT (hw _ (by decide))).trans (rej _)
    · refine Noticed.trans ?_ (rej _)
      have h1 := (Noticed.inc s _ INTC_DB_REJ_WORLD.COUNT (hw _ (by decide))).trans
        (State.logViolation_noticed _ true (!ws) 0 init ((if db then pgIntc 0 else pgIntc 1) * 4096 + 0x40) (if init = 91 then hi else 0))
      split
      · exact (h1.trans (Noticed.wr _ _ PAGE_ERRSUM.WORLD _ (not_quiet_errsum _))).trans (Noticed.wr _ _ PAGE_ERRSUM.WORLD _ (not_quiet_errsum _))
      · exact h1.trans (Noticed.wr _ _ PAGE_ERRSUM.WORLD _ (not_quiet_errsum _))
    · have h1 := (State.countEvent_noticed s v).trans (Noticed.inc (s.countEvent v) (pgIntc 0) INTC_DB_CNT.COUNT (hw _ (by decide)))
      split
      · exact h1.trans (State.intcEvent_noticed _ _ (by decide))
      · exact h1

theorem State.ringFrom_noticed (s : State) (pg v init : Nat) : Noticed s (s.ringFrom pg v init) := by
  unfold State.ringFrom
  split
  · exact Noticed.refl s
  · split
    · exact State.takeDoorbell_noticed _ _ _ _ _ _
    · exact State.postDoorbell_noticed _ _ _ _ _

/-- Raising an event bit writes that bit and makes notices, and nothing else. -/
theorem State.raise_noticed (s : State) (pg : Nat) (ev mask src : Fld) :
    s.raise pg ev mask src = s ∨ Noticed (s.wr pg ev 1) (s.raise pg ev mask src) := by
  simp only [State.raise]
  split
  · exact .inl rfl
  · split
    · exact .inr (State.ringFrom_noticed _ _ _ _)
    · exact .inr (Noticed.refl _)

/-- Every quiet register but the one that holds the event bit keeps its value. -/
theorem State.raise_reg (s : State) (pg : Nat) (ev mask src : Fld) (a : Nat) (h : quiet a) (ha : a ≠ pg * 4096 + ev.off) :
    (s.raise pg ev mask src).reg a = s.reg a := by
  rcases State.raise_noticed s pg ev mask src with h1 | h1
  · rw [h1]
  · rw [h1.2 a h, State.wr_reg _ _ _ _ _ ha]

/-- An event bit of a quiet register reads 1 once it has been raised. -/
theorem State.raise_on (s : State) (pg : Nat) (ev mask src : Fld) (hq : quiet (pg * 4096 + ev.off)) (hl : ev.len = 1)
    (hlo : ev.lo < 32) : (s.raise pg ev mask src).rd pg ev = 1 := by
  have h2 := State.rd_wr_same s pg ev 1 (by omega)
  rw [hl] at h2
  by_cases h : s.on pg ev
  · simp only [State.raise, h]; simpa [State.on] using h
  · simp only [State.raise, h]
    simp only [Bool.false_eq_true, if_false]
    split
    · have hr := (State.ringFrom_noticed (s.wr pg ev 1) pg ((s.wr pg ev 1).rd pg src)
          (if pg = pgPwr ∧ 0x200 ≤ ev.off then 21 else pageInitiator pg)).2 _ hq
      unfold State.rd at hr h2 ⊢; rw [hr]; exact h2
    · simpa using h2


/-! ### `State.ringFrom` leaves the rest -/

@[simp] theorem State.ringFrom_pending (s : State) (pg v init : Nat) : (s.ringFrom pg v init).pending = s.pending := by
  obtain ⟨⟨r, n, m, h⟩, -⟩ := s.ringFrom_noticed pg v init; rw [h]; rfl
@[simp] theorem State.ringFrom_ns (s : State) (pg v init : Nat) : (s.ringFrom pg v init).ns = s.ns := by
  obtain ⟨⟨r, n, m, h⟩, -⟩ := s.ringFrom_noticed pg v init; rw [h]; rfl
@[simp] theorem State.ringFrom_powerGood (s : State) (pg v init : Nat) : (s.ringFrom pg v init).powerGood = s.powerGood := by
  obtain ⟨⟨r, n, m, h⟩, -⟩ := s.ringFrom_noticed pg v init; rw [h]; rfl
@[simp] theorem State.ringFrom_freeCtr (s : State) (pg v init : Nat) : (s.ringFrom pg v init).freeCtr = s.freeCtr := by
  obtain ⟨⟨r, n, m, h⟩, -⟩ := s.ringFrom_noticed pg v init; rw [h]; rfl
@[simp] theorem State.ringFrom_resp (s : State) (pg v init : Nat) : (s.ringFrom pg v init).resp = s.resp := by
  obtain ⟨⟨r, n, m, h⟩, -⟩ := s.ringFrom_noticed pg v init; rw [h]; rfl
@[simp] theorem State.ringFrom_out (s : State) (pg v init : Nat) : (s.ringFrom pg v init).out = s.out := by
  obtain ⟨⟨r, n, m, h⟩, -⟩ := s.ringFrom_noticed pg v init; rw [h]; rfl
@[simp] theorem State.ringFrom_straps (s : State) (pg v init : Nat) : (s.ringFrom pg v init).straps = s.straps := by
  obtain ⟨⟨r, n, m, h⟩, -⟩ := s.ringFrom_noticed pg v init; rw [h]; rfl
@[simp] theorem State.ringFrom_fuses (s : State) (pg v init : Nat) : (s.ringFrom pg v init).fuses = s.fuses := by
  obtain ⟨⟨r, n, m, h⟩, -⟩ := s.ringFrom_noticed pg v init; rw [h]; rfl
@[simp] theorem State.ringFrom_stack (s : State) (pg v init : Nat) : (s.ringFrom pg v init).stack = s.stack := by
  obtain ⟨⟨r, n, m, h⟩, -⟩ := s.ringFrom_noticed pg v init; rw [h]; rfl
@[simp] theorem State.ringFrom_panels (s : State) (pg v init : Nat) : (s.ringFrom pg v init).panels = s.panels := by
  obtain ⟨⟨r, n, m, h⟩, -⟩ := s.ringFrom_noticed pg v init; rw [h]; rfl
@[simp] theorem State.ringFrom_switches (s : State) (pg v init : Nat) : (s.ringFrom pg v init).switches = s.switches := by
  obtain ⟨⟨r, n, m, h⟩, -⟩ := s.ringFrom_noticed pg v init; rw [h]; rfl
@[simp] theorem State.ringFrom_frames (s : State) (pg v init : Nat) : (s.ringFrom pg v init).frames = s.frames := by
  obtain ⟨⟨r, n, m, h⟩, -⟩ := s.ringFrom_noticed pg v init; rw [h]; rfl
@[simp] theorem State.ringFrom_columns (s : State) (pg v init : Nat) : (s.ringFrom pg v init).columns = s.columns := by
  obtain ⟨⟨r, n, m, h⟩, -⟩ := s.ringFrom_noticed pg v init; rw [h]; rfl
@[simp] theorem State.ringFrom_ctx (s : State) (pg v init : Nat) : (s.ringFrom pg v init).ctx = s.ctx := by
  obtain ⟨⟨r, n, m, h⟩, -⟩ := s.ringFrom_noticed pg v init; rw [h]; rfl
@[simp] theorem State.ringFrom_ctxValid (s : State) (pg v init : Nat) : (s.ringFrom pg v init).ctxValid = s.ctxValid := by
  obtain ⟨⟨r, n, m, h⟩, -⟩ := s.ringFrom_noticed pg v init; rw [h]; rfl
@[simp] theorem State.ringFrom_ctxNext (s : State) (pg v init : Nat) : (s.ringFrom pg v init).ctxNext = s.ctxNext := by
  obtain ⟨⟨r, n, m, h⟩, -⟩ := s.ringFrom_noticed pg v init; rw [h]; rfl
@[simp] theorem State.ringFrom_gov (s : State) (pg v init : Nat) : (s.ringFrom pg v init).gov = s.gov := by
  obtain ⟨⟨r, n, m, h⟩, -⟩ := s.ringFrom_noticed pg v init; rw [h]; rfl
@[simp] theorem State.ringFrom_fray (s : State) (pg v init : Nat) : (s.ringFrom pg v init).fray = s.fray := by
  obtain ⟨⟨r, n, m, h⟩, -⟩ := s.ringFrom_noticed pg v init; rw [h]; rfl
@[simp] theorem State.ringFrom_bridleNs (s : State) (pg v init : Nat) : (s.ringFrom pg v init).bridleNs = s.bridleNs := by
  obtain ⟨⟨r, n, m, h⟩, -⟩ := s.ringFrom_noticed pg v init; rw [h]; rfl
@[simp] theorem State.ringFrom_srcSel (s : State) (pg v init : Nat) : (s.ringFrom pg v init).srcSel = s.srcSel := by
  obtain ⟨⟨r, n, m, h⟩, -⟩ := s.ringFrom_noticed pg v init; rw [h]; rfl
@[simp] theorem State.ringFrom_gotPrio (s : State) (pg v init : Nat) : (s.ringFrom pg v init).gotPrio = s.gotPrio := by
  obtain ⟨⟨r, n, m, h⟩, -⟩ := s.ringFrom_noticed pg v init; rw [h]; rfl
@[simp] theorem State.ringFrom_lastTgt (s : State) (pg v init : Nat) : (s.ringFrom pg v init).lastTgt = s.lastTgt := by
  obtain ⟨⟨r, n, m, h⟩, -⟩ := s.ringFrom_noticed pg v init; rw [h]; rfl
@[simp] theorem State.ringFrom_linkUp (s : State) (pg v init : Nat) : (s.ringFrom pg v init).linkUp = s.linkUp := by
  obtain ⟨⟨r, n, m, h⟩, -⟩ := s.ringFrom_noticed pg v init; rw [h]; rfl
@[simp] theorem State.ringFrom_fabPorts (s : State) (pg v init : Nat) : (s.ringFrom pg v init).fabPorts = s.fabPorts := by
  obtain ⟨⟨r, n, m, h⟩, -⟩ := s.ringFrom_noticed pg v init; rw [h]; rfl
@[simp] theorem State.ringFrom_warm (s : State) (pg v init : Nat) : (s.ringFrom pg v init).warm = s.warm := by
  obtain ⟨⟨r, n, m, h⟩, -⟩ := s.ringFrom_noticed pg v init; rw [h]; rfl
@[simp] theorem State.ringFrom_resets (s : State) (pg v init : Nat) : (s.ringFrom pg v init).resets = s.resets := by
  obtain ⟨⟨r, n, m, h⟩, -⟩ := s.ringFrom_noticed pg v init; rw [h]; rfl
@[simp] theorem State.ringFrom_banks (s : State) (pg v init : Nat) : (s.ringFrom pg v init).banks = s.banks := by
  obtain ⟨⟨r, n, m, h⟩, -⟩ := s.ringFrom_noticed pg v init; rw [h]; rfl
@[simp] theorem State.ringFrom_mem (s : State) (pg v init : Nat) : (s.ringFrom pg v init).mem = s.mem := by
  obtain ⟨⟨r, n, m, h⟩, -⟩ := s.ringFrom_noticed pg v init; rw [h]; rfl
@[simp] theorem State.ringFrom_crcDiff (s : State) (pg v init : Nat) : (s.ringFrom pg v init).crcDiff = s.crcDiff := by
  obtain ⟨⟨r, n, m, h⟩, -⟩ := s.ringFrom_noticed pg v init; rw [h]; rfl
@[simp] theorem State.ringFrom_initRunning (s : State) (pg v init : Nat) : (s.ringFrom pg v init).initRunning = s.initRunning := by
  obtain ⟨⟨r, n, m, h⟩, -⟩ := s.ringFrom_noticed pg v init; rw [h]; rfl
@[simp] theorem State.ringFrom_heldCtr (s : State) (pg v init : Nat) : (s.ringFrom pg v init).heldCtr = s.heldCtr := by
  obtain ⟨⟨r, n, m, h⟩, -⟩ := s.ringFrom_noticed pg v init; rw [h]; rfl
@[simp] theorem State.ringFrom_handover (s : State) (pg v init : Nat) : (s.ringFrom pg v init).handover = s.handover := by
  obtain ⟨⟨r, n, m, h⟩, -⟩ := s.ringFrom_noticed pg v init; rw [h]; rfl
@[simp] theorem State.ringFrom_repairs (s : State) (pg v init : Nat) : (s.ringFrom pg v init).repairs = s.repairs := by
  obtain ⟨⟨r, n, m, h⟩, -⟩ := s.ringFrom_noticed pg v init; rw [h]; rfl
@[simp] theorem State.ringFrom_ctxTestNext (s : State) (pg v init : Nat) : (s.ringFrom pg v init).ctxTestNext = s.ctxTestNext := by
  obtain ⟨⟨r, n, m, h⟩, -⟩ := s.ringFrom_noticed pg v init; rw [h]; rfl
@[simp] theorem State.ringFrom_gatesClosed (s : State) (pg v init : Nat) : (s.ringFrom pg v init).gatesClosed = s.gatesClosed := by
  obtain ⟨⟨r, n, m, h⟩, -⟩ := s.ringFrom_noticed pg v init; rw [h]; rfl
@[simp] theorem State.ringFrom_root337Was (s : State) (pg v init : Nat) : (s.ringFrom pg v init).root337Was = s.root337Was := by
  obtain ⟨⟨r, n, m, h⟩, -⟩ := s.ringFrom_noticed pg v init; rw [h]; rfl
@[simp] theorem State.ringFrom_lossGates (s : State) (pg v init : Nat) : (s.ringFrom pg v init).lossGates = s.lossGates := by
  obtain ⟨⟨r, n, m, h⟩, -⟩ := s.ringFrom_noticed pg v init; rw [h]; rfl
@[simp] theorem State.ringFrom_oldEdges (s : State) (pg v init : Nat) : (s.ringFrom pg v init).oldEdges = s.oldEdges := by
  obtain ⟨⟨r, n, m, h⟩, -⟩ := s.ringFrom_noticed pg v init; rw [h]; rfl
@[simp] theorem State.ringFrom_goSets (s : State) (pg v init : Nat) : (s.ringFrom pg v init).goSets = s.goSets := by
  obtain ⟨⟨r, n, m, h⟩, -⟩ := s.ringFrom_noticed pg v init; rw [h]; rfl
@[simp] theorem State.ringFrom_planeWait (s : State) (pg v init : Nat) : (s.ringFrom pg v init).planeWait = s.planeWait := by
  obtain ⟨⟨r, n, m, h⟩, -⟩ := s.ringFrom_noticed pg v init; rw [h]; rfl
@[simp] theorem State.ringFrom_planeNow (s : State) (pg v init : Nat) : (s.ringFrom pg v init).planeNow = s.planeNow := by
  obtain ⟨⟨r, n, m, h⟩, -⟩ := s.ringFrom_noticed pg v init; rw [h]; rfl
@[simp] theorem State.ringFrom_monGood (s : State) (pg v init : Nat) : (s.ringFrom pg v init).monGood = s.monGood := by
  obtain ⟨⟨r, n, m, h⟩, -⟩ := s.ringFrom_noticed pg v init; rw [h]; rfl
@[simp] theorem State.ringFrom_pins (s : State) (pg v init : Nat) : (s.ringFrom pg v init).pins = s.pins := by
  obtain ⟨⟨r, n, m, h⟩, -⟩ := s.ringFrom_noticed pg v init; rw [h]; rfl
@[simp] theorem State.ringFrom_halted (s : State) (pg v init : Nat) : (s.ringFrom pg v init).halted = s.halted := by
  obtain ⟨⟨r, n, m, h⟩, -⟩ := s.ringFrom_noticed pg v init; rw [h]; rfl
@[simp] theorem State.ringFrom_jtag (s : State) (pg v init : Nat) : (s.ringFrom pg v init).jtag = s.jtag := by
  obtain ⟨⟨r, n, m, h⟩, -⟩ := s.ringFrom_noticed pg v init; rw [h]; rfl
@[simp] theorem State.ringFrom_madcNext (s : State) (pg v init : Nat) : (s.ringFrom pg v init).madcNext = s.madcNext := by
  obtain ⟨⟨r, n, m, h⟩, -⟩ := s.ringFrom_noticed pg v init; rw [h]; rfl
@[simp] theorem State.ringFrom_tracks (s : State) (pg v init : Nat) : (s.ringFrom pg v init).tracks = s.tracks := by
  obtain ⟨⟨r, n, m, h⟩, -⟩ := s.ringFrom_noticed pg v init; rw [h]; rfl
@[simp] theorem State.ringFrom_bridle (s : State) (pg v init : Nat) : (s.ringFrom pg v init).bridle = s.bridle := by
  obtain ⟨⟨r, n, m, h⟩, -⟩ := s.ringFrom_noticed pg v init; rw [h]; rfl
@[simp] theorem State.ringFrom_firstCommit (s : State) (pg v init : Nat) : (s.ringFrom pg v init).firstCommit = s.firstCommit := by
  obtain ⟨⟨r, n, m, h⟩, -⟩ := s.ringFrom_noticed pg v init; rw [h]; rfl
@[simp] theorem State.ringFrom_chans (s : State) (pg v init : Nat) : (s.ringFrom pg v init).chans = s.chans := by
  obtain ⟨⟨r, n, m, h⟩, -⟩ := s.ringFrom_noticed pg v init; rw [h]; rfl
@[simp] theorem State.ringFrom_engLast (s : State) (pg v init : Nat) : (s.ringFrom pg v init).engLast = s.engLast := by
  obtain ⟨⟨r, n, m, h⟩, -⟩ := s.ringFrom_noticed pg v init; rw [h]; rfl
@[simp] theorem State.ringFrom_store (s : State) (pg v init : Nat) : (s.ringFrom pg v init).store = s.store := by
  obtain ⟨⟨r, n, m, h⟩, -⟩ := s.ringFrom_noticed pg v init; rw [h]; rfl
@[simp] theorem State.ringFrom_jobs (s : State) (pg v init : Nat) : (s.ringFrom pg v init).jobs = s.jobs := by
  obtain ⟨⟨r, n, m, h⟩, -⟩ := s.ringFrom_noticed pg v init; rw [h]; rfl
@[simp] theorem State.ringFrom_jobAt (s : State) (pg v init : Nat) : (s.ringFrom pg v init).jobAt = s.jobAt := by
  obtain ⟨⟨r, n, m, h⟩, -⟩ := s.ringFrom_noticed pg v init; rw [h]; rfl
@[simp] theorem State.ringFrom_restored (s : State) (pg v init : Nat) : (s.ringFrom pg v init).restored = s.restored := by
  obtain ⟨⟨r, n, m, h⟩, -⟩ := s.ringFrom_noticed pg v init; rw [h]; rfl
@[simp] theorem State.ringFrom_vbat (s : State) (pg v init : Nat) : (s.ringFrom pg v init).vbat = s.vbat := by
  obtain ⟨⟨r, n, m, h⟩, -⟩ := s.ringFrom_noticed pg v init; rw [h]; rfl
@[simp] theorem State.ringFrom_lanes (s : State) (pg v init : Nat) : (s.ringFrom pg v init).lanes = s.lanes := by
  obtain ⟨⟨r, n, m, h⟩, -⟩ := s.ringFrom_noticed pg v init; rw [h]; rfl
@[simp] theorem State.ringFrom_ports (s : State) (pg v init : Nat) : (s.ringFrom pg v init).ports = s.ports := by
  obtain ⟨⟨r, n, m, h⟩, -⟩ := s.ringFrom_noticed pg v init; rw [h]; rfl
@[simp] theorem State.ringFrom_kram (s : State) (pg v init : Nat) : (s.ringFrom pg v init).kram = s.kram := by
  obtain ⟨⟨r, n, m, h⟩, -⟩ := s.ringFrom_noticed pg v init; rw [h]; rfl
@[simp] theorem State.ringFrom_ramps (s : State) (pg v init : Nat) : (s.ringFrom pg v init).ramps = s.ramps := by
  obtain ⟨⟨r, n, m, h⟩, -⟩ := s.ringFrom_noticed pg v init; rw [h]; rfl
@[simp] theorem State.ringFrom_pf (s : State) (pg v init : Nat) : (s.ringFrom pg v init).pf = s.pf := by
  obtain ⟨⟨r, n, m, h⟩, -⟩ := s.ringFrom_noticed pg v init; rw [h]; rfl
@[simp] theorem State.ringFrom_load (s : State) (pg v init : Nat) : (s.ringFrom pg v init).load = s.load := by
  obtain ⟨⟨r, n, m, h⟩, -⟩ := s.ringFrom_noticed pg v init; rw [h]; rfl
@[simp] theorem State.ringFrom_perstLow (s : State) (pg v init : Nat) : (s.ringFrom pg v init).perstLow = s.perstLow := by
  obtain ⟨⟨r, n, m, h⟩, -⟩ := s.ringFrom_noticed pg v init; rw [h]; rfl
@[simp] theorem State.ringFrom_partPages (s : State) (pg v init : Nat) : (s.ringFrom pg v init).partPages = s.partPages := by
  obtain ⟨⟨r, n, m, h⟩, -⟩ := s.ringFrom_noticed pg v init; rw [h]; rfl
/-! ### `State.logViolation` leaves the rest -/

@[simp] theorem State.logViolation_pending (s : State) (w n : Bool) (k i lo hi : Nat) : (s.logViolation w n k i lo hi).pending = s.pending := by
  obtain ⟨⟨r, n, m, h⟩, -⟩ := s.logViolation_noticed w n k i lo hi; rw [h]; rfl
@[simp] theorem State.logViolation_ns (s : State) (w n : Bool) (k i lo hi : Nat) : (s.logViolation w n k i lo hi).ns = s.ns := by
  obtain ⟨⟨r, n, m, h⟩, -⟩ := s.logViolation_noticed w n k i lo hi; rw [h]; rfl
@[simp] theorem State.logViolation_powerGood (s : State) (w n : Bool) (k i lo hi : Nat) : (s.logViolation w n k i lo hi).powerGood = s.powerGood := by
  obtain ⟨⟨r, n, m, h⟩, -⟩ := s.logViolation_noticed w n k i lo hi; rw [h]; rfl
@[simp] theorem State.logViolation_freeCtr (s : State) (w n : Bool) (k i lo hi : Nat) : (s.logViolation w n k i lo hi).freeCtr = s.freeCtr := by
  obtain ⟨⟨r, n, m, h⟩, -⟩ := s.logViolation_noticed w n k i lo hi; rw [h]; rfl
@[simp] theorem State.logViolation_resp (s : State) (w n : Bool) (k i lo hi : Nat) : (s.logViolation w n k i lo hi).resp = s.resp := by
  obtain ⟨⟨r, n, m, h⟩, -⟩ := s.logViolation_noticed w n k i lo hi; rw [h]; rfl
@[simp] theorem State.logViolation_out (s : State) (w n : Bool) (k i lo hi : Nat) : (s.logViolation w n k i lo hi).out = s.out := by
  obtain ⟨⟨r, n, m, h⟩, -⟩ := s.logViolation_noticed w n k i lo hi; rw [h]; rfl
@[simp] theorem State.logViolation_straps (s : State) (w n : Bool) (k i lo hi : Nat) : (s.logViolation w n k i lo hi).straps = s.straps := by
  obtain ⟨⟨r, n, m, h⟩, -⟩ := s.logViolation_noticed w n k i lo hi; rw [h]; rfl
@[simp] theorem State.logViolation_fuses (s : State) (w n : Bool) (k i lo hi : Nat) : (s.logViolation w n k i lo hi).fuses = s.fuses := by
  obtain ⟨⟨r, n, m, h⟩, -⟩ := s.logViolation_noticed w n k i lo hi; rw [h]; rfl
@[simp] theorem State.logViolation_stack (s : State) (w n : Bool) (k i lo hi : Nat) : (s.logViolation w n k i lo hi).stack = s.stack := by
  obtain ⟨⟨r, n, m, h⟩, -⟩ := s.logViolation_noticed w n k i lo hi; rw [h]; rfl
@[simp] theorem State.logViolation_panels (s : State) (w n : Bool) (k i lo hi : Nat) : (s.logViolation w n k i lo hi).panels = s.panels := by
  obtain ⟨⟨r, n, m, h⟩, -⟩ := s.logViolation_noticed w n k i lo hi; rw [h]; rfl
@[simp] theorem State.logViolation_switches (s : State) (w n : Bool) (k i lo hi : Nat) : (s.logViolation w n k i lo hi).switches = s.switches := by
  obtain ⟨⟨r, n, m, h⟩, -⟩ := s.logViolation_noticed w n k i lo hi; rw [h]; rfl
@[simp] theorem State.logViolation_frames (s : State) (w n : Bool) (k i lo hi : Nat) : (s.logViolation w n k i lo hi).frames = s.frames := by
  obtain ⟨⟨r, n, m, h⟩, -⟩ := s.logViolation_noticed w n k i lo hi; rw [h]; rfl
@[simp] theorem State.logViolation_columns (s : State) (w n : Bool) (k i lo hi : Nat) : (s.logViolation w n k i lo hi).columns = s.columns := by
  obtain ⟨⟨r, n, m, h⟩, -⟩ := s.logViolation_noticed w n k i lo hi; rw [h]; rfl
@[simp] theorem State.logViolation_ctx (s : State) (w n : Bool) (k i lo hi : Nat) : (s.logViolation w n k i lo hi).ctx = s.ctx := by
  obtain ⟨⟨r, n, m, h⟩, -⟩ := s.logViolation_noticed w n k i lo hi; rw [h]; rfl
@[simp] theorem State.logViolation_ctxValid (s : State) (w n : Bool) (k i lo hi : Nat) : (s.logViolation w n k i lo hi).ctxValid = s.ctxValid := by
  obtain ⟨⟨r, n, m, h⟩, -⟩ := s.logViolation_noticed w n k i lo hi; rw [h]; rfl
@[simp] theorem State.logViolation_ctxNext (s : State) (w n : Bool) (k i lo hi : Nat) : (s.logViolation w n k i lo hi).ctxNext = s.ctxNext := by
  obtain ⟨⟨r, n, m, h⟩, -⟩ := s.logViolation_noticed w n k i lo hi; rw [h]; rfl
@[simp] theorem State.logViolation_gov (s : State) (w n : Bool) (k i lo hi : Nat) : (s.logViolation w n k i lo hi).gov = s.gov := by
  obtain ⟨⟨r, n, m, h⟩, -⟩ := s.logViolation_noticed w n k i lo hi; rw [h]; rfl
@[simp] theorem State.logViolation_fray (s : State) (w n : Bool) (k i lo hi : Nat) : (s.logViolation w n k i lo hi).fray = s.fray := by
  obtain ⟨⟨r, n, m, h⟩, -⟩ := s.logViolation_noticed w n k i lo hi; rw [h]; rfl
@[simp] theorem State.logViolation_bridleNs (s : State) (w n : Bool) (k i lo hi : Nat) : (s.logViolation w n k i lo hi).bridleNs = s.bridleNs := by
  obtain ⟨⟨r, n, m, h⟩, -⟩ := s.logViolation_noticed w n k i lo hi; rw [h]; rfl
@[simp] theorem State.logViolation_srcSel (s : State) (w n : Bool) (k i lo hi : Nat) : (s.logViolation w n k i lo hi).srcSel = s.srcSel := by
  obtain ⟨⟨r, n, m, h⟩, -⟩ := s.logViolation_noticed w n k i lo hi; rw [h]; rfl
@[simp] theorem State.logViolation_gotPrio (s : State) (w n : Bool) (k i lo hi : Nat) : (s.logViolation w n k i lo hi).gotPrio = s.gotPrio := by
  obtain ⟨⟨r, n, m, h⟩, -⟩ := s.logViolation_noticed w n k i lo hi; rw [h]; rfl
@[simp] theorem State.logViolation_lastTgt (s : State) (w n : Bool) (k i lo hi : Nat) : (s.logViolation w n k i lo hi).lastTgt = s.lastTgt := by
  obtain ⟨⟨r, n, m, h⟩, -⟩ := s.logViolation_noticed w n k i lo hi; rw [h]; rfl
@[simp] theorem State.logViolation_linkUp (s : State) (w n : Bool) (k i lo hi : Nat) : (s.logViolation w n k i lo hi).linkUp = s.linkUp := by
  obtain ⟨⟨r, n, m, h⟩, -⟩ := s.logViolation_noticed w n k i lo hi; rw [h]; rfl
@[simp] theorem State.logViolation_fabPorts (s : State) (w n : Bool) (k i lo hi : Nat) : (s.logViolation w n k i lo hi).fabPorts = s.fabPorts := by
  obtain ⟨⟨r, n, m, h⟩, -⟩ := s.logViolation_noticed w n k i lo hi; rw [h]; rfl
@[simp] theorem State.logViolation_warm (s : State) (w n : Bool) (k i lo hi : Nat) : (s.logViolation w n k i lo hi).warm = s.warm := by
  obtain ⟨⟨r, n, m, h⟩, -⟩ := s.logViolation_noticed w n k i lo hi; rw [h]; rfl
@[simp] theorem State.logViolation_resets (s : State) (w n : Bool) (k i lo hi : Nat) : (s.logViolation w n k i lo hi).resets = s.resets := by
  obtain ⟨⟨r, n, m, h⟩, -⟩ := s.logViolation_noticed w n k i lo hi; rw [h]; rfl
@[simp] theorem State.logViolation_banks (s : State) (w n : Bool) (k i lo hi : Nat) : (s.logViolation w n k i lo hi).banks = s.banks := by
  obtain ⟨⟨r, n, m, h⟩, -⟩ := s.logViolation_noticed w n k i lo hi; rw [h]; rfl
@[simp] theorem State.logViolation_mem (s : State) (w n : Bool) (k i lo hi : Nat) : (s.logViolation w n k i lo hi).mem = s.mem := by
  obtain ⟨⟨r, n, m, h⟩, -⟩ := s.logViolation_noticed w n k i lo hi; rw [h]; rfl
@[simp] theorem State.logViolation_crcDiff (s : State) (w n : Bool) (k i lo hi : Nat) : (s.logViolation w n k i lo hi).crcDiff = s.crcDiff := by
  obtain ⟨⟨r, n, m, h⟩, -⟩ := s.logViolation_noticed w n k i lo hi; rw [h]; rfl
@[simp] theorem State.logViolation_initRunning (s : State) (w n : Bool) (k i lo hi : Nat) : (s.logViolation w n k i lo hi).initRunning = s.initRunning := by
  obtain ⟨⟨r, n, m, h⟩, -⟩ := s.logViolation_noticed w n k i lo hi; rw [h]; rfl
@[simp] theorem State.logViolation_heldCtr (s : State) (w n : Bool) (k i lo hi : Nat) : (s.logViolation w n k i lo hi).heldCtr = s.heldCtr := by
  obtain ⟨⟨r, n, m, h⟩, -⟩ := s.logViolation_noticed w n k i lo hi; rw [h]; rfl
@[simp] theorem State.logViolation_handover (s : State) (w n : Bool) (k i lo hi : Nat) : (s.logViolation w n k i lo hi).handover = s.handover := by
  obtain ⟨⟨r, n, m, h⟩, -⟩ := s.logViolation_noticed w n k i lo hi; rw [h]; rfl
@[simp] theorem State.logViolation_repairs (s : State) (w n : Bool) (k i lo hi : Nat) : (s.logViolation w n k i lo hi).repairs = s.repairs := by
  obtain ⟨⟨r, n, m, h⟩, -⟩ := s.logViolation_noticed w n k i lo hi; rw [h]; rfl
@[simp] theorem State.logViolation_ctxTestNext (s : State) (w n : Bool) (k i lo hi : Nat) : (s.logViolation w n k i lo hi).ctxTestNext = s.ctxTestNext := by
  obtain ⟨⟨r, n, m, h⟩, -⟩ := s.logViolation_noticed w n k i lo hi; rw [h]; rfl
@[simp] theorem State.logViolation_gatesClosed (s : State) (w n : Bool) (k i lo hi : Nat) : (s.logViolation w n k i lo hi).gatesClosed = s.gatesClosed := by
  obtain ⟨⟨r, n, m, h⟩, -⟩ := s.logViolation_noticed w n k i lo hi; rw [h]; rfl
@[simp] theorem State.logViolation_root337Was (s : State) (w n : Bool) (k i lo hi : Nat) : (s.logViolation w n k i lo hi).root337Was = s.root337Was := by
  obtain ⟨⟨r, n, m, h⟩, -⟩ := s.logViolation_noticed w n k i lo hi; rw [h]; rfl
@[simp] theorem State.logViolation_lossGates (s : State) (w n : Bool) (k i lo hi : Nat) : (s.logViolation w n k i lo hi).lossGates = s.lossGates := by
  obtain ⟨⟨r, n, m, h⟩, -⟩ := s.logViolation_noticed w n k i lo hi; rw [h]; rfl
@[simp] theorem State.logViolation_oldEdges (s : State) (w n : Bool) (k i lo hi : Nat) : (s.logViolation w n k i lo hi).oldEdges = s.oldEdges := by
  obtain ⟨⟨r, n, m, h⟩, -⟩ := s.logViolation_noticed w n k i lo hi; rw [h]; rfl
@[simp] theorem State.logViolation_goSets (s : State) (w n : Bool) (k i lo hi : Nat) : (s.logViolation w n k i lo hi).goSets = s.goSets := by
  obtain ⟨⟨r, n, m, h⟩, -⟩ := s.logViolation_noticed w n k i lo hi; rw [h]; rfl
@[simp] theorem State.logViolation_planeWait (s : State) (w n : Bool) (k i lo hi : Nat) : (s.logViolation w n k i lo hi).planeWait = s.planeWait := by
  obtain ⟨⟨r, n, m, h⟩, -⟩ := s.logViolation_noticed w n k i lo hi; rw [h]; rfl
@[simp] theorem State.logViolation_planeNow (s : State) (w n : Bool) (k i lo hi : Nat) : (s.logViolation w n k i lo hi).planeNow = s.planeNow := by
  obtain ⟨⟨r, n, m, h⟩, -⟩ := s.logViolation_noticed w n k i lo hi; rw [h]; rfl
@[simp] theorem State.logViolation_monGood (s : State) (w n : Bool) (k i lo hi : Nat) : (s.logViolation w n k i lo hi).monGood = s.monGood := by
  obtain ⟨⟨r, n, m, h⟩, -⟩ := s.logViolation_noticed w n k i lo hi; rw [h]; rfl
@[simp] theorem State.logViolation_pins (s : State) (w n : Bool) (k i lo hi : Nat) : (s.logViolation w n k i lo hi).pins = s.pins := by
  obtain ⟨⟨r, n, m, h⟩, -⟩ := s.logViolation_noticed w n k i lo hi; rw [h]; rfl
@[simp] theorem State.logViolation_halted (s : State) (w n : Bool) (k i lo hi : Nat) : (s.logViolation w n k i lo hi).halted = s.halted := by
  obtain ⟨⟨r, n, m, h⟩, -⟩ := s.logViolation_noticed w n k i lo hi; rw [h]; rfl
@[simp] theorem State.logViolation_jtag (s : State) (w n : Bool) (k i lo hi : Nat) : (s.logViolation w n k i lo hi).jtag = s.jtag := by
  obtain ⟨⟨r, n, m, h⟩, -⟩ := s.logViolation_noticed w n k i lo hi; rw [h]; rfl
@[simp] theorem State.logViolation_madcNext (s : State) (w n : Bool) (k i lo hi : Nat) : (s.logViolation w n k i lo hi).madcNext = s.madcNext := by
  obtain ⟨⟨r, n, m, h⟩, -⟩ := s.logViolation_noticed w n k i lo hi; rw [h]; rfl
@[simp] theorem State.logViolation_tracks (s : State) (w n : Bool) (k i lo hi : Nat) : (s.logViolation w n k i lo hi).tracks = s.tracks := by
  obtain ⟨⟨r, n, m, h⟩, -⟩ := s.logViolation_noticed w n k i lo hi; rw [h]; rfl
@[simp] theorem State.logViolation_bridle (s : State) (w n : Bool) (k i lo hi : Nat) : (s.logViolation w n k i lo hi).bridle = s.bridle := by
  obtain ⟨⟨r, n, m, h⟩, -⟩ := s.logViolation_noticed w n k i lo hi; rw [h]; rfl
@[simp] theorem State.logViolation_firstCommit (s : State) (w n : Bool) (k i lo hi : Nat) : (s.logViolation w n k i lo hi).firstCommit = s.firstCommit := by
  obtain ⟨⟨r, n, m, h⟩, -⟩ := s.logViolation_noticed w n k i lo hi; rw [h]; rfl
@[simp] theorem State.logViolation_chans (s : State) (w n : Bool) (k i lo hi : Nat) : (s.logViolation w n k i lo hi).chans = s.chans := by
  obtain ⟨⟨r, n, m, h⟩, -⟩ := s.logViolation_noticed w n k i lo hi; rw [h]; rfl
@[simp] theorem State.logViolation_engLast (s : State) (w n : Bool) (k i lo hi : Nat) : (s.logViolation w n k i lo hi).engLast = s.engLast := by
  obtain ⟨⟨r, n, m, h⟩, -⟩ := s.logViolation_noticed w n k i lo hi; rw [h]; rfl
@[simp] theorem State.logViolation_store (s : State) (w n : Bool) (k i lo hi : Nat) : (s.logViolation w n k i lo hi).store = s.store := by
  obtain ⟨⟨r, n, m, h⟩, -⟩ := s.logViolation_noticed w n k i lo hi; rw [h]; rfl
@[simp] theorem State.logViolation_jobs (s : State) (w n : Bool) (k i lo hi : Nat) : (s.logViolation w n k i lo hi).jobs = s.jobs := by
  obtain ⟨⟨r, n, m, h⟩, -⟩ := s.logViolation_noticed w n k i lo hi; rw [h]; rfl
@[simp] theorem State.logViolation_jobAt (s : State) (w n : Bool) (k i lo hi : Nat) : (s.logViolation w n k i lo hi).jobAt = s.jobAt := by
  obtain ⟨⟨r, n, m, h⟩, -⟩ := s.logViolation_noticed w n k i lo hi; rw [h]; rfl
@[simp] theorem State.logViolation_restored (s : State) (w n : Bool) (k i lo hi : Nat) : (s.logViolation w n k i lo hi).restored = s.restored := by
  obtain ⟨⟨r, n, m, h⟩, -⟩ := s.logViolation_noticed w n k i lo hi; rw [h]; rfl
@[simp] theorem State.logViolation_vbat (s : State) (w n : Bool) (k i lo hi : Nat) : (s.logViolation w n k i lo hi).vbat = s.vbat := by
  obtain ⟨⟨r, n, m, h⟩, -⟩ := s.logViolation_noticed w n k i lo hi; rw [h]; rfl
@[simp] theorem State.logViolation_lanes (s : State) (w n : Bool) (k i lo hi : Nat) : (s.logViolation w n k i lo hi).lanes = s.lanes := by
  obtain ⟨⟨r, n, m, h⟩, -⟩ := s.logViolation_noticed w n k i lo hi; rw [h]; rfl
@[simp] theorem State.logViolation_ports (s : State) (w n : Bool) (k i lo hi : Nat) : (s.logViolation w n k i lo hi).ports = s.ports := by
  obtain ⟨⟨r, n, m, h⟩, -⟩ := s.logViolation_noticed w n k i lo hi; rw [h]; rfl
@[simp] theorem State.logViolation_kram (s : State) (w n : Bool) (k i lo hi : Nat) : (s.logViolation w n k i lo hi).kram = s.kram := by
  obtain ⟨⟨r, n, m, h⟩, -⟩ := s.logViolation_noticed w n k i lo hi; rw [h]; rfl
@[simp] theorem State.logViolation_ramps (s : State) (w n : Bool) (k i lo hi : Nat) : (s.logViolation w n k i lo hi).ramps = s.ramps := by
  obtain ⟨⟨r, n, m, h⟩, -⟩ := s.logViolation_noticed w n k i lo hi; rw [h]; rfl
@[simp] theorem State.logViolation_pf (s : State) (w n : Bool) (k i lo hi : Nat) : (s.logViolation w n k i lo hi).pf = s.pf := by
  obtain ⟨⟨r, n, m, h⟩, -⟩ := s.logViolation_noticed w n k i lo hi; rw [h]; rfl
@[simp] theorem State.logViolation_load (s : State) (w n : Bool) (k i lo hi : Nat) : (s.logViolation w n k i lo hi).load = s.load := by
  obtain ⟨⟨r, n, m, h⟩, -⟩ := s.logViolation_noticed w n k i lo hi; rw [h]; rfl
@[simp] theorem State.logViolation_perstLow (s : State) (w n : Bool) (k i lo hi : Nat) : (s.logViolation w n k i lo hi).perstLow = s.perstLow := by
  obtain ⟨⟨r, n, m, h⟩, -⟩ := s.logViolation_noticed w n k i lo hi; rw [h]; rfl
@[simp] theorem State.logViolation_partPages (s : State) (w n : Bool) (k i lo hi : Nat) : (s.logViolation w n k i lo hi).partPages = s.partPages := by
  obtain ⟨⟨r, n, m, h⟩, -⟩ := s.logViolation_noticed w n k i lo hi; rw [h]; rfl
/-! ### `State.raise` leaves the rest -/

@[simp] theorem State.raise_pending (s : State) (pg : Nat) (ev mask src : Fld) : (s.raise pg ev mask src).pending = s.pending := by
  rcases s.raise_noticed pg ev mask src with h | ⟨⟨r, n, m, h⟩, -⟩ <;> simp [h, State.noticed]
@[simp] theorem State.raise_ns (s : State) (pg : Nat) (ev mask src : Fld) : (s.raise pg ev mask src).ns = s.ns := by
  rcases s.raise_noticed pg ev mask src with h | ⟨⟨r, n, m, h⟩, -⟩ <;> simp [h, State.noticed]
@[simp] theorem State.raise_powerGood (s : State) (pg : Nat) (ev mask src : Fld) : (s.raise pg ev mask src).powerGood = s.powerGood := by
  rcases s.raise_noticed pg ev mask src with h | ⟨⟨r, n, m, h⟩, -⟩ <;> simp [h, State.noticed]
@[simp] theorem State.raise_freeCtr (s : State) (pg : Nat) (ev mask src : Fld) : (s.raise pg ev mask src).freeCtr = s.freeCtr := by
  rcases s.raise_noticed pg ev mask src with h | ⟨⟨r, n, m, h⟩, -⟩ <;> simp [h, State.noticed]
@[simp] theorem State.raise_resp (s : State) (pg : Nat) (ev mask src : Fld) : (s.raise pg ev mask src).resp = s.resp := by
  rcases s.raise_noticed pg ev mask src with h | ⟨⟨r, n, m, h⟩, -⟩ <;> simp [h, State.noticed]
@[simp] theorem State.raise_out (s : State) (pg : Nat) (ev mask src : Fld) : (s.raise pg ev mask src).out = s.out := by
  rcases s.raise_noticed pg ev mask src with h | ⟨⟨r, n, m, h⟩, -⟩ <;> simp [h, State.noticed]
@[simp] theorem State.raise_straps (s : State) (pg : Nat) (ev mask src : Fld) : (s.raise pg ev mask src).straps = s.straps := by
  rcases s.raise_noticed pg ev mask src with h | ⟨⟨r, n, m, h⟩, -⟩ <;> simp [h, State.noticed]
@[simp] theorem State.raise_fuses (s : State) (pg : Nat) (ev mask src : Fld) : (s.raise pg ev mask src).fuses = s.fuses := by
  rcases s.raise_noticed pg ev mask src with h | ⟨⟨r, n, m, h⟩, -⟩ <;> simp [h, State.noticed]
@[simp] theorem State.raise_stack (s : State) (pg : Nat) (ev mask src : Fld) : (s.raise pg ev mask src).stack = s.stack := by
  rcases s.raise_noticed pg ev mask src with h | ⟨⟨r, n, m, h⟩, -⟩ <;> simp [h, State.noticed]
@[simp] theorem State.raise_panels (s : State) (pg : Nat) (ev mask src : Fld) : (s.raise pg ev mask src).panels = s.panels := by
  rcases s.raise_noticed pg ev mask src with h | ⟨⟨r, n, m, h⟩, -⟩ <;> simp [h, State.noticed]
@[simp] theorem State.raise_switches (s : State) (pg : Nat) (ev mask src : Fld) : (s.raise pg ev mask src).switches = s.switches := by
  rcases s.raise_noticed pg ev mask src with h | ⟨⟨r, n, m, h⟩, -⟩ <;> simp [h, State.noticed]
@[simp] theorem State.raise_frames (s : State) (pg : Nat) (ev mask src : Fld) : (s.raise pg ev mask src).frames = s.frames := by
  rcases s.raise_noticed pg ev mask src with h | ⟨⟨r, n, m, h⟩, -⟩ <;> simp [h, State.noticed]
@[simp] theorem State.raise_columns (s : State) (pg : Nat) (ev mask src : Fld) : (s.raise pg ev mask src).columns = s.columns := by
  rcases s.raise_noticed pg ev mask src with h | ⟨⟨r, n, m, h⟩, -⟩ <;> simp [h, State.noticed]
@[simp] theorem State.raise_ctx (s : State) (pg : Nat) (ev mask src : Fld) : (s.raise pg ev mask src).ctx = s.ctx := by
  rcases s.raise_noticed pg ev mask src with h | ⟨⟨r, n, m, h⟩, -⟩ <;> simp [h, State.noticed]
@[simp] theorem State.raise_ctxValid (s : State) (pg : Nat) (ev mask src : Fld) : (s.raise pg ev mask src).ctxValid = s.ctxValid := by
  rcases s.raise_noticed pg ev mask src with h | ⟨⟨r, n, m, h⟩, -⟩ <;> simp [h, State.noticed]
@[simp] theorem State.raise_ctxNext (s : State) (pg : Nat) (ev mask src : Fld) : (s.raise pg ev mask src).ctxNext = s.ctxNext := by
  rcases s.raise_noticed pg ev mask src with h | ⟨⟨r, n, m, h⟩, -⟩ <;> simp [h, State.noticed]
@[simp] theorem State.raise_gov (s : State) (pg : Nat) (ev mask src : Fld) : (s.raise pg ev mask src).gov = s.gov := by
  rcases s.raise_noticed pg ev mask src with h | ⟨⟨r, n, m, h⟩, -⟩ <;> simp [h, State.noticed]
@[simp] theorem State.raise_fray (s : State) (pg : Nat) (ev mask src : Fld) : (s.raise pg ev mask src).fray = s.fray := by
  rcases s.raise_noticed pg ev mask src with h | ⟨⟨r, n, m, h⟩, -⟩ <;> simp [h, State.noticed]
@[simp] theorem State.raise_bridleNs (s : State) (pg : Nat) (ev mask src : Fld) : (s.raise pg ev mask src).bridleNs = s.bridleNs := by
  rcases s.raise_noticed pg ev mask src with h | ⟨⟨r, n, m, h⟩, -⟩ <;> simp [h, State.noticed]
@[simp] theorem State.raise_srcSel (s : State) (pg : Nat) (ev mask src : Fld) : (s.raise pg ev mask src).srcSel = s.srcSel := by
  rcases s.raise_noticed pg ev mask src with h | ⟨⟨r, n, m, h⟩, -⟩ <;> simp [h, State.noticed]
@[simp] theorem State.raise_gotPrio (s : State) (pg : Nat) (ev mask src : Fld) : (s.raise pg ev mask src).gotPrio = s.gotPrio := by
  rcases s.raise_noticed pg ev mask src with h | ⟨⟨r, n, m, h⟩, -⟩ <;> simp [h, State.noticed]
@[simp] theorem State.raise_lastTgt (s : State) (pg : Nat) (ev mask src : Fld) : (s.raise pg ev mask src).lastTgt = s.lastTgt := by
  rcases s.raise_noticed pg ev mask src with h | ⟨⟨r, n, m, h⟩, -⟩ <;> simp [h, State.noticed]
@[simp] theorem State.raise_linkUp (s : State) (pg : Nat) (ev mask src : Fld) : (s.raise pg ev mask src).linkUp = s.linkUp := by
  rcases s.raise_noticed pg ev mask src with h | ⟨⟨r, n, m, h⟩, -⟩ <;> simp [h, State.noticed]
@[simp] theorem State.raise_fabPorts (s : State) (pg : Nat) (ev mask src : Fld) : (s.raise pg ev mask src).fabPorts = s.fabPorts := by
  rcases s.raise_noticed pg ev mask src with h | ⟨⟨r, n, m, h⟩, -⟩ <;> simp [h, State.noticed]
@[simp] theorem State.raise_warm (s : State) (pg : Nat) (ev mask src : Fld) : (s.raise pg ev mask src).warm = s.warm := by
  rcases s.raise_noticed pg ev mask src with h | ⟨⟨r, n, m, h⟩, -⟩ <;> simp [h, State.noticed]
@[simp] theorem State.raise_resets (s : State) (pg : Nat) (ev mask src : Fld) : (s.raise pg ev mask src).resets = s.resets := by
  rcases s.raise_noticed pg ev mask src with h | ⟨⟨r, n, m, h⟩, -⟩ <;> simp [h, State.noticed]
@[simp] theorem State.raise_banks (s : State) (pg : Nat) (ev mask src : Fld) : (s.raise pg ev mask src).banks = s.banks := by
  rcases s.raise_noticed pg ev mask src with h | ⟨⟨r, n, m, h⟩, -⟩ <;> simp [h, State.noticed]
@[simp] theorem State.raise_mem (s : State) (pg : Nat) (ev mask src : Fld) : (s.raise pg ev mask src).mem = s.mem := by
  rcases s.raise_noticed pg ev mask src with h | ⟨⟨r, n, m, h⟩, -⟩ <;> simp [h, State.noticed]
@[simp] theorem State.raise_crcDiff (s : State) (pg : Nat) (ev mask src : Fld) : (s.raise pg ev mask src).crcDiff = s.crcDiff := by
  rcases s.raise_noticed pg ev mask src with h | ⟨⟨r, n, m, h⟩, -⟩ <;> simp [h, State.noticed]
@[simp] theorem State.raise_initRunning (s : State) (pg : Nat) (ev mask src : Fld) : (s.raise pg ev mask src).initRunning = s.initRunning := by
  rcases s.raise_noticed pg ev mask src with h | ⟨⟨r, n, m, h⟩, -⟩ <;> simp [h, State.noticed]
@[simp] theorem State.raise_heldCtr (s : State) (pg : Nat) (ev mask src : Fld) : (s.raise pg ev mask src).heldCtr = s.heldCtr := by
  rcases s.raise_noticed pg ev mask src with h | ⟨⟨r, n, m, h⟩, -⟩ <;> simp [h, State.noticed]
@[simp] theorem State.raise_handover (s : State) (pg : Nat) (ev mask src : Fld) : (s.raise pg ev mask src).handover = s.handover := by
  rcases s.raise_noticed pg ev mask src with h | ⟨⟨r, n, m, h⟩, -⟩ <;> simp [h, State.noticed]
@[simp] theorem State.raise_repairs (s : State) (pg : Nat) (ev mask src : Fld) : (s.raise pg ev mask src).repairs = s.repairs := by
  rcases s.raise_noticed pg ev mask src with h | ⟨⟨r, n, m, h⟩, -⟩ <;> simp [h, State.noticed]
@[simp] theorem State.raise_ctxTestNext (s : State) (pg : Nat) (ev mask src : Fld) : (s.raise pg ev mask src).ctxTestNext = s.ctxTestNext := by
  rcases s.raise_noticed pg ev mask src with h | ⟨⟨r, n, m, h⟩, -⟩ <;> simp [h, State.noticed]
@[simp] theorem State.raise_gatesClosed (s : State) (pg : Nat) (ev mask src : Fld) : (s.raise pg ev mask src).gatesClosed = s.gatesClosed := by
  rcases s.raise_noticed pg ev mask src with h | ⟨⟨r, n, m, h⟩, -⟩ <;> simp [h, State.noticed]
@[simp] theorem State.raise_root337Was (s : State) (pg : Nat) (ev mask src : Fld) : (s.raise pg ev mask src).root337Was = s.root337Was := by
  rcases s.raise_noticed pg ev mask src with h | ⟨⟨r, n, m, h⟩, -⟩ <;> simp [h, State.noticed]
@[simp] theorem State.raise_lossGates (s : State) (pg : Nat) (ev mask src : Fld) : (s.raise pg ev mask src).lossGates = s.lossGates := by
  rcases s.raise_noticed pg ev mask src with h | ⟨⟨r, n, m, h⟩, -⟩ <;> simp [h, State.noticed]
@[simp] theorem State.raise_oldEdges (s : State) (pg : Nat) (ev mask src : Fld) : (s.raise pg ev mask src).oldEdges = s.oldEdges := by
  rcases s.raise_noticed pg ev mask src with h | ⟨⟨r, n, m, h⟩, -⟩ <;> simp [h, State.noticed]
@[simp] theorem State.raise_goSets (s : State) (pg : Nat) (ev mask src : Fld) : (s.raise pg ev mask src).goSets = s.goSets := by
  rcases s.raise_noticed pg ev mask src with h | ⟨⟨r, n, m, h⟩, -⟩ <;> simp [h, State.noticed]
@[simp] theorem State.raise_planeWait (s : State) (pg : Nat) (ev mask src : Fld) : (s.raise pg ev mask src).planeWait = s.planeWait := by
  rcases s.raise_noticed pg ev mask src with h | ⟨⟨r, n, m, h⟩, -⟩ <;> simp [h, State.noticed]
@[simp] theorem State.raise_planeNow (s : State) (pg : Nat) (ev mask src : Fld) : (s.raise pg ev mask src).planeNow = s.planeNow := by
  rcases s.raise_noticed pg ev mask src with h | ⟨⟨r, n, m, h⟩, -⟩ <;> simp [h, State.noticed]
@[simp] theorem State.raise_monGood (s : State) (pg : Nat) (ev mask src : Fld) : (s.raise pg ev mask src).monGood = s.monGood := by
  rcases s.raise_noticed pg ev mask src with h | ⟨⟨r, n, m, h⟩, -⟩ <;> simp [h, State.noticed]
@[simp] theorem State.raise_pins (s : State) (pg : Nat) (ev mask src : Fld) : (s.raise pg ev mask src).pins = s.pins := by
  rcases s.raise_noticed pg ev mask src with h | ⟨⟨r, n, m, h⟩, -⟩ <;> simp [h, State.noticed]
@[simp] theorem State.raise_halted (s : State) (pg : Nat) (ev mask src : Fld) : (s.raise pg ev mask src).halted = s.halted := by
  rcases s.raise_noticed pg ev mask src with h | ⟨⟨r, n, m, h⟩, -⟩ <;> simp [h, State.noticed]
@[simp] theorem State.raise_jtag (s : State) (pg : Nat) (ev mask src : Fld) : (s.raise pg ev mask src).jtag = s.jtag := by
  rcases s.raise_noticed pg ev mask src with h | ⟨⟨r, n, m, h⟩, -⟩ <;> simp [h, State.noticed]
@[simp] theorem State.raise_madcNext (s : State) (pg : Nat) (ev mask src : Fld) : (s.raise pg ev mask src).madcNext = s.madcNext := by
  rcases s.raise_noticed pg ev mask src with h | ⟨⟨r, n, m, h⟩, -⟩ <;> simp [h, State.noticed]
@[simp] theorem State.raise_tracks (s : State) (pg : Nat) (ev mask src : Fld) : (s.raise pg ev mask src).tracks = s.tracks := by
  rcases s.raise_noticed pg ev mask src with h | ⟨⟨r, n, m, h⟩, -⟩ <;> simp [h, State.noticed]
@[simp] theorem State.raise_bridle (s : State) (pg : Nat) (ev mask src : Fld) : (s.raise pg ev mask src).bridle = s.bridle := by
  rcases s.raise_noticed pg ev mask src with h | ⟨⟨r, n, m, h⟩, -⟩ <;> simp [h, State.noticed]
@[simp] theorem State.raise_firstCommit (s : State) (pg : Nat) (ev mask src : Fld) : (s.raise pg ev mask src).firstCommit = s.firstCommit := by
  rcases s.raise_noticed pg ev mask src with h | ⟨⟨r, n, m, h⟩, -⟩ <;> simp [h, State.noticed]
@[simp] theorem State.raise_chans (s : State) (pg : Nat) (ev mask src : Fld) : (s.raise pg ev mask src).chans = s.chans := by
  rcases s.raise_noticed pg ev mask src with h | ⟨⟨r, n, m, h⟩, -⟩ <;> simp [h, State.noticed]
@[simp] theorem State.raise_engLast (s : State) (pg : Nat) (ev mask src : Fld) : (s.raise pg ev mask src).engLast = s.engLast := by
  rcases s.raise_noticed pg ev mask src with h | ⟨⟨r, n, m, h⟩, -⟩ <;> simp [h, State.noticed]
@[simp] theorem State.raise_store (s : State) (pg : Nat) (ev mask src : Fld) : (s.raise pg ev mask src).store = s.store := by
  rcases s.raise_noticed pg ev mask src with h | ⟨⟨r, n, m, h⟩, -⟩ <;> simp [h, State.noticed]
@[simp] theorem State.raise_jobs (s : State) (pg : Nat) (ev mask src : Fld) : (s.raise pg ev mask src).jobs = s.jobs := by
  rcases s.raise_noticed pg ev mask src with h | ⟨⟨r, n, m, h⟩, -⟩ <;> simp [h, State.noticed]
@[simp] theorem State.raise_jobAt (s : State) (pg : Nat) (ev mask src : Fld) : (s.raise pg ev mask src).jobAt = s.jobAt := by
  rcases s.raise_noticed pg ev mask src with h | ⟨⟨r, n, m, h⟩, -⟩ <;> simp [h, State.noticed]
@[simp] theorem State.raise_restored (s : State) (pg : Nat) (ev mask src : Fld) : (s.raise pg ev mask src).restored = s.restored := by
  rcases s.raise_noticed pg ev mask src with h | ⟨⟨r, n, m, h⟩, -⟩ <;> simp [h, State.noticed]
@[simp] theorem State.raise_vbat (s : State) (pg : Nat) (ev mask src : Fld) : (s.raise pg ev mask src).vbat = s.vbat := by
  rcases s.raise_noticed pg ev mask src with h | ⟨⟨r, n, m, h⟩, -⟩ <;> simp [h, State.noticed]
@[simp] theorem State.raise_lanes (s : State) (pg : Nat) (ev mask src : Fld) : (s.raise pg ev mask src).lanes = s.lanes := by
  rcases s.raise_noticed pg ev mask src with h | ⟨⟨r, n, m, h⟩, -⟩ <;> simp [h, State.noticed]
@[simp] theorem State.raise_ports (s : State) (pg : Nat) (ev mask src : Fld) : (s.raise pg ev mask src).ports = s.ports := by
  rcases s.raise_noticed pg ev mask src with h | ⟨⟨r, n, m, h⟩, -⟩ <;> simp [h, State.noticed]
@[simp] theorem State.raise_kram (s : State) (pg : Nat) (ev mask src : Fld) : (s.raise pg ev mask src).kram = s.kram := by
  rcases s.raise_noticed pg ev mask src with h | ⟨⟨r, n, m, h⟩, -⟩ <;> simp [h, State.noticed]
@[simp] theorem State.raise_ramps (s : State) (pg : Nat) (ev mask src : Fld) : (s.raise pg ev mask src).ramps = s.ramps := by
  rcases s.raise_noticed pg ev mask src with h | ⟨⟨r, n, m, h⟩, -⟩ <;> simp [h, State.noticed]
@[simp] theorem State.raise_pf (s : State) (pg : Nat) (ev mask src : Fld) : (s.raise pg ev mask src).pf = s.pf := by
  rcases s.raise_noticed pg ev mask src with h | ⟨⟨r, n, m, h⟩, -⟩ <;> simp [h, State.noticed]
@[simp] theorem State.raise_load (s : State) (pg : Nat) (ev mask src : Fld) : (s.raise pg ev mask src).load = s.load := by
  rcases s.raise_noticed pg ev mask src with h | ⟨⟨r, n, m, h⟩, -⟩ <;> simp [h, State.noticed]
@[simp] theorem State.raise_perstLow (s : State) (pg : Nat) (ev mask src : Fld) : (s.raise pg ev mask src).perstLow = s.perstLow := by
  rcases s.raise_noticed pg ev mask src with h | ⟨⟨r, n, m, h⟩, -⟩ <;> simp [h, State.noticed]
@[simp] theorem State.raise_partPages (s : State) (pg : Nat) (ev mask src : Fld) : (s.raise pg ev mask src).partPages = s.partPages := by
  rcases s.raise_noticed pg ev mask src with h | ⟨⟨r, n, m, h⟩, -⟩ <;> simp [h, State.noticed]

end Sys2Proof.Machine
end

