-- ==== Sys2Proof/Tests/Slice0.lean ====
section
/-! SUPPORT. Tests: ill-formed commands are refused by the check, values that the spec works out, and for every obligation with
hypotheses a state and operands that meet them. -/

namespace Sys2Proof.Tests

open Sys2Proof Sys2Proof.Machine

-- One kernel evaluation at a time: each takes a thread of its own otherwise.
set_option Elab.async false

/-! ### Small states -/


/-- The host's function 0, with all byte enables. -/
def host : Access := { who := .pf 0 }

/-- After reset, with power good and every stage of the start-up timeline reached. -/
def up : State := { State.reset.setReg (pgReady * 4096 + READY_SUM.SUPV.off) 0x1FF with powerGood := true, ns := 100000000 }

/-- The expert registers of a page unlocked. -/
def open_ (s : State) (pg : Nat) : State := s.wr pg PAGE_EXPERT.UNLOCKED 1

/-- Panel `p` in service: its region 0 is committed, and its clock runs from a fabric PLL. -/
def serving (s : State) (p : Nat) : State :=
  ((s.setPanel p { s.panel p with region := some 0, borderHold := false, parked := false }).wr pgReset (REGION_MAP.COMMITTED.at 0) 1).wr
    (pgDom (clockRegion p)) (CLK_DOM_SWITCH.LIVE_SRC.at (clockRegion p % 80)) 0x40

/-- Slot `n` of panel `p` valid, and group 255 with the panel as a member. -/
def grouped (s : State) (p n : Nat) : State :=
  (s.wr (pgPanel p) (PANEL_PLANE_SLOT.VALID.at n) 1).wr (pgPanel p) (PANEL_GROUP.MEMBER.at 7) 0x80000000

/-- Track `k` of kind `kind` in state `st`, enabled, while the Bridle counts. -/
def tracking (s : State) (k kind st : Nat) : State :=
  (({ s with bridleNs := 1000000 }.wr pgBridle BRIDLE_STATUS.COUNTING 1).wr (pgTrack k) TRK_SRC.KIND kind).wr (pgTrack k) TRK_CTRL.ENABLE 1
    |>.setTrack k { core := { state := st } }

/-- The state that a command answers. -/
def after (i : Instr) (s : State) : State := match exec i s with | .next t => t | _ => s

/-- The host link up, and routes between the host port's node 32 and node 35 of Spool engine 0, in both tables. -/
def routed (s : State) : State :=
  after (.supervisorRunning [(35, 32, 3), (34, 32, 3), (33, 32, 3), (32, 32, 6), (32, 35, 1), (33, 35, 1), (34, 35, 1), (35, 35, 6)])
    ({ s with linkUp := true }.wr pgReady READY_SUM.SUPV 0) |>.wr pgReady READY_SUM.SUPV 1

/-- A packet of the host's function 0 at node 32. -/
def packet : Packet :=
  { node := 32, la := 1, dstNode := 35, dstPort := 1, dstDev := 0, srcInit := 4, srcDev := 0, who := .pf 0, tag := 63, gen := 3, opc := 0,
    epoch := 0, ns := false, bytes := 64, addr := 0, target := 7, inj := 0 }

/-- Tether port 7, enabled on lanes 28 to 31, in state `st`. -/
def linked (s : State) (st : Nat) : State :=
  (((s.wr (pgTether 7) TETHER_CTRL.ENABLE 1).wr (pgTether 7) TETHER_CTRL.LANES 2).wr (pgTether 7) TETHER_CTRL.BASE_LANE 28).wr
    (pgTether 7) TETHER_STATUS.STATE st

/-- A flit of header `h` and an empty payload. -/
def flitBody (h : Nat) : List Byte := bytesLE 4 h ++ List.replicate 240 0
def flitOf (h : Nat) : List Byte := sealFlit (flitBody h)
def openOf (h : Nat) : List Byte := flitBody h ++ bytesLE 8 (crc64 (flitBody h))

/-- Lane 31 in stage `st`, enabled and powered. -/
def laned (s : State) (st : Nat) : State :=
  ((s.wr (pgLane 31) LANE_CTRL.ENABLE 1).wr (pgLane 31) LANE_STATUS.POWER 1).wr (pgLane 31) LANE_STATUS.STAGE st
    |>.wr (pgLane 31) LANE_CTRL.PRECODE 1

/-- The loader streaming, with `buf` as the plaintext to apply. -/
def loading (s : State) (buf : List Byte) : State :=
  let h : ImgHeader := { rolled := false, ksrc := 0, segs := 1, size := 12, last := 1, nonce := [], planes := 255,
                         panels := BitVec.ofNat 576 (2 ^ 576 - 1), tags := [] }
  { s.setLoadState ldStream with load := { s.load with buf := buf, hdr := some h, seg := 1, digest := some [] } }

/-- A record of type `t`. -/
def recOf (t : Nat) (body : List Byte) : List Byte := BitVec.ofNat 8 t :: bytesLE 3 (4 + body.length) ++ body

/-- 576 zero bytes, run-length coded, with padding. -/
def zeros576 : List Byte := [0xFF, 0xFF, 0xFF, 0xFF, 0xBF, 0, 0, 0]

/-- A request of the host that has reached its target, fabric interface 42's region of targets. -/
def atPort42 : Packet :=
  { packet with node := (targetPlace 42).1, la := 6, dstNode := (targetPlace 42).1, dstPort := (targetPlace 42).2, bytes := 4, target := 42 }

/-! ### What the witnesses need beside evaluation -/

theorem ofOption {α : Type} {p : α → Prop} [DecidablePred p] (o : Option α) (h : o.all (fun x => decide (p x)) = true) :
    ∀ x, o = some x → p x := by
  intro x hx; subst hx; simpa using h

theorem someOf {α : Type} (o : Option α) (x : α) (h : o.isSome = true) : o = some (o.getD x) := by
  cases o <;> simp_all

/-- Panel 575 as the one member of group 255, with slot 7 valid. -/
def crew : State := grouped (serving up 575) 575 7

theorem panel_pages : ∀ p, p < 576 → pageOf (pgPanel p) = some (.panel, p) := by decide +kernel

/-- A state in which no register lists another panel as a member of group 254 or 255. -/
theorem crew_only (s : State) (g : Nat) (hg : g = 254 ∨ g = 255) (h : s.regs.all (fun e => e.1 / 4096 == pgPanel 575 || e.1 % 4096 != (PANEL_GROUP.MEMBER.at 7).off) = true)
    (hp : s.isMember g 575 = true) : s.members g = [575] := by
  refine State.members_last _ _ (fun p hp => ?_) hp
  have hu : s.reg (pgPanel p * 4096 + (PANEL_GROUP.MEMBER.at 7).off) = regReset (pgPanel p * 4096 + (PANEL_GROUP.MEMBER.at 7).off) := by
    refine State.reg_unlisted _ _ (List.all_eq_true.mpr fun e he => ?_)
    have := List.all_eq_true.mp h e he
    have hne : pgPanel p ≠ pgPanel 575 := by simp only [pgPanel]; split <;> split <;> omega
    have hof : (PANEL_GROUP.MEMBER.at 7).off < 4096 := by decide
    simp only [Bool.or_eq_true, beq_iff_eq, bne_iff_ne] at this ⊢
    intro heq; rw [heq] at this
    omega
  have hc := regReset_congr _ _ (PANEL_GROUP.MEMBER.at 7).off _ _ _ (panel_pages p (by omega)) (panel_pages 0 (by decide)) (by decide) (by decide)
  show bitOf (getF (s.reg _) _ _) _ = false
  rcases hg with rfl | rfl
  · rw [show (PANEL_GROUP.MEMBER.at (254 / 32)) = PANEL_GROUP.MEMBER.at 7 from rfl, hu, hc]; decide +kernel
  · rw [show (PANEL_GROUP.MEMBER.at (255 / 32)) = PANEL_GROUP.MEMBER.at 7 from rfl, hu, hc]; decide +kernel

theorem crew_live (s : State) (g : Nat) (hm : g = 254 ∨ g = 255) (h : s.regs.all (fun e => e.1 / 4096 == pgPanel 575 || e.1 % 4096 != (PANEL_GROUP.MEMBER.at 7).off) = true)
    (hp : s.isMember g 575 = true) (hg : (s.panel 575).grounded = 0) : s.liveMembers g = [575] := by
  simp [State.liveMembers, crew_only s g hm h hp, hg]

theorem crew_members : crew.members 255 = [575] := crew_only _ _ (.inr rfl) (by decide +kernel) (by decide +kernel)

theorem crew_may : crew.planeRequestBad 255 7 (some 575) = false := by
  simp only [State.planeRequestBad, crew_members]; decide +kernel

theorem crew_alive : crew.liveMembers 255 = [575] := crew_live _ _ (.inr rfl) (by decide +kernel) (by decide +kernel) (by decide +kernel)

theorem crew_still : crew.clockChanges (crew.liveMembers 255) = false := by rw [crew_alive]; decide +kernel

/-- The same with a deferred switch that waits. -/
def crewWaiting : State := { crew with switches := [{ group := 255, slot := 7, src := .register, at_ := 0, pending := true }] }

theorem crew_limit : 1000 * crewWaiting.groupLimit 255 ≤ crewWaiting.ns - 0 := by
  have hm : crewWaiting.members 255 = [575] := crew_members
  rw [State.groupLimit, State.liveMembers, hm]
  decide +kernel

/-- A PANEL_PLANE_CMD for group 255 and slot 7. -/
def crewCmd : Word := BitVec.ofNat 32 (255 * 2 ^ PANEL_PLANE_CMD.GROUP.lo + 7 * 2 ^ PANEL_PLANE_CMD.PLANE.lo)

theorem crewCmd_may : crew.planeRequestBad (getF crewCmd PANEL_PLANE_CMD.GROUP.lo PANEL_PLANE_CMD.GROUP.len)
    (getF crewCmd PANEL_PLANE_CMD.PLANE.lo PANEL_PLANE_CMD.PLANE.len) (some 575) = false := by
  rw [show getF crewCmd PANEL_PLANE_CMD.GROUP.lo PANEL_PLANE_CMD.GROUP.len = 255 from by decide +kernel,
    show getF crewCmd PANEL_PLANE_CMD.PLANE.lo PANEL_PLANE_CMD.PLANE.len = 7 from by decide +kernel]
  exact crew_may

theorem crewCmd_still : crew.clockChanges (crew.liveMembers (getF crewCmd PANEL_PLANE_CMD.GROUP.lo PANEL_PLANE_CMD.GROUP.len)) = false := by
  rw [show getF crewCmd PANEL_PLANE_CMD.GROUP.lo PANEL_PLANE_CMD.GROUP.len = 255 from by decide +kernel]; exact crew_still

/-- The same as a prefetch. -/
def crewPf : Word := BitVec.ofNat 32 (255 * 2 ^ PANEL_PLANE_CMD.GROUP.lo + 7 * 2 ^ PANEL_PLANE_CMD.PLANE.lo + 2 ^ PANEL_PLANE_CMD.PREFETCH.lo)

theorem crewPf_group : getF crewPf PANEL_PLANE_CMD.GROUP.lo PANEL_PLANE_CMD.GROUP.len = 255 := by decide +kernel

theorem crewPf_may : crew.planeRequestBad (getF crewPf PANEL_PLANE_CMD.GROUP.lo PANEL_PLANE_CMD.GROUP.len)
    (getF crewPf PANEL_PLANE_CMD.PLANE.lo PANEL_PLANE_CMD.PLANE.len) (some 575) = false := by
  rw [crewPf_group, show getF crewPf PANEL_PLANE_CMD.PLANE.lo PANEL_PLANE_CMD.PLANE.len = 7 from by decide +kernel]
  exact crew_may

theorem crewPf_still : crew.clockChanges (crew.liveMembers (getF crewPf PANEL_PLANE_CMD.GROUP.lo PANEL_PLANE_CMD.GROUP.len)) = false := by
  rw [crewPf_group]; exact crew_still

theorem crewPf_live : 575 ∈ crew.liveMembers (getF crewPf PANEL_PLANE_CMD.GROUP.lo PANEL_PLANE_CMD.GROUP.len) := by
  rw [crewPf_group, crew_live _ _ (.inr rfl) (by decide +kernel) (by decide +kernel) (by decide +kernel)]; exact List.mem_singleton.mpr rfl

theorem source_pages (v : Nat) (h : v < 4096) : pageOf (pgSrc v) = some (.winSrc, v) := by
  have h1 : ¬ (0x10000 + v < 0x1000) := by omega
  have h2 : ¬ (0x10000 + v < 0x10000) := by omega
  have h3 : 0x10000 + v < 0x11000 := by omega
  simp only [pgSrc, pageOf, if_neg h1, if_neg h2, if_pos h3, Nat.add_sub_cancel_left]

/-- A source that no register entry lists is IDLE. -/
theorem source_idle (s : State) (h : s.regs.all (fun e => decide (e.1 < 0x10000 * 4096 ∨ 0x10FFF * 4096 ≤ e.1)) = true) (v : Nat) (hv : v < 4095) :
    s.srcState v = srcIdle := by
  have hof : SRC_STATE.STATE.off < 4096 := by decide
  have hu : s.reg (pgSrc v * 4096 + SRC_STATE.STATE.off) = regReset (pgSrc v * 4096 + SRC_STATE.STATE.off) := by
    refine State.reg_unlisted _ _ (List.all_eq_true.mpr fun e he => ?_)
    have := List.all_eq_true.mp h e he
    simp only [decide_eq_true_eq, bne_iff_ne, pgSrc] at this ⊢
    intro heq; rw [heq] at this
    omega
  have hc := regReset_congr _ _ SRC_STATE.STATE.off _ _ _ (source_pages v (by omega)) (source_pages 0 (by decide)) (by decide) hof
  show getF (s.reg _) _ _ = _
  rw [hu, hc]; decide +kernel

/-- Source 4,095 is the one that a condition on its state finds. -/
theorem source_last (s : State) (prio : Nat → Nat) (p : Nat → Bool) (st : Nat) (h : s.regs.all (fun e => decide (e.1 < 0x10000 * 4096 ∨ 0x10FFF * 4096 ≤ e.1)) = true)
    (hs : st ≠ srcIdle) (himp : ∀ v, p v = true → s.srcState v = st) (hp : p 4095 = true) : bestSource prio p = some 4095 := by
  refine bestSource_last prio p (fun v hv _ => ?_) hp
  cases hc : p v
  · rfl
  · exact absurd ((himp v hc).symm.trans (source_idle s h v hv)) hs

theorem fio_pages : ∀ b, b < 13 → pageOf (pgFio b) = some (.fio, b) := by decide +kernel

theorem fio_members_zero : ∀ j, j < 48 → getF (regReset (pgFio 0 * 4096 + (FIO_PIN_CFG.PG_MEMBER.at j).off))
    (FIO_PIN_CFG.PG_MEMBER.at j).lo (FIO_PIN_CFG.PG_MEMBER.at j).len = 0 := by decide +kernel

/-- Pins whose configuration is not listed are no members of a plug group. -/
theorem pin_members (s : State)
    (h : s.regs.all (fun e => decide (e.1 / 4096 < 0xC0 ∨ 0xCD ≤ e.1 / 4096 ∨ e.1 % 4096 < 0x100 ∨ e.1 % 8 ≠ 0)) = true) :
    ∀ m, m < 624 → s.rdPin m FIO_PIN_CFG.PG_MEMBER = 0 := by
  intro m hm
  have hoff : (FIO_PIN_CFG.PG_MEMBER.at (m % 48)).off = 0x100 + m % 48 * 8 := rfl
  have hu : s.reg (pgFio (m / 48) * 4096 + (FIO_PIN_CFG.PG_MEMBER.at (m % 48)).off) =
      regReset (pgFio (m / 48) * 4096 + (FIO_PIN_CFG.PG_MEMBER.at (m % 48)).off) := by
    refine State.reg_unlisted _ _ (List.all_eq_true.mpr fun e he => ?_)
    have := List.all_eq_true.mp h e he
    simp only [decide_eq_true_eq, bne_iff_ne, pgFio, hoff] at this ⊢
    intro heq; rw [heq] at this
    omega
  have hc := regReset_congr _ _ (FIO_PIN_CFG.PG_MEMBER.at (m % 48)).off _ _ _ (fio_pages (m / 48) (by omega)) (fio_pages 0 (by decide)) (by decide)
    (by rw [hoff]; omega)
  show getF (s.reg _) _ _ = 0
  rw [hu, hc]; exact fio_members_zero _ (Nat.mod_lt _ (by decide))

/-- A frame of zeros with its signature, and panel 575's shadow slot filled with such frames. -/
def goodFrame : Frame := { data := 0, sig := BitVec.ofNat 32 (crc32c (frameBytes 0)) }
def filling : State :=
  { up.wr (pgPanel 575) PANEL_PLANE_STATE.SHADOW_STATE shFilling with
    frames := ((List.range 128).map (fun f => frameAddr 575 0 f)).map (fun a => (a, goodFrame)) }

theorem filling_frames : ∀ f, f < 128 → (filling.frame (frameAddr 575 (filling.shadowSlot 575) f)).bad = false ∧
    (filling.frame (frameAddr 575 (filling.shadowSlot 575) f)).mismatch = false := by
  have hs : filling.shadowSlot 575 = 0 := by decide +kernel
  have hl : ∀ f, f < 128 → mget (fun _ => false) (((List.range 128).map (fun f => frameAddr 575 0 f)).map (fun a => (a, true))) (frameAddr 575 0 f) = true := by
    decide +kernel
  intro f hf
  have h : filling.frame (frameAddr 575 0 f) = goodFrame := mget_const _ _ _ _ (hl f hf)
  rw [hs, h]
  exact ⟨rfl, Frame.matches_sig 0⟩

/-- Without a retained store, or with a bad buffer of lane 31's record, no record is present. -/
theorem zero_invalid (id : Nat) : zeroBuf.valid id = false := by
  have hv : (bufCrc 0 0 [] == 0) = false := by decide +kernel
  simp only [RsBuf.valid, zeroBuf, Bool.and_eq_false_iff]; exact .inr hv

theorem no_records (id : Nat) : up.record id = none ∧ up.recordBad id = false := by
  have h : ∀ b, up.rsBuf id b = zeroBuf := fun b => rfl
  simp [State.record, State.recordBad, State.currentBuf, h, zero_invalid]

/-- An image header of one segment, whose public key is the one that the fuses hash, and a machine that waits for it. -/
def soundHeader : List Byte :=
  bytesLE 4 0x1A58514F ++ bytesLE 4 1 ++ bytesLE 4 0x5A240001 ++ bytesLE 4 0 ++ bytesLE 4 1 ++ bytesLE 4 1 ++ bytesLE 4 12 ++ bytesLE 4 1 ++
    List.replicate 480 0
def awaiting : State :=
  { up.setLoadState ldHeader with fuses := { policy := 0x17, key := some [], keyHash := Config.sha384 (bytesAt soundHeader 0x100 96) } }

theorem awaiting_takes : awaiting.headerFault soundHeader = none := by
  have hs : headerSound soundHeader = true := by decide +kernel
  have h1 : fieldAt soundHeader 0 4 = 0x1A58514F := by decide +kernel
  have h2 : fieldAt soundHeader 8 4 = 0x5A240001 := by decide +kernel
  have h3 : fieldAt soundHeader 0x10 4 = 1 := by decide +kernel
  have h4 : bitOf awaiting.fuses.policy 0 = true ∧ bitOf awaiting.fuses.policy 3 = false ∧ bitOf awaiting.fuses.policy 4 = true := by decide +kernel
  have h5 : awaiting.rootKey 0 = some [] := rfl
  have h6 : Config.sha384 (bytesAt soundHeader 0x100 96) = awaiting.fuses.keyHash := rfl
  simp [State.headerFault, hs, h1, h2, h3, h4, h5, h6]

/-- Every row of a slot filled with the same contents, each with a sound check. -/
def fillSlot (s : State) (n x : Nat) : State := (List.range n).foldl (fun s r => s.storeRow 287 200 r x) s

theorem fillSlot_succ (s : State) (n x : Nat) : fillSlot s (n + 1) x = (fillSlot s n x).storeRow 287 200 n x := by
  simp only [fillSlot, List.range_succ, List.foldl_append, List.foldl]

theorem fillSlot_columns (s : State) (n x : Nat) : (fillSlot s n x).columns = s.columns := by
  induction n with
  | zero => rfl
  | succ n ih => rw [fillSlot_succ, State.storeRow]; split <;> exact ih

theorem fillSlot_good (s : State) (n x r : Nat) (h : r < n) (ho : (s.column 287).off = false) :
    ((fillSlot s n x).ctxRow 287 200 r).a.good = true := by
  induction n with
  | zero => omega
  | succ n ih =>
    rw [fillSlot_succ, State.ctxRow_storeRow]
    split
    · exact freshCopy_good _
    · rename_i hn
      by_cases hr : r = n
      · refine absurd ⟨by rw [hr], ?_⟩ hn
        rw [State.column, fillSlot_columns]; exact ho
      · exact ih (by omega)

/-! ### Values that the spec works out -/

/-- R20, R44: panel 341 is Upper Sail column 53; its pages. -/
theorem test_panel_pages : pgPanel 341 * 4096 = 0x01835000 ∧ colOf 341 = 53 ∧ pgSparBlk 53 * 4096 = 0x01A35000 := by decide

/-- Chapter 05: frame 17 of slot 5 of panel 341 is at 0x0008_D691. -/
theorem test_frame_address : frameAddr 341 5 17 = 0x0008D691 ∧ framePanel 0x0008D691 = 341 ∧ frameSlot 0x0008D691 = 5 := by decide

/-- R38, chapter 01: CLASS 4, CROSSING 2, COLUMN 53, GROUP 7, FAILED 4. -/
theorem test_dead_bond_word : deadWord 4 2 53 7 4 = 0xA4350740 := by decide

/-- R287: initiator 37 is local port 1 of node 85. -/
theorem test_initiator_place : initPlace 37 = (85, 1) := by decide

/-- Chapter 08: entry 513 of the mark window. -/
theorem test_mark_address : markAddr 513 0 = 0x01144020 := by decide

/-- R153: a scrub's upset of frame 0x0008_D691, and its repair from flash. -/
theorem test_upset_log :
    ((up.logUpset 0 0 0x8D691).logUpset 0 2 0x8D691).reg (pgScrub * 4096 + UPSET_LOG.WORD.off) = 0x8008D691 ∧
    ((up.logUpset 0 0 0x8D691).logUpset 0 2 0x8D691).reg (pgScrub * 4096 + UPSET_LOG.WORD.off + 8) = 0x8408D691 := by decide +kernel

/-- Chapter 10: line 0x929 of bank 106 repaired once, and three times in a row of events. -/
theorem test_bank_log :
    up.logLine logKindRepaired (106 * 8192 + 0x929) |>.logWord 6 0 0 |> (· = 0x946A0929) := by decide +kernel

theorem test_bank_candidate :
    let s := (List.range 3).foldl (fun s _ => State.logLine s logKindRepaired (106 * 8192 + 0x929)) up
    s.logWord 6 0 0 = 0x9C6A0929 ∧ s.rd pgBallast BANK_CAND.BANK = 106 ∧ s.rd pgBallast BANK_CAND.LINE = 0x929 := by decide +kernel

/-- Chapter 13: source 700 delivered to target 5 with COUNT 1; the claim's word. -/
def claimed : State := ((up.wr (pgSrc 4095) SRC_STATE.STATE srcDelivered).wr (pgSrc 4095) SRC_STATE.TARGET 5).wr (pgSrc 4095) SRC_STATE.COUNT 1

theorem test_claim_word : (claimed.claimSource 5).1 = 0x80010FFF := by
  have h := source_last claimed (nget claimed.gotPrio) (fun v => claimed.srcState v == srcDelivered && claimed.srcTarget v == 5) srcDelivered (by decide +kernel)
    (by decide) (fun v h => by simp only [Bool.and_eq_true, beq_iff_eq] at h; exact h.1) (by decide +kernel)
  have hc : claimed.rd (pgSrc 4095) SRC_STATE.COUNT = 1 := by decide +kernel
  have hw := State.claimSource_word claimed 5 4095 h
  rw [hc] at hw
  exact hw.trans (by decide +kernel)

/-- R504: IDCODE reads 0x05A2_4E1B. -/
theorem test_idcode : (after .jtagIdcode up).jtag.out = 0x05A24E1B := by decide +kernel

/-- The check words of the four CRCs for the digits 1 to 9 (R133, R158, R254, R380). -/
theorem test_crc_check_words :
    let nine := (List.range 9).map (fun i => BitVec.ofNat 8 (0x31 + i))
    crc32c nine = 0xE3069283 ∧ crc32 nine = 0xCBF43926 ∧ crc16 nine = 0xD0DB ∧ crc64 nine = 0x995DC9BBDF1939FA := by decide +kernel

/-- R417: 0.800 V to 0.850 V takes 50 µs. -/
def rampingUp : State :=
  ({ up with ramps := [(0, ⟨800, 100000000⟩)] }.setRegState 0 rgRamping).wr pgPwr (PWR_REG.VSET.at 0) 50

theorem test_ramp :
    rampingUp.setPoint 0 = 850 ∧ { rampingUp with ns := 100050000 }.rampNow 0 = 850 ∧ { rampingUp with ns := 100049999 }.rampNow 0 = 849 := by
  decide +kernel

/-- R380: a sealed flit opens without a correction, and with one byte in error. -/
theorem test_flit_opens : (openFlit (flitOf 0)).2 = 0 ∧ (openFlit ((flitOf 0).set 3 0xFF)).2 = 1 := by decide +kernel

/-- The table gives no row bits: no word spells a command. -/
theorem test_no_words : decodeTableWord 32 0xFFFFFFFF = none ∧ State.reset.withFetchWord 32 0 = State.reset := by decide +kernel

/-- A step with an empty queue is one nanosecond (log entry 1). -/
theorem test_empty_step : ∃ t, step State.reset = .next t ∧ t.ns = 1 := ⟨State.reset.tick, rfl, by decide +kernel⟩

/-! ### Ill-formed commands, one for each check -/

theorem test_ill_formed_1 : ([
    .pageReset host 0x1140,
    .pageResetDone 0x10000,
    .expertUnlock host 0x1140,
    .expertLock host 0x1140,
    .pageWorldWrite host 0x1140 0,
    .legacyChange host 0x1140 true,
    .functionLevelReset 8,
    .partResetDone 8,
    .parityMismatch ⟨288, 3, 0, 0⟩,
    .parityMismatch ⟨0, 4, 0, 0⟩,
    .parityMismatch ⟨0, 3, 0, 128⟩,
    .parityMismatch ⟨0, 1, 0, 0⟩,
    .parityMismatch ⟨0, 0, 1, 0⟩,
    .parityMismatch ⟨0, 2, 2, 0⟩,
    .parityMismatch ⟨0, 1, 3, 0⟩,
    .parityMismatch ⟨0, 1, 4, 0⟩,
    .parityMismatch ⟨0, 2, 5, 0⟩,
    .parityMismatch ⟨0, 1, 6, 9⟩,
    .parityMismatch ⟨0, 0, 7, 0⟩,
    .groupProbe ⟨288, 3, 0, 0⟩ [],
    .clockCopyFailed 288 0 ⟨0, 0⟩,
    .clockCopyFailed 0 6 ⟨0, 0⟩,
    .clockCopyFailed 0 0 ⟨3, 0⟩,
    .clockCopyFailed 0 1 ⟨4, 0⟩,
    .clockCopyFailed 0 0 ⟨0, 3⟩] : List Instr).all (fun i => !i.wf) = true := by decide +kernel

theorem test_ill_formed_2 : ([
    .bondCensus [(⟨0, 3, 0, 0⟩, 68)] [],
    .bondCensus [(⟨0, 1, 0, 0⟩, 0)] [],
    .bondCensus [] [(288, 0, ⟨0, 0⟩)],
    .bondCensus [] [(0, 6, ⟨0, 0⟩)],
    .bondCensus [] [(0, 1, ⟨4, 0⟩)],
    .supvReroute [(128, 0, 0)],
    .supvReroute [(0, 192, 0)],
    .supvReroute [(0, 0, 64)],
    .pramHostRead host 576,
    .pramHostWrite host 576 0,
    .riserConflict 288 0 0 false,
    .riserConflict 0 1024 0 false,
    .riserRelease host 288 0 0,
    .riserRelease host 0 32 0,
    .riserConflictClear host 288,
    .planeReq 576 0 0 false false,
    .planeReq 0 256 0 false false,
    .planeReq 0 0 8 false false,
    .planeCmd host 576 0,
    .planeFillDone 576 [] [],
    .planeSwitch true 576 [],
    .planeSwitch false 256 [],
    .switchDeferTimeout 256,
    .frameRepairDone (2 ^ 20),
    .frameRepairDone (288 * 1024)] : List Instr).all (fun i => !i.wf) = true := by decide +kernel

theorem test_ill_formed_3 : ([
    .repairTimeout (2 ^ 20),
    .repairTimeout (288 * 1024),
    .sailReadback 576 [],
    .ctxPortReq 576 0 false 0 false,
    .ctxPortReq 0 16 false 0 false,
    .ctxPortReq 0 0 false 256 false,
    .ctxCmd host 576 0,
    .swapAccept 576 [],
    .contextLoad 576 [] [] ⟨0, 0⟩,
    .contextLoad 0 [⟨259, 0, 0, 0⟩] [] ⟨0, 0⟩,
    .contextLoad 0 [⟨0, 8, 0, 0⟩] [] ⟨0, 0⟩,
    .swapEdge 576 1 { panel := 576 },
    .swapEdge 0 16 { panel := 0 },
    .swapEdge 0 1 { panel := 1 },
    .contextSave ⟨576, 0⟩,
    .swapDeferTimeout 576,
    .ctxAccRead host 288 0,
    .ctxAccWrite host 288 0,
    .ctxAccDone 288 [],
    .ctxAccDone 0 [⟨259, 0, 0, 0⟩],
    .ctxAccDone 0 [⟨0, 8, 0, 0⟩],
    .ctxBufDataWrite host 288 0,
    .ctxBufDataRead host 288,
    .ctxSplitWrite host 288 0,
    .trackEnable host 64] : List Instr).all (fun i => !i.wf) = true := by decide +kernel

theorem test_ill_formed_4 : ([
    .trackDisable host 64,
    .trackRestart host 64,
    .forceFault host 64,
    .trackPreset host 64,
    .quadEdge 64 false false 0,
    .pulseEdge 64 false 0,
    .periodEdge 64 0,
    .zEdge 64,
    .trackPositionWord 576 0 ⟨false, 0⟩,
    .trackPositionWord 0 64 ⟨false, 0⟩,
    .timeStepWord 576 0 0,
    .timeStepWord 0 64 0,
    .timeRateWord 576 0 0,
    .timeRateWord 0 64 0,
    .timeStepWrite host 64 0,
    .trackPortRead 576 0,
    .trackPortRead 0 64,
    .keepAlive 64,
    .coastExpiry 64,
    .staleExpiry 64,
    .rangeOverflow 64,
    .trackSnapshot host 64,
    .zLatchCapture host 64,
    .stagedPairWrite host 64 TRK_MOD_HI.M.off 0,
    .stagedPairWrite host 0 0 0] : List Instr).all (fun i => !i.wf) = true := by decide +kernel

theorem test_ill_formed_5 : ([
    .markStage host 16384 1 0,
    .markStage host 0 0 0,
    .markStage host 0 7 0,
    .markCommit host 16384 0,
    .actionStage host 4096 1 0,
    .actionStage host 0 0 0,
    .actionStage host 0 16 0,
    .actionCommit host 4096 0,
    .markRangeWrite host 64 0,
    .markCrossing 64 0,
    .markCrossing 0 16384,
    .predictiveCommit 64 0,
    .predictiveCommit 0 16384,
    .predictLock 64 0,
    .predictLock 0 16384,
    .comparatorRefill 64,
    .pinEdge 624,
    .stagePortRead 576 0,
    .stagePortRead 0 256,
    .tempConversion [(288, 0, 0, 0, 0)],
    .forcedSwitch 288,
    .prefetchDeferTimeout 576,
    .bankPortReq 576 false 0 0 0 [],
    .bankPortReq 0 false 0x80000 0 0 [],
    .bankPortReq 0 false 0 128 0 []] : List Instr).all (fun i => !i.wf) = true := by decide +kernel

theorem test_ill_formed_6 : ([
    .bankPortReq 0 false 0 0 64 [],
    .bankPortResponse 576,
    .bankRead (.port 576) [],
    .bankRead (.port 0) [{ line := 576 * 8192 }],
    .bankWrite (.port 576) [] [],
    .bankWrite (.port 0) [] [{ line := 576 * 8192 }],
    .mirrorRepairWrite 576 0,
    .mirrorRepairWrite 0 8192,
    .mirrorSyncDone 36 0,
    .mirrorSyncDone 0 8,
    .bankBlockTest 576,
    .bankTestDone 576 none,
    .ctxStoreTest 288 .passed,
    .bankInitDone 576,
    .rigRequest (.fabric 90) (.host 0) false 0 [],
    .rigHop ⟨0, 0⟩ .good false { code := 14 },
    .rigTimeout 90 0,
    .rigTimeout 0 64,
    .tagQuarantineEnd 90 0,
    .tagQuarantineEnd 0 64,
    .rigMsg 90,
    .routeTableWrite host 128 0,
    .nodeDisable host 128,
    .linkDisable host 128 0,
    .nodeDrained 128 none] : List Instr).all (fun i => !i.wf) = true := by decide +kernel

theorem test_ill_formed_7 : ([
    .nodeDrained 0 (some 6),
    .domainDrain 3,
    .domainDrain 16,
    .drainTimeout 3,
    .drainTimeout 16,
    .domainClamp 3,
    .domainClamp 16,
    .domainPowerUp 3,
    .domainPowerUp 16,
    .channelEnable host 64 0,
    .channelDisable host 64,
    .chKick host 64,
    .chResume host 64,
    .chSkip host 64,
    .chAbort host 64,
    .chStop host 64,
    .chTrigger host 64,
    .descFetch 64 .issue,
    .listFetch 64 false .issue,
    .dataBurst 64 false 0,
    .writeBack 64 false .issue,
    .tgtClaim host 32,
    .tgtComplete host 32 0,
    .portClaim 576 0,
    .portClaim 0 16] : List Instr).all (fun i => !i.wf) = true := by decide +kernel

theorem test_ill_formed_8 : ([
    .portComplete 576 0 0,
    .portComplete 0 0 16,
    .portComplete 0 4096 0,
    .targetDisable host 32 0,
    .laneEnable host 32 0,
    .laneDisable host 32,
    .laneRetrain host 32,
    .detectProbe 32 false,
    .cdrLock 32 {},
    .bitLock 32,
    .flitLock 32,
    .stageTimeout 32,
    .backoffExpiry 32,
    .lockLost 32,
    .fullAdaptation 32 (List.replicate 533 {}),
    .fullAdaptation 0 [],
    .trimRun 32 {} {} {},
    .dataPathCheck 32 {},
    .ctleStep 32,
    .qualityUpdate 32 {} 0 0,
    .qualityUpdate 0 {} 10 0,
    .pllRelock 8,
    .calCapture host 32,
    .calLoad host 32,
    .calSave host 32] : List Instr).all (fun i => !i.wf) = true := by decide +kernel

theorem test_ill_formed_9 : ([
    .calAutosave 32,
    .portEnable host 8 0,
    .portRetrain host 8,
    .dataFlit 8 (List.replicate 256 0),
    .dataFlit 0 [],
    .nullFlit 8 (List.replicate 256 0),
    .nullFlit 0 [],
    .replayRequest 8 (List.replicate 256 0),
    .replayRequest 0 [],
    .ackTimeout 8,
    .capFlit 8 true (List.replicate 256 0),
    .capFlit 0 true [],
    .portActive 8,
    .portDown 8,
    .echoSend 8 0,
    .echoFlit 8 (List.replicate 256 0) false 0 0 0 0,
    .echoFlit 0 [] false 0 0 0 0,
    .syncSend 24,
    .domainSwitch host 320 0,
    .switchDone 320,
    .monitorWindow [(6, 0)],
    .monitorWindow [(32, 0)],
    .pllLockLoss 6,
    .pllLockLoss 32,
    .fpllEnable host 24 0] : List Instr).all (fun i => !i.wf) = true := by decide +kernel

theorem test_ill_formed_10 : ([
    .fpllLock 24,
    .vsetWrite host 16 0,
    .regFault 16,
    .railSample [(35, 0)],
    .railSample [(0, 8192)],
    .commitEdge 576,
    .loadStreamWrite host 0x1FC [],
    .loadStreamWrite host 0x3FC [0, 0],
    .loadStreamWrite host 0x202 [],
    .sourceRepair (2 ^ 20) [] [],
    .sourceRepair (288 * 1024) [] [],
    .sliceStart 576,
    .sliceEnd 576 0,
    .pinInput 624 false,
    .glitchFilterPass 624,
    .debounceExpiry 624,
    .pgEnable host 32 0,
    .pinCfgWrite host 624 0,
    .fioOutWrite host 13 false 0,
    .pcieLinkUp 2 { rate := 2, precode := 0, ffe := [] },
    .pcieLinkUp 16 { rate := 1, precode := 0, ffe := [] },
    .pcieLinkUp 16 { rate := 8, precode := 0, ffe := [] },
    .supervisorRunning [(128, 0, 0)],
    .supervisorRunning [(0, 192, 0)],
    .regRampDone 16] : List Instr).all (fun i => !i.wf) = true := by decide +kernel

/-- An ill-formed command faults by name (log entry 4). -/
theorem test_ill_formed_faults : exec (.trackEnable host 64) up = .fault .noSuchUnit := rfl

/-! ### What meets the hypotheses of the obligations: one witness for each clause that has hypotheses -/

def w_EmptyQueueTicks_0 : State := { up with powerGood := false }

theorem met_EmptyQueueTicks :
    (∃ (s : State),
      s.pending = [] ∧ s.powerGood = false) ∧
    (∃ (s : State),
      s.pending = [] ∧ s.powerGood = true) :=
  ⟨⟨w_EmptyQueueTicks_0, by decide +kernel⟩,
   ⟨up, by decide +kernel⟩⟩

theorem met_WellFormedCommandsRun :
    (∃ (i : Instr),
      i.wf = true) ∧
    (∃ (i : Instr),
      i.wf = false) :=
  ⟨⟨(.trackEnable host 63), by decide +kernel⟩,
   ⟨(.trackEnable host 64), by decide +kernel⟩⟩

theorem met_RejectedWriteLeavesRegister :
    (∃ (s : State) (a : Access) (pg : Nat) (off : Nat) (v : Word) (k : PageKind) (i : Nat) (r : FieldRow),
      pageOf pg = some (k, i) ∧ s.reachGate a.who true pg off = .pass ∧ r ∈ rowsAt k i off ∧ r.acc = .rw ∧
        inRanges r.rng (getF v r.fld.lo r.fld.len) = false) ∧
    (∃ (s : State) (a : Access) (addr : Nat) (v : Word) (k : PageKind) (i : Nat),
      addr < 2 ^ 26 ∧ pageOf (addr / 4096) = some (k, i) ∧ ¬ (addr / 4096 = pgIntc 0 ∧ addr % 4096 / 4 * 4 = INTC_DOORBELL_S.SOURCE.off) ∧
        ¬ (addr / 4096 = pgIntc 1 ∧ addr % 4096 / 4 * 4 = INTC_DOORBELL_NS.SOURCE.off) ∧
        regDeny a k i (addr / 4096) (addr % 4096 / 4 * 4) v true s = none ∧
        (s.writeGate a (addr / 4096) (addr % 4096 / 4 * 4) v = .reject ∨ (s.writeGate a (addr / 4096) (addr % 4096 / 4 * 4) v = .pass ∧
        regBody a k i (addr / 4096) (addr % 4096 / 4 * 4) v (s.respond .ok 0) = none))) :=
  ⟨⟨up, host, pgScrub, SCRUB_REPAIR_TIMEOUT.MS.off, 0, .scrub, 0, (⟨SCRUB_REPAIR_TIMEOUT.MS, 1, .rw, 0x3e8, clPC, [(1, 60000)]⟩), by decide +kernel⟩,
   ⟨up, ({ who := .pf 0, be := 14 }), (pgScrub * 4096 + SCRUB_REPAIR_TIMEOUT.MS.off), 5, .scrub, 0, by decide +kernel⟩⟩

theorem met_WritesAreChecked :
    (∃ (s : State) (a : Access) (pg : Nat) (off : Nat) (v : Word) (k : PageKind) (i : Nat),
      pageOf pg = some (k, i) ∧ s.reachGate a.who true pg off = .pass ∧
        (a.be ≠ 15 ∨ v &&& ~~~ usedBits (rowsAt k i off) ≠ 0 ∨ k = .ident ∨ k = .ready ∨ (0x40 ≤ off ∧
        s.on (headerPage pg) PAGE_RESET.BUSY = true) ∨ (hasHeader k = true ∧ 0x400 ≤ off ∧ s.on (headerPage pg) PAGE_EXPERT.UNLOCKED = false))) ∧
    (∃ (s : State) (a : Access) (x : Nat × Fld),
      x ∈ [(pgRig, RIG_INIT_TIMEOUT.US), (pgRig, RIG_DRAIN_TIMEOUT.US), (pgLoad, LOAD_IDLE_TIMEOUT.MS), (pgScrub, SCRUB_REPAIR_TIMEOUT.MS), (pgTether 0, TETHER_TIMERS.ACK_TIMEOUT_US), (pgTether 7, TETHER_TIMERS.ACK_TIMEOUT_US)] ∧ s.reachGate a.who true x.1 x.2.off = .pass) :=
  ⟨⟨up, ({ who := .pf 0, be := 14 }), pgScrub, SCRUB_REPAIR_TIMEOUT.MS.off, 5, .scrub, 0, by decide +kernel⟩,
   ⟨up, host, ((pgRig, RIG_INIT_TIMEOUT.US)), by decide +kernel⟩⟩

theorem met_AcceptedWriteStoresFields :
    (∃ (s : State) (a : Access) (pg : Nat) (off : Nat) (v : Word) (k : PageKind),
      (pg = pgScrub ∧ k = .scrub ∨ pg = pgSupv ∧ k = .supvMbox) ∧ 0x40 ≤ off ∧ off < 4096 ∧ off % 4 = 0 ∧ s.writeGate a pg off v = .pass) :=
  ⟨up, host, pgScrub, SCRUB_REPAIR_TIMEOUT.MS.off, 5, .scrub, by decide +kernel⟩

def w_PageHeaderCommands_1 : State := up.wr pgScrub PAGE_RESET.BUSY 1
def w_PageHeaderCommands_5 : State := ((up.wr (pgSrc 1) SRC_STATE.COUNT 200).wr (pgSrc 4095) SRC_STATE.COUNT 9).wr (pgIntc 0) INTC_GLOBAL.DELIVER 0

theorem met_PageHeaderCommands :
    (∃ (s : State) (a : Access) (pg : Nat) (k : PageKind) (i : Nat),
      headed pg = true ∧ pageOf pg = some (k, i) ∧ capResettable k = true ∧ s.writeGate a pg PAGE_RESET.KEY.off 0x5A01 = .pass ∧
        s.on pg PAGE_RESET.BUSY = false ∧ s.initialising pg = false) ∧
    (∃ (s : State) (pg : Nat),
      headed pg = true ∧ s.on pg PAGE_RESET.BUSY = true ∧ (pg ≠ pgPcie ∨ s.perstLow = false)) ∧
    (∃ (s : State) (a : Access) (pg : Nat) (k : PageKind) (i : Nat),
      headed pg = true ∧ pageOf pg = some (k, i) ∧ capExpert k = true ∧ s.writeGate a pg PAGE_EXPERT.KEY.off 0xE0E0 = .pass) ∧
    (∃ (s : State) (a : Access) (pg : Nat),
      headed pg = true ∧ s.writeGate a pg PAGE_EXPERT.KEY.off 0 = .pass) ∧
    (∃ (s : State) (a : Access) (pg : Nat) (v : Word) (k : PageKind) (i : Nat),
      headed pg = true ∧ pageOf pg = some (k, i) ∧ s.writeGate a pg PAGE_WORLD.SECURE.off v = .pass ∧
        (capWorldSet k = true ∨ getF v 0 1 = s.rd pg PAGE_WORLD.SECURE)) ∧
    (∃ (s : State) (a : Access) (legacy : Bool),
      s.wf = true ∧ s.writeGate a (pgIntc 0) PAGE_COMPAT.LEGACY.off (BitVec.ofNat 32 (bnat legacy)) = .pass ∧
        s.on (pgIntc 0) INTC_GLOBAL.DELIVER = false) :=
  ⟨⟨up, host, pgScrub, .scrub, 0, by decide +kernel⟩,
   ⟨w_PageHeaderCommands_1, pgScrub, by decide +kernel⟩,
   ⟨up, host, (pgPanel 575), .panel, 575, by decide +kernel⟩,
   ⟨up, host, (pgPanel 0), by decide +kernel⟩,
   ⟨up, host, (pgTrack 63), 3, .track, 63, by decide +kernel⟩,
   ⟨w_PageHeaderCommands_5, host, true, by decide +kernel⟩⟩

def w_PartitionResets_2 : State := up.wr pgReset PART_RESET.BUSY 0x81

theorem met_PartitionResets :
    (∃ (s : State) (a : Access) (v : Word),
      s.writeGate a pgReset PART_RESET.KEY.off v = .pass ∧ getF v 16 16 = 0x5A02 ∧ getF v 0 3 ≠ 0 ∧
        bitOf (s.rd pgReset PART_RESET.BUSY) (getF v 0 3) = false) ∧
    (∃ (s : State) (n : Nat),
      n < 8 ∧ bitOf (s.rd pgReset PART_RESET.BUSY) n = false) ∧
    (∃ (s : State) (n : Nat),
      n < 8 ∧ bitOf (s.rd pgReset PART_RESET.BUSY) n = true) :=
  ⟨⟨up, host, 0x5A020007, by decide +kernel⟩,
   ⟨up, 7, by decide +kernel⟩,
   ⟨w_PartitionResets_2, 7, by decide +kernel⟩⟩

def w_BondGroupsRepair_5 : State := up.setGroup ⟨287, 2, 0, 0⟩ { failed := [64, 65, 66] }

theorem met_BondGroupsRepair :
    (∃ (s : State) (g : GroupId),
      groupOk g = true ∧ g.cls ≠ clsRiser ∧ (s.group g).exhausted = false) ∧
    (∃ (s : State) (g : GroupId),
      groupOk g = true ∧ (g.cls = clsRiser ∨ (s.group g).exhausted = true)) ∧
    (∃ (g : GroupId),
      groupOk g = true) ∧
    (∃ (s : State) (g : GroupId),
      groupOk g = true ∧ 2 ≤ (s.group g).working.length) ∧
    (∃ (s : State) (g : GroupId) (i : Nat) (p : Nat) (q : Nat) (b : Nat),
      groupOk g = true ∧ i < 64 ∧ s.probeSkips g i = false ∧ p ∈ (s.group g).working ∧ q ∈ (s.group g).working ∧ p ≠ q ∧
        b = (s.group g).carrier i ∧ b < 68 ∧ b ∉ (s.group g).failed ∧ (s.group g).signalOf b = some i) ∧
    (∃ (s : State) (g : GroupId) (i : Nat) (p : Nat) (b : Nat),
      groupOk g = true ∧ i < 64 ∧ s.probeSkips g i = false ∧ (s.group g).working = [p] ∧ b = (s.group g).carrier i ∧ b < 68 ∧
        b ∉ (s.group g).failed ∧ (s.group g).signalOf b = some i) ∧
    (∃ (s : State) (g : GroupId) (i : Nat) (j : Nat) (p : Nat),
      groupOk g = true ∧ i < 64 ∧ j < 64 ∧ i ≠ j ∧ s.probeSkips g i = false ∧ s.probeSkips g j = false ∧ p ∈ (s.group g).working ∧
        2 ≤ (s.group g).working.length ∧ p ∉ (s.group g).failed) :=
  ⟨⟨up, (⟨287, 2, 0, 0⟩), by decide +kernel⟩,
   ⟨up, (⟨287, 2, clsRiser, 15⟩), by decide +kernel⟩,
   ⟨(⟨287, 2, 0, 0⟩), by decide +kernel⟩,
   ⟨up, (⟨287, 2, 0, 0⟩), by decide +kernel⟩,
   ⟨up, (⟨287, 2, 0, 0⟩), 63, 64, 67, 63, by decide +kernel⟩,
   ⟨w_BondGroupsRepair_5, (⟨287, 2, 0, 0⟩), 63, 67, 63, by decide +kernel⟩,
   ⟨up, (⟨287, 2, 0, 0⟩), 62, 63, 67, by decide +kernel⟩⟩

def w_TriadsFusesAndCensus_1 : State := { up with stack := { up.stack with triads := [(32 * 287 + 4 * 5 + 3, 1)] } }
def w_TriadsFusesAndCensus_2 : State := { up with stack := { up.stack with pendingFuses := [(.exhausted ⟨5, 2, 0, 1⟩)] } }.wr pgSpar STACK_FUSEMAP.VFUSE_OK 1
def w_TriadsFusesAndCensus_3 : State := { up with stack := { up.stack with toGround := [.panel 575 0x13] } }

theorem met_TriadsFusesAndCensus :
    (∃ (s : State) (c : Nat) (tr : Nat) (x : Nat) (k : Nat),
      c < 288 ∧ tr < 6 ∧ x < (if tr = 0 then 3 else 4) ∧ k < 3 ∧ s.triad c tr x = 0) ∧
    (∃ (s : State) (c : Nat) (tr : Nat) (x : Nat) (j : Nat) (k : Nat),
      c < 288 ∧ tr < 6 ∧ x < (if tr = 0 then 3 else 4) ∧ j < 3 ∧ k < 3 ∧ j ≠ k ∧ s.triad c tr x = 2 ^ j) ∧
    (∃ (s : State) (e : FuseEntry) (es : List FuseEntry),
      s.stack.pendingFuses = e :: es ∧ s.on pgSpar STACK_FUSEMAP.VFUSE_OK = true ∧ s.pfBlocked = false) ∧
    (∃ (s : State) (p : Nat) (reason : Nat) (ts : List GroundTask),
      s.stack.toGround = .panel p reason :: ts ∧ p < 576 ∧ reason ≠ 0 ∧ (s.panel p).grounded = 0) ∧
    (∃ (s : State) (found : List (GroupId × Nat)) (copies : List (Nat × Nat × TriadBond)),
      found.all (fun f => groupOk f.1 && f.2 < 68) = true ∧ copies.all (fun x => x.1 < 288 && triadOk x.2.1 x.2.2) = true ∧
        s.on pgReady READY_SUM.REGULATORS = true ∧ s.rd pgSpar STACK_CENSUS.STATE = 0) :=
  ⟨⟨up, 287, 5, 3, 2, by decide +kernel⟩,
   ⟨w_TriadsFusesAndCensus_1, 287, 5, 3, 0, 2, by decide +kernel⟩,
   ⟨w_TriadsFusesAndCensus_2, ((.exhausted ⟨5, 2, 0, 1⟩)), [], by decide +kernel⟩,
   ⟨w_TriadsFusesAndCensus_3, 575, 0x13, [], by decide +kernel⟩,
   ⟨up, [], ([(0, 0, ⟨0, 0⟩), (287, 5, ⟨3, 2⟩)]), by decide +kernel⟩⟩

def w_PocketRamHostAccess_1 : State := up.setPanel 0 { pram := [(5, { data := 9 })] }

theorem met_PocketRamHostAccess :
    (∃ (s : State) (a : Access) (p : Nat) (v : Word),
      p < 576 ∧ s.writeGate a (pgPanel p) PRAM_HOST_DATA.DATA.off v = .pass ∧ s.pramOpen p = true ∧ s.on (pgPanel p) PRAM_ERR_INJECT.ARM = false) ∧
    (∃ (s : State) (a : Access) (p : Nat),
      p < 576 ∧ s.shows a.who (pgPanel p) PRAM_HOST_DATA.DATA.off ∧ s.pramOpen p = true ∧
        (pramWord (s.panel p) (1024 * s.rd (pgPanel p) PRAM_HOST_ADDR.RAM + s.rd (pgPanel p) PRAM_HOST_ADDR.WORD)).flips = 0) :=
  ⟨⟨up, host, 575, 77, by decide +kernel⟩,
   ⟨w_PocketRamHostAccess_1, host, 0, by decide +kernel⟩⟩

def w_RiserConflicts_0 : State := { up with panels := [(287, { borderHold := false, region := some 0 }), (575, { borderHold := false, region := some 0 })] }
def w_RiserConflicts_2 : State := up.wr (pgSparBlk 287) (RISER_HELD.HELD.at 31) 0xC0000000
def w_RiserConflicts_3 : State := (up.wr (pgSparBlk 287) RISER_CONFLICT.FLAG 1).wr (pgSparBlk 287) (RISER_HELD.HELD.at 31) 0xC0000000
def w_RiserConflicts_4 : State := ((up.wr (pgSparBlk 287) RISER_CONFLICT.FLAG 1).wr (pgSparBlk 287) (RISER_HELD.HELD.at 31) 0xC0000000).wr (pgSparBlk 287) RISER_CONFLICT.INDEX 1023

theorem met_RiserConflicts :
    (∃ (s : State) (c : Nat) (r : Nat) (durPs : Nat),
      c < 288 ∧ r < 1024 ∧ 200 ≤ durPs ∧ s.riserCanConflict c r = true) ∧
    (∃ (c : Nat) (r : Nat) (durPs : Nat),
      c < 288 ∧ r < 1024 ∧ durPs < 200) ∧
    (∃ (s : State) (a : Access) (c : Nat) (w : Nat) (v : Word),
      c < 288 ∧ w < 32 ∧ s.writeGate a (pgSparBlk c) (RISER_HELD.HELD.at w).off v = .pass) ∧
    (∃ (s : State) (a : Access) (c : Nat),
      c < 288 ∧ s.writeGate a (pgSparBlk c) RISER_CONFLICT.FLAG.off 1 = .pass ∧ a.same.getLsbD 0 = false) ∧
    (∃ (s : State) (a : Access) (c : Nat),
      c < 288 ∧ s.writeGate a (pgSparBlk c) RISER_CONFLICT.FLAG.off 1 = .pass ∧ a.same.getLsbD 0 = true) :=
  ⟨⟨w_RiserConflicts_0, 287, 1023, 200, by decide +kernel⟩,
   ⟨287, 1023, 199, by decide +kernel⟩,
   ⟨w_RiserConflicts_2, ({ host with same := 0x40000000 }), 287, 31, 0xC0000000, by decide +kernel⟩,
   ⟨w_RiserConflicts_3, host, 287, by decide +kernel⟩,
   ⟨w_RiserConflicts_4, ({ host with same := 1 }), 287, by decide +kernel⟩⟩

def w_PlaneRequests_1 : State := { (grouped (serving up 575) 575 7 |>.wr (pgDom (clockRegion 575)) (CLK_DOM_SWITCH.DONE.at (clockRegion 575 % 80)) 0) with oldEdges := [(575, 2)] }
def w_PlaneRequests_3 : State := grouped (serving up 575) 575 7
def w_PlaneRequests_4 : State := grouped (serving up 575) 575 7 |>.wr (pgDom (clockRegion 575)) (CLK_DOM_SWITCH.LIVE_SRC.at (clockRegion 575 % 80)) 0

theorem met_PlaneRequests :
    (∃ (s : State) (p : Nat) (g : Nat) (n : Nat),
      (p < 576 ∧ g < 256 ∧ n < 8 ∧ s.clkRun p = true) ∧ s.planeRequestBad g n (some p) = false ∧ s.clockChanges (s.liveMembers g) = false ∧
        (∀ e ∈ s.planeNow.filter (fun e => e.at_ == s.ns) ++ s.switches.filter (·.pending), sameTarget e { group := g, slot := n, src := .port p, at_ := s.ns } = false ∧ ∀ q ∈ s.liveMembers g, q ∉ s.reqPanels e) ∧ (s.on pgPwr GOV_CTRL.MODE = false ∨ s.doubleHot (s.liveMembers g) n = none)) ∧
    (∃ (s : State) (p : Nat) (g : Nat) (n : Nat),
      (p < 576 ∧ g < 256 ∧ n < 8 ∧ s.clkRun p = true) ∧ s.planeRequestBad g n (some p) = false ∧ s.clockChanges (s.liveMembers g) = true) ∧
    (∃ (s : State) (p : Nat) (g : Nat) (n : Nat) (q : Nat),
      (p < 576 ∧ g < 256 ∧ n < 8 ∧ s.clkRun p = true) ∧ s.planeRequestBad g n (some p) = false ∧ s.clockChanges (s.liveMembers g) = false ∧
        (∀ e ∈ s.planeNow.filter (fun e => e.at_ == s.ns), sameTarget e { group := g, slot := n, src := .port p, at_ := s.ns } = false ∧
        ∀ q ∈ s.liveMembers g, q ∉ s.reqPanels e) ∧ q ∈ s.liveMembers g ∧ (s.panel q).underTest = false ∧ s.activeSlot q ≠ n ∧
        s.shadowIs q shFilling n = false ∧ s.shadowIs q shReady n = false ∧ (s.panel q).heldPf = none ∧ s.planePending q = false ∧
        s.slotValid q n = true) ∧
    (∃ (s : State) (p : Nat) (g : Nat) (n : Nat),
      p < 576 ∧ g < 256 ∧ n < 8 ∧ s.clkRun p = true ∧ s.planeRequestBad g n (some p) = true) ∧
    (∃ (s : State) (p : Nat) (g : Nat) (n : Nat),
      p < 576 ∧ g < 256 ∧ n < 8 ∧ s.clkRun p = false) ∧
    (∃ (s : State) (a : Access) (p : Nat) (v : Word),
      (p < 576 ∧ s.writeGate a (pgPanel p) PANEL_PLANE_CMD.GROUP.off v = .pass) ∧
        s.planeRequestBad (getF v PANEL_PLANE_CMD.GROUP.lo PANEL_PLANE_CMD.GROUP.len) (getF v PANEL_PLANE_CMD.PLANE.lo PANEL_PLANE_CMD.PLANE.len) (some p) = false ∧ s.clockChanges (s.liveMembers (getF v PANEL_PLANE_CMD.GROUP.lo PANEL_PLANE_CMD.GROUP.len)) = false ∧ (getF v PANEL_PLANE_CMD.PREFETCH.lo PANEL_PLANE_CMD.PREFETCH.len = 0 ∧ (∀ e ∈ s.planeNow.filter (fun e => e.at_ == s.ns) ++ s.switches.filter (·.pending), sameTarget e { group := getF v PANEL_PLANE_CMD.GROUP.lo PANEL_PLANE_CMD.GROUP.len, slot := getF v PANEL_PLANE_CMD.PLANE.lo PANEL_PLANE_CMD.PLANE.len, src := .register, at_ := s.ns } = false ∧ ∀ q ∈ s.liveMembers (getF v PANEL_PLANE_CMD.GROUP.lo PANEL_PLANE_CMD.GROUP.len), q ∉ s.reqPanels e)) ∧ (s.on pgPwr GOV_CTRL.MODE = false ∨ s.doubleHot (s.liveMembers (getF v PANEL_PLANE_CMD.GROUP.lo PANEL_PLANE_CMD.GROUP.len)) (getF v PANEL_PLANE_CMD.PLANE.lo PANEL_PLANE_CMD.PLANE.len) = none)) ∧
    (∃ (s : State) (a : Access) (p : Nat) (q : Nat) (v : Word),
      (p < 576 ∧ s.writeGate a (pgPanel p) PANEL_PLANE_CMD.GROUP.off v = .pass) ∧
        s.planeRequestBad (getF v PANEL_PLANE_CMD.GROUP.lo PANEL_PLANE_CMD.GROUP.len) (getF v PANEL_PLANE_CMD.PLANE.lo PANEL_PLANE_CMD.PLANE.len) (some p) = false ∧ s.clockChanges (s.liveMembers (getF v PANEL_PLANE_CMD.GROUP.lo PANEL_PLANE_CMD.GROUP.len)) = false ∧ (getF v PANEL_PLANE_CMD.PREFETCH.lo PANEL_PLANE_CMD.PREFETCH.len = 1 ∧ getF v PANEL_PLANE_CMD.DEFER.lo PANEL_PLANE_CMD.DEFER.len = 0 ∧ (∀ e ∈ s.planeNow.filter (fun e => e.at_ == s.ns), sameTarget e { group := getF v PANEL_PLANE_CMD.GROUP.lo PANEL_PLANE_CMD.GROUP.len, slot := getF v PANEL_PLANE_CMD.PLANE.lo PANEL_PLANE_CMD.PLANE.len, src := .register, at_ := s.ns } = false ∧ ∀ q ∈ s.liveMembers (getF v PANEL_PLANE_CMD.GROUP.lo PANEL_PLANE_CMD.GROUP.len), q ∉ s.reqPanels e)) ∧ q ∈ s.liveMembers (getF v PANEL_PLANE_CMD.GROUP.lo PANEL_PLANE_CMD.GROUP.len) ∧ (s.panel q).underTest = false ∧ s.activeSlot q ≠ getF v PANEL_PLANE_CMD.PLANE.lo PANEL_PLANE_CMD.PLANE.len ∧ s.shadowIs q shFilling (getF v PANEL_PLANE_CMD.PLANE.lo PANEL_PLANE_CMD.PLANE.len) = false ∧ s.shadowIs q shReady (getF v PANEL_PLANE_CMD.PLANE.lo PANEL_PLANE_CMD.PLANE.len) = false ∧ (s.panel q).heldPf = none ∧ s.planePending q = false ∧ s.slotValid q (getF v PANEL_PLANE_CMD.PLANE.lo PANEL_PLANE_CMD.PLANE.len) = true) ∧
    (∃ (s : State) (a : Access) (p : Nat) (v : Word),
      p < 576 ∧ s.writeGate a (pgPanel p) PANEL_PLANE_CMD.GROUP.off v = .pass ∧
        s.planeRequestBad (getF v PANEL_PLANE_CMD.GROUP.lo PANEL_PLANE_CMD.GROUP.len) (getF v PANEL_PLANE_CMD.PLANE.lo PANEL_PLANE_CMD.PLANE.len) (some p) = true) :=
  ⟨⟨crew, 575, 255, 7, by decide +kernel, crew_may, crew_still, by decide +kernel, .inl (by decide +kernel)⟩,
   ⟨w_PlaneRequests_1, 575, 255, 7, by decide +kernel, by simp only [State.planeRequestBad, crew_only w_PlaneRequests_1 _ (.inr rfl) (by decide +kernel) (by decide +kernel)]; decide +kernel, by rw [crew_live _ _ (.inr rfl) (by decide +kernel) (by decide +kernel) (by decide +kernel)]; decide +kernel⟩,
   ⟨crew, 575, 255, 7, 575, by decide +kernel, crew_may, crew_still, by decide +kernel, by rw [crew_alive]; decide +kernel, by decide +kernel⟩,
   ⟨w_PlaneRequests_3, 575, 255, 6, by decide +kernel⟩,
   ⟨w_PlaneRequests_4, 575, 255, 7, by decide +kernel⟩,
   ⟨crew, host, 575, crewCmd, by decide +kernel, crewCmd_may, crewCmd_still, by decide +kernel, .inl (by decide +kernel)⟩,
   ⟨crew, host, 575, 575, crewPf, by decide +kernel, crewPf_may, crewPf_still, by decide +kernel, crewPf_live, by decide +kernel⟩,
   ⟨w_PlaneRequests_3, host, 575, (BitVec.ofNat 32 (255 * 2 ^ PANEL_PLANE_CMD.GROUP.lo + 6 * 2 ^ PANEL_PLANE_CMD.PLANE.lo)), by decide +kernel⟩⟩

def w_PlaneFillsAndSwitches_2 : State := { (serving up 575) with switches := [{ forced := true, panel := 575, slot := 7, src := .governor, at_ := 100000000 }] } |>.wr (pgPanel 575) PANEL_PLANE_STATE.SHADOW 7 |>.wr (pgPanel 575) PANEL_PLANE_STATE.SHADOW_STATE shReady
def w_PlaneFillsAndSwitches_3 : State := { (grouped (serving up 575) 575 7) with switches := [{ group := 255, slot := 7, src := .register, at_ := 0 }] } |>.wr (pgPanel 575) PANEL_PLANE_STATE.SHADOW 7 |>.wr (pgPanel 575) PANEL_PLANE_STATE.SHADOW_STATE shReady
def w_PlaneFillsAndSwitches_4 : State := { (grouped (serving up 575) 575 7) with switches := [{ group := 255, slot := 7, src := .register, at_ := 0 }] }
def w_PlaneFillsAndSwitches_5 : State := { (grouped (serving up 575) 575 7) with switches := [{ group := 255, slot := 7, src := .register, at_ := 0 }] }.wr (pgPanel 575) PANEL_PLANE_CTRL.LATE_POLICY 1
def w_PlaneFillsAndSwitches_7 : State := { (grouped (serving up 575) 575 7).wr (pgPanel 575) (PANEL_GROUP.MEMBER.at 7) 0xC0000000 with switches := [{ group := 254, slot := 3, src := .register, at_ := 0, pending := true }, { group := 255, slot := 7, src := .register, at_ := 0 }] }

theorem met_PlaneFillsAndSwitches :
    (∃ (s : State) (p : Nat),
      (p < 576 ∧ s.shadowState p = shFilling ∧ (s.column (colOf p)).off = false) ∧
        (∀ f, f < 128 → (s.frame (frameAddr p (s.shadowSlot p) f)).bad = false ∧ (s.frame (frameAddr p (s.shadowSlot p) f)).mismatch = false)) ∧
    (∃ (s : State) (p : Nat) (f : Nat) (m2 : List Nat),
      (p < 576 ∧ s.shadowState p = shFilling ∧ f < 128 ∧ (s.column (colOf p)).off = false) ∧
        (f ∈ m2 ∨ (s.frame (frameAddr p (s.shadowSlot p) f)).bad = true ∨ (s.frame (frameAddr p (s.shadowSlot p) f)).mismatch = true) ∧
        (∀ e, e < f → e ∉ m2 ∧ (s.frame (frameAddr p (s.shadowSlot p) e)).bad = false ∧
        (s.frame (frameAddr p (s.shadowSlot p) e)).mismatch = false)) ∧
    (∃ (s : State) (p : Nat) (r : SwitchReq),
      p < 576 ∧ r.slot < 8 ∧ s.edgeSwitch true p = some r ∧ r.src = .governor ∧
        (∀ e ∈ s.switches, e.pending = true → e ≠ r → sameTarget e r = false) ∧ s.clkRun p = true ∧ s.ready p r.slot = true ∧
        s.activeSlot p ≠ r.slot ∧ (s.panel p).heldPf = none ∧ r.deferred = false) ∧
    (∃ (s : State) (g : Nat) (r : SwitchReq),
      (g < 256 ∧ r.slot < 8 ∧ s.edgeSwitch false g = some r ∧ (r.pending = true ∨ ∀ e ∈ s.switches, e.pending = true → sameTarget e r = false ∧
        s.sharedPanels r e = [])) ∧ (∀ p ∈ s.liveMembers g, s.clkRun p = true ∧ s.ready p r.slot = true ∧ (s.panel p).heldPf = none ∧
        s.takesPart r p = true) ∧ s.violations (s.liveMembers g) r.slot = [] ∧ r.deferred = false) ∧
    (∃ (s : State) (g : Nat) (q : Nat) (r : SwitchReq),
      (g < 256 ∧ s.edgeSwitch false g = some r ∧ r.pending = false ∧ (∀ e ∈ s.switches, e.pending = true → sameTarget e r = false ∧
        s.sharedPanels r e = [])) ∧ (∀ p ∈ s.liveMembers g, s.clkRun p = true ∧ (s.panel p).heldPf = none ∧ s.takesPart r p = true) ∧
        q ∈ s.liveMembers g ∧ s.ready q r.slot = false ∧ s.on (pgPanel ((s.liveMembers g).headD 0)) PANEL_PLANE_CTRL.LATE_POLICY = false) ∧
    (∃ (s : State) (g : Nat) (q : Nat) (r : SwitchReq),
      (g < 256 ∧ s.edgeSwitch false g = some r ∧ r.pending = false ∧ (∀ e ∈ s.switches, e.pending = true → sameTarget e r = false ∧
        s.sharedPanels r e = [])) ∧ (∀ p ∈ s.liveMembers g, s.clkRun p = true ∧ (s.panel p).heldPf = none ∧ s.takesPart r p = true) ∧
        q ∈ s.liveMembers g ∧ s.ready q r.slot = false ∧ s.on (pgPanel ((s.liveMembers g).headD 0)) PANEL_PLANE_CTRL.LATE_POLICY = true) ∧
    (∃ (s : State) (g : Nat) (r : SwitchReq),
      (g < 256 ∧ s.switches.find? (fun r => !r.forced && r.pending && r.group == g) = some r) ∧ 1000 * s.groupLimit g ≤ s.ns - r.at_) ∧
    (∃ (s : State) (g : Nat) (r : SwitchReq) (e : SwitchReq),
      (g < 256 ∧ s.edgeSwitch false g = some r ∧ r.pending = false ∧ s.switches.filter (·.pending) = [e] ∧ sameTarget e r = false) ∧
        s.sharedPanels r e ≠ [] ∧ r.src ≠ .governor ∧ (∀ p ∈ s.liveMembers g, s.clkRun p = true ∧ s.takesPart r p = true)) :=
  ⟨⟨filling, 575, by decide +kernel, filling_frames⟩,
   ⟨filling, 575, 127, [127], by decide +kernel, .inl (by decide), fun e h => ⟨by simp only [List.mem_singleton]; omega, filling_frames e (by omega)⟩⟩,
   ⟨w_PlaneFillsAndSwitches_2, 575, ({ forced := true, panel := 575, slot := 7, src := .governor, at_ := 100000000 }), by decide +kernel⟩,
   ⟨w_PlaneFillsAndSwitches_3, 255, ({ group := 255, slot := 7, src := .register, at_ := 0 }), by decide +kernel, by rw [crew_live _ _ (.inr rfl) (by decide +kernel) (by decide +kernel) (by decide +kernel)]; decide +kernel, by rw [crew_live _ _ (.inr rfl) (by decide +kernel) (by decide +kernel) (by decide +kernel)]; decide +kernel, by decide +kernel⟩,
   ⟨w_PlaneFillsAndSwitches_4, 255, 575, ({ group := 255, slot := 7, src := .register, at_ := 0 }), by decide +kernel, by rw [crew_live _ _ (.inr rfl) (by decide +kernel) (by decide +kernel) (by decide +kernel)]; decide +kernel, by rw [crew_live _ _ (.inr rfl) (by decide +kernel) (by decide +kernel) (by decide +kernel)]; decide +kernel, by decide +kernel, by rw [crew_live _ _ (.inr rfl) (by decide +kernel) (by decide +kernel) (by decide +kernel)]; decide +kernel⟩,
   ⟨w_PlaneFillsAndSwitches_5, 255, 575, ({ group := 255, slot := 7, src := .register, at_ := 0 }), by decide +kernel, by rw [crew_live _ _ (.inr rfl) (by decide +kernel) (by decide +kernel) (by decide +kernel)]; decide +kernel, by rw [crew_live _ _ (.inr rfl) (by decide +kernel) (by decide +kernel) (by decide +kernel)]; decide +kernel, by decide +kernel, by rw [crew_live _ _ (.inr rfl) (by decide +kernel) (by decide +kernel) (by decide +kernel)]; decide +kernel⟩,
   ⟨crewWaiting, 255, ({ group := 255, slot := 7, src := .register, at_ := 0, pending := true }), by decide +kernel, crew_limit⟩,
   ⟨w_PlaneFillsAndSwitches_7, 255, ({ group := 255, slot := 7, src := .register, at_ := 0 }), ({ group := 254, slot := 3, src := .register, at_ := 0, pending := true }), by decide +kernel, by simp only [State.sharedPanels, State.reqPanels, Bool.false_eq_true, if_false, crew_live w_PlaneFillsAndSwitches_7 254 (.inl rfl) (by decide +kernel) (by decide +kernel) (by decide +kernel), crew_live w_PlaneFillsAndSwitches_7 _ (.inr rfl) (by decide +kernel) (by decide +kernel) (by decide +kernel)]; decide +kernel, by decide +kernel, by rw [crew_live _ _ (.inr rfl) (by decide +kernel) (by decide +kernel) (by decide +kernel)]; decide +kernel⟩⟩

def w_FramesScrubbedAndRepaired_2 : State := { (serving up 575) with frames := [(frameAddr 575 0 127, goodFrame)] }
def w_FramesScrubbedAndRepaired_3 : State := { up with frames := [(0x8fc7f, { bad := true, repairing := some 0, fromSource := true })] }
def w_FramesScrubbedAndRepaired_4 : State := ({ up with frames := [(0x8fc7f, { bad := true, repairing := some 0, fromSource := true })] }).wr pgScrub SCRUB_REPAIR_TIMEOUT.MS 100

theorem met_FramesScrubbedAndRepaired :
    (∃ (s : State) (p : Nat),
      p < 576 ∧ (s.panel p).upset0 = [] ∧ (s.panel p).upset1 = []) ∧
    (∃ (s : State) (p : Nat) (f : Nat),
      (p < 576 ∧ f < 128 ∧ s.committed p = true ∧ s.sailsOff = false ∧ (s.panel p).underTest = false ∧ (s.column (colOf p)).off = false ∧
        (s.panel p).upset0 = [] ∧ (s.panel p).upset1 = []) ∧ (s.frame (frameAddr p (s.activeSlot p) f)).bad = false ∧
        (s.frame (frameAddr p (s.activeSlot p) f)).mismatch = false) ∧
    (∃ (s : State) (a : Nat),
      a < 2 ^ 20 ∧ a / 2 ^ 10 % 2 ^ 9 < 288 ∧ (s.frame a).bad = true ∧ (s.frame a).repairing ≠ none ∧ s.sparOff a = false ∧
        (s.sailCopyGood (framePanel a) (frameSlot a) (a % 128) = true ∧ (s.frame a).sigBad = false ∨ (s.frame a).fromSource = true)) ∧
    (∃ (s : State) (a : Nat) (at_ : Nat),
      a < 2 ^ 20 ∧ a / 2 ^ 10 % 2 ^ 9 < 288 ∧ (s.frame a).bad = true ∧ (s.frame a).repairing = some at_ ∧
        1000000 * s.rd pgScrub SCRUB_REPAIR_TIMEOUT.MS ≤ s.ns - at_) :=
  ⟨⟨up, 575, by decide +kernel⟩,
   ⟨w_FramesScrubbedAndRepaired_2, 575, 127, by decide +kernel, by rw [show State.activeSlot w_FramesScrubbedAndRepaired_2 575 = 0 from by decide +kernel]; rfl, by rw [show State.activeSlot w_FramesScrubbedAndRepaired_2 575 = 0 from by decide +kernel]; exact Frame.matches_sig 0⟩,
   ⟨w_FramesScrubbedAndRepaired_3, 0x8fc7f, by decide +kernel⟩,
   ⟨w_FramesScrubbedAndRepaired_4, 0x8fc7f, 0, by decide +kernel⟩⟩

def w_ContextRequests_0 : State := (serving up 575).wr (pgTile 287) CTX_SPLIT.LOWER 100
def w_ContextRequests_2 : State := (serving up 575).wr (pgTile 287) CTX_SPLIT.LOWER 100 |>.wr (pgDom (clockRegion 575)) (CLK_DOM_SWITCH.LIVE_SRC.at (clockRegion 575 % 80)) 0
def w_ContextRequests_5 : State := let s := ((serving up 575).wr (pgTile 287) CTX_SPLIT.LOWER 100); s.setPanel 575 { s.panel 575 with inbox := [⟨15, false, 155, false, .register, 5⟩] }
def w_ContextRequests_6 : State := let s := ((serving up 575).wr (pgTile 287) CTX_SPLIT.LOWER 100); s.setPanel 575 { s.panel 575 with inbox := [⟨15, false, 155, false, .register, 5⟩], quarters := [(0, { acc := some { slot := 200, qmask := 15, full := true, pinned := true } }), (1, { acc := some { slot := 200, qmask := 15, full := true, pinned := true } }), (2, { acc := some { slot := 200, qmask := 15, full := true, pinned := true } }), (3, { acc := some { slot := 200, qmask := 15, full := true, pinned := true } })] }
def w_ContextRequests_7 : State := let s := ((serving up 575).wr (pgTile 287) CTX_SPLIT.LOWER 100); s.setPanel 575 { s.panel 575 with quarters := [(0, { pend := some { req := ⟨15, false, 155, true, .register, 5⟩, held := true } }), (1, { pend := some { req := ⟨15, false, 155, true, .register, 5⟩, held := true } }), (2, { pend := some { req := ⟨15, false, 155, true, .register, 5⟩, held := true } }), (3, { pend := some { req := ⟨15, false, 155, true, .register, 5⟩, held := true } })] }
def w_ContextRequests_8 : State := let s := ((serving up 575).wr (pgTile 287) CTX_SPLIT.LOWER 100); s.setPanel 575 { s.panel 575 with quarters := [(0, { pend := some { req := ⟨15, false, 155, true, .register, 5⟩, held := false } }), (1, { pend := some { req := ⟨15, false, 155, true, .register, 5⟩, held := false } }), (2, { pend := some { req := ⟨15, false, 155, true, .register, 5⟩, held := false } }), (3, { pend := some { req := ⟨15, false, 155, true, .register, 5⟩, held := false } })] }

theorem met_ContextRequests :
    (∃ (s : State) (p : Nat) (qmask : Nat) (index : Nat) (ring : Bool),
      p < 576 ∧ qmask < 16 ∧ index < 256 ∧ s.clkRun p = true ∧ s.ctxRequestBad p qmask ring index = false) ∧
    (∃ (s : State) (p : Nat) (qmask : Nat) (index : Nat) (ring : Bool),
      p < 576 ∧ qmask < 16 ∧ index < 256 ∧ s.clkRun p = true ∧ s.ctxRequestBad p qmask ring index = true) ∧
    (∃ (s : State) (p : Nat) (qmask : Nat) (index : Nat),
      p < 576 ∧ qmask < 16 ∧ index < 256 ∧ s.clkRun p = false) ∧
    (∃ (s : State) (a : Access) (p : Nat) (v : Word),
      p < 576 ∧ s.writeGate a (pgPanel p) PANEL_CTX_CMD.INDEX.off v = .pass ∧
        s.ctxRequestBad p (getF v PANEL_CTX_CMD.QMASK.lo PANEL_CTX_CMD.QMASK.len) (getF v PANEL_CTX_CMD.RING.lo PANEL_CTX_CMD.RING.len == 1) (getF v PANEL_CTX_CMD.INDEX.lo PANEL_CTX_CMD.INDEX.len) = false) ∧
    (∃ (s : State) (a : Access) (p : Nat) (v : Word),
      p < 576 ∧ s.writeGate a (pgPanel p) PANEL_CTX_CMD.INDEX.off v = .pass ∧
        s.ctxRequestBad p (getF v PANEL_CTX_CMD.QMASK.lo PANEL_CTX_CMD.QMASK.len) (getF v PANEL_CTX_CMD.RING.lo PANEL_CTX_CMD.RING.len == 1) (getF v PANEL_CTX_CMD.INDEX.lo PANEL_CTX_CMD.INDEX.len) = true) ∧
    (∃ (s : State) (p : Nat) (r : CtxReq),
      p < 576 ∧ (s.panel p).inbox = [r] ∧ s.ctxRequestBad p r.qmask r.ring r.index = false ∧ s.sailsOff = false ∧ (s.panel p).underTest = false ∧
        (∀ q ∈ quartersOf r.qmask, (s.qswap p q).acc = none ∧ (s.qswap p q).pend = none) ∧
        (r.defer = false ∨ s.admitsSwap (admissionRows (!s.quarterMode p) (quartersOf r.qmask).length) = true) ∧
        (quartersOf r.qmask).any (fun q => s.targetSlot p r q != s.slotOf p (s.live p q)) = true) ∧
    (∃ (s : State) (p : Nat) (r : CtxReq),
      p < 576 ∧ (s.panel p).inbox = [r] ∧ s.ctxRequestBad p r.qmask r.ring r.index = false ∧ s.sailsOff = false ∧ (s.panel p).underTest = false ∧
        (∀ q ∈ quartersOf r.qmask, (s.qswap p q).acc.isSome = true ∧ (s.qswap p q).pend = none) ∧
        (quartersOf r.qmask).any (fun q => s.targetSlot p r q != s.slotOf p (s.live p q)) = true) ∧
    (∃ (s : State) (p : Nat) (q : Nat) (x : QPend),
      p < 576 ∧ q < 4 ∧ (s.qswap p q).pend = some x ∧ x.held = true ∧ 1000 * s.rd (pgPanel p) PANEL_CTX_CTRL.DEFER_LIMIT ≤ s.ns - x.req.at_) ∧
    (∃ (s : State) (p : Nat) (q : Nat) (x : QPend),
      p < 576 ∧ q < 4 ∧ (s.qswap p q).pend = some x ∧ (x.held = false ∨ s.ns - x.req.at_ < 1000 * s.rd (pgPanel p) PANEL_CTX_CTRL.DEFER_LIMIT)) :=
  ⟨⟨w_ContextRequests_0, 575, 15, 155, false, by decide +kernel⟩,
   ⟨w_ContextRequests_0, 575, 15, 156, false, by decide +kernel⟩,
   ⟨w_ContextRequests_2, 575, 15, 155, by decide +kernel⟩,
   ⟨w_ContextRequests_0, host, 575, (BitVec.ofNat 32 (155 * 2 ^ PANEL_CTX_CMD.INDEX.lo + 15 * 2 ^ PANEL_CTX_CMD.QMASK.lo)), by decide +kernel⟩,
   ⟨w_ContextRequests_0, host, 575, (BitVec.ofNat 32 (156 * 2 ^ PANEL_CTX_CMD.INDEX.lo + 15 * 2 ^ PANEL_CTX_CMD.QMASK.lo)), by decide +kernel⟩,
   ⟨w_ContextRequests_5, 575, (⟨15, false, 155, false, .register, 5⟩), by decide +kernel⟩,
   ⟨w_ContextRequests_6, 575, (⟨15, false, 155, false, .register, 5⟩), by decide +kernel⟩,
   ⟨w_ContextRequests_7, 575, 3, ({ req := ⟨15, false, 155, true, .register, 5⟩, held := true }), by decide +kernel⟩,
   ⟨w_ContextRequests_8, 575, 3, ({ req := ⟨15, false, 155, true, .register, 5⟩, held := false }), by decide +kernel⟩⟩

def w_ContextSwaps_0 : State := ((let s := ((serving up 575).wr (pgTile 287) CTX_SPLIT.LOWER 100); { s.setPanel 575 { s.panel 575 with quarters := [(3, { acc := some { slot := 200, qmask := 8, full := false, pinned := true } })] } with ctxValid := [(260 * 287 + 200, 8)] }).storeRow 287 200 6 5 |>.storeRow 287 200 7 6).storeRow 287 200 7 3
def w_ContextSwaps_1 : State := fillSlot ((let s := ((serving up 575).wr (pgTile 287) CTX_SPLIT.LOWER 100); { s.setPanel 575 { s.panel 575 with quarters := [(0, { acc := some { slot := 200, qmask := 15, full := true, pinned := true } }), (1, { acc := some { slot := 200, qmask := 15, full := true, pinned := true } }), (2, { acc := some { slot := 200, qmask := 15, full := true, pinned := true } }), (3, { acc := some { slot := 200, qmask := 15, full := true, pinned := true } })] } with ctxValid := [(260 * 287 + 200, 15)] })) 8 9
def w_ContextSwaps_2 : State := ((let s := ((serving up 575).wr (pgTile 287) CTX_SPLIT.LOWER 100); { s.setPanel 575 { s.panel 575 with quarters := [(3, { acc := some { slot := 200, qmask := 8, full := false, pinned := true } })] } with ctxValid := [(260 * 287 + 200, 8)] }).storeRow 287 200 6 5).storeRow 287 200 7 3 |>.setCtxRow 287 200 6 ⟨{ freshCopy 5 with row := 4 }, freshCopy 5⟩
def w_ContextSwaps_3 : State := let s := ((serving up 575).wr (pgTile 287) CTX_SPLIT.LOWER 100); s.setPanel 575 { s.panel 575 with shadow := [(6, 77)], cells := [(7, 5)], quarters := [(3, { acc := some { slot := 200, qmask := 8, full := false, pinned := true, loaded := true } })] }
def w_ContextSwaps_4 : State := let s := ((serving up 575).wr (pgTile 287) CTX_SPLIT.LOWER 100); s.setPanel 575 { s.panel 575 with shadow := [(6, 77)], quarters := [(3, { saving := some { slot := 255, pinned := true } })] }

theorem met_ContextSwaps :
    (∃ (s : State) (p : Nat) (q : Nat) (a : QAcc),
      (p < 576 ∧ q < 4 ∧ (s.panel p).underTest = false ∧ (s.qswap p q).acc = some a ∧ (s.qswap p q).saving = none ∧
        (∀ r, r < 4 → r ≠ q → (s.qswap p r).acc.all (·.loaded) = true) ∧ a.loaded = false ∧ a.full = false ∧ a.slot < 256 ∧
        s.rowMismatch p = false ∧ s.quarterValid (colOf p) a.slot q = true) ∧ (s.ctxRow (colOf p) a.slot (2 * q)).a.good = true ∧
        (s.ctxRow (colOf p) a.slot (2 * q + 1)).a.good = true) ∧
    (∃ (s : State) (p : Nat) (a : QAcc),
      (p < 576 ∧ (s.panel p).underTest = false ∧ (∀ q, q < 4 → (s.qswap p q).acc = some a ∧ (s.qswap p q).saving = none ∧
        s.quarterValid (colOf p) a.slot q = true) ∧ a.loaded = false ∧ a.full = true ∧ a.qmask = 15 ∧ a.slot < 256 ∧ s.rowMismatch p = false) ∧
        (∀ r, r < 8 → (s.ctxRow (colOf p) a.slot r).a.good = true)) ∧
    (∃ (s : State) (p : Nat) (q : Nat) (a : QAcc) (parity : List Nat),
      (p < 576 ∧ q < 4 ∧ (s.panel p).underTest = false ∧ (s.qswap p q).acc = some a ∧ (s.qswap p q).saving = none ∧
        (∀ r, r < 4 → r ≠ q → (s.qswap p r).acc.all (·.loaded) = true) ∧ a.loaded = false ∧ a.full = false ∧ a.slot < 256 ∧
        s.rowMismatch p = false ∧ s.quarterValid (colOf p) a.slot q = true) ∧
        ((s.ctxRow (colOf p) a.slot (2 * q)).a.good = false ∨ 2 * q ∈ parity) ∧ (s.ctxRow (colOf p) a.slot (2 * q)).b.good = true ∧
        2 * q + 1 ∉ parity ∧ (s.ctxRow (colOf p) a.slot (2 * q + 1)).a.good = true) ∧
    (∃ (s : State) (p : Nat) (m : Nat) (e : PanelEdge),
      (p < 576 ∧ m < 16 ∧ e.panel = p ∧ s.clkRun p = true ∧ m ≠ 0 ∧ s.pendings p 15 = []) ∧
        (∀ q, q ∈ quartersOf m → ∃ a, (s.qswap p q).acc = some a ∧ a.qmask = m ∧ a.loaded = true ∧ s.shareBase p ≤ a.slot ∧
        a.slot - s.shareBase p < 256)) ∧
    (∃ (s : State) (p : Nat) (q : Nat) (v : QSave),
      p < 576 ∧ q < 4 ∧ (s.qswap p q).saving = some v ∧ v.slot < 256 ∧ (s.column (colOf p)).off = false) :=
  ⟨⟨w_ContextSwaps_0, 575, 3, ({ slot := 200, qmask := 8, full := false, pinned := true }), by decide +kernel, by simp only [w_ContextSwaps_0, State.ctxRow_storeRow]; exact freshCopy_good _, by simp only [w_ContextSwaps_0, State.ctxRow_storeRow]; exact freshCopy_good _⟩,
   ⟨w_ContextSwaps_1, 575, ({ slot := 200, qmask := 15, full := true, pinned := true }), by decide +kernel, fun r h => fillSlot_good _ 8 9 r h (by decide +kernel)⟩,
   ⟨w_ContextSwaps_2, 575, 3, ({ slot := 200, qmask := 8, full := false, pinned := true }), [6], by decide +kernel, .inr (by decide), by simp only [w_ContextSwaps_2, State.ctxRow_setCtxRow]; exact freshCopy_good _, by decide +kernel, by simp only [w_ContextSwaps_2, State.ctxRow_setCtxRow, State.ctxRow_storeRow]; exact freshCopy_good _⟩,
   ⟨w_ContextSwaps_3, 575, 8, ({ panel := 575 }), by decide +kernel, fun q h => by rw [show quartersOf 8 = [3] from by decide, List.mem_singleton] at h; subst h; exact ⟨{ slot := 200, qmask := 8, full := false, pinned := true, loaded := true }, by decide +kernel⟩⟩,
   ⟨w_ContextSwaps_4, 575, 3, ({ slot := 255, pinned := true }), by decide +kernel⟩⟩

def w_ContextStoreAccess_2 : State := ({ up with ctxValid := [(260 * 287 + 255, 8)] }.setCtxRow 287 255 7 ⟨freshCopy 99, freshCopy 99⟩).setColumn 287 { accCmd := some ⟨255, 7, 0, false, 1000⟩ }
def w_ContextStoreAccess_3 : State := up.setColumn 287 { accCmd := some ⟨255, 7, 0, false, 1000⟩ }
def w_ContextStoreAccess_4 : State := up.setColumn 287 { accCmd := some ⟨255, 7, 0, true, 1000⟩, buf := [(3, 9)] }
def w_ContextStoreAccess_5 : State := ((serving up 575).wr (pgTile 287) CTX_SPLIT.LOWER 100).setColumn 287 { accCmd := some ⟨100, 7, 0, true, 1000⟩, buf := [(3, 9)] }
def w_ContextStoreAccess_6 : State := up.wr (pgTile 287) CTX_BUF_INDEX.WORD 63
def w_ContextStoreAccess_7 : State := (up.wr (pgTile 287) CTX_BUF_INDEX.WORD 63).setColumn 287 { holder := some 1000, buf := [(63, 7)] }

theorem met_ContextStoreAccess :
    (∃ (s : State) (a : Access) (c : Nat) (v : Word) (p : Nat),
      c < 288 ∧ s.writeGate a (pgTile c) CTX_ACC_CMD.SLOT.off (setF v CTX_ACC_CMD.OP.lo CTX_ACC_CMD.OP.len 1) = .pass ∧
        s.ctxAccDeny a c (setF v CTX_ACC_CMD.OP.lo CTX_ACC_CMD.OP.len 1) = none ∧
        s.accPanel c (getF v CTX_ACC_CMD.TARGET.lo CTX_ACC_CMD.TARGET.len) (getF v CTX_ACC_CMD.SLOT.lo CTX_ACC_CMD.SLOT.len) = some p ∧
        s.on (pgTile c) CTX_ACC_STATUS.BUSY = false ∧ s.pfOwns a.who p = true) ∧
    (∃ (s : State) (a : Access) (c : Nat) (v : Word) (p : Nat),
      c < 288 ∧ s.writeGate a (pgTile c) CTX_ACC_CMD.SLOT.off (setF v CTX_ACC_CMD.OP.lo CTX_ACC_CMD.OP.len 2) = .pass ∧
        s.ctxAccDeny a c (setF v CTX_ACC_CMD.OP.lo CTX_ACC_CMD.OP.len 2) = none ∧
        s.accPanel c (getF v CTX_ACC_CMD.TARGET.lo CTX_ACC_CMD.TARGET.len) (getF v CTX_ACC_CMD.SLOT.lo CTX_ACC_CMD.SLOT.len) = some p ∧
        s.on (pgTile c) CTX_ACC_STATUS.BUSY = false ∧ s.pfOwns a.who p = true) ∧
    (∃ (s : State) (c : Nat) (m : AccCmd) (us : List RowUpset),
      (c < 288 ∧ us.all (fun u => u.slot < 259 && u.row < 8) = true ∧ (s.column c).accCmd = some m ∧ (s.column c).off = false ∧ m.write = false ∧
        (m.slot < 256 → s.quarterValid c m.slot (m.row / 2) = true)) ∧ ((s.upsetRows c us).ctxRow c m.slot m.row).a.good = true) ∧
    (∃ (s : State) (c : Nat) (m : AccCmd),
      c < 288 ∧ (s.column c).accCmd = some m ∧ (s.column c).off = false ∧ m.write = false ∧ m.slot < 256 ∧
        s.quarterValid c m.slot (m.row / 2) = false) ∧
    (∃ (s : State) (c : Nat) (m : AccCmd) (us : List RowUpset),
      c < 288 ∧ us.all (fun u => u.slot < 259 && u.row < 8) = true ∧ (s.column c).accCmd = some m ∧ (s.column c).off = false ∧ m.write = true ∧
        s.writeLive c m = false) ∧
    (∃ (s : State) (c : Nat) (m : AccCmd),
      c < 288 ∧ (s.column c).accCmd = some m ∧ (s.column c).off = false ∧ m.write = true ∧ s.writeLive c m = true) ∧
    (∃ (s : State) (a : Access) (c : Nat) (v : Word),
      c < 288 ∧ s.writeGate a (pgTile c) CTX_BUF_DATA.DATA.off v = .pass) ∧
    (∃ (s : State) (a : Access) (c : Nat),
      c < 288 ∧ s.shows a.who (pgTile c) CTX_BUF_DATA.DATA.off) ∧
    (∃ (s : State) (a : Access) (c : Nat) (v : Word),
      c < 288 ∧ s.writeGate a (pgTile c) CTX_SPLIT.LOWER.off v = .pass ∧ s.committed c = false ∧ s.committed (288 + c) = false ∧
        s.tileBusy c = false ∧ s.pfOwns a.who c = true ∧ s.pfOwns a.who (288 + c) = true) :=
  ⟨⟨up, host, 287, (BitVec.ofNat 32 (255 * 2 ^ CTX_ACC_CMD.SLOT.lo)), 575, by decide +kernel⟩,
   ⟨up, host, 287, (BitVec.ofNat 32 (255 * 2 ^ CTX_ACC_CMD.SLOT.lo)), 575, by decide +kernel⟩,
   ⟨w_ContextStoreAccess_2, 287, (⟨255, 7, 0, false, 1000⟩), [], by decide +kernel, by show ((State.upsetRows _ _ []).ctxRow 287 255 7).a.good = true; rw [show (State.upsetRows w_ContextStoreAccess_2 287 []) = w_ContextStoreAccess_2 from rfl, w_ContextStoreAccess_2, State.ctxRow_setColumn, State.ctxRow_setCtxRow, if_pos rfl]; exact freshCopy_good 99⟩,
   ⟨w_ContextStoreAccess_3, 287, (⟨255, 7, 0, false, 1000⟩), by decide +kernel⟩,
   ⟨w_ContextStoreAccess_4, 287, (⟨255, 7, 0, true, 1000⟩), [], by decide +kernel⟩,
   ⟨w_ContextStoreAccess_5, 287, (⟨100, 7, 0, true, 1000⟩), by decide +kernel⟩,
   ⟨w_ContextStoreAccess_6, host, 287, 0xDEADBEEF, by decide +kernel⟩,
   ⟨w_ContextStoreAccess_7, host, 287, by decide +kernel⟩,
   ⟨up, host, 287, 200, by decide +kernel⟩⟩

def w_TrackControl_0 : State := (tracking up 63 kQuad trDisabled).wr (pgTrack 63) TRK_CTRL.ENABLE 0
def w_TrackControl_0b : State := let s := ((tracking up 63 kQuad trDisabled).wr (pgTrack 63) TRK_CTRL.ENABLE 0); (s.takeJump 63).settleFault 63
def w_TrackControl_2 : State := let s := (tracking up 63 kTime trFault); (s.takeJump 63).settleFault 63
def w_TrackControl_3 : State := tracking up 63 kFabric trAcquire
def w_TrackControl_4 : State := (tracking up 63 kQuad trRun).wr (pgTrack 63) TRK_PRESET_LO.POS 77

theorem met_TrackControl :
    (∃ (s : State) (u : State) (a : Access) (k : Nat),
      k < 64 ∧ s.writeGate a (pgTrack k) TRK_CTRL.ENABLE.off 1 = .pass ∧ u = (s.takeJump k).settleFault k ∧ u.trState k = trDisabled ∧
        u.enableBad k = false) ∧
    (∃ (s : State) (a : Access) (k : Nat),
      k < 64 ∧ s.writeGate a (pgTrack k) TRK_CTRL.ENABLE.off 0 = .pass) ∧
    (∃ (s : State) (u : State) (a : Access) (k : Nat),
      k < 64 ∧ s.rdTrk k TRK_CTRL.ENABLE = 1 ∧ s.writeGate a (pgTrack k) TRK_CTRL.ENABLE.off 3 = .pass ∧ u = (s.takeJump k).settleFault k ∧
        u.trState k = trFault) ∧
    (∃ (s : State) (a : Access) (k : Nat),
      k < 64 ∧ s.rdTrk k TRK_CTRL.ENABLE = 1 ∧ s.writeGate a (pgTrack k) TRK_CTRL.ENABLE.off 5 = .pass ∧
        (s.trState k = trAcquire ∨ s.trState k = trRun) ∧ (s.track k).faulting = []) ∧
    (∃ (s : State) (a : Access) (k : Nat),
      (k < 64 ∧ s.rdTrk k TRK_CTRL.ENABLE = 1 ∧ s.writeGate a (pgTrack k) TRK_CTRL.ENABLE.off 9 = .pass ∧ s.trState k ≠ trDisabled) ∧
        (∀ u, (s.track k).undo = some u → u.cycle ≠ s.bridleNs)) :=
  ⟨⟨w_TrackControl_0, w_TrackControl_0b, host, 63, by decide +kernel⟩,
   ⟨(tracking up 63 kQuad trRun), host, 63, by decide +kernel⟩,
   ⟨(tracking up 63 kTime trFault), w_TrackControl_2, host, 63, by decide +kernel⟩,
   ⟨w_TrackControl_3, host, 63, by decide +kernel⟩,
   ⟨w_TrackControl_4, host, 63, by decide +kernel, ofOption _ (by decide +kernel)⟩⟩

def w_TrackEdges_0 : State := ((((((tracking up 63 kQuad trRun).wr (pgFio 3) FIO_BANK_CTRL.VCCIO 2).wr (pgTrack 63) TRK_SRC.PIN_A 191).wr (pgTrack 63) TRK_SRC.PIN_B 190).setPin 191 { filt := true } |>.setPin 190 { filt := true }).setTrack 63 { core := { state := trRun }, raw := 140737488355326, ab := 1 })
def w_TrackEdges_1 : State := ((((((tracking up 63 kQuad trRun).wr (pgFio 3) FIO_BANK_CTRL.VCCIO 2).wr (pgTrack 63) TRK_SRC.PIN_A 191).wr (pgTrack 63) TRK_SRC.PIN_B 190).setPin 191 { filt := true } |>.setPin 190 { filt := true }).setTrack 63 { core := { state := trRun }, raw := 140737488355326, ab := 0 })
def w_TrackEdges_2 : State := ((((((tracking up 63 kPulseDir trRun).wr (pgFio 3) FIO_BANK_CTRL.VCCIO 2).wr (pgTrack 63) TRK_SRC.PIN_A 191).wr (pgTrack 63) TRK_SRC.PIN_B 190).setPin 191 { filt := true } |>.setPin 190 { filt := true }).setTrack 63 { core := { state := trRun }, raw := 140737488355326, ab := 0 })
def w_TrackEdges_3 : State := (((((((tracking up 63 kPeriod trAcquire).wr (pgFio 3) FIO_BANK_CTRL.VCCIO 2).wr (pgTrack 63) TRK_SRC.PIN_A 191).wr (pgTrack 63) TRK_SRC.PIN_B 190).setPin 191 { filt := true } |>.setPin 190 { filt := true }).setTrack 63 { core := { state := trAcquire } })).wr (pgTrack 63) TRK_REF_LO.POS 0x10000
def w_TrackEdges_4 : State := (((((((tracking up 63 kPeriod trAcquire).wr (pgFio 3) FIO_BANK_CTRL.VCCIO 2).wr (pgTrack 63) TRK_SRC.PIN_A 191).wr (pgTrack 63) TRK_SRC.PIN_B 190).setPin 191 { filt := true } |>.setPin 190 { filt := true }).setTrack 63 { core := { state := trAcquire, acq := 1, last := some (999000, 0) } })).wr (pgTrack 63) TRK_STEPMAX.COUNTS 1000 |>.wr (pgTrack 63) TRK_REF_LO.POS 0x10000
def w_TrackEdges_5 : State := (((((((tracking up 63 kQuad trRun).wr (pgFio 3) FIO_BANK_CTRL.VCCIO 2).wr (pgTrack 63) TRK_SRC.PIN_A 191).wr (pgTrack 63) TRK_SRC.PIN_B 190).setPin 191 { filt := true } |>.setPin 190 { filt := true }).setTrack 63 { core := { state := trRun, c0 := 999990, p0 := 70000 }, ab := 3 })).wr (pgTrack 63) TRK_SRC.Z_MODE 0 |>.wr (pgTrack 63) TRK_SRC.Z_QUAL 1
def w_TrackEdges_6 : State := (((((((tracking up 63 kQuad trRun).wr (pgFio 3) FIO_BANK_CTRL.VCCIO 2).wr (pgTrack 63) TRK_SRC.PIN_A 191).wr (pgTrack 63) TRK_SRC.PIN_B 190).setPin 191 { filt := true } |>.setPin 190 { filt := true }).setTrack 63 { core := { state := trRun, c0 := 999990, p0 := 70000 }, ab := 3 })).wr (pgTrack 63) TRK_SRC.Z_MODE 1 |>.wr (pgTrack 63) TRK_SRC.Z_QUAL 1
def w_TrackEdges_7 : State := (((((((tracking up 63 kQuad trRun).wr (pgFio 3) FIO_BANK_CTRL.VCCIO 2).wr (pgTrack 63) TRK_SRC.PIN_A 191).wr (pgTrack 63) TRK_SRC.PIN_B 190).setPin 191 { filt := true } |>.setPin 190 { filt := true }).setTrack 63 { core := { state := trRun, c0 := 999990, p0 := 70000 }, ab := 3 })).wr (pgTrack 63) TRK_SRC.Z_MODE 2 |>.wr (pgTrack 63) TRK_SRC.Z_QUAL 1 |>.wr (pgTrack 63) TRK_REF_LO.POS 0xFFFF0000
def w_TrackEdges_8 : State := (((((((tracking up 63 kQuad trRun).wr (pgFio 3) FIO_BANK_CTRL.VCCIO 2).wr (pgTrack 63) TRK_SRC.PIN_A 191).wr (pgTrack 63) TRK_SRC.PIN_B 190).setPin 191 { filt := true } |>.setPin 190 { filt := true }).setTrack 63 { core := { state := trRun, c0 := 999990, p0 := 70000 }, ab := 3, homeArmed := true })).wr (pgTrack 63) TRK_SRC.Z_MODE 3 |>.wr (pgTrack 63) TRK_SRC.Z_QUAL 1
def w_TrackEdges_9 : State := (((((tracking up 63 kQuad trRun).wr (pgFio 3) FIO_BANK_CTRL.VCCIO 2).wr (pgTrack 63) TRK_SRC.PIN_A 191).wr (pgTrack 63) TRK_SRC.PIN_B 190).setPin 191 { filt := true } |>.setPin 190 { filt := true })
def w_TrackEdges_10 : State := (((((tracking up 63 kQuad trAcquire).wr (pgFio 3) FIO_BANK_CTRL.VCCIO 2).wr (pgTrack 63) TRK_SRC.PIN_A 191).wr (pgTrack 63) TRK_SRC.PIN_B 190).setPin 191 { filt := true } |>.setPin 190 { filt := true })
def w_TrackEdges_13 : State := (((((tracking up 63 kPeriod trRun).wr (pgFio 3) FIO_BANK_CTRL.VCCIO 2).wr (pgTrack 63) TRK_SRC.PIN_A 191).wr (pgTrack 63) TRK_SRC.PIN_B 190).setPin 191 { filt := true } |>.setPin 190 { filt := true })

theorem met_TrackEdges :
    (∃ (s : State) (k : Nat) (ago : Nat) (A : Bool) (B : Bool) (d : Int),
      k < 64 ∧ s.sourceIs k kQuad = true ∧ s.quadFits k A B ago = true ∧ quadStep (s.track k).ab (s.abNow k) = some d ∧ d ≠ 0 ∧
        -2 ^ 47 < (s.track k).raw ∧ (s.track k).raw < 2 ^ 47 - 1) ∧
    (∃ (s : State) (k : Nat) (ago : Nat) (A : Bool) (B : Bool),
      k < 64 ∧ s.sourceIs k kQuad = true ∧ s.quadFits k A B ago = true ∧ quadStep (s.track k).ab (s.abNow k) = some 0 ∧
        (s.track k).presetAt ≠ some s.bridleNs) ∧
    (∃ (s : State) (k : Nat) (ago : Nat) (B : Bool),
      k < 64 ∧ s.sourceIs k kPulseDir = true ∧ s.activeEdge k = true ∧ s.filtLevel (s.rdTrk k TRK_SRC.PIN_B) = B ∧ s.edgeFits k ago = true ∧
        -2 ^ 47 < (s.track k).raw ∧ (s.track k).raw < 2 ^ 47 - 1) ∧
    (∃ (s : State) (k : Nat) (ago : Nat),
      k < 64 ∧ s.sourceIs k kPeriod = true ∧ s.activeEdge k = true ∧ s.edgeFits k ago = true ∧ s.trState k = trAcquire ∧ (s.core k).acq = 0 ∧
        (s.core k).last = none ∧ (s.track k).presetAt ≠ some s.bridleNs) ∧
    (∃ (s : State) (k : Nat) (ago : Nat) (h : Nat × Int),
      k < 64 ∧ s.sourceIs k kPeriod = true ∧ s.activeEdge k = true ∧ s.edgeFits k ago = true ∧ s.trState k = trAcquire ∧ (s.core k).acq = 1 ∧
        (s.core k).last = some h ∧ (s.track k).presetAt ≠ some s.bridleNs ∧
        (wrapDiff oneCount (s.trMod k) (s.trRef k - (s.core k).pos (s.edgeCycle (s.rdTrk k TRK_SRC.PIN_A)))).natAbs ≤ s.rdTrk k TRK_STEPMAX.COUNTS * 2 ^ 32) ∧
    (∃ (s : State) (k : Nat),
      k < 64 ∧ s.sourceIs k kQuad = true ∧ s.rdTrk k TRK_SRC.Z_MODE = 0) ∧
    (∃ (s : State) (k : Nat),
      k < 64 ∧ s.sourceIs k kQuad = true ∧ s.rdTrk k TRK_SRC.Z_MODE = 1 ∧ (s.decodeQuad k).trState k = trRun ∧
        (s.rdTrk k TRK_SRC.Z_QUAL = 0 ∨ s.abNow k = 3)) ∧
    (∃ (s : State) (k : Nat),
      k < 64 ∧ s.sourceIs k kQuad = true ∧ s.rdTrk k TRK_SRC.Z_MODE = 2 ∧ (s.decodeQuad k).trState k = trRun ∧
        (s.rdTrk k TRK_SRC.Z_QUAL = 0 ∨ s.abNow k = 3) ∧
        s.rdTrk k TRK_ZTOL.COUNTS < (wrapDiff 1 (s.trMod k) (wrapPos (s.trMod k) ((s.decodeQuad k).est k) / oneCount - s.trRef k / oneCount)).natAbs) ∧
    (∃ (s : State) (k : Nat),
      k < 64 ∧ s.sourceIs k kQuad = true ∧ s.rdTrk k TRK_SRC.Z_MODE = 3 ∧ (s.decodeQuad k).trState k = trRun ∧
        (s.rdTrk k TRK_SRC.Z_QUAL = 0 ∨ s.abNow k = 3) ∧ ((s.decodeQuad k).track k).homeArmed = true) ∧
    (∃ (s : State) (k : Nat),
      k < 64 ∧ s.on pgBridle BRIDLE_STATUS.COUNTING = true ∧ edgeKind (s.trKind k) = true ∧ s.trState k = trRun) ∧
    (∃ (s : State) (k : Nat),
      k < 64 ∧ s.on pgBridle BRIDLE_STATUS.COUNTING = true ∧ edgeKind (s.trKind k) = true ∧ s.trState k = trAcquire) ∧
    (∃ (s : State) (k : Nat) (ago : Nat) (A : Bool) (B : Bool),
      k < 64 ∧ s.quadFits k A B ago = false) ∧
    (∃ (s : State) (k : Nat) (ago : Nat) (B : Bool),
      k < 64 ∧ (s.filtLevel (s.rdTrk k TRK_SRC.PIN_B) ≠ B ∨ s.edgeFits k ago = false)) ∧
    (∃ (s : State) (k : Nat) (ago : Nat),
      k < 64 ∧ s.edgeFits k ago = false) :=
  ⟨⟨w_TrackEdges_0, 63, 42, true, true, ((quadStep 1 3).getD 0), by decide +kernel⟩,
   ⟨w_TrackEdges_1, 63, 42, true, true, by decide +kernel⟩,
   ⟨w_TrackEdges_2, 63, 42, true, by decide +kernel⟩,
   ⟨w_TrackEdges_3, 63, 42, by decide +kernel⟩,
   ⟨w_TrackEdges_4, 63, 42, ((999000, 0)), by decide +kernel⟩,
   ⟨w_TrackEdges_5, 63, by decide +kernel⟩,
   ⟨w_TrackEdges_6, 63, by decide +kernel⟩,
   ⟨w_TrackEdges_7, 63, by decide +kernel⟩,
   ⟨w_TrackEdges_8, 63, by decide +kernel⟩,
   ⟨w_TrackEdges_9, 63, by decide +kernel⟩,
   ⟨w_TrackEdges_10, 63, by decide +kernel⟩,
   ⟨w_TrackEdges_0, 63, 1, true, true, by decide +kernel⟩,
   ⟨w_TrackEdges_2, 63, 2, false, by decide +kernel⟩,
   ⟨w_TrackEdges_13, 63, 3, by decide +kernel⟩⟩

def w_TrackLimits_0 : State := (tracking up 63 kQuad trRun).wr (pgTrack 63) TRK_COAST.US 1000
def w_TrackLimits_1 : State := (tracking up 63 kFabric trRun).wr (pgTrack 63) TRK_STALE.US 1000
def w_TrackLimits_2 : State := (tracking up 63 kQuad trRun).setTrack 63 { core := { state := trRun, p0 := 2 ^ 47 * oneCount } }
def w_TrackLimits_3 : State := (tracking up 63 kRemote trAcquire).setTrack 63 { core := { state := trAcquire, p0 := -(2 ^ 47 * oneCount) - 1 } }

theorem met_TrackLimits :
    (∃ (s : State) (k : Nat),
      k < 64 ∧ (s.trState k = trAcquire ∨ s.trState k = trRun) ∧ s.trKind k ≠ kTime ∧
        1000 * s.rdTrk k TRK_COAST.US ≤ s.bridleNs - (s.core k).feed ∧ (s.track k).faulting = []) ∧
    (∃ (s : State) (k : Nat),
      k < 64 ∧ s.trState k = trRun ∧ (edgeKind (s.trKind k) = true ∨ s.trKind k = kFabric) ∧ (s.core k).still = false ∧
        1000 * s.rdTrk k TRK_STALE.US ≤ s.bridleNs - (s.core k).chg) ∧
    (∃ (s : State) (k : Nat),
      k < 64 ∧ (s.trState k = trAcquire ∨ s.trState k = trRun) ∧ s.trMod k = 0 ∧ 2 ^ 47 * oneCount ≤ s.est k ∧ (s.track k).faulting = []) ∧
    (∃ (s : State) (k : Nat),
      k < 64 ∧ (s.trState k = trAcquire ∨ s.trState k = trRun) ∧ s.trMod k = 0 ∧ s.est k < -(2 ^ 47 * oneCount) ∧ (s.track k).faulting = []) :=
  ⟨⟨w_TrackLimits_0, 63, by decide +kernel⟩,
   ⟨w_TrackLimits_1, 63, by decide +kernel⟩,
   ⟨w_TrackLimits_2, 63, by decide +kernel⟩,
   ⟨w_TrackLimits_3, 63, by decide +kernel⟩⟩

def w_TrackPortsAndTime_0 : State := (serving (tracking up 63 kFabric trAcquire) 575).wr (pgTrack 63) TRK_SRC2.PANEL 575
def w_TrackPortsAndTime_2 : State := ((serving (tracking up 63 kTime trRun) 575).wr (pgTrack 63) TRK_SRC2.PANEL 575).wr (pgTrack 63) TRK_SRC2.PORT_EN 1 |>.wr (pgTrack 63) TRK_STEPMAX.COUNTS 1
def w_TrackPortsAndTime_3 : State := ((serving (tracking up 63 kTime trRun) 575).wr (pgTrack 63) TRK_SRC2.PANEL 575).wr (pgTrack 63) TRK_SRC2.PORT_EN 1
def w_TrackPortsAndTime_4 : State := (tracking up 63 kTime trRun).wr (pgTrack 63) TRK_STEPMAX.COUNTS 1 |>.wr (pgTrack 63) TRK_TIME_STEP_LO.OFFSET 65536
def w_TrackPortsAndTime_5 : State := (serving (tracking up 63 kTime trRun) 575).wr (pgTrack 63) TRK_SRC2.PANEL 575

theorem met_TrackPortsAndTime :
    (∃ (s : State) (p : Nat) (k : Nat),
      p < 576 ∧ k < 64 ∧ s.clkRun p = true ∧ s.on pgBridle BRIDLE_STATUS.COUNTING = true ∧
        ((s.panel p).portsNs = false ∨ s.pageSecure (pgTrack k) = false) ∧ s.rdTrk k TRK_SRC2.PANEL = p ∧ s.trKind k = kFabric ∧
        (s.track k).word.all (fun c => c + 10 ≤ s.bridleNs) = true ∧ s.trState k = trAcquire ∧ (s.core k).acq = 0 ∧ (s.core k).last = none ∧
        (s.track k).presetAt ≠ some s.bridleNs) ∧
    (∃ (s : State) (p : Nat) (k : Nat) (reserved : Bool),
      p < 576 ∧ k < 64 ∧ s.clkRun p = true ∧ s.on pgBridle BRIDLE_STATUS.COUNTING = true ∧
        ((s.panel p).portsNs = false ∨ s.pageSecure (pgTrack k) = false) ∧
        (s.rdTrk k TRK_SRC2.PANEL ≠ p ∨ s.trKind k ≠ kFabric ∨ reserved = true ∨ (s.track k).word.any (fun c => s.bridleNs < c + 10) = true)) ∧
    (∃ (s : State) (p : Nat) (k : Nat) (val : BitVec 64),
      p < 576 ∧ k < 64 ∧ s.clkRun p = true ∧ s.on pgBridle BRIDLE_STATUS.COUNTING = true ∧
        ((s.panel p).portsNs = false ∨ s.pageSecure (pgTrack k) = false) ∧ s.rdTrk k TRK_SRC2.PANEL = p ∧ s.takesTime k = true ∧
        (s.track k).word.all (fun c => c + 10 ≤ s.bridleNs) = true ∧ s.trState k = trRun ∧
        (val.toInt * 65536).natAbs ≤ s.rdTrk k TRK_STEPMAX.COUNTS * 2 ^ 32 ∧ (s.track k).presetAt ≠ some s.bridleNs) ∧
    (∃ (s : State) (p : Nat) (k : Nat) (val : BitVec 64),
      p < 576 ∧ k < 64 ∧ s.clkRun p = true ∧ s.on pgBridle BRIDLE_STATUS.COUNTING = true ∧
        ((s.panel p).portsNs = false ∨ s.pageSecure (pgTrack k) = false) ∧ s.rdTrk k TRK_SRC2.PANEL = p ∧ s.takesTime k = true ∧
        (s.track k).word.all (fun c => c + 10 ≤ s.bridleNs) = true ∧ s.trState k = trRun ∧ (s.core k).edge = none ∧
        rateInRange (sint 32 val.toNat) = true ∧ (s.track k).presetAt ≠ some s.bridleNs) ∧
    (∃ (s : State) (a : Access) (k : Nat) (v : Word),
      k < 64 ∧ s.writeGate a (pgTrack k) TRK_TIME_STEP_HI.OFFSET.off v = .pass ∧ s.trKind k = kTime ∧ s.trState k = trRun ∧
        (s.track k).faulting = [] ∧
        (sint 64 ((s.lowWord (trkReg k TRK_TIME_STEP_LO.OFFSET)).toNat + 2 ^ 32 * v.toNat) * 65536).natAbs ≤ s.rdTrk k TRK_STEPMAX.COUNTS * 2 ^ 32) ∧
    (∃ (s : State) (p : Nat) (k : Nat) (v : Nat),
      p < 576 ∧ k < 64 ∧ s.clkRun p = true ∧ v = (if (s.panel p).portsNs = true ∧
        s.pageSecure (pgTrack k) = true then 0 else posWord (s.trMod k) (s.est k) + 2 ^ 64 * unsint 64 (s.estVel k) + 2 ^ 128 * s.trState k)) :=
  ⟨⟨w_TrackPortsAndTime_0, 575, 63, by decide +kernel⟩,
   ⟨w_TrackPortsAndTime_0, 575, 63, true, by decide +kernel⟩,
   ⟨w_TrackPortsAndTime_2, 575, 63, 65536, by decide +kernel⟩,
   ⟨w_TrackPortsAndTime_3, 575, 63, 0xFFFFFFFF, by decide +kernel⟩,
   ⟨w_TrackPortsAndTime_4, host, 63, 0, by decide +kernel⟩,
   ⟨w_TrackPortsAndTime_5, 575, 63, (let s := ((serving (tracking up 63 kTime trRun) 575).wr (pgTrack 63) TRK_SRC2.PANEL 575); posWord (s.trMod 63) (s.est 63) + 2 ^ 64 * unsint 64 (s.estVel 63) + 2 ^ 128 * s.trState 63), by decide +kernel⟩⟩

def w_TrackRegisterReads_0 : State := (tracking up 63 kQuad trRun).setTrack 63 { core := { state := trRun, p0 := -1 } }
def w_TrackRegisterReads_1 : State := { tracking up 63 kQuad trRun with bridleNs := 0x500000007 }
def w_TrackRegisterReads_2 : State := (tracking up 63 kQuad trRun).setTrack 63 { zlatch := -70000 }

theorem met_TrackRegisterReads :
    (∃ (s : State) (a : Access) (k : Nat),
      k < 64 ∧ s.shows a.who (pgTrack k) TRK_POS_LO.POS.off) ∧
    (∃ (s : State) (a : Access),
      s.shows a.who pgBridle BRIDLE_NS_LO.NS.off) ∧
    (∃ (s : State) (a : Access) (k : Nat),
      k < 64 ∧ s.shows a.who (pgTrack k) TRK_Z_LATCH_LO.POS.off) ∧
    (∃ (s : State) (a : Access) (k : Nat) (v : Word),
      k < 64 ∧ s.writeGate a (pgTrack k) TRK_PRESET_HI.POS.off v = .pass ∧ s.trMod k = 0) :=
  ⟨⟨w_TrackRegisterReads_0, host, 63, by decide +kernel⟩,
   ⟨w_TrackRegisterReads_1, host, by decide +kernel⟩,
   ⟨w_TrackRegisterReads_2, host, 63, by decide +kernel⟩,
   ⟨(tracking up 63 kQuad trRun), host, 63, 0x80000000, by decide +kernel⟩⟩

theorem met_MarkAndActionEntries :
    (∃ (s : State) (a : Access) (i : Nat) (w : Nat) (v : Word),
      i < 16384 ∧ 1 ≤ w ∧ w < 7 ∧ s.writeGate a (markAddr i w / 4096) (markAddr i w % 4096) v = .pass) ∧
    (∃ (s : State) (a : Access) (i : Nat) (v : Word),
      i < 16384 ∧ s.writeGate a (markAddr i 0 / 4096) (markAddr i 0 % 4096) v = .pass ∧
        s.markAccepts i v (fun j => s.newWord (stageKey a.who false) i j (markAddr i j)) = true) ∧
    (∃ (s : State) (a : Access) (e : Nat) (w : Nat) (v : Word),
      e < 4096 ∧ 1 ≤ w ∧ w < 16 ∧ s.writeGate a (actionAddr e w / 4096) (actionAddr e w % 4096) v = .pass) ∧
    (∃ (s : State) (a : Access) (e : Nat) (v : Word),
      e < 4096 ∧ s.writeGate a (actionAddr e 0 / 4096) (actionAddr e 0 % 4096) v = .pass ∧ (actionCommitBody a.who e v s).isSome = true) ∧
    (∃ (s : State) (a : Access) (k : Nat) (v : Word),
      k < 64 ∧ s.writeGate a pgBridle (BRIDLE_MARK_RANGE.BASE.at k).off v = .pass ∧ s.trState k = trDisabled ∧
        getF v 0 14 + getF v 16 15 ≤ 16384 ∧
        (∀ j, j < 64 → j ≠ k → rangesMeet (getF v 0 14) (getF v 16 15) (s.rangeBase j) (s.rangeCount j) = false) ∧
        s.rangeOrdered k (getF v 0 14) (getF v 16 15) = true ∧ (s.track k).faulting = []) :=
  ⟨⟨up, host, 16383, 6, 0, by decide +kernel⟩,
   ⟨up, host, 16383, 0x81000000, by decide +kernel⟩,
   ⟨up, host, 4095, 15, 0xFFFFFFFF, by decide +kernel⟩,
   ⟨up, host, 4095, 0, by decide +kernel⟩,
   ⟨up, host, 63, 0x00013FFF, by decide +kernel⟩⟩

def w_MarkFirings_0 : State := let s := (((tracking up 63 kQuad trRun).wr pgBridle (BRIDLE_MARK_RANGE.BASE.at 63) 16383).wr pgBridle (BRIDLE_MARK_RANGE.COUNT.at 63) 1 |>.setReg (markAddr 16383 0) 0x81000000 |>.setReg (markAddr 16383 1) 0); { s.setTrack 63 { core := { state := trRun, c0 := 1000000, p0 := 65536 * 5 }, corrAt := some 1000000, corrFrom := -65536 } with bridle := { s.bridle with comps := [(63, { fwd := [16383], ready := true })] } }
def w_MarkFirings_1 : State := let s := ((((tracking up 63 kQuad trRun).wr pgBridle (BRIDLE_MARK_RANGE.BASE.at 63) 16383).wr pgBridle (BRIDLE_MARK_RANGE.COUNT.at 63) 1 |>.setReg (markAddr 16383 0) 0x81000000 |>.setReg (markAddr 16383 1) 0).setReg (markAddr 16383 0) 0xA1000000).setReg (markAddr 16383 4) 16; { s.setTrack 63 { core := { state := trRun, c0 := 1000000, p0 := -65536 * 5, v0 := 65536 } } with bridle := { s.bridle with comps := [(63, { fwd := [16383], ready := true })] } }
def w_MarkFirings_2 : State := let s := (let s := ((((tracking up 63 kQuad trRun).wr pgBridle (BRIDLE_MARK_RANGE.BASE.at 63) 16383).wr pgBridle (BRIDLE_MARK_RANGE.COUNT.at 63) 1 |>.setReg (markAddr 16383 0) 0x81000000 |>.setReg (markAddr 16383 1) 0).setReg (markAddr 16383 0) 0xA1000000).setReg (markAddr 16383 4) 16; { s.setTrack 63 { core := { state := trRun, c0 := 1000000, p0 := -65536 * 5, v0 := 65536 } } with bridle := { s.bridle with comps := [(63, { fwd := [16383], ready := true })] } }); { s with bridle := { s.bridle with preds := [{ mark := 16383, at_ := 900000, track := 63, target := 0, fwd := true, dispatched := true }] } }
def w_MarkFirings_3 : State := let s := (let s := (let s := ((((tracking up 63 kQuad trRun).wr pgBridle (BRIDLE_MARK_RANGE.BASE.at 63) 16383).wr pgBridle (BRIDLE_MARK_RANGE.COUNT.at 63) 1 |>.setReg (markAddr 16383 0) 0x81000000 |>.setReg (markAddr 16383 1) 0).setReg (markAddr 16383 0) 0xA1000000).setReg (markAddr 16383 4) 16; { s.setTrack 63 { core := { state := trRun, c0 := 1000000, p0 := -65536 * 5, v0 := 65536 } } with bridle := { s.bridle with comps := [(63, { fwd := [16383], ready := true })] } }); { s with bridle := { s.bridle with preds := [{ mark := 16383, at_ := 900000, track := 63, target := 0, fwd := true, dispatched := true }] } }); s.setTrack 63 { core := { state := trRun, c0 := 1000000, p0 := -65536 * 5, v0 := 0 } }
def w_MarkFirings_4 : State := (let s := (let s := ((((tracking up 63 kQuad trRun).wr pgBridle (BRIDLE_MARK_RANGE.BASE.at 63) 16383).wr pgBridle (BRIDLE_MARK_RANGE.COUNT.at 63) 1 |>.setReg (markAddr 16383 0) 0x81000000 |>.setReg (markAddr 16383 1) 0).setReg (markAddr 16383 0) 0xA1000000).setReg (markAddr 16383 4) 16; { s.setTrack 63 { core := { state := trRun, c0 := 1000000, p0 := -65536 * 2, v0 := 65536 } } with bridle := { s.bridle with comps := [(63, { fwd := [16383], ready := true })] } }); { s with bridle := { s.bridle with preds := [{ mark := 16383, at_ := 900000, track := 63, target := 0, fwd := true, dispatched := true }] } }).setPin (precPin 63) { edges := [⟨8000007, 0, 8, 63, false, some 16383, 999000⟩] }
def w_MarkFirings_5 : State := let s := (((tracking up 63 kQuad trRun).wr pgBridle (BRIDLE_MARK_RANGE.BASE.at 63) 16383).wr pgBridle (BRIDLE_MARK_RANGE.COUNT.at 63) 1 |>.setReg (markAddr 16383 0) 0x81000000 |>.setReg (markAddr 16383 1) 0); { s with bridle := { s.bridle with comps := [(63, { due := true })] } }

theorem met_MarkFirings :
    (∃ (s : State) (k : Nat) (m : Nat) (fwd : Bool),
      k < 64 ∧ m < 16384 ∧ (0 < s.crossStep k ↔ fwd = true) ∧ s.armed k m fwd = true ∧ (s.track k).jump = none ∧ s.eligibleMark k fwd m = true ∧
        s.crossed k m fwd = true ∧ ((s.passed k fwd).filter (fun i => s.armed k i fwd)).takeWhile (· != m) = [] ∧ (s.track k).heldMarks = [] ∧
        (s.track k).lastEnq.all (fun c => c + s.cycles 4 ≤ s.bridleNs) = true ∧ s.bridle.queue.length < 256) ∧
    (∃ (s : State) (k : Nat) (m : Nat) (fwd : Bool),
      k < 64 ∧ m < 16384 ∧ s.estVel k ≠ 0 ∧ (0 < s.estVel k ↔ fwd = true) ∧ s.armed k m fwd = true ∧ s.eligibleMark k fwd m = true ∧
        s.markPredict m = true ∧ 0 ≤ s.predDist k m fwd ∧ s.predDist k m fwd ≤ s.markLead m * (s.estVel k).natAbs ∧ (s.track k).heldMarks = [] ∧
        (s.track k).lastEnq.all (fun c => c + s.cycles 4 ≤ s.bridleNs) = true ∧ s.bridle.queue.length < 256) ∧
    (∃ (s : State) (k : Nat) (m : Nat) (f : PredFire),
      k < 64 ∧ m < 16384 ∧ s.bridle.preds.find? (fun t => t.mark == m && t.track == k && t.dispatched) = some f ∧ s.predBroken f = false ∧
        s.unlocked m = []) ∧
    (∃ (s : State) (k : Nat) (m : Nat) (f : PredFire),
      k < 64 ∧ m < 16384 ∧ s.bridle.preds.find? (fun t => t.mark == m && t.track == k && t.dispatched) = some f ∧ s.predBroken f = true) ∧
    (∃ (s : State) (k : Nat) (m : Nat) (n : Nat) (f : PredFire) (e : PinEdge),
      k < 64 ∧ m < 16384 ∧ s.bridle.preds = [f] ∧ f.mark = m ∧ f.track = k ∧ f.dispatched = true ∧ s.predBroken f = false ∧
        s.unlocked m = [(n, e)] ∧ e.issue ≤ s.bridleNs ∧ (s.predInstant f).1 - 24 * (s.predInstant f).2 ≤ 8 * s.bridleNs * (s.predInstant f).2) ∧
    (∃ (s : State) (k : Nat),
      k < 64 ∧ s.trState k = trRun) :=
  ⟨⟨w_MarkFirings_0, 63, 16383, true, by decide +kernel⟩,
   ⟨w_MarkFirings_1, 63, 16383, true, by decide +kernel⟩,
   ⟨w_MarkFirings_2, 63, 16383, ({ mark := 16383, at_ := 900000, track := 63, target := 0, fwd := true, dispatched := true }), by decide +kernel⟩,
   ⟨w_MarkFirings_3, 63, 16383, ({ mark := 16383, at_ := 900000, track := 63, target := 0, fwd := true, dispatched := true }), by decide +kernel⟩,
   ⟨w_MarkFirings_4, 63, 16383, (precPin 63), ({ mark := 16383, at_ := 900000, track := 63, target := 0, fwd := true, dispatched := true }), (⟨8000007, 0, 8, 63, false, some 16383, 999000⟩), by decide +kernel⟩,
   ⟨w_MarkFirings_5, 63, by decide +kernel⟩⟩

def w_ActionsAndStageRegisters_0 : State := let s := (tracking up 63 kQuad trFault); { s with bridle := { s.bridle with queue := [{ track := 63, mark := none, action := 4095, enq := 5, pos := 0 }, { track := 63, mark := none, action := 4095, enq := 5, pos := 0 }], free := 1000000 } }
def w_ActionsAndStageRegisters_1 : State := ((let s := (tracking up 63 kQuad trFault); { s with bridle := { s.bridle with queue := [{ track := 63, mark := none, action := 4095, enq := 5, pos := 0 }, { track := 63, mark := none, action := 4095, enq := 5, pos := 0 }], free := 1000000 } }).setReg (actionAddr 4095 0) 0x600000FF).setReg (actionAddr 4095 1) 0xFFFFFFFF
def w_ActionsAndStageRegisters_2 : State := { up with bridle := { stage := [(255, 255 * 2 ^ 32 + 9)] } }.wr pgBridle BRIDLE_STAGE_INDEX.REG 255
def w_ActionsAndStageRegisters_3 : State := { serving up 575 with bridle := { stage := [(255, 9)] } }
def w_ActionsAndStageRegisters_4 : State := let s := (tracking up 63 kQuad trRun); { s with pins := [(623, { edges := [⟨8000007, 3, 8, 63, false, none, 0⟩, ⟨8000099, 4, 8, 63, true, none, 0⟩] })] }

theorem met_ActionsAndStageRegisters :
    (∃ (s : State) (e : QEntry) (rest : List QEntry),
      s.bridle.queue = e :: rest ∧ s.bridle.free ≤ s.bridleNs ∧ e.enq < s.bridleNs ∧ (∀ j, j < 4 → getF (s.actionWord e.action (4 * j)) 28 4 = 0)) ∧
    (∃ (s : State) (e : QEntry) (rest : List QEntry),
      (s.bridle.queue = e :: rest ∧ s.bridle.free ≤ s.bridleNs ∧ e.enq < s.bridleNs ∧ getF (s.actionWord e.action 0) 28 4 = 6) ∧
        (∀ j, 1 ≤ j → j < 4 → getF (s.actionWord e.action (4 * j)) 28 4 = 0) ∧ s.worldAdmits (.bridle e.track) pgBridle = true) ∧
    (∃ (s : State) (a : Access) (v : Word),
      s.writeGate a pgBridle BRIDLE_STAGE_DATA.VALUE.off v = .pass) ∧
    (∃ (s : State) (p : Nat) (r : Nat) (v : Nat),
      p < 576 ∧ r < 256 ∧ s.clkRun p = true ∧ v = (if (s.panel p).portsNs = true ∧ s.pageSecure pgBridle = true then 0 else nget s.bridle.stage r)) ∧
    (∃ (s : State) (n : Nat) (e : PinEdge),
      n < 624 ∧ (s.pin n).edges.find? (fun e => e.pred.isNone) = some e ∧ e.at8 < 8 * s.bridleNs + 8 * s.cycles 1) :=
  ⟨⟨w_ActionsAndStageRegisters_0, ({ track := 63, mark := none, action := 4095, enq := 5, pos := 0 }), ([{ track := 63, mark := none, action := 4095, enq := 5, pos := 0 }]), by decide +kernel⟩,
   ⟨w_ActionsAndStageRegisters_1, ({ track := 63, mark := none, action := 4095, enq := 5, pos := 0 }), ([{ track := 63, mark := none, action := 4095, enq := 5, pos := 0 }]), by decide +kernel, by intro j h1 h2; revert h1; revert h2; revert j; decide +kernel, by decide +kernel⟩,
   ⟨w_ActionsAndStageRegisters_2, host, 0xFFFFFFFF, by decide +kernel⟩,
   ⟨w_ActionsAndStageRegisters_3, 575, 255, 9, by decide +kernel⟩,
   ⟨w_ActionsAndStageRegisters_4, 623, (⟨8000007, 3, 8, 63, false, none, 0⟩), by decide +kernel⟩⟩

def w_StaggerWindowsAndTemperature_0 : State := let s := (tracking up 0 kQuad 0); { s with gov := { s.gov with start := 990000, rows := 7, fills := 3 } }
def w_StaggerWindowsAndTemperature_3 : State := { up with gov := { cols := [(287, { due := 2, first := 2 })] } }
def w_StaggerWindowsAndTemperature_4 : State := { (grouped (serving up 575) 575 7) with gov := { cols := [(287, { due := 2, first := 2 })] } }.wr (pgPanel 575) PANEL_PLANE_CTRL.COOL_VALID 1 |>.wr (pgPanel 575) PANEL_PLANE_CTRL.COOL_PLANE 7 |>.wr (pgPanel 575) PANEL_PLANE_STATE.ACTIVE 7
def w_StaggerWindowsAndTemperature_5 : State := { (grouped (serving up 575) 575 7) with gov := { cols := [(287, { due := 2, first := 2 })] }, switches := [{ group := 255, slot := 6, src := .register, at_ := 0, pending := true }] }.wr (pgPanel 575) PANEL_PLANE_CTRL.COOL_VALID 1 |>.wr (pgPanel 575) PANEL_PLANE_CTRL.COOL_PLANE 7
def w_StaggerWindowsAndTemperature_6 : State := up.setPanel 575 { heldPf := some ⟨3, 0, 100000⟩ }

theorem met_StaggerWindowsAndTemperature :
    (∃ (s : State),
      s.windowsRun = true ∧ s.windowEnd ≤ s.bridleNs) ∧
    (∃ (s : State) (a : Access) (mode : Bool),
      s.windowsRun = true ∧ s.writeGate a pgPwr GOV_CTRL.MODE.off (setF (setF 0 0 1 (bnat mode)) 4 1 1) = .pass) ∧
    (∃ (rs : List (Nat × Int × Int × Int × Int)),
      rs.all (fun r => r.1 < 288) = true ∧ (rs.map (·.1)).Nodup) ∧
    (∃ (s : State) (c : Nat),
      c < 288 ∧ (s.govCol c).due ≠ 0 ∧ lget s.pf.running (sidePanel c (s.govCol c).due) = none ∧
        s.coolUsable (sidePanel c (s.govCol c).due) = false) ∧
    (∃ (s : State) (c : Nat),
      c < 288 ∧ (s.govCol c).due ≠ 0 ∧ lget s.pf.running (sidePanel c (s.govCol c).due) = none ∧
        s.coolUsable (sidePanel c (s.govCol c).due) = true ∧ s.runsCool (sidePanel c (s.govCol c).due) = true) ∧
    (∃ (s : State) (c : Nat) (p : Nat),
      c < 288 ∧ (s.govCol c).due ≠ 0 ∧ p = sidePanel c (s.govCol c).due ∧ lget s.pf.running p = none ∧ s.coolUsable p = true ∧
        s.runsCool p = false ∧ (∀ e ∈ s.planeNow, e.at_ ≠ s.ns) ∧ (∀ e ∈ s.switches, e.forced = false)) ∧
    (∃ (s : State) (p : Nat) (h : HeldPf),
      p < 576 ∧ (s.panel p).heldPf = some h ∧ 1000 * h.limit ≤ s.ns - h.at_) :=
  ⟨⟨w_StaggerWindowsAndTemperature_0, by decide +kernel⟩,
   ⟨w_StaggerWindowsAndTemperature_0, host, true, by decide +kernel⟩,
   ⟨([(287, -40, 125, 126, 20), (0, 1, 2, 3, 4)]), by decide +kernel⟩,
   ⟨w_StaggerWindowsAndTemperature_3, 287, by decide +kernel⟩,
   ⟨w_StaggerWindowsAndTemperature_4, 287, by decide +kernel⟩,
   ⟨w_StaggerWindowsAndTemperature_5, 287, 575, by decide +kernel⟩,
   ⟨w_StaggerWindowsAndTemperature_6, 575, (⟨3, 0, 100000⟩), by decide +kernel⟩⟩

def w_PowerEvents_1 : State := (up.setRegState 15 rgRamping |>.wr pgPwr (PWR_REG.VSET.at 15) 20 |> fun s => { s with ramps := [(15, ⟨600, 0⟩)] })
def w_PowerEvents_4 : State := (up.wr pgPwr PWR_STATUS.REG_FAULT 1).wr pgReset DEV_STATE.STATE devPark |>.wr pgReset DEV_STATE.CAUSE 2
def w_PowerEvents_5 : State := (up.wr pgPwr PWR_STATUS.REG_FAULT 1)
def w_PowerEvents_8 : State := up.wr pgPwr GOV_STATUS.TRIPPED 1

theorem met_PowerEvents :
    (∃ (s : State) (a : Access) (g : Nat) (v : Word),
      g < 16 ∧ s.writeGate a pgPwr (PWR_REG.VSET.at g).off v = .pass ∧ s.rd pgPwr (PWR_REG.VMIN.at g) ≤ getF v 0 6 ∧ getF v 0 6 ≤ 60) ∧
    (∃ (s : State) (g : Nat),
      g < 16 ∧ s.regState g = rgRamping ∧ s.rampNow g = s.setPoint g) ∧
    (∃ (s : State) (g : Nat),
      g < 16 ∧ isSailReg g = true ∧ s.regState g ≠ rgOff ∧ s.regState g ≠ rgFault) ∧
    (∃ (s : State) (g : Nat),
      g < 16 ∧ isSailReg g = false ∧ s.regState g ≠ rgOff ∧ s.regState g ≠ rgFault) ∧
    (∃ (s : State) (a : Access),
      s.writeGate a pgPwr PWR_CTRL.REG_RESUME.off 1 = .pass ∧ s.on pgPwr PWR_STATUS.REG_FAULT = true) ∧
    (∃ (s : State) (a : Access),
      s.writeGate a pgPwr PWR_CTRL.REG_RESUME.off 1 = .pass) ∧
    (∃ (s : State) (i : Nat) (mv : Nat),
      i < 35 ∧ mv < 8192 ∧ s.pf.running = []) ∧
    (∃ (s : State) (a : Access) (mode : Bool),
      s.writeGate a pgPwr GOV_CTRL.MODE.off (BitVec.ofNat 32 (256 + bnat mode)) = .pass ∧ s.on pgPwr GOV_STATUS.TRIPPED = true ∧
        s.sensorsCool = true) :=
  ⟨⟨up, host, 15, 60, by decide +kernel⟩,
   ⟨w_PowerEvents_1, 15, by decide +kernel⟩,
   ⟨(up.setRegState 15 rgOn), 15, by decide +kernel⟩,
   ⟨(up.setRegState 11 rgRamping), 11, by decide +kernel⟩,
   ⟨w_PowerEvents_4, host, by decide +kernel⟩,
   ⟨w_PowerEvents_5, host, by decide +kernel⟩,
   ⟨up, 34, 8191, by decide +kernel⟩,
   ⟨w_PowerEvents_8, host, true, by decide +kernel⟩⟩

def w_PowerFailAndWear_1 : State := up.wr pgPwr PWR_STATUS.PF_WARN 1
def w_PowerFailAndWear_2 : State := up.wr pgPwr PWR_STATUS.PF_HELD 1
def w_PowerFailAndWear_3 : State := up.wr pgFray FRAY_SEL.COLUMN 287
def w_PowerFailAndWear_4 : State := (up.wr (pgFrayCol 287) FRAY_UNITS.UNITS 8192).wr pgSpar STACK_FUSEMAP.VFUSE_OK 1

theorem met_PowerFailAndWear :
    (∃ (s : State),
      s.on pgPwr PWR_STATUS.PF_WARN = false) ∧
    (∃ (s : State),
      s.on pgPwr PWR_STATUS.PF_WARN = true) ∧
    (∃ (s : State) (a : Access),
      s.writeGate a pgPwr PWR_PF_RELEASE.RELEASE.off 1 = .pass ∧ s.on pgPwr PWR_STATUS.PF_WARN = false ∧ s.on pgPwr PWR_STATUS.PF_HELD = true) ∧
    (∃ (s : State) (a : Access) (v : Word),
      s.writeGate a pgFray FRAY_UNITS.UNITS.off v = .pass ∧ s.frayUnits (s.rd pgFray FRAY_SEL.COLUMN) ≤ v.toNat + a.same.toNat) ∧
    (∃ (s : State),
      s.odoPending ≠ 0 ∧ s.on pgSpar STACK_FUSEMAP.VFUSE_OK = true ∧ s.on pgPwr PWR_STATUS.PF_WARN = false) :=
  ⟨⟨up, by decide +kernel⟩,
   ⟨w_PowerFailAndWear_1, by decide +kernel⟩,
   ⟨w_PowerFailAndWear_2, host, by decide +kernel⟩,
   ⟨w_PowerFailAndWear_3, host, 0xFFFFFFFF, by decide +kernel⟩,
   ⟨w_PowerFailAndWear_4, by decide +kernel⟩⟩

def w_PinInputStages_1 : State := ((up.wr (pgFio 12) FIO_BANK_CTRL.VCCIO 2).setPin 623 { sync := true, syncAt := 99999960 }).wrPin 623 FIO_PIN_FILT.DEBOUNCE_US 10
def w_PinInputStages_2 : State := (((up.wr (pgFio 12) FIO_BANK_CTRL.VCCIO 2).setPin 623 { sync := true, syncAt := 99999960 }).wrPin 623 FIO_PIN_FILT.DEBOUNCE_US 10).setPin 623 { sync := true, syncAt := 99999961 }
def w_PinInputStages_3 : State := ((up.wr (pgFio 12) FIO_BANK_CTRL.VCCIO 2).setPin 623 { sync := true, filt := true, filtAt := 0 })
def w_PinInputStages_4 : State := (((up.wr (pgFio 12) FIO_BANK_CTRL.VCCIO 2).setPin 623 { sync := true, filt := true, filtAt := 0 }).wrPg 31 FIO_PG_CTRL.ENABLE 1).wrPg 31 FIO_PG_CTRL.PRES_PIN 623 |>.wrPg 31 FIO_PG_CTRL.PRES_LEVEL 0
def w_PinInputStages_6 : State := (up.wrPg 31 FIO_PG_CTRL.PRES_LEVEL 0).wrPg 31 FIO_PG_STATUS.HELD 1

theorem met_PinInputStages :
    (∃ (s : State) (n : Nat) (level : Bool),
      n < 624 ∧ (s.pin n).sync ≠ level ∧ s.rdPin n FIO_PIN_FILT.GLITCH_NS ≠ 0) ∧
    (∃ (s : State) (n : Nat),
      n < 624 ∧ (s.pin n).sync ≠ (s.pin n).filt ∧ (s.pin n).syncAt + s.bankCycles (n / 48) (s.rdPin n FIO_PIN_FILT.GLITCH_NS) ≤ s.ns) ∧
    (∃ (s : State) (n : Nat),
      n < 624 ∧ s.ns < (s.pin n).syncAt + s.bankCycles (n / 48) (s.rdPin n FIO_PIN_FILT.GLITCH_NS)) ∧
    (∃ (s : State) (n : Nat),
      n < 624 ∧ s.filtLevel n ≠ (s.pin n).deb ∧ (s.pin n).filtAt + 1000 * s.rdPin n FIO_PIN_FILT.DEBOUNCE_US ≤ s.ns ∧
        (∀ g, g < 32 → s.pgEnabled g = true → s.rdPg g FIO_PG_CTRL.PRES_PIN ≠ n)) ∧
    (∃ (s : State) (n : Nat) (g : Nat),
      (n < 624 ∧ g < 32 ∧ s.filtLevel n ≠ (s.pin n).deb ∧ (s.pin n).filtAt + 1000 * s.rdPin n FIO_PIN_FILT.DEBOUNCE_US ≤ s.ns ∧
        s.pgEnabled g = true ∧ s.rdPg g FIO_PG_CTRL.PRES_PIN = n ∧ s.pgPresent g = true) ∧ (∀ m, m < 624 → s.rdPin m FIO_PIN_CFG.PG_MEMBER = 0)) ∧
    (∃ (s : State) (a : Access) (g : Nat) (v : Word),
      (g < 32 ∧ s.writeGate a pgPlug (FIO_PG_CTRL.ENABLE.at g).off (v ||| 1) = .pass ∧
        s.rdPin (getF (v ||| 1) 16 10) FIO_PIN_CFG.PG_MEMBER = 0) ∧ (∀ m, m < 624 → s.rdPin m FIO_PIN_CFG.PG_MEMBER = 0)) ∧
    (∃ (s : State) (a : Access) (g : BitVec 5),
      s.writeGate a pgPlug FIO_PG_REPLUG.GROUP.off (g.setWidth 32) = .pass ∧ s.pgPresent g.toNat = true ∧ s.pgHeld g.toNat = true) :=
  ⟨⟨up, 623, true, by decide +kernel⟩,
   ⟨w_PinInputStages_1, 623, by decide +kernel⟩,
   ⟨w_PinInputStages_2, 623, by decide +kernel⟩,
   ⟨w_PinInputStages_3, 623, by decide +kernel⟩,
   ⟨w_PinInputStages_4, 623, 31, by decide +kernel, pin_members _ (by decide +kernel)⟩,
   ⟨up, host, 31, (623 * 65536 + 2), by decide +kernel, pin_members _ (by decide +kernel)⟩,
   ⟨w_PinInputStages_6, host, 31, by decide +kernel⟩⟩

def w_FieldOutputsAndMonitor_0 : State := up.wr pgPlug FIO_TRIP.LATCHED 1
def w_FieldOutputsAndMonitor_1 : State := ((up.wr pgPlug FIO_TRIP.LATCHED 1).wr (pgFio 3) FIO_BANK_CTRL.VCCIO 2).wrPin 190 FIO_PIN_CFG.TRIP_IN 1 |>.setPin 190 { filt := true }
def w_FieldOutputsAndMonitor_3 : State := up.wrPin 623 FIO_PIN_FILT.DEBOUNCE_US 1
def w_FieldOutputsAndMonitor_4 : State := (up.wrPin 623 FIO_PIN_CFG.OWNER 3).wrPin 607 FIO_PIN_CFG.OWNER 3
def w_FieldOutputsAndMonitor_5 : State := up.wr pgPlug MADC_CTRL.ENABLE 0x8000

theorem met_FieldOutputsAndMonitor :
    (∃ (s : State) (a : Access),
      s.writeGate a pgPlug FIO_TRIP.LATCHED.off 2 = .pass ∧ a.same.getLsbD 0 = false ∧ s.tripReads = false) ∧
    (∃ (s : State) (a : Access),
      s.writeGate a pgPlug FIO_TRIP.LATCHED.off 2 = .pass ∧ a.same.getLsbD 0 = false ∧ s.tripReads = true) ∧
    (∃ (s : State) (a : Access),
      s.writeGate a pgPlug FIO_TRIP.LATCHED.off 2 = .pass ∧ a.same.getLsbD 0 = true) ∧
    (∃ (s : State) (a : Access) (n : Nat) (v : Word),
      192 ≤ n ∧ n < 624 ∧ s.writeGate a (pgFio (n / 48)) (FIO_PIN_CFG.OWNER.at (n % 48)).off v = .pass ∧
        getF v 0 2 = s.rdPin n FIO_PIN_CFG.OWNER ∧ getF v 10 2 = 0 ∧ getF v FIO_PIN_CFG.PG_MEMBER.lo 1 = 0 ∧ s.rdPin n FIO_PIN_FILT.DEBOUNCE_US ≠ 0) ∧
    (∃ (s : State) (a : Access) (b : Nat) (hi : Bool) (v : Word),
      b < 13 ∧ s.writeGate a (pgFio b) (if hi then FIO_OUT_HI.OUT.off else FIO_OUT_LO.OUT.off) v = .pass) ∧
    (∃ (s : State) (ch : Nat),
      s.madcChannel = some ch) :=
  ⟨⟨w_FieldOutputsAndMonitor_0, host, by decide +kernel⟩,
   ⟨w_FieldOutputsAndMonitor_1, host, by decide +kernel⟩,
   ⟨w_FieldOutputsAndMonitor_0, ({ host with same := 1 }), by decide +kernel⟩,
   ⟨w_FieldOutputsAndMonitor_3, host, 623, 0x0000C05C, by decide +kernel⟩,
   ⟨w_FieldOutputsAndMonitor_4, host, 12, true, 0xFFFF, by decide +kernel⟩,
   ⟨w_FieldOutputsAndMonitor_5, 15, by decide +kernel⟩⟩

def w_RetainedStoreCommands_1 : State := { up with store := [(2 * 0x50, makeBuf 0x50 0 [1, 2, 3] [])] }.wr pgReset RS_SEL.ID 0x50
def w_RetainedStoreCommands_2 : State := (up.wr pgReset RS_SEL.ID 0x5C).wr pgReset RS_LEN.BYTES 512
def w_RetainedStoreCommands_4 : State := { up with store := [(2 * 0x50, makeBuf 0x50 0 [1, 2, 3] [])], jobs := [⟨0x50, .host, false, [1, 2, 3], []⟩] }
def w_RetainedStoreCommands_5 : State := { (after .rsCommitDone { up with jobs := [⟨0x50, .host, false, [1, 2, 3], []⟩] }) with jobs := [⟨0x50, .host, true, [], []⟩] }
def w_RetainedStoreCommands_6 : State := { (after .rsCommitDone { up with jobs := [⟨0x50, .host, false, [1, 2, 3], []⟩] }) with kram := [(0, [1])] }

theorem met_RetainedStoreCommands :
    (∃ (s : State) (a : Access),
      s.writeGate a pgReset RS_CMD.OP.off 1 = .pass ∧ s.on pgReset RS_STATUS.BUSY = false ∧ s.record (s.rd pgReset RS_SEL.ID) = none) ∧
    (∃ (s : State) (a : Access) (b : RsBuf),
      s.writeGate a pgReset RS_CMD.OP.off 1 = .pass ∧ s.on pgReset RS_STATUS.BUSY = false ∧ s.record (s.rd pgReset RS_SEL.ID) = some b) ∧
    (∃ (s : State) (a : Access),
      s.writeGate a pgReset RS_CMD.OP.off 2 = .pass ∧ s.on pgReset RS_STATUS.BUSY = false ∧ isUserRecord (s.rd pgReset RS_SEL.ID) = true ∧
        s.jobs = []) ∧
    (∃ (s : State) (a : Access),
      s.writeGate a pgReset RS_CMD.OP.off 3 = .pass ∧ s.on pgReset RS_STATUS.BUSY = false ∧ s.jobs = []) ∧
    (∃ (s : State) (j : RsJob) (b : Nat),
      s.jobs = [j] ∧ j.erase = false ∧ s.currentBuf j.id = some b) ∧
    (∃ (s : State) (j : RsJob),
      s.jobs = [j] ∧ j.erase = true) ∧
    (∃ (s : State) (a : Access),
      s.writeGate a pgReset RS_ZEROISE.KEY.off 0x5A0F = .pass) :=
  ⟨⟨(up.wr pgReset RS_SEL.ID 0x5C), host, by decide +kernel⟩,
   ⟨w_RetainedStoreCommands_1, host, (makeBuf 0x50 0 [1, 2, 3] []), by decide +kernel⟩,
   ⟨w_RetainedStoreCommands_2, host, by decide +kernel⟩,
   ⟨(up.wr pgReset RS_SEL.ID 0x50), host, by decide +kernel⟩,
   ⟨w_RetainedStoreCommands_4, (⟨0x50, .host, false, [1, 2, 3], []⟩), 0, by decide +kernel⟩,
   ⟨w_RetainedStoreCommands_5, (⟨0x50, .host, true, [], []⟩), by decide +kernel⟩,
   ⟨w_RetainedStoreCommands_6, host, by decide +kernel⟩⟩

def w_TracksRecord_2 : State := tracking up 63 kQuad trRun |>.wr pgBridle BRIDLE_STATUS.COUNTING 0

theorem met_TracksRecord :
    (∃ (s : State) (a : Access),
      s.on pgBridle BRIDLE_STATUS.SAVE_BUSY = false ∧ s.jobs = [] ∧ s.vbat = true ∧ s.pfBlocked = false ∧
        s.writeGate a pgBridle BRIDLE_CTRL.KEEP_ON_WARM.off (setF (s.reg (pgBridle * 4096 + BRIDLE_CTRL.KEEP_ON_WARM.off)) 4 1 1) = .pass) ∧
    (∃ (s : State) (a : Access),
      s.on pgBridle BRIDLE_STATUS.SAVE_BUSY = false ∧ s.jobs = [] ∧ s.vbat = true ∧ s.pfBlocked = false ∧
        s.writeGate a pgBridle BRIDLE_CTRL.KEEP_ON_WARM.off (setF (s.reg (pgBridle * 4096 + BRIDLE_CTRL.KEEP_ON_WARM.off)) 5 1 1) = .pass) ∧
    (∃ (s : State),
      (s.on pgBridle BRIDLE_STATUS.COUNTING = false ∧ 20000000 ≤ s.ns) ∧
        (∀ b, s.record recTracks = some b → ∀ e, e ∈ b.saved → e.2.1 / 4096 ≠ pgBridle ∧ e.2.1 / 4096 ≠ pgReady)) ∧
    (∃ (s : State),
      s.ns < 20000000) :=
  ⟨⟨up, host, by decide +kernel⟩,
   ⟨up, host, by decide +kernel⟩,
   ⟨w_TracksRecord_2, by decide +kernel, ofOption _ (by decide +kernel)⟩,
   ⟨({ up with ns := 19999999 }), by decide +kernel⟩⟩

def w_RouteTablesAndEpochs_0 : State := (up.wr (pgNode 127) RIGN_TBL_INDEX.TABLE 1).wr (pgNode 127) RIGN_TBL_INDEX.ENTRY 191
def w_RouteTablesAndEpochs_1 : State := up.wr (pgNode 127) RIGN_TBL_INDEX.ENTRY 191
def w_RouteTablesAndEpochs_3 : State := let s := (routed up); (s.setRoute 127 (1 - s.epoch) 191 7) |> fun t => { t with rig := { t.rig with edits := [(127, 1 - s.epoch, 191, 0)], editNs := s.ns } }
def w_RouteTablesAndEpochs_4 : State := (routed up).wr pgRig RIG_EPOCH.OLD_BUSY 1
def w_RouteTablesAndEpochs_5 : State := (routed up).wr (pgNode 79) RIGN_LINK.DEAD 1

theorem met_RouteTablesAndEpochs :
    (∃ (s : State) (a : Access) (n : Nat) (v : Word),
      n < 128 ∧ s.writeGate a (pgNode n) RIGN_TBL_DATA.ENTRY.off v = .pass ∧ s.rdNode n RIGN_TBL_INDEX.TABLE ≠ s.epoch ∧
        s.on pgRig RIG_EPOCH.OLD_BUSY = false ∧ s.entryOk n (getF v 0 6) = true) ∧
    (∃ (s : State) (a : Access) (n : Nat) (v : Word),
      n < 128 ∧ s.writeGate a (pgNode n) RIGN_TBL_DATA.ENTRY.off v = .pass ∧ s.rdNode n RIGN_TBL_INDEX.TABLE = s.epoch) ∧
    (∃ (s : State) (a : Access),
      s.writeGate a pgRig RIG_EPOCH.CURRENT.off 2 = .pass ∧ s.on pgRig RIG_EPOCH.OLD_BUSY = false ∧ s.editsNow = [] ∧
        s.anyRoute (1 - s.epoch) (fun n p => p < 6 && s.linkDisabled n p) = false) ∧
    (∃ (s : State) (a : Access) (n : Nat) (e : Nat) (old : Nat),
      s.writeGate a pgRig RIG_EPOCH.CURRENT.off 2 = .pass ∧ s.on pgRig RIG_EPOCH.OLD_BUSY = false ∧ n < 128 ∧ e < 192 ∧ old < 64 ∧
        s.editsNow = [(n, 1 - s.epoch, e, old)] ∧ s.undoEdits.anyRoute (1 - s.epoch) (fun m p => p < 6 && s.linkDisabled m p) = false) ∧
    (∃ (s : State),
      s.on pgRig RIG_EPOCH.OLD_BUSY = true ∧ (∀ p, p ∈ s.rig.packets → p.epoch = s.epoch)) ∧
    (∃ (s : State) (edits : List (Nat × Nat × Nat)),
      edits.all (fun e => e.1 < 128 && e.2.1 < 192 && e.2.2 < 64) = true ∧ (edits.map (fun e => (e.1, e.2.1))).Nodup ∧
        (∀ e ∈ edits, s.entryOk e.1 e.2.2 = true) ∧ s.anyDead = true ∧ s.on pgRig RIG_EPOCH.OLD_BUSY = false ∧
        s.anyRoute (1 - s.epoch) (fun n p => p < 6 && s.linkDisabled n p) = false) :=
  ⟨⟨w_RouteTablesAndEpochs_0, host, 127, 7, by decide +kernel⟩,
   ⟨w_RouteTablesAndEpochs_1, host, 127, 7, by decide +kernel⟩,
   ⟨(routed up), host, by decide +kernel⟩,
   ⟨w_RouteTablesAndEpochs_3, host, 127, 191, 0, by decide +kernel⟩,
   ⟨w_RouteTablesAndEpochs_4, by decide +kernel⟩,
   ⟨w_RouteTablesAndEpochs_5, ([(127, 191, 7), (127, 190, 15)]), by decide +kernel⟩⟩

def w_NodesLinksAndDomains_2 : State := up.wr (pgNode 127) RIGN_STATE.STATE 1
def w_NodesLinksAndDomains_3 : State := let s := up; { s with rig := { s.rig with draining := [8 * 127 + 5] } }
def w_NodesLinksAndDomains_5 : State := let s := (routed up).wr pgRig (RIG_DOMAIN.STATE.at 15) 1; { s with rig := { s.rig with drainAt := [(15, 0)], inits := [(4, { tags := [(63, { at_ := 0, dev := 0, target := 99, cls := 1, write := false, epoch := 0, bytes := 64 })] })] } }
def w_NodesLinksAndDomains_6 : State := let s := (routed up).wr pgRig (RIG_DOMAIN.STATE.at 15) 1; { s with rig := { s.rig with packets := [packet] } }
def w_NodesLinksAndDomains_7 : State := (routed up).wr pgRig (RIG_DOMAIN.STATE.at 15) 2

theorem met_NodesLinksAndDomains :
    (∃ (s : State) (a : Access) (n : Nat),
      n < 128 ∧ s.writeGate a (pgNode n) RIGN_CTRL.DISABLE.off 1 = .pass ∧ s.rdNode n RIGN_CTRL.DISABLE = 0 ∧
        s.anyRoute s.epoch (fun m p => nodeNext m p == some n) = false) ∧
    (∃ (s : State) (a : Access) (n : Nat) (p : Nat),
      n < 128 ∧ p < 6 ∧ s.writeGate a (pgNode n) RIGN_LINK.DISABLE.off (BitVec.ofNat 32 (2 ^ p)) = .pass ∧ s.rdNode n RIGN_LINK.DISABLE = 0 ∧
        s.anyRoute s.epoch (fun q x => (q == n && x == p) || (nodeNext n p == some q && x == backPort p)) = false) ∧
    (∃ (s : State) (n : Nat),
      n < 128 ∧ s.rdNode n RIGN_STATE.STATE = 1 ∧ s.holdsOld n none = false) ∧
    (∃ (s : State) (n : Nat) (p : Nat),
      (n < 128 ∧ p < 6 ∧ s.holdsOld n (some p) = false) ∧ (∀ m, nodeNext n p = some m → s.holdsOld m (some (backPort p)) = false)) ∧
    (∃ (s : State) (g : Nat),
      4 ≤ g ∧ g < 16 ∧ s.domainState g = 0) ∧
    (∃ (s : State) (g : Nat) (t0 : Nat),
      4 ≤ g ∧ g < 16 ∧ s.domainState g = 1 ∧ lget s.rig.drainAt g = some t0 ∧ 1000 * s.rd pgRig RIG_DRAIN_TIMEOUT.US ≤ s.ns - t0) ∧
    (∃ (s : State) (g : Nat),
      4 ≤ g ∧ g < 16 ∧ s.domainState g = 1 ∧ (lget s.rig.drainAt g = none ∨ s.inDomain g = 0) ∧ s.rig.packets.any (s.leaving g) = false) ∧
    (∃ (s : State) (g : Nat),
      4 ≤ g ∧ g < 16 ∧ (s.domainState g = 2 ∨ s.domainState g = 3)) :=
  ⟨⟨(routed up), host, 127, by decide +kernel⟩,
   ⟨(routed up), host, 79, 3, by decide +kernel⟩,
   ⟨w_NodesLinksAndDomains_2, 127, by decide +kernel⟩,
   ⟨w_NodesLinksAndDomains_3, 127, 5, by decide +kernel, ofOption _ (by decide +kernel)⟩,
   ⟨(routed up), 15, by decide +kernel⟩,
   ⟨w_NodesLinksAndDomains_5, 15, 0, by decide +kernel⟩,
   ⟨w_NodesLinksAndDomains_6, 15, by decide +kernel⟩,
   ⟨w_NodesLinksAndDomains_7, 15, by decide +kernel⟩⟩

def w_RiggingRequests_4 : State := let s := routed up; { s with rig := { s.rig with packets := [{ packet with opc := opRdResp, la := 6, dstNode := (initPlace 4).1, node := (initPlace 4).1, dstPort := (initPlace 4).2, data := [1, 2], bytes := 2, got := 1 }], inits := [(4, { tags := [(63, { at_ := 0, dev := 0, target := 7, cls := 1, write := false, epoch := 0, bytes := 64 })], gens := [(63, 3)] })] } }
def w_RiggingRequests_5 : State := let s := routed up; { s with rig := { s.rig with packets := [{ packet with opc := opRdResp, la := 6, dstNode := (initPlace 4).1, node := (initPlace 4).1, dstPort := (initPlace 4).2, data := [1, 2], bytes := 2, got := 1 }], inits := [(4, { gens := [(63, 3)] })] } }
def w_RiggingRequests_6 : State := let s := routed up; { s with rig := { s.rig with inits := [(89, { tags := [(63, { at_ := 0, dev := 0, target := 7, cls := 1, write := false, epoch := 0, bytes := 64 })], gens := [(63, 3)] })] } }
def w_RiggingRequests_7 : State := let s := routed up; { s with rig := { s.rig with inits := [(89, { tags := [(63, { quarantined := true, at_ := 0, dev := 0, target := 7, cls := 1, write := false, epoch := 0, bytes := 64 })], gens := [(63, 3)] })] } }
def w_RiggingRequests_8 : State := let s := routed up; { s with rig := { s.rig with msgs := [{ packet with opc := 4, srcInit := 6 }] } }
def w_RiggingRequests_9 : State := let s := up.wr pgRig RIG_INIT_SEL.INIT 89; { s with rig := { s.rig with inits := [(89, { bytes := 0x500000007 })] } }

theorem met_RiggingRequests :
    (∃ (s : State) (who : Who) (d : RigDest) (write : Bool) (size : Nat) (dev : Nat) (tgt : Nat) (addr : Nat) (tag : Nat),
      (whoInit who < 90 ∧ hasWindow who d = true) ∧ (∀ i, who = .fabric i → s.fabricLive i = true) ∧
        s.aim (initPlace (whoInit who)).1 d = some (dev, tgt, addr) ∧ 0 < size ∧ destAddr d % 512 + size ≤ 512 ∧
        s.interfaceCode who dev tgt addr = 0 ∧ isDoorbell write size tgt addr = false ∧ (s.rigInit (whoInit who)).queue = [] ∧
        s.canInject (whoInit who) { who := who, dev := dev, target := tgt, addr := addr, write := write, bytes := size } = some tag) ∧
    (∃ (s : State) (who : Who) (d : RigDest) (write : Bool) (size : Nat) (dev : Nat) (tgt : Nat) (addr : Nat),
      (whoInit who < 90 ∧ hasWindow who d = true) ∧ (∀ i, who = .fabric i → s.fabricLive i = true) ∧ (0 < size ∧
        (∀ c ∈ cutAll (destAddr d) size, (s.aim (initPlace (whoInit who)).1 (destPlus d c.1)).isSome = true) ∧
        s.aim (initPlace (whoInit who)).1 d = some (dev, tgt, addr) ∧ s.interfaceCode who dev tgt addr = 0) ∧
        (∀ n, isDoorbell write n tgt addr = false)) ∧
    (∃ (s : State) (who : Who) (d : RigDest) (size : Nat) (dev : Nat) (tgt : Nat) (addr : Nat),
      (whoInit who < 90 ∧ hasWindow who d = true) ∧ (∀ i, who = .fabric i → s.fabricLive i = true) ∧
        s.aim (initPlace (whoInit who)).1 d = some (dev, tgt, addr) ∧ 0 < size ∧ destAddr d % 512 + size ≤ 512 ∧
        (s.interfaceCode who dev tgt addr = 0 ∨ s.interfaceCode who dev tgt addr = rcBusyReset) ∧ isDoorbell true size tgt addr = true) ∧
    (∃ (s : State) (who : Who) (d : RigDest) (size : Nat),
      whoInit who < 90 ∧ (∀ i, who = .fabric i → s.fabricLive i = true) ∧
        (hasWindow who d = false ∨ size = 0 ∨ s.aim (initPlace (whoInit who)).1 d = none ∧ destAddr d % 512 + size ≤ 512)) ∧
    (∃ (s : State) (i : Nat) (q : Packet) (g : RigTag),
      s.rig.packets[i]? = some q ∧ s.atHome q = true ∧ q.got = q.flits ∧ lget (s.rigInit q.srcInit).tags q.tag = some g ∧ g.quarantined = false ∧
        g.abandoned = false ∧ g.note = none ∧ nget (s.rigInit q.srcInit).gens q.tag = q.gen ∧ (s.rigInit q.srcInit).queue = []) ∧
    (∃ (s : State) (i : Nat) (q : Packet),
      s.rig.packets[i]? = some q ∧ s.atHome q = true ∧ q.got = q.flits ∧
        (lget (s.rigInit q.srcInit).tags q.tag).all (fun g => g.abandoned && !g.quarantined) = true) ∧
    (∃ (s : State) (i : Nat) (tag : Nat) (g : RigTag),
      i < 90 ∧ tag < 64 ∧ lget (s.rigInit i).tags tag = some g ∧ g.quarantined = false ∧ s.initTimeout i ≤ s.ns - g.at_ ∧
        (s.responseHere i tag = false ∨ g.abandoned = true) ∧ (s.rigInit i).queue = []) ∧
    (∃ (s : State) (i : Nat) (tag : Nat) (g : RigTag),
      i < 90 ∧ tag < 64 ∧ lget (s.rigInit i).tags tag = some g ∧ g.quarantined = true ∧ s.initTimeout i ≤ s.ns - g.at_ ∧ (s.rigInit i).queue = []) ∧
    (∃ (s : State) (i : Nat) (m : Packet),
      i < 90 ∧ s.rig.msgs.find? (fun m => m.srcInit == i) = some m ∧ s.hasToken i = true) ∧
    (∃ (s : State) (a : Access),
      s.shows a.who pgRig RIG_ST_BYTES_LO.BYTES.off) :=
  ⟨⟨(routed up), (.spool 0), (.host 0x1FC), false, 4, 0, 100, 0x1FC, 0, by decide +kernel, nofun, by decide +kernel⟩,
   ⟨(routed up), (.spool 0), (.host 0x1FC), false, 8, 0, 100, 0x1FC, by decide +kernel, nofun, by decide +kernel, fun n => by simp [isDoorbell]⟩,
   ⟨(routed up), (.spool 0), (.array (0 * 2 ^ 30 + pgIntc 0 * 4096 + 0x40)), 4, 0, 110, (pgIntc 0 * 4096 + 0x40), by decide +kernel, nofun, by decide +kernel⟩,
   ⟨(routed up), (.pf 1), (.array 0x3F), 1, by decide +kernel, nofun, by decide +kernel⟩,
   ⟨w_RiggingRequests_4, 0, ({ packet with opc := opRdResp, la := 6, dstNode := (initPlace 4).1, node := (initPlace 4).1, dstPort := (initPlace 4).2, data := [1, 2], bytes := 2, got := 1 }), ({ at_ := 0, dev := 0, target := 7, cls := 1, write := false, epoch := 0, bytes := 64 }), by decide +kernel⟩,
   ⟨w_RiggingRequests_5, 0, ({ packet with opc := opRdResp, la := 6, dstNode := (initPlace 4).1, node := (initPlace 4).1, dstPort := (initPlace 4).2, data := [1, 2], bytes := 2, got := 1 }), by decide +kernel⟩,
   ⟨w_RiggingRequests_6, 89, 63, ({ at_ := 0, dev := 0, target := 7, cls := 1, write := false, epoch := 0, bytes := 64 }), by decide +kernel⟩,
   ⟨w_RiggingRequests_7, 89, 63, ({ quarantined := true, at_ := 0, dev := 0, target := 7, cls := 1, write := false, epoch := 0, bytes := 64 }), by decide +kernel⟩,
   ⟨w_RiggingRequests_8, 6, ({ packet with opc := 4, srcInit := 6 }), by decide +kernel⟩,
   ⟨w_RiggingRequests_9, host, by decide +kernel⟩⟩

def w_HopsThroughTheRigging_0 : State := let s := routed up; { s with rig := { s.rig with packets := [packet] } }
def w_HopsThroughTheRigging_2 : State := let s := routed up; { s with rig := { s.rig with packets := [packet], owed := List.replicate 8 (8 * 33 + 3, packet.cls) } }
def w_HopsThroughTheRigging_3 : State := let s := routed up; { s with rig := { s.rig with packets := [{ packet with node := 33, inPort := 3, opc := 1, data := List.replicate 64 7, trail := [(33, 3, 1), (32, 6, 2)] }] } }
def w_HopsThroughTheRigging_5 : State := let s := routed up; { s with rig := { s.rig with packets := [{ packet with la := 7 }] } }
def w_HopsThroughTheRigging_6 : State := let s := routed up; { s with rig := { s.rig with packets := [atPort42] } }

theorem met_HopsThroughTheRigging :
    (∃ (s : State) (i : Nat) (m : Nat) (n : Nat) (ip : Nat) (c : Nat) (q : Packet) (ans : ExtResp),
      ans.code < 14 ∧ s.rig.packets[i]? = some q ∧ q.places[0]? = some (n, ip, c) ∧ q.got = 0 ∧ s.rdNode n RIGN_STATE.STATE ≠ 2 ∧ q.opc ≤ 4 ∧
        q.la < 6 ∧ s.linkOff q.node q.la = false ∧ nodeNext q.node q.la = some m ∧
        (nodeDomain m = nodeDomain q.node ∨ s.nodeDomainState m = dmOn ∨ q.isRequest = false ∧ q.opc ≠ opMsg ∧
        s.nodeDomainState m = dmDraining) ∧ s.wins s.localOpen q 0 = true) ∧
    (∃ (s : State) (i : Nat) (m : Nat) (n : Nat) (ip : Nat) (c : Nat) (q : Packet) (ans : ExtResp),
      ans.code < 14 ∧ s.rig.packets[i]? = some q ∧ q.places[0]? = some (n, ip, c) ∧ q.got = 0 ∧ s.rdNode n RIGN_STATE.STATE ≠ 2 ∧ q.opc ≤ 4 ∧
        q.la < 6 ∧ q.node < 128 ∧ s.linkOff q.node q.la = false ∧ nodeNext q.node q.la = some m ∧
        (nodeDomain m = nodeDomain q.node ∨ s.nodeDomainState m = dmOn ∨ q.isRequest = false ∧ q.opc ≠ opMsg ∧
        s.nodeDomainState m = dmDraining) ∧ s.wins s.localOpen q 0 = true) ∧
    (∃ (s : State) (i : Nat) (m : Nat) (n : Nat) (ip : Nat) (c : Nat) (q : Packet) (ans : ExtResp),
      ans.code < 14 ∧ s.rig.packets[i]? = some q ∧ q.places[0]? = some (n, ip, c) ∧ q.got = 0 ∧ s.rdNode n RIGN_STATE.STATE ≠ 2 ∧ q.opc ≤ 4 ∧
        q.la < 6 ∧ s.linkOff q.node q.la = false ∧ nodeNext q.node q.la = some m ∧
        (nodeDomain m = nodeDomain q.node ∨ s.nodeDomainState m = dmOn) ∧ s.wins s.localOpen q 0 = false) ∧
    (∃ (s : State) (i : Nat) (j : Nat) (n : Nat) (ip : Nat) (c : Nat) (q : Packet) (ans : ExtResp),
      ans.code < 14 ∧ s.rig.packets[i]? = some q ∧ q.places[j + 1]? = some (n, ip, c) ∧ s.rdNode n RIGN_STATE.STATE ≠ 2 ∧
        s.wins s.localOpen q (j + 1) = true) ∧
    (∃ (s : State) (i : Nat) (n : Nat) (ip : Nat) (c : Nat) (q : Packet) (ans : ExtResp),
      ans.code < 14 ∧ s.rig.packets[i]? = some q ∧ q.places[0]? = some (n, ip, c) ∧ q.got = 0 ∧ s.rdNode n RIGN_STATE.STATE ≠ 2 ∧ q.node < 128) ∧
    (∃ (s : State) (i : Nat) (n : Nat) (ip : Nat) (c : Nat) (q : Packet) (ans : ExtResp),
      ans.code < 14 ∧ s.rig.packets[i]? = some q ∧ q.places[0]? = some (n, ip, c) ∧ q.got = 0 ∧ s.rdNode n RIGN_STATE.STATE ≠ 2 ∧ q.node < 128 ∧
        q.opc ≤ 4 ∧ q.la = 7 ∧ q.isRequest = true) ∧
    (∃ (s : State) (i : Nat) (tg : Nat) (n : Nat) (ip : Nat) (c : Nat) (q : Packet) (ans : ExtResp),
      ans.code < 14 ∧ s.rig.packets[i]? = some q ∧ q.places[0]? = some (n, ip, c) ∧ s.rdNode n RIGN_STATE.STATE ≠ 2 ∧ q.got + 1 = q.flits ∧
        (q.got = 0 → q.la = 6 ∧ hasPort q.node 6 = true) ∧ s.wins s.localOpen q 0 = true ∧ targetAt q.node (s.localPort q) = some tg ∧
        ¬ (101 ≤ tg ∧ tg < 109) ∧ q.isRequest = true ∧ q.spoiled = false ∧ q.orphan = false ∧ q.pass = .fresh ∧
        (36 ≤ tg ∨ ((s.flitMoved q q.taken 0 (q.got == 0)).behindHeld q.taken = false ∧
        (s.flitMoved q q.taken 0 (q.got == 0)).bankHolds q.who (q.opc == opWr) q.addr q.bytes .fresh = false))) :=
  ⟨⟨w_HopsThroughTheRigging_0, 0, 33, 32, 6, 1, packet, ({}), by decide +kernel⟩,
   ⟨w_HopsThroughTheRigging_0, 0, 33, 32, 6, 1, packet, ({}), by decide +kernel⟩,
   ⟨w_HopsThroughTheRigging_2, 0, 33, 32, 6, 1, packet, ({}), by decide +kernel⟩,
   ⟨w_HopsThroughTheRigging_3, 0, 0, 32, 6, 2, ({ packet with node := 33, inPort := 3, opc := 1, data := List.replicate 64 7, trail := [(33, 3, 1), (32, 6, 2)] }), ({}), by decide +kernel⟩,
   ⟨w_HopsThroughTheRigging_0, 0, 32, 6, 1, packet, ({}), by decide +kernel⟩,
   ⟨w_HopsThroughTheRigging_5, 0, 32, 6, 1, ({ packet with la := 7 }), ({}), by decide +kernel⟩,
   ⟨w_HopsThroughTheRigging_6, 0, 42, (let s := atPort42; s.node), 6, 1, atPort42, ({}), by decide +kernel⟩⟩

def w_BankReadsAndWrites_0 : State := let s := up; { s with banks := [(575, { ready := true })], mem := [(575 * 0x80000 + 63, 7)] }
def w_BankReadsAndWrites_2 : State := let s := (let s := up; { s with banks := [(575, { ready := true })], mem := [(575 * 0x80000 + 63, 7)] }); { s with crcDiff := [(575 * 0x80000 + 63) / 64 |> (·, 5)] }
def w_BankReadsAndWrites_6 : State := { up with banks := [(575, { ready := true, kind := 1, port := [{ we := false, addr := 0x7FFFF, size := 1, tag := 63, wdata := [] }] })] }
def w_BankReadsAndWrites_7 : State := { up with banks := [(575, { ready := true, kind := 1, port := [{ we := true, addr := 0x7FFFE, size := 1, tag := 63, wdata := [5] }] })] }
def w_BankReadsAndWrites_8 : State := { up with banks := [(575, { ready := true, kind := 0, port := [{ we := false, addr := 0x7FFFF, size := 1, tag := 63, wdata := [] }] })] }
def w_BankReadsAndWrites_9 : State := { up with banks := [(575, { ready := true, kind := 0, port := [{ we := true, addr := 0x7FFFE, size := 1, tag := 63, wdata := [5] }] })] }
def w_BankReadsAndWrites_10 : State := { serving up 575 with banks := [(575, { ready := true, kind := 1, port := [{ we := false, addr := 0x7FFFF, size := 1, tag := 63, wdata := [], done := some (0, [9]) }] })] }
def w_BankReadsAndWrites_11 : State := { up with banks := [(575, { ready := true, kind := 1, port := [{ we := false, addr := 0x7FFFF, size := 1, tag := 63, wdata := [], done := some (0, [9]), dropped := true }] })] }

theorem met_BankReadsAndWrites :
    (∃ (s : State) (w : Who) (a : Nat) (size : Nat),
      (bankRange a size = true ∧ s.handover.all (fun h => h.bank != a / 0x80000) = true ∧ s.bankHolds w false a size .fresh = false) ∧
        (∀ n, w = .pf n → n = 0 ∨ s.bankPart (a / 0x80000) = n) ∧
        (s.bankPageSecure (a / 0x80000) (pageAt a) = true ∨ s.bankPageSecure (a / 0x80000) (pageAt (a + (size - 1))) = true → s.whoSecure w = true) ∧ (s.bank (a / 0x80000)).accessCode (pageAt a) (pageAt (a + (size - 1))) = 0 ∧ s.ownerAdmits (s.bank (a / 0x80000)).kind (s.bank (a / 0x80000)).part (s.bank (a / 0x80000)).engine w = true ∧ s.on (pgTile (a / 0x80000 / 2)) BANK_ERR_INJECT.ARM = false ∧ (∀ n, n ∈ linesOf a size → s.lineDiff n = 0)) ∧
    (∃ (s : State) (w : Who) (a : Nat) (size : Nat) (data : List Byte),
      (bankRange a size = true ∧ data.length = size ∧ s.handover.all (fun h => h.bank != a / 0x80000) = true ∧
        s.bankHolds w true a size .fresh = false) ∧ (∀ n, w = .pf n → n = 0 ∨ s.bankPart (a / 0x80000) = n) ∧
        (s.bankPageSecure (a / 0x80000) (pageAt a) = true ∨ s.bankPageSecure (a / 0x80000) (pageAt (a + (size - 1))) = true → s.whoSecure w = true) ∧ (s.bank (a / 0x80000)).accessCode (pageAt a) (pageAt (a + (size - 1))) = 0 ∧ s.ownerAdmits (s.bank (a / 0x80000)).kind (s.bank (a / 0x80000)).part (s.bank (a / 0x80000)).engine w = true ∧ s.on (pgTile (a / 0x80000 / 2)) BANK_ERR_INJECT.ARM = false ∧ (∀ n, n ∈ linesOf a size → s.lineDiff n = 0) ∧ (∀ n, n ∈ linesOf a size → (lineBank n, n % 8192) ∉ s.repairs)) ∧
    (∃ (s : State) (w : Who) (a : Nat) (size : Nat),
      (bankRange a size = true ∧ a % 64 + size ≤ 64 ∧ s.handover.all (fun h => h.bank != a / 0x80000) = true ∧
        s.bankHolds w false a size .fresh = false) ∧ (∀ n, w = .pf n → n = 0 ∨ s.bankPart (a / 0x80000) = n) ∧
        (s.bankPageSecure (a / 0x80000) (pageAt a) = true ∨ s.bankPageSecure (a / 0x80000) (pageAt (a + (size - 1))) = true → s.whoSecure w = true) ∧ (s.bank (a / 0x80000)).accessCode (pageAt a) (pageAt (a + (size - 1))) = 0 ∧ s.ownerAdmits (s.bank (a / 0x80000)).kind (s.bank (a / 0x80000)).part (s.bank (a / 0x80000)).engine w = true ∧ s.on (pgTile (a / 0x80000 / 2)) BANK_ERR_INJECT.ARM = false ∧ s.lineDiff (a / 64) ≠ 0 ∧ s.isPartner (a / 0x80000) = false) ∧
    (∃ (s : State) (p : Nat) (addr : Nat) (size : Nat) (tag : Nat) (data : List Byte),
      p < 576 ∧ addr < 0x80000 ∧ 0 < size ∧ size ≤ 64 ∧ tag < 64 ∧ data.length = size ∧ s.clkRun p = true ∧ s.portReady p = true) ∧
    (∃ (s : State) (p : Nat) (addr : Nat) (size : Nat) (tag : Nat),
      p < 576 ∧ addr < 0x80000 ∧ (size = 0 ∨ 64 < size) ∧ size < 128 ∧ tag < 64 ∧ s.clkRun p = true ∧ s.portReady p = true) ∧
    (∃ (s : State) (p : Nat) (addr : Nat) (size : Nat) (tag : Nat),
      p < 576 ∧ addr < 0x80000 ∧ size < 128 ∧ tag < 64 ∧ (s.clkRun p = false ∨ s.portReady p = false)) ∧
    (∃ (s : State) (p : Nat) (r : PortReq) (rest : List PortReq),
      p < 576 ∧ (s.bank (portBank p)).port = r :: rest ∧ r.done = none ∧ r.we = false ∧ (s.bank (portBank p)).portCode r = 0 ∧ 0 < r.size ∧
        r.addr + r.size ≤ 0x80000 ∧ s.handover.all (fun h => h.bank != portBank p || h.kind != 1) = true ∧
        s.testHolds false (0x80000 * portBank p + r.addr) r.size = false ∧ s.on (pgTile (portBank p / 2)) BANK_ERR_INJECT.ARM = false ∧
        (∀ n, n ∈ linesOf (0x80000 * portBank p + r.addr) r.size → s.lineDiff n = 0)) ∧
    (∃ (s : State) (p : Nat) (r : PortReq) (rest : List PortReq),
      p < 576 ∧ (s.bank (portBank p)).port = r :: rest ∧ r.done = none ∧ r.we = true ∧ (s.bank (portBank p)).portCode r = 0 ∧ 0 < r.size ∧
        r.addr + r.size ≤ 0x80000 ∧ r.wdata.length = r.size ∧ s.handover.all (fun h => h.bank != portBank p || h.kind != 1) = true ∧
        s.testHolds true (0x80000 * portBank p + r.addr) r.size = false ∧ s.on (pgTile (portBank p / 2)) BANK_ERR_INJECT.ARM = false ∧
        (∀ n, n ∈ linesOf (0x80000 * portBank p + r.addr) r.size → s.lineDiff n = 0 ∧ (lineBank n, n % 8192) ∉ s.repairs)) ∧
    (∃ (s : State) (p : Nat) (r : PortReq) (rest : List PortReq),
      p < 576 ∧ (s.bank (portBank p)).port = r :: rest ∧ r.done = none ∧ r.we = false ∧ (s.bank (portBank p)).portCode r ≠ 0 ∧
        s.handover.all (fun h => h.bank != portBank p || h.kind != 1) = true) ∧
    (∃ (s : State) (p : Nat) (r : PortReq) (rest : List PortReq),
      p < 576 ∧ (s.bank (portBank p)).port = r :: rest ∧ r.done = none ∧ r.we = true ∧ (s.bank (portBank p)).portCode r ≠ 0 ∧
        s.handover.all (fun h => h.bank != portBank p || h.kind != 1) = true) ∧
    (∃ (s : State) (p : Nat) (c : Nat) (r : PortReq) (rest : List PortReq) (bs : List Byte),
      p < 576 ∧ (s.bank (portBank p)).port = r :: rest ∧ r.done = some (c, bs) ∧ r.dropped = false ∧ s.clkRun p = true) ∧
    (∃ (s : State) (p : Nat) (c : Nat) (r : PortReq) (rest : List PortReq) (bs : List Byte),
      p < 576 ∧ (s.bank (portBank p)).port = r :: rest ∧ r.done = some (c, bs) ∧ r.dropped = true) :=
  ⟨⟨w_BankReadsAndWrites_0, (.pf 0), (575 * 0x80000 + 63), 2, by decide +kernel, fun n h => .inl (Who.pf.inj h).symm, by decide +kernel⟩,
   ⟨w_BankReadsAndWrites_0, (.pf 0), (575 * 0x80000 + 63), 2, ([5, 0]), by decide +kernel, fun n h => .inl (Who.pf.inj h).symm, by decide +kernel⟩,
   ⟨w_BankReadsAndWrites_2, (.pf 0), (575 * 0x80000 + 63), 1, by decide +kernel, fun n h => .inl (Who.pf.inj h).symm, by decide +kernel⟩,
   ⟨(serving up 575), 575, 0x7FFFF, 64, 63, (List.replicate 64 0), by decide +kernel⟩,
   ⟨(serving up 575), 575, 0x7FFFF, 0, 63, by decide +kernel⟩,
   ⟨up, 575, 0x7FFFF, 127, 63, by decide +kernel⟩,
   ⟨w_BankReadsAndWrites_6, 575, ({ we := false, addr := 0x7FFFF, size := 1, tag := 63, wdata := [] }), [], by decide +kernel⟩,
   ⟨w_BankReadsAndWrites_7, 575, ({ we := true, addr := 0x7FFFE, size := 1, tag := 63, wdata := [5] }), [], by decide +kernel⟩,
   ⟨w_BankReadsAndWrites_8, 575, ({ we := false, addr := 0x7FFFF, size := 1, tag := 63, wdata := [] }), [], by decide +kernel⟩,
   ⟨w_BankReadsAndWrites_9, 575, ({ we := true, addr := 0x7FFFE, size := 1, tag := 63, wdata := [5] }), [], by decide +kernel⟩,
   ⟨w_BankReadsAndWrites_10, 575, 0, ({ we := false, addr := 0x7FFFF, size := 1, tag := 63, wdata := [], done := some (0, [9]) }), [], [9], by decide +kernel⟩,
   ⟨w_BankReadsAndWrites_11, 575, 0, ({ we := false, addr := 0x7FFFF, size := 1, tag := 63, wdata := [], done := some (0, [9]), dropped := true }), [], [9], by decide +kernel⟩⟩

def w_BankOwnersAndRetirement_0 : State := { up with banks := [(575, { ready := true })] }
def w_BankOwnersAndRetirement_1 : State := { up with handover := some { bank := 575, kind := 3, part := 7, engine := 3, at_ := 0 }, banks := [(575, { ready := true, kind := 1, port := [{ we := false, addr := 0x7FFFF, size := 1, tag := 63, wdata := [] }] })] }
def w_BankOwnersAndRetirement_2 : State := { up with handover := some { bank := 575, kind := 3, part := 7, engine := 3, at_ := 0 }, banks := [(575, { ready := true })] }
def w_BankOwnersAndRetirement_5 : State := { up with handover := some { bank := 575, kind := 3, part := 7, engine := 3, at_ := 0, retire := [3] }, banks := [(575, { ready := true })] }

theorem met_BankOwnersAndRetirement :
    (∃ (s : State) (a : Access) (v : Word) (b : Nat) (k : Nat) (pt : Nat) (en : Nat),
      s.writeGate a pgBallast BANK_HANDOVER.BANK.off v = .pass ∧ b = getF v BANK_HANDOVER.BANK.lo BANK_HANDOVER.BANK.len ∧
        k = getF v BANK_HANDOVER.KIND.lo BANK_HANDOVER.KIND.len ∧ pt = getF v BANK_HANDOVER.PART.lo BANK_HANDOVER.PART.len ∧
        en = getF v BANK_HANDOVER.ENGINE.lo BANK_HANDOVER.ENGINE.len ∧ s.on pgBallast BANK_HANDOVER_STATUS.BUSY = false ∧ b < 576 ∧
        (k ≠ 0 → (s.bank b).failed = false ∧ (isTwin b = false ∨ s.mirrorOn (b / 16) = false)) ∧ (k = 1 → (s.panel (bankPanel b)).grounded = 0) ∧
        (k ≤ 1 → pt = 0) ∧ (k ≠ 3 → en = 0) ∧ ¬ ((s.bank b).kind = k ∧ (k ≤ 1 ∨ (s.bank b).part = pt) ∧ (k ≠ 3 ∨ (s.bank b).engine = en))) ∧
    (∃ (s : State) (h : Handover),
      s.handover = some h ∧ 1000 ≤ s.ns - h.at_) ∧
    (∃ (s : State) (h : Handover),
      s.handover = some h ∧ ((s.bank h.bank).kind ≠ 1 ∨ (s.bank h.bank).port.all (fun r => r.done.isSome) = true) ∧ (s.bank h.bank).held = [] ∧
        h.retire = []) ∧
    (∃ (s : State) (a : Access) (b : Nat) (page : Nat),
      b < 576 ∧ page < 8 ∧ s.writeGate a pgBallast BANK_RETIRE.BANK.off (BitVec.ofNat 32 (b + page * 2 ^ 16)) = .pass ∧
        (s.bank b).failed = false ∧ bitOf (s.bank b).retired page = false ∧ s.handover.all (fun h => h.bank != b) = true) ∧
    (∃ (s : State) (a : Access) (b : Nat),
      b < 576 ∧ s.writeGate a pgBallast BANK_RETIRE.BANK.off (BitVec.ofNat 32 (b + 2 ^ 12)) = .pass ∧ (s.bank b).failed = false ∧
        s.handover.all (fun h => h.bank != b) = true) ∧
    (∃ (s : State) (a : Access) (b : Nat) (page : Nat) (h : Handover),
      b < 576 ∧ page < 8 ∧ s.writeGate a pgBallast BANK_RETIRE.BANK.off (BitVec.ofNat 32 (b + page * 2 ^ 16)) = .pass ∧
        (s.bank b).failed = false ∧ bitOf (s.bank b).retired page = false ∧ s.handover = some h ∧ h.bank = b ∧ page ∉ h.retire) :=
  ⟨⟨w_BankOwnersAndRetirement_0, host, (BitVec.ofNat 32 (575 * 2 ^ BANK_HANDOVER.BANK.lo + 3 * 2 ^ BANK_HANDOVER.KIND.lo + 7 * 2 ^ BANK_HANDOVER.PART.lo + 3 * 2 ^ BANK_HANDOVER.ENGINE.lo)), 575, 3, 7, 3, by decide +kernel⟩,
   ⟨w_BankOwnersAndRetirement_1, ({ bank := 575, kind := 3, part := 7, engine := 3, at_ := 0 }), by decide +kernel⟩,
   ⟨w_BankOwnersAndRetirement_2, ({ bank := 575, kind := 3, part := 7, engine := 3, at_ := 0 }), by decide +kernel⟩,
   ⟨w_BankOwnersAndRetirement_0, host, 575, 7, by decide +kernel⟩,
   ⟨w_BankOwnersAndRetirement_0, host, 575, by decide +kernel⟩,
   ⟨w_BankOwnersAndRetirement_5, host, 575, 7, ({ bank := 575, kind := 3, part := 7, engine := 3, at_ := 0, retire := [3] }), by decide +kernel⟩⟩

def w_MirrorsTestsAndInitialisation_0 : State := { up with banks := [(561, { ready := true, kind := 0 }), (575, { ready := true })] }.wr pgBallast BANK_MIRROR_SEL.GROUP 35
def w_MirrorsTestsAndInitialisation_1 : State := { (up.wr (pgMirror 35) BANK_MIRROR_CTRL.PARTNER 15).wr (pgMirror 35) BANK_MIRROR_CTRL.PAGES 255 |>.wr (pgMirror 35) BANK_MIRROR_CTRL.ENABLE 1 with mem := [(575 * 0x80000 + 0x7FFFF, 5)] }
def w_MirrorsTestsAndInitialisation_2 : State := { (up.wr (pgMirror 35) BANK_MIRROR_CTRL.PARTNER 15).wr (pgMirror 35) BANK_MIRROR_CTRL.PAGES 255 |>.wr (pgMirror 35) BANK_MIRROR_CTRL.ENABLE 1 with repairs := [(575, 8191)], mem := [(561 * 0x80000 + 0x7FFFF, 5)] }
def w_MirrorsTestsAndInitialisation_3 : State := { up with banks := [(575, { ready := true, nextBlock := 127 })] }
def w_MirrorsTestsAndInitialisation_4 : State := { up with banks := [(575, { ready := true, testing := some 127 })] }
def w_MirrorsTestsAndInitialisation_6 : State := up.setColumn 287 { off := true }
def w_MirrorsTestsAndInitialisation_8 : State := up.wr pgSpar STACK_CENSUS.STATE 2
def w_MirrorsTestsAndInitialisation_9 : State := { up with initRunning := true, mem := [(575 * 0x80000, 5)] }

theorem met_MirrorsTestsAndInitialisation :
    (∃ (s : State) (a : Access) (v : Word) (g : Nat),
      s.writeGate a pgBallast BANK_MIRROR_CTRL.PARTNER.off v = .pass ∧ g = s.rd pgBallast BANK_MIRROR_SEL.GROUP ∧
        getF v BANK_MIRROR_CTRL.PARTNER.lo BANK_MIRROR_CTRL.PARTNER.len ≠ 1 ∧
        (getF v BANK_MIRROR_CTRL.PARTNER.lo BANK_MIRROR_CTRL.PARTNER.len = s.rd (pgMirror g) BANK_MIRROR_CTRL.PARTNER ∨ s.mirrorOn g = false ∨ s.rd (pgMirror g) BANK_MIRROR_CTRL.PAGES = 0) ∧ (getF v BANK_MIRROR_CTRL.ENABLE.lo BANK_MIRROR_CTRL.ENABLE.len = 1 → (s.bank (16 * g + 1)).kind = 0) ∧ (s.bank (16 * g + getF v BANK_MIRROR_CTRL.PARTNER.lo BANK_MIRROR_CTRL.PARTNER.len)).failed = false) ∧
    (∃ (s : State) (g : Nat) (b : Nat) (page : Nat),
      g < 36 ∧ page < 8 ∧ b = 16 * g + s.rd (pgMirror g) BANK_MIRROR_CTRL.PARTNER ∧ s.mirrored b page = true ∧ s.synced b page = false ∧
        (s.bank b).failed = false) ∧
    (∃ (s : State) (b : Nat) (line : Nat),
      b < 576 ∧ line < 8192 ∧ (b, line) ∈ s.repairs) ∧
    (∃ (s : State) (b : Nat) (k : Nat),
      b < 576 ∧ s.testable b = true ∧ (s.bank b).testing = none ∧ (s.bank b).pickBlock = some k ∧
        s.elapsed (s.bank b).testAt (s.rd pgBallast BANK_TEST_PERIOD.MS) = true) ∧
    (∃ (s : State) (b : Nat) (k : Nat) (l : Nat),
      b < 576 ∧ l < 64 ∧ k < 128 ∧ (s.bank b).testing = some k ∧ (s.bank b).held = [] ∧
        (isTwin b = true → (s.bank (16 * (b / 16) + s.rd (pgMirror (b / 16)) BANK_MIRROR_CTRL.PARTNER)).held = [])) ∧
    (∃ (s : State) (b : Nat) (k : Nat),
      b < 576 ∧ (s.bank b).testing = some k ∧ (s.bank b).held = [] ∧
        (isTwin b = true → (s.bank (16 * (b / 16) + s.rd (pgMirror (b / 16)) BANK_MIRROR_CTRL.PARTNER)).held = [])) ∧
    (∃ (s : State) (c : Nat),
      c < 288 ∧ (s.column c).off = true) ∧
    (∃ (s : State) (c : Nat),
      c < 288 ∧ (s.column c).off = false ∧ s.elapsed (s.column c).ctxTestAt (s.rd pgBallast BANK_CTX_TEST_PERIOD.MS) = true) ∧
    (∃ (s : State),
      2 ≤ s.rd pgSpar STACK_CENSUS.STATE) ∧
    (∃ (s : State) (b : Nat),
      b < 576 ∧ s.initRunning = true ∧ (s.bank b).ready = false ∧ (s.bank b).failed = false) :=
  ⟨⟨w_MirrorsTestsAndInitialisation_0, host, (BitVec.ofNat 32 (15 * 2 ^ BANK_MIRROR_CTRL.PARTNER.lo + 255 * 2 ^ BANK_MIRROR_CTRL.PAGES.lo + 2 ^ BANK_MIRROR_CTRL.ENABLE.lo)), 35, by decide +kernel⟩,
   ⟨w_MirrorsTestsAndInitialisation_1, 35, 575, 7, by decide +kernel⟩,
   ⟨w_MirrorsTestsAndInitialisation_2, 575, 8191, by decide +kernel⟩,
   ⟨w_MirrorsTestsAndInitialisation_3, 575, 127, by decide +kernel⟩,
   ⟨w_MirrorsTestsAndInitialisation_4, 575, 127, 63, by decide +kernel⟩,
   ⟨w_MirrorsTestsAndInitialisation_4, 575, 127, by decide +kernel⟩,
   ⟨w_MirrorsTestsAndInitialisation_6, 287, by decide +kernel⟩,
   ⟨up, 287, by decide +kernel⟩,
   ⟨w_MirrorsTestsAndInitialisation_8, by decide +kernel⟩,
   ⟨w_MirrorsTestsAndInitialisation_9, 575, by decide +kernel⟩⟩

def w_ChannelCommands_0 : State := (up.wr (pgChannel 63) CH_RING_SIZE.SIZE 4).wr (pgChannel 63) CH_HEAD.INDEX 3
def w_ChannelCommands_1 : State := ((up.wr (pgChannel 63) CH_RING_SIZE.SIZE 4).wr (pgChannel 63) CH_HEAD.INDEX 3).setChState 63 chIdle |>.wr (pgChannel 63) CH_CTRL.ENABLE 1
def w_ChannelCommands_2 : State := ((up.wr (pgChannel 63) CH_RING_SIZE.SIZE 4).wr (pgChannel 63) CH_HEAD.INDEX 3).setChState 63 chIdle
def w_ChannelCommands_3 : State := ((up.wr (pgChannel 63) CH_RING_SIZE.SIZE 4).wr (pgChannel 63) CH_HEAD.INDEX 3).setChState 63 chHalted
def w_ChannelCommands_4 : State := let s := ((routed up).wr (pgChannel 0) CH_RING_SIZE.SIZE 4 |>.setChState 0 chHalted); { s with chans := [(0, { stage := .data, io := [{ id := 5, phase := 0, write := false, host := true, addr := 4096, bytes := 8, dst := (true, 8192), out := false, answer := some 3 }] })] }
def w_ChannelCommands_5 : State := let s := ((up.wr (pgChannel 63) CH_RING_SIZE.SIZE 4).wr (pgChannel 63) CH_HEAD.INDEX 3 |>.setChState 63 chHalted); { s with chans := [(63, { stage := .data, halted := 2, io := [{ id := 5, phase := 0, write := false, host := true, addr := 4096, bytes := 8, out := false, answer := some 3 }, { id := 6, phase := 0, write := false, host := true, addr := 4104, bytes := 8 }] })] }
def w_ChannelCommands_6 : State := let s := ((up.wr (pgChannel 63) CH_RING_SIZE.SIZE 4).wr (pgChannel 63) CH_HEAD.INDEX 3 |>.setChState 63 chHalted); { s with chans := [(63, { stage := .back0, halted := 3 })] }
def w_ChannelCommands_7 : State := let s := (((up.wr (pgChannel 63) CH_RING_SIZE.SIZE 4).wr (pgChannel 63) CH_HEAD.INDEX 3).setChState 63 chActive); { s with chans := [(63, { stage := .data })] }
def w_ChannelCommands_9 : State := (let s := (((up.wr (pgChannel 63) CH_RING_SIZE.SIZE 4).wr (pgChannel 63) CH_HEAD.INDEX 3).setChState 63 chWait); { s with chans := [(63, { stage := .held })] }).wr (pgChannel 63) CH_CTRL.TRIG_MODE 1

theorem met_ChannelCommands :
    (∃ (s : State) (a : Access) (ch : Nat) (v : Word),
      ch < 64 ∧ s.writeGate a (pgChannel ch) CH_CTRL.ENABLE.off (v ||| 1) = .pass ∧ s.chState ch = chDisabled ∧
        s.ringBase ch % s.descSize ch = 0 ∧ s.rdCh ch CH_HEAD.INDEX < s.rdCh ch CH_RING_SIZE.SIZE) ∧
    (∃ (s : State) (a : Access) (ch : Nat),
      ch < 64 ∧ s.writeGate a (pgChannel ch) CH_CTRL.ENABLE.off (setF (s.reg (pgChannel ch * 4096 + CH_CTRL.ENABLE.off)) 0 1 0) = .pass ∧
        (s.chState ch = chIdle ∨ s.chState ch = chWait)) ∧
    (∃ (s : State) (a : Access) (ch : Nat),
      ch < 64 ∧ s.writeGate a (pgChannel ch) CH_CMD.CMD.off 1 = .pass) ∧
    (∃ (s : State) (a : Access) (ch : Nat),
      ch < 64 ∧ s.writeGate a (pgChannel ch) CH_CMD.CMD.off 2 = .pass ∧ s.chState ch = chHalted ∧
        (∀ e ∈ (s.chan ch).io, e.out = true ∨ e.dead = true ∨ e.answer = some 0)) ∧
    (∃ (s : State) (a : Access) (ch : Nat) (dev : Nat) (tg : Nat) (addr : Nat) (e : SpoolIo),
      ch < 64 ∧ s.writeGate a (pgChannel ch) CH_CMD.CMD.off 2 = .pass ∧ s.chState ch = chHalted ∧
        (s.chan ch).io.filter (fun e => !e.out && !e.dead && e.answer != some 0) = [e] ∧ (s.chan ch).io.find? (fun x => x.id == e.id) = some e ∧
        s.aim (initPlace (7 + ch / 16)).1 (spoolDest e.host e.addr) = some (dev, tg, addr) ∧ isDoorbell e.write e.bytes tg addr = false) ∧
    (∃ (s : State) (a : Access) (ch : Nat),
      ch < 64 ∧ s.writeGate a (pgChannel ch) CH_CMD.CMD.off 3 = .pass ∧ s.chState ch = chHalted ∧ ((s.chan ch).halted = 0 ∨ (s.chan ch).halted = 2)) ∧
    (∃ (s : State) (a : Access) (ch : Nat),
      ch < 64 ∧ s.writeGate a (pgChannel ch) CH_CMD.CMD.off 3 = .pass ∧ s.chState ch = chHalted ∧ (s.chan ch).halted ≠ 0 ∧ (s.chan ch).halted ≠ 2) ∧
    (∃ (s : State) (a : Access) (ch : Nat),
      ch < 64 ∧ s.writeGate a (pgChannel ch) CH_CMD.CMD.off 4 = .pass) ∧
    (∃ (s : State) (a : Access) (ch : Nat),
      ch < 64 ∧ s.writeGate a (pgChannel ch) CH_CMD.CMD.off 5 = .pass ∧ (s.chState ch = chActive ∨ s.chState ch = chIdle ∨ s.chState ch = chWait)) ∧
    (∃ (s : State) (a : Access) (ch : Nat),
      ch < 64 ∧ s.writeGate a (pgChannel ch) CH_CMD.CMD.off 6 = .pass) :=
  ⟨⟨w_ChannelCommands_0, host, 63, (up.reg (pgChannel 63 * 4096 + CH_CTRL.ENABLE.off) ||| 4), by decide +kernel⟩,
   ⟨w_ChannelCommands_1, host, 63, by decide +kernel⟩,
   ⟨w_ChannelCommands_2, host, 63, by decide +kernel⟩,
   ⟨w_ChannelCommands_3, host, 63, by decide +kernel⟩,
   ⟨w_ChannelCommands_4, host, 0, (let s := (let s := ((routed up).wr (pgChannel 0) CH_RING_SIZE.SIZE 4 |>.setChState 0 chHalted); { s with chans := [(0, { stage := .data, io := [{ id := 5, phase := 0, write := false, host := true, addr := 4096, bytes := 8, dst := (true, 8192), out := false, answer := some 3 }] })] }); ((s.aim (initPlace 7).1 (spoolDest true (4096))).getD (0, 0, 0)).1), (let s := (let s := ((routed up).wr (pgChannel 0) CH_RING_SIZE.SIZE 4 |>.setChState 0 chHalted); { s with chans := [(0, { stage := .data, io := [{ id := 5, phase := 0, write := false, host := true, addr := 4096, bytes := 8, dst := (true, 8192), out := false, answer := some 3 }] })] }); ((s.aim (initPlace 7).1 (spoolDest true (4096))).getD (0, 0, 0)).2.1), (let s := (let s := ((routed up).wr (pgChannel 0) CH_RING_SIZE.SIZE 4 |>.setChState 0 chHalted); { s with chans := [(0, { stage := .data, io := [{ id := 5, phase := 0, write := false, host := true, addr := 4096, bytes := 8, dst := (true, 8192), out := false, answer := some 3 }] })] }); ((s.aim (initPlace 7).1 (spoolDest true (4096))).getD (0, 0, 0)).2.2), ({ id := 5, phase := 0, write := false, host := true, addr := 4096, bytes := 8, dst := (true, 8192), out := false, answer := some 3 }), by decide +kernel⟩,
   ⟨w_ChannelCommands_5, host, 63, by decide +kernel⟩,
   ⟨w_ChannelCommands_6, host, 63, by decide +kernel⟩,
   ⟨w_ChannelCommands_7, host, 63, by decide +kernel⟩,
   ⟨w_ChannelCommands_7, host, 63, by decide +kernel⟩,
   ⟨w_ChannelCommands_9, host, 63, by decide +kernel⟩⟩

def w_ChannelTransfers_0 : State := let s := (((routed up).wr (pgChannel 0) CH_RING_SIZE.SIZE 4).wr (pgChannel 0) CH_HEAD.INDEX 3 |>.wr (pgChannel 0) CH_CTRL.RING_HOST 1 |>.setChState 0 chActive); { s with chans := [(0, { stage := .fetch })], rig := { s.rig with ios := 9 } }
def w_ChannelTransfers_1 : State := let s := (let s := (((routed up).wr (pgChannel 0) CH_RING_SIZE.SIZE 4).wr (pgChannel 0) CH_HEAD.INDEX 3 |>.wr (pgChannel 0) CH_CTRL.RING_HOST 0 |>.setChState 0 chActive); { s with chans := [(0, { stage := .fetch })], rig := { s.rig with ios := 9 } }); s.wr (pgChannel 0) CH_RING_BASE_HI.BASE 0x8000
def w_ChannelTransfers_2 : State := let s := (((routed up).wr (pgChannel 0) CH_RING_SIZE.SIZE 4).wr (pgChannel 0) CH_HEAD.INDEX 3 |>.wr (pgChannel 0) CH_CTRL.RING_HOST 1 |>.setChState 0 chActive); { s with chans := [(0, { stage := .fetch, io := [{ id := 5, phase := 1, write := false, host := true, addr := 4096, bytes := 64, out := false, answer := some 0, data := [0,0,0,0x80] ++ List.replicate 60 0 }] })], rig := { s.rig with ios := 9 } }
def w_ChannelTransfers_2b : State := let s := (let s := (((routed up).wr (pgChannel 0) CH_RING_SIZE.SIZE 4).wr (pgChannel 0) CH_HEAD.INDEX 3 |>.wr (pgChannel 0) CH_CTRL.RING_HOST 1 |>.setChState 0 chActive); { s with chans := [(0, { stage := .fetch, io := [{ id := 5, phase := 1, write := false, host := true, addr := 4096, bytes := 64, out := false, answer := some 0, data := [0,0,0,0x80] ++ List.replicate 60 0 }] })], rig := { s.rig with ios := 9 } }); s.dropIo 0 [{ id := 5, phase := 1, write := false, host := true, addr := 4096, bytes := 64, out := false, answer := some 0, data := [0,0,0,0x80] ++ List.replicate 60 0 }]
def w_ChannelTransfers_3 : State := let s := (((routed up).wr (pgChannel 0) CH_RING_SIZE.SIZE 4).wr (pgChannel 0) CH_HEAD.INDEX 3 |>.wr (pgChannel 0) CH_CTRL.RING_HOST 1 |>.setChState 0 chActive); { s with chans := [(0, { stage := .data, desc := (List.range 16).map (fun i => if i = 0 then 0xA8000000 else if i = 6 then 5 else 0), srcNext := 4 })], rig := { s.rig with ios := 9 } }
def w_ChannelTransfers_4 : State := let s := (((routed up).wr (pgChannel 0) CH_RING_SIZE.SIZE 4).wr (pgChannel 0) CH_HEAD.INDEX 3 |>.wr (pgChannel 0) CH_CTRL.RING_HOST 1 |>.setChState 0 chActive); { s with chans := [(0, { stage := .data, desc := (List.range 16).map (fun i => if i = 0 then 0xA8000000 else if i = 6 then 5 else 0), srcNext := 4, io := [{ id := 5, phase := 2, write := false, host := true, addr := 64, bytes := 16, dst := (false, 0), out := false, answer := some 0, data := [0,0,0,0,1,0,0,0,8,0,0,0,0,0,0,0] }] })], rig := { s.rig with ios := 9 } }
def w_ChannelTransfers_5 : State := let s := ((((routed up).wr (pgChannel 0) CH_RING_SIZE.SIZE 4).wr (pgChannel 0) CH_HEAD.INDEX 3 |>.wr (pgChannel 0) CH_CTRL.RING_HOST 1 |>.setChState 0 chActive).wr (pgChannel 0) CH_CTRL.TRIG_MODE 1); { s with chans := [(0, { stage := .held, desc := (List.range 16).map (fun i => if i = 0 then 0xA8000000 else if i = 6 then 5 else 0), srcNext := 4, io := [{ id := 5, phase := 2, write := false, host := true, addr := 64, bytes := 16, dst := (false, 0), out := false, answer := some 0, data := [0,0,0,0,1,0,0,0,8,0,0,0,0,0,0,0] }] })], rig := { s.rig with ios := 9 } }
def w_ChannelTransfers_6 : State := let s := (((routed up).wr (pgChannel 0) CH_RING_SIZE.SIZE 4).wr (pgChannel 0) CH_HEAD.INDEX 3 |>.wr (pgChannel 0) CH_CTRL.RING_HOST 1 |>.setChState 0 chActive); { s with chans := [(0, { stage := .data, desc := [0x80000000], left := 16, burst := 3, src := [{ addr := 4096, len := 8, host := true }], dst := [{ addr := 8192, len := 8, host := true }] })], rig := { s.rig with ios := 9 } }
def w_ChannelTransfers_7 : State := let s := (((routed up).wr (pgChannel 0) CH_RING_SIZE.SIZE 4).wr (pgChannel 0) CH_HEAD.INDEX 3 |>.wr (pgChannel 0) CH_CTRL.RING_HOST 1 |>.setChState 0 chActive); { s with chans := [(0, { stage := .data, desc := [0x80000000], burst := 4, io := [{ id := 5, phase := 0, write := false, host := true, addr := 4096, bytes := 8, dst := (true, 8192), burst := 3, out := false, answer := some 0, data := [1, 2, 3, 4, 5, 6, 7, 8] }] })], rig := { s.rig with ios := 9 } }
def w_ChannelTransfers_9 : State := let s := (let s := (((routed up).wr (pgChannel 0) CH_RING_SIZE.SIZE 4).wr (pgChannel 0) CH_HEAD.INDEX 3 |>.wr (pgChannel 0) CH_CTRL.RING_HOST 1 |>.setChState 0 chActive); { s with chans := [(0, { stage := .data, io := [{ id := 5, phase := 0, write := true, host := true, addr := 8192, bytes := 8, burst := 3 }] })], rig := { s.rig with ios := 9 } }); { s with rig := { s.rig with packets := [{ packet with srcInit := 7, opc := opWrResp, la := 6, dstNode := (initPlace 7).1, node := (initPlace 7).1, dstPort := (initPlace 7).2, got := 1, status := 3 }], inits := [(7, { tags := [(63, { at_ := 0, dev := 0, target := 7, cls := 1, write := true, epoch := 0, bytes := 8, note := some (.spool 0 5) })], gens := [(63, 3)] })] } }
def w_ChannelTransfers_10 : State := let s := (((routed up).wr (pgChannel 0) CH_RING_SIZE.SIZE 4).wr (pgChannel 0) CH_HEAD.INDEX 3 |>.wr (pgChannel 0) CH_CTRL.RING_HOST 1 |>.setChState 0 chActive); { s with chans := [(0, { stage := .back1, desc := [0x80000000], done := 7 })], rig := { s.rig with ios := 9 } }
def w_ChannelTransfers_11 : State := let s := (((routed up).wr (pgChannel 0) CH_RING_SIZE.SIZE 4).wr (pgChannel 0) CH_HEAD.INDEX 3 |>.wr (pgChannel 0) CH_CTRL.RING_HOST 1 |>.setChState 0 chActive); { s with chans := [(0, { stage := .back1, desc := [0x80000000], done := 7, io := [{ id := 5, phase := 3, write := true, host := true, addr := 0, bytes := 8, out := false, answer := some 0 }] })], rig := { s.rig with ios := 9 } }
def w_ChannelTransfers_12 : State := let s := (((routed up).wr (pgChannel 0) CH_RING_SIZE.SIZE 4).wr (pgChannel 0) CH_HEAD.INDEX 3 |>.wr (pgChannel 0) CH_CTRL.RING_HOST 1 |>.setChState 0 chActive); { s with chans := [(0, { stage := .back0, desc := [0x80000000], done := 7, io := [{ id := 5, phase := 3, write := true, host := true, addr := 0, bytes := 8, out := false, answer := some 0 }] })], rig := { s.rig with ios := 9 } }

theorem met_ChannelTransfers :
    (∃ (s : State) (ch : Nat) (dev : Nat) (tg : Nat) (addr : Nat),
      ch < 64 ∧ (s.chan ch).stage = .fetch ∧ s.chState ch = chActive ∧ (∀ e ∈ (s.chan ch).io, e.phase ≠ 1) ∧
        s.aim (initPlace (7 + ch / 16)).1 (spoolDest (s.on (pgChannel ch) CH_CTRL.RING_HOST) (s.ringBase ch + s.descSize ch * s.rdCh ch CH_HEAD.INDEX)) = some (dev, tg, addr)) ∧
    (∃ (s : State) (ch : Nat),
      ch < 64 ∧ (s.chan ch).stage = .fetch ∧ s.chState ch = chActive ∧ (∀ e ∈ (s.chan ch).io, e.phase ≠ 1 ∧ e.id ≠ s.rig.ios) ∧
        s.aim (initPlace (7 + ch / 16)).1 (spoolDest (s.on (pgChannel ch) CH_CTRL.RING_HOST) (s.ringBase ch + s.descSize ch * s.rdCh ch CH_HEAD.INDEX)) = none) ∧
    (∃ (s : State) (s0 : State) (ch : Nat) (e : SpoolIo) (es : List SpoolIo) (d : List Word),
      ch < 64 ∧ (s.chan ch).stage = .fetch ∧ s.chState ch = chActive ∧ (s.chan ch).answered (fun e => e.phase == 1) = e :: es ∧
        s0 = s.dropIo ch (e :: es) ∧ d = wordsLE (e.bytes / 4) e.data) ∧
    (∃ (s : State) (ch : Nat) (base : Nat) (n : Nat) (next : Nat) (dst : Bool),
      ch < 64 ∧ s.listOpen ch dst = true ∧ (∀ e ∈ (s.chan ch).io, e.id < s.rig.ios) ∧
        next = (if dst then (s.chan ch).dstNext else (s.chan ch).srcNext) ∧ n = min 4 (s.listCount ch dst - next) ∧
        base = (if dst then (s.chan ch).word 4 + (s.chan ch).word 5 * 2 ^ 32 else (s.chan ch).word 2 + (s.chan ch).word 3 * 2 ^ 32) + 16 * next) ∧
    (∃ (s : State) (ch : Nat) (dst : Bool) (es : List SpoolIo) (bs : List Byte),
      ch < 64 ∧ s.chState ch = chActive ∧ (s.chan ch).answered (fun e => e.phase == 2 && e.dst.1 == dst) = es ∧ es ≠ [] ∧
        bs = es.flatMap (·.data) ∧ ((s.chan ch).stage ≠ .held ∨ s.triggered ch = false)) ∧
    (∃ (s : State) (ch : Nat) (dst : Bool) (es : List SpoolIo) (bs : List Byte),
      ch < 64 ∧ s.chState ch = chActive ∧ (s.chan ch).answered (fun e => e.phase == 2 && e.dst.1 == dst) = es ∧ es ≠ [] ∧
        bs = es.flatMap (·.data) ∧ (s.chan ch).stage = .held ∧ s.triggered ch = true ∧ (s.chan ch).reread = none ∧ (s.chan ch).trigs = [] ∧
        s.on (pgChannel ch) CH_STATUS.STOP_PENDING = false) ∧
    (∃ (s : State) (ch : Nat) (i : Nat),
      ch < 64 ∧ s.burstOpen ch i = true ∧ (∀ e ∈ (s.chan ch).io, e.id < s.rig.ios)) ∧
    (∃ (s : State) (ch : Nat),
      ch < 64 ∧ s.chState ch = chActive) ∧
    (∃ (s : State) (ch : Nat) (i : Nat) (e : SpoolIo),
      ch < 64 ∧ s.chState ch = chActive ∧ (s.chan ch).arrived i = [e] ∧ (∀ x ∈ (s.chan ch).io, x.id < s.rig.ios) ∧
        (∀ p ∈ cutAll e.dst.2 e.bytes, (s.aim (initPlace (7 + ch / 16)).1 (spoolDest e.dst.1 (e.dst.2 + p.1))).all (fun x => !isDoorbell true p.2 x.2.1 x.2.2) = true)) ∧
    (∃ (s : State) (i : Nat) (ch : Nat) (id : Nat) (code : Nat) (q : Packet) (g : RigTag) (e : SpoolIo) (bad : Bool),
      s.rig.packets[i]? = some q ∧ s.atHome q = true ∧ q.got = q.flits ∧ lget (s.rigInit q.srcInit).tags q.tag = some g ∧ g.quarantined = false ∧
        g.abandoned = false ∧ g.note = some (.spool ch id) ∧ nget (s.rigInit q.srcInit).gens q.tag = q.gen ∧ (s.rigInit q.srcInit).queue = [] ∧
        ch < 64 ∧ (s.chan ch).io.find? (fun e => e.id == id) = some e ∧ e.dead = false ∧ e.phase < 4 ∧ q.status < 16 ∧
        code = (if (bad || q.spoiled) && q.payloadFlits != 0 then 1 else q.status)) ∧
    (∃ (s : State) (ch : Nat) (zero : Bool),
      ch < 64 ∧ s.backAt ch zero = true ∧ (s.chan ch).io = []) ∧
    (∃ (s : State) (ch : Nat),
      ch < 64 ∧ s.backAt ch false = true ∧ (s.chan ch).answered (fun e => e.phase == 3) ≠ []) ∧
    (∃ (s : State) (ch : Nat),
      ch < 64 ∧ s.backAt ch true = true ∧ (s.chan ch).answered (fun e => e.phase == 3) ≠ []) :=
  ⟨⟨w_ChannelTransfers_0, 0, (let s := (let s := (((routed up).wr (pgChannel 0) CH_RING_SIZE.SIZE 4).wr (pgChannel 0) CH_HEAD.INDEX 3 |>.wr (pgChannel 0) CH_CTRL.RING_HOST 1 |>.setChState 0 chActive); { s with chans := [(0, { stage := .fetch })], rig := { s.rig with ios := 9 } }); ((s.aim (initPlace 7).1 (spoolDest (s.on (pgChannel 0) CH_CTRL.RING_HOST) (s.ringBase 0 + s.descSize 0 * s.rdCh 0 CH_HEAD.INDEX))).getD (0, 0, 0)).1), (let s := (let s := (((routed up).wr (pgChannel 0) CH_RING_SIZE.SIZE 4).wr (pgChannel 0) CH_HEAD.INDEX 3 |>.wr (pgChannel 0) CH_CTRL.RING_HOST 1 |>.setChState 0 chActive); { s with chans := [(0, { stage := .fetch })], rig := { s.rig with ios := 9 } }); ((s.aim (initPlace 7).1 (spoolDest (s.on (pgChannel 0) CH_CTRL.RING_HOST) (s.ringBase 0 + s.descSize 0 * s.rdCh 0 CH_HEAD.INDEX))).getD (0, 0, 0)).2.1), (let s := (let s := (((routed up).wr (pgChannel 0) CH_RING_SIZE.SIZE 4).wr (pgChannel 0) CH_HEAD.INDEX 3 |>.wr (pgChannel 0) CH_CTRL.RING_HOST 1 |>.setChState 0 chActive); { s with chans := [(0, { stage := .fetch })], rig := { s.rig with ios := 9 } }); ((s.aim (initPlace 7).1 (spoolDest (s.on (pgChannel 0) CH_CTRL.RING_HOST) (s.ringBase 0 + s.descSize 0 * s.rdCh 0 CH_HEAD.INDEX))).getD (0, 0, 0)).2.2), by decide +kernel⟩,
   ⟨w_ChannelTransfers_1, 0, by decide +kernel⟩,
   ⟨w_ChannelTransfers_2, w_ChannelTransfers_2b, 0, ({ id := 5, phase := 1, write := false, host := true, addr := 4096, bytes := 64, out := false, answer := some 0, data := [0,0,0,0x80] ++ List.replicate 60 0 }), [], (wordsLE 16 ([0,0,0,0x80] ++ List.replicate 60 0)), by decide +kernel⟩,
   ⟨w_ChannelTransfers_3, 0, (let s := (let s := (((routed up).wr (pgChannel 0) CH_RING_SIZE.SIZE 4).wr (pgChannel 0) CH_HEAD.INDEX 3 |>.wr (pgChannel 0) CH_CTRL.RING_HOST 1 |>.setChState 0 chActive); { s with chans := [(0, { stage := .data, desc := (List.range 16).map (fun i => if i = 0 then 0xA8000000 else if i = 6 then 5 else 0), srcNext := 4 })], rig := { s.rig with ios := 9 } }); (s.chan 0).word 2 + (s.chan 0).word 3 * 2 ^ 32 + 64), (let s := (let s := (((routed up).wr (pgChannel 0) CH_RING_SIZE.SIZE 4).wr (pgChannel 0) CH_HEAD.INDEX 3 |>.wr (pgChannel 0) CH_CTRL.RING_HOST 1 |>.setChState 0 chActive); { s with chans := [(0, { stage := .data, desc := (List.range 16).map (fun i => if i = 0 then 0xA8000000 else if i = 6 then 5 else 0), srcNext := 4 })], rig := { s.rig with ios := 9 } }); min 4 (s.listCount 0 false - 4)), 4, false, by decide +kernel⟩,
   ⟨w_ChannelTransfers_4, 0, false, ([{ id := 5, phase := 2, write := false, host := true, addr := 64, bytes := 16, dst := (false, 0), out := false, answer := some 0, data := [0,0,0,0,1,0,0,0,8,0,0,0,0,0,0,0] }]), [0,0,0,0,1,0,0,0,8,0,0,0,0,0,0,0], by decide +kernel⟩,
   ⟨w_ChannelTransfers_5, 0, false, ([{ id := 5, phase := 2, write := false, host := true, addr := 64, bytes := 16, dst := (false, 0), out := false, answer := some 0, data := [0,0,0,0,1,0,0,0,8,0,0,0,0,0,0,0] }]), [0,0,0,0,1,0,0,0,8,0,0,0,0,0,0,0], by decide +kernel⟩,
   ⟨w_ChannelTransfers_6, 0, 3, by decide +kernel⟩,
   ⟨w_ChannelTransfers_7, 0, by decide +kernel⟩,
   ⟨w_ChannelTransfers_7, 0, 3, ({ id := 5, phase := 0, write := false, host := true, addr := 4096, bytes := 8, dst := (true, 8192), burst := 3, out := false, answer := some 0, data := [1, 2, 3, 4, 5, 6, 7, 8] }), by decide +kernel⟩,
   ⟨w_ChannelTransfers_9, 0, 0, 5, 3, ({ packet with srcInit := 7, opc := opWrResp, la := 6, dstNode := (initPlace 7).1, node := (initPlace 7).1, dstPort := (initPlace 7).2, got := 1, status := 3 }), ({ at_ := 0, dev := 0, target := 7, cls := 1, write := true, epoch := 0, bytes := 8, note := some (.spool 0 5) }), ({ id := 5, phase := 0, write := true, host := true, addr := 8192, bytes := 8, burst := 3 }), false, by decide +kernel⟩,
   ⟨w_ChannelTransfers_10, 0, false, by decide +kernel⟩,
   ⟨w_ChannelTransfers_11, 0, by decide +kernel⟩,
   ⟨w_ChannelTransfers_12, 0, by decide +kernel⟩⟩

def w_InterruptDelivery_0 : State := (up.wr (pgSrc 4095) SRC_CFG.ENABLE 1).wr (pgSrc 4095) SRC_CFG.PRIO 3
def w_InterruptDelivery_2 : State := ((((((((up.wr (pgSrc 4095) SRC_CFG.ENABLE 1).wr (pgSrc 4095) SRC_CFG.PRIO 3).wrTgt 31 TGT_CTRL.ENABLE 1).wrTgt 31 TGT_ADDR_LO.ADDR 64)).wr (pgSrc 4095) SRC_STATE.STATE srcPending).wr (pgSrc 4095) SRC_STATE.TARGET 0).wr (pgSrc 4095) SRC_TMASK.MASK 0x80000000).wr (pgIntc 0) INTC_GLOBAL.DELIVER 1
def w_InterruptDelivery_3 : State := (((((((up.wr (pgSrc 4095) SRC_CFG.ENABLE 1).wr (pgSrc 4095) SRC_CFG.PRIO 3).wrTgt 31 TGT_CTRL.ENABLE 1).wrTgt 31 TGT_ADDR_LO.ADDR 64)).wr (pgSrc 4095) SRC_STATE.STATE srcDelivered).wr (pgSrc 4095) SRC_STATE.TARGET 31).wr (pgSrc 4095) SRC_STATE.COUNT 255
def w_InterruptDelivery_4 : State := ((((((up.wr (pgSrc 4095) SRC_CFG.ENABLE 1).wr (pgSrc 4095) SRC_CFG.PRIO 3).wrTgt 31 TGT_CTRL.ENABLE 1).wrTgt 31 TGT_ADDR_LO.ADDR 64)).wr (pgSrc 4095) SRC_STATE.STATE srcActive).wr (pgSrc 4095) SRC_STATE.TARGET 31
def w_InterruptDelivery_5 : State := (((((serving (((((up.wr (pgSrc 4095) SRC_CFG.ENABLE 1).wr (pgSrc 4095) SRC_CFG.PRIO 3).wrTgt 31 TGT_CTRL.ENABLE 1).wrTgt 31 TGT_ADDR_LO.ADDR 64)) 575).wrTgt 31 TGT_CTRL.KIND 1).wrTgt 31 TGT_CTRL.PANEL 575).wr (pgSrc 4095) SRC_STATE.STATE srcDelivered).wr (pgSrc 4095) SRC_STATE.TARGET 31).wr (pgSrc 4095) SRC_STATE.COUNT 255
def w_InterruptDelivery_6 : State := (((((serving (((((up.wr (pgSrc 4095) SRC_CFG.ENABLE 1).wr (pgSrc 4095) SRC_CFG.PRIO 3).wrTgt 31 TGT_CTRL.ENABLE 1).wrTgt 31 TGT_ADDR_LO.ADDR 64)) 575).wrTgt 31 TGT_CTRL.KIND 1).wrTgt 31 TGT_CTRL.PANEL 575).wr (pgSrc 4095) SRC_STATE.STATE srcActive).wr (pgSrc 4095) SRC_STATE.TARGET 31).wr (pgSrc 4095) SRC_STATE.COUNT 255

theorem met_InterruptDelivery :
    (∃ (s : State) (w : Who) (secure : Bool) (v : Word),
      s.intcBusy = false ∧ (secure = true → s.visible w (pgIntc 0) = true) ∧ s.doorbellCheck secure (s.whoSecure w) v.toNat = .event ∧
        s.srcState v.toNat = srcIdle ∧ s.rd (pgSrc v.toNat) SRC_STATE.COUNT < s.srcMax) ∧
    (∃ (s : State) (w : Who) (secure : Bool),
      s.intcBusy = false ∧ (secure = true → s.visible w (pgIntc 0) = true)) ∧
    (∃ (s : State) (v : Nat) (t0 : Nat),
      (s.on (pgIntc 0) INTC_GLOBAL.DELIVER = true ∧ s.intcBusy = false) ∧
        bestSource s.srcPrio (fun v => s.srcState v == srcPending && s.on (pgSrc v) SRC_CFG.ENABLE && (s.chooseTarget v).isSome) = some v ∧
        s.chooseTarget v = some t0) ∧
    (∃ (s : State) (a : Access) (k : Nat) (v : Nat),
      k < 32 ∧ s.shows a.who (pgTgt k) (tgtFld TGT_CLAIM.VALUE k).off ∧ ((s.onTgt k TGT_CTRL.SECURE = true → s.whoSecure a.who = true) ∧
        partSeen a.who (s.rdTgt k TGT_CTRL.PART) = true) ∧ s.nextClaim k = some v) ∧
    (∃ (s : State) (a : Access) (k : Nat) (v : Word),
      k < 32 ∧ s.writeGate a (pgTgt k) (tgtFld TGT_COMPLETE.SOURCE k).off v = .pass ∧
        (s.onTgt k TGT_CTRL.SECURE = true → s.whoSecure a.who = true) ∧ partSeen a.who (s.rdTgt k TGT_CTRL.PART) = true ∧
        getF v TGT_COMPLETE.SOURCE.lo TGT_COMPLETE.SOURCE.len ≠ 0 ∧
        s.srcState (getF v TGT_COMPLETE.SOURCE.lo TGT_COMPLETE.SOURCE.len) = srcActive ∧
        s.srcTarget (getF v TGT_COMPLETE.SOURCE.lo TGT_COMPLETE.SOURCE.len) = k) ∧
    (∃ (s : State) (p : Nat) (cpr : Nat) (k : Nat) (v : Nat),
      (p < 576 ∧ cpr < 16 ∧ s.clkRun p = true ∧ s.portTarget p = some k) ∧ s.nextClaim k = some v) ∧
    (∃ (s : State) (p : Nat) (src : Nat) (cpr : Nat) (k : Nat),
      p < 576 ∧ cpr < 16 ∧ src < 4096 ∧ src ≠ 0 ∧ s.clkRun p = true ∧ s.portTarget p = some k ∧ s.srcState src = srcActive ∧ s.srcTarget src = k) ∧
    (∃ (s : State) (a : Access) (k : Nat) (v : Word),
      k < 32 ∧ s.writeGate a (pgTgt k) (tgtFld TGT_CTRL.ENABLE k).off v = .pass ∧ s.whoSecure a.who = true ∧
        partSeen a.who (s.rdTgt k TGT_CTRL.PART) = true ∧ s.onTgt k TGT_CTRL.ENABLE = true ∧
        (s.storeReg (pgTgt k) (tgtFld TGT_CTRL.ENABLE k).off v).onTgt k TGT_CTRL.ENABLE = false) :=
  ⟨⟨w_InterruptDelivery_0, (.pf 0), true, 4095, by decide +kernel⟩,
   ⟨up, (.pf 0), true, by decide +kernel⟩,
   ⟨w_InterruptDelivery_2, 4095, 31, by decide +kernel, source_last w_InterruptDelivery_2 _ _ srcPending (by decide +kernel) (by decide) (fun v h => by simp only [Bool.and_eq_true, beq_iff_eq] at h; grind) (by decide +kernel), by decide +kernel⟩,
   ⟨w_InterruptDelivery_3, host, 31, 4095, by decide +kernel, by decide +kernel, by decide +kernel, source_last w_InterruptDelivery_3 _ _ srcDelivered (by decide +kernel) (by decide) (fun v h => by simp only [Bool.and_eq_true, beq_iff_eq] at h; grind) (by decide +kernel)⟩,
   ⟨w_InterruptDelivery_4, host, 31, 4095, by decide +kernel⟩,
   ⟨w_InterruptDelivery_5, 575, 15, 31, 4095, by decide +kernel, source_last w_InterruptDelivery_5 _ _ srcDelivered (by decide +kernel) (by decide) (fun v h => by simp only [Bool.and_eq_true, beq_iff_eq] at h; grind) (by decide +kernel)⟩,
   ⟨w_InterruptDelivery_6, 575, 4095, 15, 31, by decide +kernel⟩,
   ⟨w_InterruptDelivery_4, host, 31, 0, by decide +kernel⟩⟩

def w_TetherPortsAndFlits_1 : State := (((linked up tpActive).setPort 7 { lanesOn := 15, offered := 15, buf := [{ seq := 4095, slots := [0] }, { seq := 0, slots := [0] }] }).wr (pgTether 7) TETHER_TX_SEQ.NEXT 1)
def w_TetherPortsAndFlits_4 : State := ((linked up tpActive).setPort 7 { lanesOn := 15, offered := 15, buf := [{ seq := 4095, slots := [0] }, { seq := 0, slots := [0] }] }).wr (pgTether 7) TETHER_TX_SEQ.NEXT 1
def w_TetherPortsAndFlits_7 : State := (linked up tpActive).setPort 7 { lanesOn := 15, offered := 15, replayAt := some 0 }

theorem met_TetherPortsAndFlits :
    (∃ (s : State) (a : Access) (p : Nat) (v : Word),
      p < 8 ∧ s.writeGate a (pgTether p) TETHER_CTRL.ENABLE.off (v ||| 1) = .pass ∧ s.portOn p = false ∧ getF (v ||| 1) 16 1 = 0 ∧
        (s.storeReg (pgTether p) TETHER_CTRL.ENABLE.off (v ||| 1)).portEnableBad p = false) ∧
    (∃ (s : State) (a : Access) (p : Nat),
      p < 8 ∧ s.portOn p = true ∧
        s.writeGate a (pgTether p) TETHER_CTRL.ENABLE.off ((s.reg (pgTether p * 4096 + TETHER_CTRL.ENABLE.off) &&& 0x000633F7) ||| 0x00010000) = .pass) ∧
    (∃ (s : State) (p : Nat) (n : Nat) (d : Nat) (h : Nat) (first : Nat) (bytes : List Byte) (b : List Byte),
      p < 8 ∧ bytes.length = 256 ∧ openFlit bytes = (some b, n) ∧ s.portState p = tpActive ∧ h = natLE (b.take 4) ∧ hdrField h 24 4 = 1 ∧
        first = ((s.port p).buf.head?.map (·.seq)).getD (s.rdPort p TETHER_TX_SEQ.NEXT) ∧ first < 4096 ∧
        (hdrField h 12 12 + 1) % 4096 = (first + d) % 4096 ∧ d ≤ (s.port p).buf.length ∧ d < 4096 ∧
        (hdrField h 28 2 = 0 ∨ nget (s.port p).credits (hdrField h 30 2) + 4 * hdrField h 28 2 ≤ classSlots (hdrField h 30 2)) ∧
        hdrField h 0 12 = s.rdPort p TETHER_RX_SEQ.EXPECT) ∧
    (∃ (s : State) (p : Nat) (n : Nat) (bytes : List Byte),
      p < 8 ∧ bytes.length = 256 ∧ openFlit bytes = (none, n) ∧ s.portState p = tpActive ∧ (s.port p).replayAt = none) ∧
    (∃ (s : State) (p : Nat) (n : Nat) (d : Nat) (h : Nat) (first : Nat) (bytes : List Byte) (b : List Byte),
      p < 8 ∧ bytes.length = 256 ∧ openFlit bytes = (some b, n) ∧ s.portState p = tpActive ∧ h = natLE (b.take 4) ∧ hdrField h 24 4 = 0 ∧
        first = ((s.port p).buf.head?.map (·.seq)).getD (s.rdPort p TETHER_TX_SEQ.NEXT) ∧ first < 4096 ∧
        (hdrField h 12 12 + 1) % 4096 = (first + d) % 4096 ∧ d ≤ (s.port p).buf.length ∧ d < 4096 ∧
        (hdrField h 28 2 = 0 ∨ nget (s.port p).credits (hdrField h 30 2) + 4 * hdrField h 28 2 ≤ classSlots (hdrField h 30 2))) ∧
    (∃ (s : State) (p : Nat) (n : Nat) (d : Nat) (h : Nat) (first : Nat) (bytes : List Byte) (b : List Byte),
      p < 8 ∧ bytes.length = 256 ∧ openFlit bytes = (some b, n) ∧ s.portState p = tpActive ∧ h = natLE (b.take 4) ∧ hdrField h 24 4 = 2 ∧
        first = ((s.port p).buf.head?.map (·.seq)).getD (s.rdPort p TETHER_TX_SEQ.NEXT) ∧ first < 4096 ∧
        (hdrField h 12 12 + 1) % 4096 = (first + d) % 4096 ∧ d ≤ (s.port p).buf.length ∧ d < 4096 ∧
        (hdrField h 28 2 = 0 ∨ nget (s.port p).credits (hdrField h 30 2) + 4 * hdrField h 28 2 ≤ classSlots (hdrField h 30 2))) ∧
    (∃ (s : State) (p : Nat),
      p < 8 ∧ s.portState p = tpActive ∧ (s.port p).replayAt = none ∧ (s.port p).buf ≠ [] ∧
        (s.port p).ackAt + 1000 * s.rdPort p TETHER_TIMERS.ACK_TIMEOUT_US ≤ s.ns) ∧
    (∃ (s : State) (p : Nat) (u : Nat),
      p < 8 ∧ s.portState p = tpActive ∧ (s.port p).replayAt = some u ∧ (s.port p).buf = [] ∧
        u + 1000 * s.rdPort p TETHER_TIMERS.ACK_TIMEOUT_US ≤ s.ns) :=
  ⟨⟨up, host, 7, (BitVec.ofNat 32 (2 * 2 + 28 * 16)), by decide +kernel⟩,
   ⟨w_TetherPortsAndFlits_1, host, 7, by decide +kernel⟩,
   ⟨(linked up tpActive), 7, ((openFlit (flitOf (0 + 4095 * 2 ^ 12 + 1 * 2 ^ 24 + 0 * 2 ^ 28))).2), 0, ((0 + 4095 * 2 ^ 12 + 1 * 2 ^ 24 + 0 * 2 ^ 28)), 0, (flitOf (0 + 4095 * 2 ^ 12 + 1 * 2 ^ 24 + 0 * 2 ^ 28)), (((openFlit (flitOf (0 + 4095 * 2 ^ 12 + 1 * 2 ^ 24 + 0 * 2 ^ 28))).1).getD []), by decide +kernel⟩,
   ⟨(linked up tpActive), 7, ((openFlit (List.replicate 256 1)).2), (List.replicate 256 1), by decide +kernel⟩,
   ⟨w_TetherPortsAndFlits_4, 7, ((openFlit (flitOf (0 + 0 * 2 ^ 12 + 0 * 2 ^ 24 + 0 * 2 ^ 28))).2), 2, ((0 + 0 * 2 ^ 12 + 0 * 2 ^ 24 + 0 * 2 ^ 28)), 4095, (flitOf (0 + 0 * 2 ^ 12 + 0 * 2 ^ 24 + 0 * 2 ^ 28)), (((openFlit (flitOf (0 + 0 * 2 ^ 12 + 0 * 2 ^ 24 + 0 * 2 ^ 28))).1).getD []), by decide +kernel⟩,
   ⟨w_TetherPortsAndFlits_4, 7, ((openFlit (flitOf (0 + 4094 * 2 ^ 12 + 2 * 2 ^ 24 + 0 * 2 ^ 28))).2), 0, ((0 + 4094 * 2 ^ 12 + 2 * 2 ^ 24 + 0 * 2 ^ 28)), 4095, (flitOf (0 + 4094 * 2 ^ 12 + 2 * 2 ^ 24 + 0 * 2 ^ 28)), (((openFlit (flitOf (0 + 4094 * 2 ^ 12 + 2 * 2 ^ 24 + 0 * 2 ^ 28))).1).getD []), by decide +kernel⟩,
   ⟨w_TetherPortsAndFlits_4, 7, by decide +kernel⟩,
   ⟨w_TetherPortsAndFlits_7, 7, 0, by decide +kernel⟩⟩

def w_TetherPartnersAndSync_0 : State := (List.range 4).foldl (fun s i => s.wr (pgLane (28 + i)) LANE_STATUS.STAGE stExchange) ((linked up 1).setPort 7 { lanesOn := 15, offered := 15 })
def w_TetherPartnersAndSync_2 : State := (linked up tpActive).wr (pgTether 7) TETHER_STATUS.PARTNER_DEV 63
def w_TetherPartnersAndSync_3 : State := (linked up tpWaiting).setPort 7 { left := some 0, buf := [{ seq := 4095, slots := [0] }] } |>.wr (pgTether 7) TETHER_TIMERS.DOWN_US 100000
def w_TetherPartnersAndSync_4 : State := (linked up tpActive).setPort 7 { echoAt := some 7 }
def w_TetherPartnersAndSync_5 : State := (linked up tpActive).setPort 7 { echoAt := some 99900001 }
def w_TetherPartnersAndSync_7 : State := { up with bridle := { up.bridle with subs := (List.range 23).map (fun i => (i, ⟨1, i, 0, false⟩)) } }
def w_TetherPartnersAndSync_8 : State := { up with bridle := { up.bridle with subs := [(23, ⟨63, 63, 5, false⟩)] } }
def w_TetherPartnersAndSync_9 : State := { routed up with bridleNs := 1920, bridle := { up.bridle with subs := [(23, ⟨63, 63, 5, false⟩)] } }
def w_TetherPartnersAndSync_10 : State := tracking up 63 kRemote trAcquire

theorem met_TetherPartnersAndSync :
    (∃ (s : State) (p : Nat) (n : Nat) (bytes : List Byte) (b : List Byte),
      p < 8 ∧ bytes.length = 256 ∧ openFlit bytes = (some b, n) ∧ s.portState p ≠ tpActive ∧ hdrField (natLE (b.take 4)) 24 4 = 4 ∧
        s.portOn p = true ∧ (s.lanesUsed p).any (fun l => s.stage l != stExchange) = false ∧ (s.port p).lanesOn ≠ 0 ∧ (s.port p).refused = false) ∧
    (∃ (s : State) (p : Nat) (n : Nat) (bytes : List Byte) (b : List Byte),
      p < 8 ∧ bytes.length = 256 ∧ openFlit bytes = (some b, n) ∧ s.portState p = tpActive ∧ hdrField (natLE (b.take 4)) 24 4 = 4) ∧
    (∃ (s : State) (p : Nat),
      p < 8 ∧ s.portState p = tpActive) ∧
    (∃ (s : State) (p : Nat) (t0 : Nat),
      p < 8 ∧ (s.port p).left = some t0 ∧ s.portState p = tpWaiting ∧ t0 + 1000 * s.rdPort p TETHER_TIMERS.DOWN_US ≤ s.ns) ∧
    (∃ (s : State) (p : Nat),
      p < 8 ∧ s.portState p = tpActive ∧ (∀ t0, (s.port p).echoAt = some t0 → t0 + 100000 ≤ s.ns)) ∧
    (∃ (s : State) (p : Nat) (t0 : Nat),
      p < 8 ∧ (s.port p).echoAt = some t0 ∧ s.ns < t0 + 100000) ∧
    (∃ (s : State) (p : Nat) (n : Nat) (d : Nat) (h : Nat) (first : Nat) (bytes : List Byte) (b : List Byte),
      p < 8 ∧ bytes.length = 256 ∧ openFlit bytes = (some b, n) ∧ s.portState p = tpActive ∧ h = natLE (b.take 4) ∧ hdrField h 24 4 = 3 ∧
        first = ((s.port p).buf.head?.map (·.seq)).getD (s.rdPort p TETHER_TX_SEQ.NEXT) ∧ first < 4096 ∧
        (hdrField h 12 12 + 1) % 4096 = (first + d) % 4096 ∧ d ≤ (s.port p).buf.length ∧ d < 4096 ∧
        (hdrField h 28 2 = 0 ∨ nget (s.port p).credits (hdrField h 30 2) + 4 * hdrField h 28 2 ≤ classSlots (hdrField h 30 2))) ∧
    (∃ (s : State) (dev : BitVec 6) (track : BitVec 6) (ns : Bool) (inline : BitVec 128) (i : Nat),
      syncField inline 113 15 = modFold (s.trMod (syncField inline 91 6)) ∧
        (ns = true → s.on (pgTrack (syncField inline 91 6)) PAGE_WORLD.SECURE = false) ∧
        (s.findSub dev.toNat track.toNat = some i ∨ (s.findSub dev.toNat track.toNat = none ∧
        (List.range 24).find? (fun i => (lget s.bridle.subs i).isNone) = some i))) ∧
    (∃ (s : State) (dev : BitVec 6) (track : BitVec 6) (i : Nat),
      s.findSub dev.toNat track.toNat = some i) ∧
    (∃ (s : State) (i : Nat) (e : Subscription),
      i < 24 ∧ lget s.bridle.subs i = some e ∧ s.bridleNs % 1000 = 40 * i) ∧
    (∃ (s : State) (track : BitVec 6) (inline : BitVec 128),
      s.trKind track.toNat = kRemote ∧ s.trState track.toNat = trAcquire ∧ (s.core track.toNat).acq = 0 ∧
        (s.track track.toNat).presetAt ≠ some s.bridleNs ∧ syncField inline 88 2 = 2 ∧ syncField inline 113 15 = modFold (s.trMod track.toNat)) :=
  ⟨⟨w_TetherPartnersAndSync_0, 7, ((openFlit (sealFlit (bytesLE 4 (0 + 0 * 2 ^ 12 + 4 * 2 ^ 24 + 0 * 2 ^ 28) ++ [1, 5, 0, 15, 0, 1] ++ List.replicate 234 0))).2), (sealFlit (bytesLE 4 (0 + 0 * 2 ^ 12 + 4 * 2 ^ 24 + 0 * 2 ^ 28) ++ [1, 5, 0, 15, 0, 1] ++ List.replicate 234 0)), (((openFlit (sealFlit (bytesLE 4 (0 + 0 * 2 ^ 12 + 4 * 2 ^ 24 + 0 * 2 ^ 28) ++ [1, 5, 0, 15, 0, 1] ++ List.replicate 234 0))).1).getD []), by decide +kernel⟩,
   ⟨(linked up tpActive), 7, ((openFlit (flitOf (0 + 4095 * 2 ^ 12 + 4 * 2 ^ 24 + 0 * 2 ^ 28))).2), (flitOf (0 + 4095 * 2 ^ 12 + 4 * 2 ^ 24 + 0 * 2 ^ 28)), (((openFlit (flitOf (0 + 4095 * 2 ^ 12 + 4 * 2 ^ 24 + 0 * 2 ^ 28))).1).getD []), by decide +kernel⟩,
   ⟨w_TetherPartnersAndSync_2, 7, by decide +kernel⟩,
   ⟨w_TetherPartnersAndSync_3, 7, 0, by decide +kernel⟩,
   ⟨w_TetherPartnersAndSync_4, 7, by decide +kernel⟩,
   ⟨w_TetherPartnersAndSync_5, 7, 99900001, by decide +kernel⟩,
   ⟨(linked up tpActive), 7, ((openFlit (flitOf (0 + 4095 * 2 ^ 12 + 3 * 2 ^ 24 + 0 * 2 ^ 28))).2), 0, ((0 + 4095 * 2 ^ 12 + 3 * 2 ^ 24 + 0 * 2 ^ 28)), 0, (flitOf (0 + 4095 * 2 ^ 12 + 3 * 2 ^ 24 + 0 * 2 ^ 28)), (((openFlit (flitOf (0 + 4095 * 2 ^ 12 + 3 * 2 ^ 24 + 0 * 2 ^ 28))).1).getD []), by decide +kernel⟩,
   ⟨w_TetherPartnersAndSync_7, 63, 63, false, (BitVec.ofNat 128 (modFold 0 * 2 ^ 113 + 63 * 2 ^ 91)), 23, by decide +kernel⟩,
   ⟨w_TetherPartnersAndSync_8, 63, 63, 23, by decide +kernel⟩,
   ⟨w_TetherPartnersAndSync_9, 23, (⟨63, 63, 5, false⟩), by decide +kernel⟩,
   ⟨w_TetherPartnersAndSync_10, 63, (BitVec.ofNat 128 (modFold 0 * 2 ^ 113 + 2 * 2 ^ 88 + 0xFFFFFFFF * 2 ^ 56 + 2 ^ 56 - 1)), by decide +kernel⟩⟩

def w_LaneBringUp_5 : State := (laned up stLock).setLane 31 { bitLock := true }
def w_LaneBringUp_7 : State := ((laned up stTrain).setLane 31 { consec := 9 }).wr (pgLane 31) LANE_BACKOFF.MS 512 |>.wr (pgLane 31) LANE_TIMEOUTS.TRAIN_MS 100
def w_LaneBringUp_8 : State := (laned up stBackoff).wr (pgLane 31) LANE_BACKOFF.MS 100

theorem met_LaneBringUp :
    (∃ (s : State) (a : Access) (l : Nat) (v : Word),
      l < 32 ∧ s.writeGate a (pgLane l) LANE_CTRL.ENABLE.off (v ||| 1) = .pass ∧ s.laneOwner l = 0 ∧ getF (v ||| 1) 7 1 = 0 ∧
        getF (v ||| 1) 1 3 ≤ 2 ∧ getF (v ||| 1) 4 1 = 1 ∧ inPcieQuad l = false ∧ s.bandClash l (getF (v ||| 1) 1 3) = false) ∧
    (∃ (s : State) (a : Access) (l : Nat),
      l < 32 ∧ s.writeGate a (pgLane l) LANE_CTRL.ENABLE.off (s.laneCtrlNow l &&& ~~~ 1) = .pass ∧ s.laneOwner l = 0 ∧ s.laneOn l = true ∧
        s.rdLane l LANE_CTRL.RATE ≤ 2 ∧ s.rdLane l LANE_CTRL.PRECODE = 1) ∧
    (∃ (s : State) (a : Access) (l : Nat),
      l < 32 ∧ s.writeGate a (pgLane l) LANE_CTRL.ENABLE.off (s.laneCtrlNow l ||| 0x80) = .pass ∧ s.laneOn l = true ∧
        s.rdLane l LANE_CTRL.RATE ≤ 2 ∧ s.rdLane l LANE_CTRL.PRECODE = 1 ∧ inPcieQuad l = false) ∧
    (∃ (s : State) (l : Nat),
      l < 32 ∧ s.stage l = stDetect) ∧
    (∃ (s : State) (l : Nat),
      l < 32 ∧ s.stage l = stTrain) ∧
    (∃ (s : State) (l : Nat),
      l < 32 ∧ s.stage l = stLock ∧ (s.lane l).bitLock = true) ∧
    (∃ (s : State) (l : Nat),
      l < 32 ∧ s.stage l = stLock ∧ (s.lane l).bitLock = false) ∧
    (∃ (s : State) (l : Nat),
      l < 32 ∧ s.stage l = stLock ∧ (s.lane l).bitLock = true) ∧
    (∃ (s : State) (l : Nat) (d : Nat),
      l < 32 ∧ s.stageLimit l = some d ∧ (s.lane l).since + d ≤ s.ns) ∧
    (∃ (s : State) (l : Nat),
      l < 32 ∧ s.stage l = stBackoff ∧ (s.lane l).since + s.rdLane l LANE_BACKOFF.MS * 1000000 ≤ s.ns) ∧
    (∃ (s : State) (l : Nat),
      l < 32 ∧ s.stage l = stActive) ∧
    (∃ (s : State) (q : Nat) (i : Nat),
      q < 8 ∧ i < 4 ∧ s.rdLane (4 * q + i) LANE_STATUS.POWER = 1) :=
  ⟨⟨up, host, 31, 0x00000010, by decide +kernel⟩,
   ⟨(laned up stActive), host, 31, by decide +kernel⟩,
   ⟨(laned up stActive), host, 31, by decide +kernel⟩,
   ⟨(laned up stDetect), 31, by decide +kernel⟩,
   ⟨(laned up stTrain), 31, by decide +kernel⟩,
   ⟨w_LaneBringUp_5, 31, by decide +kernel⟩,
   ⟨(laned up stLock), 31, by decide +kernel⟩,
   ⟨w_LaneBringUp_5, 31, by decide +kernel⟩,
   ⟨w_LaneBringUp_7, 31, 100000000, by decide +kernel⟩,
   ⟨w_LaneBringUp_8, 31, by decide +kernel⟩,
   ⟨(laned up stActive), 31, by decide +kernel⟩,
   ⟨(laned up stActive), 7, 3, by decide +kernel⟩⟩

def w_LaneEqualisationAndBlobs_0 : State := (laned up stTrain).setLane 31 { adapting := true }
def w_LaneEqualisationAndBlobs_1 : State := (laned up stActive).wr (pgLane 31) LANE_RX_CTLE.TRIM_EN 1 |>.wr (pgLane 31) LANE_RX_CTLE.PEAK 20 |>.wr (pgLane 31) LANE_RX_LIVE.PEAK 20 |>.wr (pgLane 31) LANE_RX_LIVE.TARGET 20 |>.wr (pgLane 31) LANE_TRIM.PERIOD_MS 10
def w_LaneEqualisationAndBlobs_2 : State := (laned up stActive).setLane 31 { prop := some { peak := 3, lf := 5 }, walkDone := 78000000 }
def w_LaneEqualisationAndBlobs_3 : State := ((laned up stActive).wr (pgLane 31) LANE_STATUS.TRIM_MOVING 0).setLane 31 { prop := some { peak := 3, lf := 5, next := some (7, 2) }, walkDone := 78000000 }
def w_LaneEqualisationAndBlobs_4 : State := ((laned up stActive).wr (pgLane 31) LANE_STATUS.TRIM_MOVING 1).wr (pgLane 31) LANE_RX_LIVE.TARGET 40 |>.setLane 31 { stepAt := 99000000 }
def w_LaneEqualisationAndBlobs_7 : State := after (.calCapture host 31) (laned up stActive)
def w_LaneEqualisationAndBlobs_9 : State := ((laned up stActive).setLane 31 { saveDue := true, savedAt := none }).wr (pgLane 31) LANE_CAL_AUTOSAVE.ENABLE 1
def w_LaneEqualisationAndBlobs_12 : State := { up with store := [(2 * recLane 31, { w0 := 1 })] }.wr pgReady READY_SUM.CENSUS 1

theorem met_LaneEqualisationAndBlobs :
    (∃ (s : State) (l : Nat) (evals : List Eye) (best : List Nat),
      l < 32 ∧ evals.length = 533 ∧ s.stage l = stTrain ∧ (s.lane l).adapting = true ∧ (s.lane l).adapted = false ∧ (s.lane l).prop = none ∧
        best = bestOf (s.rdLane l LANE_CTRL.RATE) (((List.range 533).zip evals).filter (fun c => s.eyePasses l c.2))) ∧
    (∃ (s : State) (l : Nat) (below : Eye) (at_ : Eye) (above : Eye) (best : List Nat),
      l < 32 ∧ s.stage l = stActive ∧ s.rdLane l LANE_RX_CTLE.TRIM_EN = 1 ∧ (s.lane l).prop = none ∧ s.rdLane l LANE_STATUS.TRIM_MOVING = 0 ∧
        s.rdLane l LANE_STATUS.POWER = 1 ∧ (s.trimBegan l (s.trimCandidates l below at_ above).length).isSome = true ∧
        best = bestOf (s.rdLane l LANE_CTRL.RATE) ((s.trimCandidates l below at_ above).filter (fun c => s.eyePasses l c.2))) ∧
    (∃ (s : State) (l : Nat) (old : LaneProp),
      l < 32 ∧ (s.lane l).prop = some old ∧ s.rdLane l LANE_STATUS.TRIM_MOVING = 0 ∧ (s.lane l).walkDone + 22000000 ≤ s.ns ∧ old.next = none) ∧
    (∃ (s : State) (l : Nat) (peak : Nat) (lf : Nat) (old : LaneProp),
      l < 32 ∧ (s.lane l).prop = some old ∧ s.rdLane l LANE_STATUS.TRIM_MOVING = 0 ∧ (s.lane l).walkDone + 22000000 ≤ s.ns ∧
        old.next = some (peak, lf)) ∧
    (∃ (s : State) (l : Nat),
      l < 32 ∧ s.rdLane l LANE_STATUS.TRIM_MOVING = 1 ∧ (s.lane l).stepAt + 1000000 ≤ s.ns) ∧
    (∃ (s : State) (l : Nat) (mant : Nat),
      l < 32 ∧ mant < 10 ∧ s.rdLane l LANE_STATUS.POWER = 1) ∧
    (∃ (s : State) (a : Access) (l : Nat),
      l < 32 ∧ s.writeGate a (pgLane l) LANE_CAL_CMD.OP.off 1 = .pass ∧ s.rdLane l LANE_CAL_RESULT.RESULT ≠ 7) ∧
    (∃ (s : State) (a : Access) (l : Nat),
      l < 32 ∧ s.writeGate a (pgLane l) LANE_CAL_CMD.OP.off 2 = .pass ∧ s.rdLane l LANE_CAL_RESULT.RESULT ≠ 7) ∧
    (∃ (s : State) (a : Access) (l : Nat),
      l < 32 ∧ s.writeGate a (pgLane l) LANE_CAL_CMD.OP.off 3 = .pass ∧ s.rdLane l LANE_CAL_RESULT.RESULT ≠ 7) ∧
    (∃ (s : State) (l : Nat),
      (l < 32 ∧ (s.lane l).saveDue = true ∧ s.rdLane l LANE_CAL_AUTOSAVE.ENABLE = 1) ∧
        (∀ x, (s.lane l).savedAt = some x → x + 1000000000 ≤ s.ns) ∧ s.rdLane l LANE_CAL_RESULT.RESULT ≠ 7 ∧ s.vbat = true ∧ s.pfBlocked = false) ∧
    (∃ (s : State),
      (s.restored = false ∧ 26000000 ≤ s.ns ∧ s.on pgReady READY_SUM.CENSUS = true) ∧ (∀ id, s.record id = none ∧ s.recordBad id = false)) ∧
    (∃ (s : State),
      s.restored = true) ∧
    (∃ (s : State) (l : Nat),
      s.restored = false ∧ 26000000 ≤ s.ns ∧ s.on pgReady READY_SUM.CENSUS = true ∧ l < 32) :=
  ⟨⟨w_LaneEqualisationAndBlobs_0, 31, ((List.range 533).map (fun i => if i = 520 then ⟨63, 255, 255, 255⟩ else {})), [520], by decide +kernel⟩,
   ⟨w_LaneEqualisationAndBlobs_1, 31, ({}), ({}), (⟨63, 255, 255, 255⟩), [21], by decide +kernel⟩,
   ⟨w_LaneEqualisationAndBlobs_2, 31, ({ peak := 3, lf := 5 }), by decide +kernel⟩,
   ⟨w_LaneEqualisationAndBlobs_3, 31, 7, 2, ({ peak := 3, lf := 5, next := some (7, 2) }), by decide +kernel⟩,
   ⟨w_LaneEqualisationAndBlobs_4, 31, by decide +kernel⟩,
   ⟨(laned up stActive), 31, 9, by decide +kernel⟩,
   ⟨(laned up stActive), host, 31, by decide +kernel⟩,
   ⟨w_LaneEqualisationAndBlobs_7, host, 31, by decide +kernel⟩,
   ⟨w_LaneEqualisationAndBlobs_7, host, 31, by decide +kernel⟩,
   ⟨w_LaneEqualisationAndBlobs_9, 31, by decide +kernel, ofOption _ (by decide +kernel), by decide +kernel⟩,
   ⟨up, by decide +kernel, no_records⟩,
   ⟨({ up with restored := true }), by decide +kernel⟩,
   ⟨w_LaneEqualisationAndBlobs_12, 31, by decide +kernel⟩⟩

def w_ClockDomainsAndGates_0 : State := ((up.wr (pgPll 23) (FPLL_CTRL.N.at 11) 160).wr (pgPll 23) (FPLL_DIV.D3.at 11) 8).wr (pgPll 23) (FPLL_STATUS.LOCKED.at 11) 1
def w_ClockDomainsAndGates_1 : State := (((up.wr (pgPll 23) (FPLL_CTRL.N.at 11) 160).wr (pgPll 23) (FPLL_DIV.D3.at 11) 8).wr (pgPll 23) (FPLL_STATUS.LOCKED.at 11) 1).wr (pgDom 143) (CLK_DOM_SEL.SRC.at 63) 0x9F |>.wr (pgDom 143) (CLK_DOM_SEL.ARM.at 63) 1
def w_ClockDomainsAndGates_2 : State := (up.wr (pgDom 319) (CLK_DOM_SWITCH.DONE.at 79) 0).wr (pgDom 319) (CLK_DOM_SEL.SRC.at 79) 1

theorem met_ClockDomainsAndGates :
    (∃ (s : State) (a : Access) (d : Nat) (v : BitVec 8),
      d < 320 ∧ s.writeGate a (pgDom d) (CLK_DOM_SEL.SRC.at (d % 80)).off (v.setWidth 32) = .pass ∧ s.rdDom d CLK_DOM_SWITCH.DONE = 1 ∧
        s.domAccepts d v.toNat = true) ∧
    (∃ (s : State) (a : Access),
      s.writeGate a pgClk0 CLK_SWITCH_GO.GO.off 1 = .pass ∧ (∀ i, i < 320 → s.rdDom i CLK_DOM_SEL.ARM = 1 → s.rdDom i CLK_DOM_SWITCH.DONE ≠ 0)) ∧
    (∃ (s : State) (d : Nat) (g : List Nat),
      d < 320 ∧ s.rdDom d CLK_DOM_SWITCH.DONE = 0 ∧ s.codeRuns (s.nextCode d) = true ∧ g = (s.goSets.find? (·.contains d)).getD [d]) ∧
    (∃ (s : State) (d : Nat),
      d < 320 ∧ (s.rdDom d CLK_DOM_SWITCH.DONE = 1 ∨ s.codeRuns (s.nextCode d) = false)) ∧
    (∃ (s : State) (a : Access) (n : BitVec 9),
      n.toNat ≤ 340 ∧ s.writeGate a pgClk1 CLK_GATE_CMD.NODE.off (setF (n.setWidth 32) 12 1 1) = .pass) ∧
    (∃ (s : State) (a : Access) (n : BitVec 9),
      n.toNat ≤ 340 ∧ s.writeGate a pgClk1 CLK_GATE_CMD.NODE.off (n.setWidth 32) = .pass) :=
  ⟨⟨w_ClockDomainsAndGates_0, host, 143, 0x9F, by decide +kernel⟩,
   ⟨w_ClockDomainsAndGates_1, host, by decide +kernel⟩,
   ⟨w_ClockDomainsAndGates_2, 319, [319], by decide +kernel⟩,
   ⟨up, 319, by decide +kernel⟩,
   ⟨up, host, 340, by decide +kernel⟩,
   ⟨up, host, 0, by decide +kernel⟩⟩

def w_ClockSourcesAndMonitors_0 : State := (((up.wr (pgPll 23) (FPLL_CTRL.N.at 11) 160).wr (pgPll 23) (FPLL_DIV.D3.at 11) 8).wr (pgPll 23) (FPLL_STATUS.LOCKED.at 11) 1)
def w_ClockSourcesAndMonitors_1 : State := up.wr (pgPll 23) (FPLL_CTRL.ENABLE.at 11) 1
def w_ClockSourcesAndMonitors_5 : State := { up.wr pgClk0 CLK_LOST_MAP.SYS 1 with monGood := [(0, 7)] }
def w_ClockSourcesAndMonitors_7 : State := up.wr pgClk0 CLK_STATUS.XA_OK 0
def w_ClockSourcesAndMonitors_8 : State := (up.wr pgClk0 CLK_STATUS.XA_OK 1).wr pgReady READY_SUM.CLOCKS 0

theorem met_ClockSourcesAndMonitors :
    (∃ (s : State) (a : Access) (p : Nat) (v : Word),
      p < 24 ∧ s.writeGate a (pgPll p) (FPLL_CTRL.ENABLE.at (p % 12)).off (v ||| 1) = .pass ∧
        (s.rdPll p FPLL_CTRL.ENABLE = 0 ∨ s.fpllSelected p = false) ∧
        (s.storeReg (pgPll p) (FPLL_CTRL.ENABLE.at (p % 12)).off (v ||| 1)).fpllInRange p = true) ∧
    (∃ (s : State) (p : Nat),
      p < 24 ∧ s.rdPll p FPLL_CTRL.ENABLE = 1) ∧
    (∃ (src : Nat),
      src = 4 ∨ src = 5 ∨ (8 ≤ src ∧ src < 32)) ∧
    (∃ (counts : List (Nat × Nat)),
      (∀ c ∈ counts, c.1 < 6 ∨ (8 ≤ c.1 ∧ c.1 < 32))) ∧
    (∃ (s : State) (i : Nat) (hz : Nat),
      (i < 6 ∨ (8 ≤ i ∧ i < 32)) ∧ s.expected i ≠ 0 ∧
        s.tolerance i * s.expected i < (hz * 65536 - s.expected i + (s.expected i - hz * 65536)) * 100) ∧
    (∃ (s : State) (i : Nat) (hz : Nat),
      (i < 6 ∨ (8 ≤ i ∧ i < 32)) ∧ s.expected i ≠ 0 ∧
        (hz * 65536 - s.expected i + (s.expected i - hz * 65536)) * 100 ≤ s.tolerance i * s.expected i ∧ s.srcLost i = true) ∧
    (∃ (s : State),
      xaHz s.straps.xaSel ≠ 0) ∧
    (∃ (s : State),
      s.on pgClk0 CLK_STATUS.XA_OK = false ∧ (s.straps.xaSel = 7 ∨ 20000000 ≤ s.ns)) ∧
    (∃ (s : State),
      (s.on pgClk0 CLK_STATUS.XA_OK = true ∨ s.on pgClk0 CLK_STATUS.SYS_REF = true)) :=
  ⟨⟨w_ClockSourcesAndMonitors_0, host, 23, (BitVec.ofNat 32 (16 + 160 * 256)), by decide +kernel⟩,
   ⟨w_ClockSourcesAndMonitors_1, 23, by decide +kernel⟩,
   ⟨31, by decide +kernel⟩,
   ⟨([(0, 7), (31, 400000000)]), by decide +kernel⟩,
   ⟨up, 0, 0, by decide +kernel⟩,
   ⟨w_ClockSourcesAndMonitors_5, 0, 400000000, by decide +kernel⟩,
   ⟨up, by decide +kernel⟩,
   ⟨w_ClockSourcesAndMonitors_7, by decide +kernel⟩,
   ⟨w_ClockSourcesAndMonitors_8, by decide +kernel⟩⟩

def w_PreflightSlices_0 : State := up.wr pgPreflight PF_CTRL.MODE 1
def w_PreflightSlices_1 : State := let s := (up.setPanel 575 { underTest := true }); { s with pf := { s.pf with running := [(575, { at_ := 98679040, ready := true, auto := false })] } }
def w_PreflightSlices_2 : State := up.wr pgPreflight PF_CTRL.MODE 2
def w_PreflightSlices_3 : State := let s := (((up.wr pgPreflight PF_CTRL.MODE 2)).wr pgPreflight PF_STATUS.SWEEPING 1).wr pgPreflight PF_STATUS.NEXT 575; { s with pf := { s.pf with running := [(575, { at_ := 98679040, ready := true, auto := true })] } }
def w_PreflightSlices_4 : State := let s := ((((up.wr (pgRail 0) PWRMON_DATA.MV 1800).wr (pgRail 34) PWRMON_DATA.MV (up.setPoint 15)).wr pgClk0 CLK_STATUS.SYSA_LOCK 1).wr pgPreflight PF_CTRL.MODE 1 |>.wr pgPreflight PF_CTRL.CONCURRENT 1); { s with pf := { s.pf with starts := [575] } }
def w_PreflightSlices_5 : State := let s := up.wr pgPreflight PF_CTRL.MODE 1; { s with pf := { s.pf with starts := [575] } }
def w_PreflightSlices_6 : State := let s := ((((up.wr (pgRail 0) PWRMON_DATA.MV 1800).wr (pgRail 34) PWRMON_DATA.MV (up.setPoint 15)).wr pgClk0 CLK_STATUS.SYSA_LOCK 1).wr pgPreflight PF_CTRL.MODE 2 |>.wr pgPreflight PF_CTRL.CONCURRENT 1); let s := s.setPanel 575 { underTest := true }; { s with pf := { s.pf with starts := [575] } }
def w_PreflightSlices_7 : State := (((up.wr pgPreflight PF_CTRL.MODE 2)).wr pgPreflight PF_STATUS.SWEEPING 1).wr pgPreflight PF_STATUS.NEXT 575

theorem met_PreflightSlices :
    (∃ (s : State) (a : Access) (p : BitVec 10),
      p.toNat < 576 ∧ s.writeGate a pgPreflight PF_CMD.PANEL.off (BitVec.ofNat 32 (p.toNat + 2 ^ 12)) = .pass ∧ s.rd pgPreflight PF_CTRL.MODE ≠ 0) ∧
    (∃ (s : State) (a : Access) (p : BitVec 10),
      p.toNat < 576 ∧ s.writeGate a pgPreflight PF_CMD.PANEL.off (BitVec.ofNat 32 (p.toNat + 2 ^ 13)) = .pass) ∧
    (∃ (s : State),
      (s.rd pgPreflight PF_CTRL.MODE = 2 ∧ s.pf.overdue = false ∧ s.on pgPreflight PF_STATUS.SWEEPING = false) ∧
        (∀ t0, s.pf.sweepAt = some t0 → 10 ^ 9 * s.rd pgPreflight PF_SWEEP_PERIOD.S ≤ s.ns - t0)) ∧
    (∃ (s : State),
      (s.rd pgPreflight PF_CTRL.MODE = 2 ∧ s.pf.overdue = false ∧ s.on pgPreflight PF_STATUS.SWEEPING = true) ∧
        (∀ t0, s.pf.sweepAt = some t0 → 10 ^ 9 * s.rd pgPreflight PF_SWEEP_PERIOD.S ≤ s.ns - t0)) ∧
    (∃ (s : State) (p : Nat),
      p < 576 ∧ s.rd pgPreflight PF_CTRL.MODE ≠ 0 ∧ p ∈ s.pf.starts ∧ s.pfCheck p = .ok) ∧
    (∃ (s : State) (p : Nat) (code : Nat),
      p < 576 ∧ s.rd pgPreflight PF_CTRL.MODE ≠ 0 ∧ p ∈ s.pf.starts ∧ s.pfCheck p = .refused code ∧
        (s.rd pgPreflight PF_CTRL.MODE = 2 → code ≠ pcStagger)) ∧
    (∃ (s : State) (p : Nat),
      p < 576 ∧ s.rd pgPreflight PF_CTRL.MODE = 2 ∧ p ∈ s.pf.starts ∧ (s.pfCheck p = .busy ∨ s.pfCheck p = .refused pcStagger)) ∧
    (∃ (s : State) (p : Nat),
      p < 576 ∧ s.rd pgPreflight PF_CTRL.MODE = 2 ∧ s.pf.starts.contains p = false ∧ s.on pgPreflight PF_STATUS.SWEEPING = true ∧
        p ∈ s.sweepWaiting ∧ s.sweepTurn (s.rd pgPreflight PF_STATUS.NEXT) p = true) ∧
    (∃ (s : State) (p : Nat) (x : PfSlice),
      p < 576 ∧ lget s.pf.running p = some x ∧ scanNs ≤ s.ns - x.at_) :=
  ⟨⟨w_PreflightSlices_0, host, 575, by decide +kernel⟩,
   ⟨w_PreflightSlices_1, host, 575, by decide +kernel⟩,
   ⟨w_PreflightSlices_2, by decide +kernel, ofOption _ (by decide +kernel)⟩,
   ⟨w_PreflightSlices_3, by decide +kernel, ofOption _ (by decide +kernel)⟩,
   ⟨w_PreflightSlices_4, 575, by decide +kernel⟩,
   ⟨w_PreflightSlices_5, 575, ((match (let s := up.wr pgPreflight PF_CTRL.MODE 1; s.pfCheck 575) with | .refused c => c | _ => 0)), by decide +kernel⟩,
   ⟨w_PreflightSlices_6, 575, by decide +kernel⟩,
   ⟨w_PreflightSlices_7, 575, by decide +kernel⟩,
   ⟨w_PreflightSlices_1, 575, ({ at_ := 98679040, ready := true, auto := false }), by decide +kernel⟩⟩

def w_LoadAttempts_2 : State := up.wr pgReady READY_SUM.LOAD_STARTED 0
def w_LoadAttempts_6 : State := let s := loading up []; { s with load := { s.load with seg := 0 } }
def w_LoadAttempts_7 : State := (loading up []).wr pgLoad LOAD_IDLE_TIMEOUT.MS 100
def w_LoadAttempts_8 : State := let s := up.setLoadState ldBackoff; { s with load := { s.load with wait := 100 } }
def w_LoadAttempts_9 : State := let s := (((loading up []).wr pgLoad LOAD_CTRL.SRC 2).wr pgLoad LOAD_CTRL.HUB_PORT 7); { s with load := { s.load with src := 2, stream := List.replicate 508 0 } }
def w_LoadAttempts_10 : State := let s := (loading up []).wr (pgTether 7) TETHER_CTRL.FLOCK 1; s
def w_LoadAttempts_11 : State := let s := (linked (loading up []) 1).wr (pgTether 7) TETHER_CTRL.FLOCK 1; s
def w_LoadAttempts_12 : State := { up.wr (pgPanel 575) (PANEL_PLANE_SLOT.VALID.at 7) 1 with frames := [(frameAddr 575 7 127, { bad := true, repairing := some 0 })] }

theorem met_LoadAttempts :
    (∃ (s : State) (a : Access),
      s.writeGate a pgLoad LOAD_CMD.OP.off 1 = .pass ∧ s.attempting = false ∧ s.loadState ≠ ldHalted ∧
        (s.rd pgLoad LOAD_CTRL.SRC ≠ 1 ∨ s.rd pgLoad LOAD_HOST_LEN.BYTES ≠ 0)) ∧
    (∃ (s : State) (a : Access),
      s.writeGate a pgLoad LOAD_CMD.OP.off 2 = .pass ∧ (s.attempting = true ∨ s.loadState = ldBackoff)) ∧
    (∃ (s : State),
      s.on pgReady READY_SUM.CENSUS = true ∧ s.on pgReady READY_SUM.LOAD_STARTED = false) ∧
    (∃ (s : State) (sfdp : Bool) (bytes : List Byte) (bs : List Byte) (code : Nat),
      s.loadState = ldHeader ∧ (s.load.src = 0 → sfdp = true) ∧ bs = (if s.load.src = 2 then s.load.stream else bytes) ∧
        s.sourceEnds 512 = false ∧ 512 ≤ bs.length ∧ s.headerFault (bs.take 512) = some code) ∧
    (∃ (s : State),
      s.loadState = ldHeader ∧ s.load.src = 0) ∧
    (∃ (s : State) (sfdp : Bool) (bytes : List Byte) (bs : List Byte) (n : Nat) (seg : Nat),
      (s.loadState = ldHeader ∧ (s.load.src = 0 → sfdp = true) ∧ bs = (if s.load.src = 2 then s.load.stream else bytes) ∧
        n = fieldAt (bs.take 512) 0x14 4 ∧ s.sourceEnds 512 = false ∧ s.sourceEnds (512 + 16 * n) = false ∧ 512 + 16 * n ≤ bs.length) ∧
        s.headerFault (bs.take 512) = none ∧ seg = (if s.load.digest = some (imageDigest bs n) ∧
        s.loadLegacy = false then s.rd pgLoad LOAD_PROGRESS.APPLIED else 0)) ∧
    (∃ (s : State) (h : ImgHeader) (bytes : List Byte) (c : List Byte),
      s.loadState = ldStream ∧ s.load.hdr = some h ∧ s.load.buf = [] ∧
        c = (if s.load.src = 2 then bytesAt s.load.stream (h.segPlace (s.load.seg + 1)).1 (h.segPlace (s.load.seg + 1)).2 else bytes) ∧
        s.sourceEnds ((h.segPlace (s.load.seg + 1)).1 + (h.segPlace (s.load.seg + 1)).2) = false ∧ c.length = (h.segPlace (s.load.seg + 1)).2) ∧
    (∃ (s : State),
      s.attempting = true ∧ 1000000 * s.rd pgLoad LOAD_IDLE_TIMEOUT.MS ≤ s.ns - s.load.since) ∧
    (∃ (s : State),
      s.loadState = ldBackoff ∧ 1000000 * s.load.wait ≤ s.ns - s.load.since) ∧
    (∃ (s : State) (a : Access) (off : Nat) (ws : List Word),
      0x200 ≤ off ∧ off + 4 * ws.length ≤ 0x400 ∧ off % 4 = 0 ∧ s.writeGate a pgLoad off 0 = .pass ∧ s.rd pgLoad LOAD_CTRL.SRC = 2 ∧
        whoInit a.who = 11 + s.rd pgLoad LOAD_CTRL.HUB_PORT ∧ s.attempting = true ∧ s.load.src = 2) ∧
    (∃ (s : State) (bytes : List Byte),
      s.imageHas s.load.forwarded bytes = true ∧ (∀ p, p < 8 → s.flocks p = true → s.portState p ≠ tpBringup ∧ s.portState p ≠ tpWaiting)) ∧
    (∃ (s : State) (p : Nat) (bytes : List Byte),
      (s.imageHas s.load.forwarded bytes = false ∨ p < 8 ∧ s.flocks p = true ∧ (s.portState p = tpBringup ∨ s.portState p = tpWaiting))) ∧
    (∃ (s : State) (f : Nat),
      f < 2 ^ 20 ∧ f / 2 ^ 10 % 2 ^ 9 < 288 ∧ (s.frame f).bad = true ∧ (s.frame f).repairing.isSome = true ∧
        s.slotValid (framePanel f) (frameSlot f) = true) :=
  ⟨⟨up, host, by decide +kernel⟩,
   ⟨(up.setLoadState ldStream), host, by decide +kernel⟩,
   ⟨w_LoadAttempts_2, by decide +kernel⟩,
   ⟨((up.setLoadState ldHeader)), true, (List.replicate 512 0), (List.replicate 512 0), lrBadMagic, by decide +kernel⟩,
   ⟨((up.setLoadState ldHeader)), by decide +kernel⟩,
   ⟨awaiting, true, (soundHeader ++ List.replicate 16 0), (soundHeader ++ List.replicate 16 0), 1, 0, by decide +kernel, by rw [show List.take 512 (soundHeader ++ List.replicate 16 0) = soundHeader from by decide +kernel]; exact awaiting_takes, by decide +kernel⟩,
   ⟨w_LoadAttempts_6, ({ rolled := false, ksrc := 0, segs := 1, size := 12, last := 1, nonce := [], planes := 255, panels := BitVec.ofNat 576 (2 ^ 576 - 1), tags := [] }), (List.replicate (({ rolled := false, ksrc := 0, segs := 1, size := 12, last := 1, nonce := [], planes := 255, panels := BitVec.ofNat 576 (2 ^ 576 - 1), tags := [] } : ImgHeader).segPlace 1).2 0), (List.replicate (({ rolled := false, ksrc := 0, segs := 1, size := 12, last := 1, nonce := [], planes := 255, panels := BitVec.ofNat 576 (2 ^ 576 - 1), tags := [] } : ImgHeader).segPlace 1).2 0), by decide +kernel⟩,
   ⟨w_LoadAttempts_7, by decide +kernel⟩,
   ⟨w_LoadAttempts_8, by decide +kernel⟩,
   ⟨w_LoadAttempts_9, ({ who := .tether 7 true }), 0x3FC, [7], by decide +kernel⟩,
   ⟨w_LoadAttempts_10, ([1, 2]), by decide +kernel⟩,
   ⟨w_LoadAttempts_11, 7, ([1, 2]), by decide +kernel⟩,
   ⟨w_LoadAttempts_12, (frameAddr 575 7 127), by decide +kernel⟩⟩

def w_LoadRecords_0 : State := loading (up) (recOf 1 (bytesLE 4 0x8FFFF) ++ [1])
def w_LoadRecords_1 : State := let s := loading (let s := (up.setPanel 575 { region := some 0 }); { s with load := { s.load with addr := some (frameAddr 575 7 127), defined := [0], parked := [0] } }) (recOf 2 ([1, 0, 0, 0] ++ zeros576) ++ [1]); { s with load := { s.load with seg := 1 } }
def w_LoadRecords_1b : State := (w_LoadRecords_1.writeFrames (frameAddr 575 7 127) (framesOf 1 (List.replicate 576 0))).getD w_LoadRecords_1
def w_LoadRecords_3 : State := loading (up) (recOf 3 ([0xFF, 3, 0, 0] ++ zeros576) ++ [1])
def w_LoadRecords_4 : State := let s := loading (let s := (up.setPanel 575 { region := some 0 }); { s with load := { s.load with addr := some (frameAddr 575 7 127), defined := [0], parked := [0] } }) (recOf 4 ([5, 0, 1, 0] ++ bytesLE 4 (frameAddr 575 7 127)) ++ [1]); { s with load := { s.load with dict := [(5, 3)] } }
def w_LoadRecords_4b : State := (w_LoadRecords_4.writeCopies 3 ((List.range 1).map (fun i => fieldAt ([5, 0, 1, 0] ++ bytesLE 4 (frameAddr 575 7 127)) (4 + 4 * i) 4 % 2 ^ 20))).getD w_LoadRecords_4
def w_LoadRecords_5 : State := (let s := loading (let s := (up.setPanel 575 { region := some 0 }); { s with load := { s.load with addr := some (frameAddr 575 7 127), defined := [0], parked := [0] } }) (recOf 5 (bytesLE 4 (575 + 255 * 65536 + 8 * 2 ^ 28) ++ [0xFF, 0xFF, 0xFF, 0xFF]) ++ [1]); { s with load := { s.load with seg := 1 } }).wr (pgTile 287) CTX_SPLIT.LOWER 0
def w_LoadRecords_6 : State := loading (up) (recOf 6 (bytesLE 4 63 ++ (1 :: bytesLE 3 76) ++ List.replicate 71 0 ++ [0x80]) ++ [1])
def w_LoadRecords_7 : State := let s := loading ((let s := (up.setPanel 575 { region := some 0 }); { s with load := { s.load with addr := some (frameAddr 575 7 127), defined := [0], parked := [0] } }).wr (pgPanel 575) (PANEL_PLANE_SLOT.VALID.at 0) 1) (recOf 7 [0, 0, 0, 0] ++ [1]); { s with load := { s.load with seg := 1 } }
def w_LoadRecords_8 : State := loading (up) (recOf 8 ([]) ++ [0])
def w_LoadRecords_9 : State := let s := (up.setPanel 575 { region := some 63 }); { s with load := { s.load with edges := [575] } }
def w_LoadRecords_11 : State := { up with kram := [(0, [1]), (1, [2])] }

theorem met_LoadRecords :
    (∃ (s : State) (body : List Byte) (rest : List Byte),
      s.loadState = ldStream ∧ loadFront s.load.buf = .record 1 body rest ∧ allZero (body.drop 4) = true) ∧
    (∃ (s : State) (t0 : State) (body : List Byte) (rest : List Byte) (d : List Byte) (a : Nat) (n : Nat),
      (s.loadState = ldStream ∧ loadFront s.load.buf = .record 2 body rest ∧ n = fieldAt body 0 2 ∧ n ≠ 0 ∧ s.load.addr = some a ∧
        decodeExact (576 * n) (body.drop 4) = some d) ∧ s.writeFrames a (framesOf n d) = some t0) ∧
    (∃ (s : State) (body : List Byte) (rest : List Byte) (d : List Byte) (dig : List Byte) (a : Nat) (h : ImgHeader),
      s.loadState = ldStream ∧ loadFront s.load.buf = .record 2 body rest ∧ rest ≠ [] ∧ fieldAt body 0 2 = 1 ∧ s.load.addr = some a ∧
        a < 2 ^ 20 ∧ decodeExact 576 (body.drop 4) = some d ∧ s.load.hdr = some h ∧ s.load.digest = some dig ∧ a / 2 ^ 10 % 2 ^ 9 < 288 ∧
        h.panels.getLsbD (framePanel a) = true ∧ bitOf h.planes (frameSlot a) = true ∧ s.inDefined (framePanel a) = true ∧
        (a % 128 = 0 → headerRefused (BitVec.ofNat 4608 (natLE d)) = false) ∧ s.slotValid (framePanel a) (frameSlot a) = false ∧
        (s.column (colOf (framePanel a))).off = false ∧ d.length = 576) ∧
    (∃ (s : State) (body : List Byte) (rest : List Byte) (d : List Byte),
      s.loadState = ldStream ∧ loadFront s.load.buf = .record 3 body rest ∧ decodeExact 576 (body.drop 4) = some d ∧ fieldAt body 0 2 ≤ 1023) ∧
    (∃ (s : State) (t0 : State) (body : List Byte) (rest : List Byte) (d : BitVec 4608) (n : Nat),
      (s.loadState = ldStream ∧ loadFront s.load.buf = .record 4 body rest ∧ n = fieldAt body 2 2 ∧ 0 < n ∧ 4 + 4 * n ≤ body.length ∧
        allZero (body.drop (4 + 4 * n)) = true ∧ lget s.load.dict (fieldAt body 0 2) = some d) ∧
        s.writeCopies d ((List.range n).map (fun i => fieldAt body (4 + 4 * i) 4 % 2 ^ 20)) = some t0) ∧
    (∃ (s : State) (body : List Byte) (rest : List Byte) (d : List Byte) (p : Nat) (i : Nat) (h : ImgHeader),
      s.loadState = ldStream ∧ loadFront s.load.buf = .record 5 body rest ∧ p = bitsOf (fieldAt body 0 4) 0 10 ∧ p < 576 ∧
        bitsOf (fieldAt body 0 4) 12 2 ≤ 1 ∧ i = bitsOf (fieldAt body 0 4) 16 8 ∧ (bitsOf (fieldAt body 0 4) 12 2 = 0 → i < s.share p) ∧
        quartersOf (bitsOf (fieldAt body 0 4) 28 4) ≠ [] ∧ s.load.hdr = some h ∧ h.panels.getLsbD p = true ∧
        (s.panel p).region.any s.load.parked.contains = true ∧
        decodeExact (512 * (quartersOf (bitsOf (fieldAt body 0 4) 28 4)).length) (body.drop 4) = some d) ∧
    (∃ (s : State) (body : List Byte) (rest : List Byte) (d : RegionDef),
      s.loadState = ldStream ∧ loadFront s.load.buf = .record 6 body rest ∧ parseRegion body = some d ∧ s.regionSound d = true) ∧
    (∃ (s : State) (body : List Byte) (rest : List Byte) (r : Nat),
      s.loadState = ldStream ∧ loadFront s.load.buf = .record 7 body rest ∧ r = fieldAt body 0 4 % 64 ∧ allZero (body.drop 4) = true) ∧
    (∃ (s : State) (body : List Byte) (rest : List Byte) (h : ImgHeader),
      s.loadState = ldStream ∧ loadFront s.load.buf = .record 8 body rest ∧ allZero body = true ∧ allZero rest = true ∧ s.load.hdr = some h ∧
        h.segs = s.load.seg) ∧
    (∃ (s : State) (p : Nat) (r : Nat),
      p < 576 ∧ r < 64 ∧ (s.panel p).region = some r ∧ s.load.edges.contains p = true ∧ s.devState = devRun) ∧
    (∃ (s : State) (a : Access) (slot : Bool),
      s.writeGate a pgLoad KRAM_CMD.SLOT.off (BitVec.ofNat 32 (16 + bnat slot)) = .pass ∧ s.vbat = true) ∧
    (∃ (s : State) (a : Access) (slot : Bool),
      s.writeGate a pgLoad KRAM_CMD.SLOT.off (BitVec.ofNat 32 (32 + bnat slot)) = .pass) :=
  ⟨⟨w_LoadRecords_0, (bytesLE 4 0x8FFFF), [1], by decide +kernel⟩,
   ⟨w_LoadRecords_1, w_LoadRecords_1b, ([1, 0, 0, 0] ++ zeros576), [1], (List.replicate 576 0), (frameAddr 575 7 127), 1, by decide +kernel, someOf _ _ (by decide +kernel)⟩,
   ⟨w_LoadRecords_1, ([1, 0, 0, 0] ++ zeros576), [1], (List.replicate 576 0), [], (frameAddr 575 7 127), ({ rolled := false, ksrc := 0, segs := 1, size := 12, last := 1, nonce := [], planes := 255, panels := BitVec.ofNat 576 (2 ^ 576 - 1), tags := [] }), by decide +kernel⟩,
   ⟨w_LoadRecords_3, ([0xFF, 3, 0, 0] ++ zeros576), [1], (List.replicate 576 0), by decide +kernel⟩,
   ⟨w_LoadRecords_4, w_LoadRecords_4b, ([5, 0, 1, 0] ++ bytesLE 4 (frameAddr 575 7 127)), [1], 3, 1, by decide +kernel, someOf _ _ (by decide +kernel)⟩,
   ⟨w_LoadRecords_5, (bytesLE 4 (575 + 255 * 65536 + 8 * 2 ^ 28) ++ [0xFF, 0xFF, 0xFF, 0xFF]), [1], (List.replicate 512 0), 575, 255, ({ rolled := false, ksrc := 0, segs := 1, size := 12, last := 1, nonce := [], planes := 255, panels := BitVec.ofNat 576 (2 ^ 576 - 1), tags := [] }), by decide +kernel⟩,
   ⟨w_LoadRecords_6, (bytesLE 4 63 ++ (1 :: bytesLE 3 76) ++ List.replicate 71 0 ++ [0x80]), [1], ((parseRegion (bytesLE 4 63 ++ (1 :: bytesLE 3 76) ++ List.replicate 71 0 ++ [0x80])).getD { region := 0, part := 0, group := 0, ns := false, panels := [] }), by decide +kernel⟩,
   ⟨w_LoadRecords_7, ([0, 0, 0, 0]), [1], 0, by decide +kernel⟩,
   ⟨w_LoadRecords_8, [], [0], ({ rolled := false, ksrc := 0, segs := 1, size := 12, last := 1, nonce := [], planes := 255, panels := BitVec.ofNat 576 (2 ^ 576 - 1), tags := [] }), by decide +kernel⟩,
   ⟨w_LoadRecords_9, 575, 63, by decide +kernel⟩,
   ⟨up, host, true, by decide +kernel⟩,
   ⟨w_LoadRecords_11, host, true, by decide +kernel⟩⟩

def w_PowerGoodAndResets_5 : State := { up with resets := [(true, 100000001), (false, 7)] }
def w_PowerGoodAndResets_6 : State := { up with resets := [(false, 100000001)] }
def w_PowerGoodAndResets_8 : State := { up with warm := 2 }.wr pgReset DEV_STATE.STATE devHold

theorem met_PowerGoodAndResets :
    (∃ (s : State),
      s.powerGood = false) ∧
    (∃ (s : State),
      s.powerGood = true) ∧
    (∃ (lowNs : Nat),
      lowNs < 1000) ∧
    (∃ (s : State) (lowNs : Nat),
      1000 ≤ lowNs ∧ s.powerGood = true) ∧
    (∃ (s : State) (a : Access),
      s.writeGate a pgReset RESET_REQ.KEY.off 0x5A040000 = .pass) ∧
    (∃ (s : State) (a : Access),
      s.writeGate a pgReset RESET_REQ.KEY.off 0x5A030000 = .pass) ∧
    (∃ (s : State) (at_ : Nat) (rest : List (Bool × Nat)),
      s.pending = [] ∧ s.powerGood = true ∧ s.resets = (true, at_) :: rest ∧ at_ ≤ s.ns + 1) ∧
    (∃ (s : State) (at_ : Nat) (rest : List (Bool × Nat)),
      s.pending = [] ∧ s.powerGood = true ∧ s.resets = (false, at_) :: rest ∧ at_ ≤ s.ns + 1) ∧
    (∃ (s : State),
      s.powerGood = true) ∧
    (∃ (s : State),
      s.warm = 2) :=
  ⟨⟨w_EmptyQueueTicks_0, by decide +kernel⟩,
   ⟨up, by decide +kernel⟩,
   ⟨999, by decide +kernel⟩,
   ⟨up, 1000, by decide +kernel⟩,
   ⟨up, host, by decide +kernel⟩,
   ⟨up, host, by decide +kernel⟩,
   ⟨w_PowerGoodAndResets_5, 100000001, ([(false, 7)]), by decide +kernel⟩,
   ⟨w_PowerGoodAndResets_6, 100000001, [], by decide +kernel⟩,
   ⟨up, by decide +kernel⟩,
   ⟨w_PowerGoodAndResets_8, by decide +kernel⟩⟩

def w_DeviceStatesAndStart_0 : State := up.wr pgReset DEV_STATE.STATE devHold
def w_DeviceStatesAndStart_3 : State := (up.wr pgReset DEV_STATE.STATE devEntering) |> fun s => sailRegs.foldl (fun s g => s.wr pgRig (RIG_DOMAIN.STATE.at g) dmOff) s
def w_DeviceStatesAndStart_4 : State := (up.wr pgReset DEV_STATE.STATE devWaking) |> fun s => sailRegs.foldl (fun s g => s.setRegState g rgOn) s
def w_DeviceStatesAndStart_7 : State := ((List.range 16).foldl (fun s l => s.wr (pgLane l) LANE_CTRL.ENABLE 1) up)

theorem met_DeviceStatesAndStart :
    (∃ (s : State) (a : Access),
      s.writeGate a pgReset DEV_STATE.STATE.off 0x100 = .pass ∧ s.warm = 0 ∧
        (s.devState = devRun ∨ s.devState = devHold ∨ (s.devState = devPark ∧ s.rd pgReset DEV_STATE.CAUSE = 0))) ∧
    (∃ (s : State) (a : Access),
      s.writeGate a pgReset DEV_STATE.STATE.off 0x200 = .pass ∧ s.warm = 0 ∧ (s.devState = devRun ∨ s.devState = devHold)) ∧
    (∃ (s : State) (a : Access),
      s.writeGate a pgReset DEV_STATE.STATE.off 0x300 = .pass ∧ s.warm = 0 ∧
        (s.devState = devRun ∨ s.devState = devHold ∨ (s.devState = devPark ∧ s.rd pgReset DEV_STATE.CAUSE = 0))) ∧
    (∃ (s : State),
      s.devState = devEntering ∧ (∀ g, g ∈ sailRegs → s.domainState g = dmOff)) ∧
    (∃ (s : State),
      s.devState = devWaking ∧ (∀ g, g ∈ sailRegs → s.regState g = rgOn ∧ s.domainState g = dmOn)) ∧
    (∃ (routes : List (Nat × Nat × Nat)),
      (∀ r ∈ routes, r.1 < 128 ∧ r.2.1 < 192 ∧ r.2.2 < 64) ∧ (routes.map (fun r => (r.1, r.2.1))).Nodup) ∧
    (∃ (s : State),
      s.on pgReady READY_SUM.CLOCKS = true) ∧
    (∃ (s : State) (width : Nat) (r : PcieRate),
      (width = 16 ∨ width = 8 ∨ width = 4 ∨ width = 1) ∧ 2 ≤ r.rate ∧ r.rate < 8 ∧ s.pcieRuns = true ∧ width ≤ s.pcieLanes ∧
        (∀ l, l < width → s.laneOn l = true)) :=
  ⟨⟨w_DeviceStatesAndStart_0, host, by decide +kernel⟩,
   ⟨up, host, by decide +kernel⟩,
   ⟨up, host, by decide +kernel⟩,
   ⟨w_DeviceStatesAndStart_3, by decide +kernel⟩,
   ⟨w_DeviceStatesAndStart_4, by decide +kernel⟩,
   ⟨([(127, 191, 63), (0, 0, 7)]), by decide +kernel⟩,
   ⟨up, by decide +kernel⟩,
   ⟨w_DeviceStatesAndStart_7, 16, (⟨7, 0xFFFF, [], 0, []⟩), by decide +kernel⟩⟩

def w_CompletionOfSources_0_1 : State := ((((((up.wr (pgSrc 4095) SRC_CFG.ENABLE 1).wr (pgSrc 4095) SRC_CFG.PRIO 3).wrTgt 31 TGT_CTRL.ENABLE 1).wrTgt 31 TGT_ADDR_LO.ADDR 64)).wr (pgSrc 4095) SRC_STATE.STATE srcActive).wr (pgSrc 4095) SRC_STATE.TARGET 30

theorem met_CompletionOfSources :
    (∃ (s : State) (a : Access) (k : Nat) (v : Word) (src : Nat),
      k < 32 ∧ s.writeGate a (pgTgt k) (tgtFld TGT_COMPLETE.SOURCE k).off v = .pass ∧
        (s.onTgt k TGT_CTRL.SECURE = true → s.whoSecure a.who = true) ∧ partSeen a.who (s.rdTgt k TGT_CTRL.PART) = true ∧
        src = getF v TGT_COMPLETE.SOURCE.lo TGT_COMPLETE.SOURCE.len ∧ src ≠ 0 ∧ s.srcState src = srcActive ∧ s.srcTarget src = k) ∧
    (∃ (s : State) (a : Access) (k : Nat) (v : Word) (src : Nat),
      k < 32 ∧ s.writeGate a (pgTgt k) (tgtFld TGT_COMPLETE.SOURCE k).off v = .pass ∧
        (s.onTgt k TGT_CTRL.SECURE = true → s.whoSecure a.who = true) ∧ partSeen a.who (s.rdTgt k TGT_CTRL.PART) = true ∧
        src = getF v TGT_COMPLETE.SOURCE.lo TGT_COMPLETE.SOURCE.len ∧ src ≠ 0 ∧ ¬ (s.srcState src = srcActive ∧ s.srcTarget src = k)) ∧
    (∃ (s : State) (a : Access) (k : Nat) (v : Word) (src : Nat),
      k < 32 ∧ s.writeGate a (pgTgt k) (tgtFld TGT_COMPLETE.SOURCE k).off v = .pass ∧
        (s.onTgt k TGT_CTRL.SECURE = true → s.whoSecure a.who = true) ∧ partSeen a.who (s.rdTgt k TGT_CTRL.PART) = true ∧
        src = getF v TGT_COMPLETE.SOURCE.lo TGT_COMPLETE.SOURCE.len ∧ src = 0) :=
  ⟨⟨w_InterruptDelivery_4, host, 31, 4095, 4095, by decide +kernel⟩,
   ⟨w_CompletionOfSources_0_1, host, 31, 4095, 4095, by decide +kernel⟩,
   ⟨w_CompletionOfSources_0_1, host, 31, 0, 0, by decide +kernel⟩⟩

theorem met_ResetValues :
    (∃ (t : State),
      (t = State.reset ∨ ∃ (s : State) (straps : Straps) (vbat : Bool), s.powerGood = false ∧ exec (.powerGood straps vbat) s = .next t)) :=
  ⟨State.reset, .inl rfl⟩

theorem met_EveryStepKeepsWellFormedness :
    (∃ (s : State) (t : State),
      s.wf = true ∧ step s = .next t) :=
  ⟨up, up.tick, by decide +kernel, rfl⟩

def w_StepsTakeOneCommand_0 : State := { up with pending := [.sweepStart] }

theorem met_StepsTakeOneCommand :
    (∃ (s : State) (t : State) (c : Instr) (rest : List Instr),
      s.pending = c :: rest ∧ step s = .next t) ∧
    (∃ (s : State) (t : State),
      s.pending = [] ∧ step s = .next t) :=
  ⟨⟨w_StepsTakeOneCommand_0, (after .sweepStart up), .sweepStart, [], by decide +kernel, rfl⟩,
   ⟨up, up.tick, by decide +kernel, rfl⟩⟩

theorem met_KeptByOtherCommands :
    (∃ (addr : Nat),
      addr / 4096 ≠ pgReset) :=
  ⟨(pgScrub * 4096 + SCRUB_REPAIR_TIMEOUT.MS.off), by decide +kernel⟩

end Sys2Proof.Tests
end

namespace Sys2Proof.Machine

open Sys2Proof

/-! ### A probe on the last working spare that does not exhaust the group (R26, R27, R30)

The statement puts nothing on the table of moved signals. `lset` lists a signal once, so no command lists it twice; a state may
(`State.wf` says nothing of the bond groups). Where signal 0 is listed on the spares 64 and 65, the repair of bond 64 drops both entries:
spare 65 carries nothing any more, works, and the group is not exhausted. -/

/-- Memory group 0 of column 0. -/
def twiceMovedId : GroupId := ⟨0, 0, clsMemory, 0⟩

/-- Signal 0 listed on the spares 64 and 65, spare 66 failed, spare 67 working. -/
def twiceMoved : BondGroup := { failed := [66], moved := [(0, 64), (0, 65)] }

/-- The state after reset, but for the group with the signal listed twice. -/
def twiceMovedState : State := State.reset.setGroup twiceMovedId twiceMoved

/-- Signal 0 disagrees with its copy on spare 67 in four intervals. -/
def fourMisses : List (Nat × Nat) := [(0, 67), (0, 67), (0, 67), (0, 67)]

theorem twiceMovedState_group : twiceMovedState.group twiceMovedId = twiceMoved := mget_mset_same ..

/-- The state meets the hypotheses on the last working spare: bond 64 carries signal 0, and spare 67 alone works. -/
theorem twiceMoved_onLastSpare : twiceMoved.working = [67] ∧ twiceMoved.carrier 0 = 64 ∧ 64 ∉ twiceMoved.failed ∧
    twiceMoved.signalOf 64 = some 0 := by decide

/-- The repair itself is as the statement says: bond 64 fails and signal 0 moves to spare 67, its only entry from then on. -/
theorem groupProbe_twiceMoved :
    ∃ t, exec (.groupProbe twiceMovedId fourMisses) twiceMovedState = .next t ∧
      t.group twiceMovedId = { failed := [66, 64], moved := [(0, 67)] } :=
  ⟨({ twiceMovedState with stack := { twiceMovedState.stack with probes := twiceMovedState.stack.probes.erase twiceMovedId } } : State).probe
    twiceMovedId fourMisses, rfl, by decide +kernel⟩

theorem spare65_works_again : ({ failed := [66, 64], moved := [(0, 67)] } : BondGroup).exhausted = false := by decide

/-- Refutes O9: its clause on the last working spare fails where a signal is listed on two spares. -/
theorem not_bondGroupsRepair : ¬ Obligations.BondGroupsRepair := by
  rintro ⟨-, -, -, -, -, lastSpare, -⟩
  obtain ⟨hworking, hcarrier, hfailed, hsignal⟩ := twiceMoved_onLastSpare
  rw [← twiceMovedState_group] at hworking hcarrier hfailed hsignal
  obtain ⟨t, ht, -, -, hexhausted, -⟩ :=
    lastSpare twiceMovedState twiceMovedId 0 67 64 (by decide) (by decide) rfl hworking hcarrier.symm (by decide) hfailed hsignal
  obtain ⟨u, hu, hgroup⟩ := groupProbe_twiceMoved
  obtain rfl : u = t := Host.Outcome.next.inj (hu.symm.trans ht)
  rw [hgroup, spare65_works_again] at hexhausted
  exact absurd hexhausted (by decide)

/-! ### Folds over a state -/

/-- What no step of a fold changes, the fold does not change. -/
theorem foldl_keeps {α β σ : Type} (view : σ → α) (f : σ → β → σ) (h : ∀ s x, view (f s x) = view s) (l : List β) (s : σ) :
    view (l.foldl f s) = view s :=
  List.foldlRecOn l f (motive := fun t => view t = view s) rfl (fun t ht x _ => (h t x).trans ht)

/-! ### Events and tables of the stack (R29, R31, R38) -/

theorem quiet_stackEvent : quiet (pgSpar * 4096 + STACK_EVENT.REPAIR.off) := by
  unfold quiet; decide

@[simp] theorem State.raiseStack_stack (s : State) (bit : Fld) : (s.raiseStack bit).stack = s.stack := State.raise_stack ..
@[simp] theorem State.raiseStack_panels (s : State) (bit : Fld) : (s.raiseStack bit).panels = s.panels := State.raise_panels ..

/-- A bit of STACK_EVENT reads 1 once it has been raised. -/
theorem State.raiseStack_on (s : State) (bit : Fld) (ho : bit.off = STACK_EVENT.REPAIR.off) (hl : bit.len = 1) (hlo : bit.lo < 32) :
    (s.raiseStack bit).rd pgSpar bit = 1 :=
  State.raise_on s pgSpar bit _ _ (ho ▸ quiet_stackEvent) hl hlo

/-- A new entry of the fuse map touches only the entries that wait. -/
theorem State.addFuse_stack (s : State) (e : FuseEntry) :
    ∃ es, (s.addFuse e).stack = { s.stack with pendingFuses := es } := by
  unfold State.addFuse
  split
  · exact ⟨_, rfl⟩
  · exact ⟨s.stack.pendingFuses, State.raiseStack_stack ..⟩

@[simp] theorem State.addFuse_triads (s : State) (e : FuseEntry) : (s.addFuse e).stack.triads = s.stack.triads := by
  obtain ⟨es, h⟩ := s.addFuse_stack e; rw [h]
@[simp] theorem State.addFuse_dead (s : State) (e : FuseEntry) : (s.addFuse e).stack.dead = s.stack.dead := by
  obtain ⟨es, h⟩ := s.addFuse_stack e; rw [h]

@[simp] theorem State.addDead_triads (s : State) (w : Word) : (s.addDead w).stack.triads = s.stack.triads := by
  unfold State.addDead; split <;> rfl

theorem State.addDead_dead (s : State) (w : Word) (h : s.stack.dead.length < 1024) : (s.addDead w).stack.dead = s.stack.dead ++ [w] := by
  simp [State.addDead, h]

/-! ### Clock triads (R31) -/

theorem State.setTriad_triad (s : State) (c t x m d u y : Nat) :
    (s.setTriad c t x m).triad d u y = if 32 * d + 4 * u + y = 32 * c + 4 * t + x then m else s.triad d u y :=
  mget_mset ..

/-- The mask of failed copies is a part of the triads' table. -/
theorem State.triad_congr {s t : State} (h : t.stack.triads = s.stack.triads) (d u y : Nat) : t.triad d u y = s.triad d u y := by
  simp [State.triad, h]

theorem State.failCopy_first (s : State) (c t : Nat) (b : TriadBond) (h : s.triad c t b.crossing = 0) :
    s.failCopy c t b = (s.setTriad c t b.crossing (2 ^ b.copy)).raiseStack STACK_EVENT.CLOCK_DEGRADED := by
  simp [State.failCopy, h, bitOf]

/-- Where copy `j` alone has failed, no other copy is recorded yet, and the triad is not lost. -/
theorem oneCopyFailed : ∀ j < 3, ∀ k < 3, j ≠ k → bitOf (2 ^ j) k = false ∧ triadLost (2 ^ j) = false := by decide

theorem State.failCopy_second (s : State) (c t j : Nat) (b : TriadBond) (hj : j < 3) (hk : b.copy < 3) (hjk : j ≠ b.copy)
    (h : s.triad c t b.crossing = 2 ^ j) :
    s.failCopy c t b = ((((s.setTriad c t b.crossing (2 ^ j + 2 ^ b.copy)).addFuse (.triadLost c t b.crossing)).addDead
      (deadWord clsTriad b.crossing c t 2)).raiseStack STACK_EVENT.CLOCK_LOST).addTask (.column c 0x13 0x13) := by
  obtain ⟨hbit, hlost⟩ := oneCopyFailed j hj _ hk hjk
  simp [State.failCopy, h, hbit, hlost]

/-- CLOCK_COPY_FAILED of a copy that exists is `failCopy`. -/
theorem exec_clockCopyFailed (s : State) {c tr x k : Nat} (hc : c < 288) (ht : tr < 6) (hx : x < (if tr = 0 then 3 else 4)) (hk : k < 3) :
    exec (.clockCopyFailed c tr ⟨x, k⟩) s = .next (s.failCopy c tr ⟨x, k⟩) := by
  simp [exec, execClockCopyFailed, guardUnit, triadOk, hc, ht, hx, hk]

/-- The first failed copy of a triad (R31). -/
theorem clockCopyFailed_first (s : State) (c tr x k : Nat) (hc : c < 288) (ht : tr < 6) (hx : x < (if tr = 0 then 3 else 4))
    (hk : k < 3) (h0 : s.triad c tr x = 0) :
    ∃ t, exec (.clockCopyFailed c tr ⟨x, k⟩) s = .next t ∧ t.triad c tr x = 2 ^ k ∧ t.rd pgSpar STACK_EVENT.CLOCK_DEGRADED = 1 ∧
      (∀ d u y, u < 8 → y < 4 → 32 * d + 4 * u + y ≠ 32 * c + 4 * tr + x → t.triad d u y = s.triad d u y) ∧
      t.stack.toGround = s.stack.toGround ∧ t.panels = s.panels := by
  refine ⟨_, exec_clockCopyFailed s hc ht hx hk, ?_⟩
  rw [State.failCopy_first s c tr ⟨x, k⟩ h0]
  have htriad := State.triad_congr (congrArg Stack.triads (State.raiseStack_stack (s.setTriad c tr x (2 ^ k)) STACK_EVENT.CLOCK_DEGRADED))
  refine ⟨?_, State.raiseStack_on _ _ rfl rfl (by decide), fun d u y _ _ hne => ?_, ?_, ?_⟩
  · rw [htriad, State.setTriad_triad, if_pos rfl]
  · rw [htriad, State.setTriad_triad, if_neg hne]
  · rw [State.raiseStack_stack]; rfl
  · rw [State.raiseStack_panels]; rfl

/-- The second failed copy of a triad (R31). -/
theorem clockCopyFailed_second (s : State) (c tr x j k : Nat) (hc : c < 288) (ht : tr < 6) (hx : x < (if tr = 0 then 3 else 4))
    (hj : j < 3) (hk : k < 3) (hjk : j ≠ k) (h : s.triad c tr x = 2 ^ j) :
    ∃ t, exec (.clockCopyFailed c tr ⟨x, k⟩) s = .next t ∧ t.triad c tr x = 2 ^ j + 2 ^ k ∧
      (s.stack.dead.length < 1024 → t.stack.dead = s.stack.dead ++ [deadWord clsTriad x c tr 2]) ∧
      GroundTask.column c 0x13 0x13 ∈ t.stack.toGround ∧ t.rd pgSpar STACK_EVENT.CLOCK_LOST = 1 := by
  refine ⟨_, exec_clockCopyFailed s hc ht hx hk, ?_⟩
  rw [State.failCopy_second s c tr j ⟨x, k⟩ hj hk hjk h]
  refine ⟨?_, fun hd => ?_, by simp [State.addTask], State.raiseStack_on _ _ rfl rfl (by decide)⟩
  · rw [State.triad_congr (s := s.setTriad c tr x (2 ^ j + 2 ^ k)) (by simp [State.addTask]), State.setTriad_triad, if_pos rfl]
  · have hdead : ((s.setTriad c tr x (2 ^ j + 2 ^ k)).addFuse (.triadLost c tr x)).stack.dead = s.stack.dead := State.addFuse_dead ..
    rw [← hdead] at hd ⊢
    exact (congrArg Stack.dead (State.raiseStack_stack ..)).trans (State.addDead_dead _ _ hd)

/-! ### The fuse map (R29) -/

theorem fuseBurn_burns (s : State) (e : FuseEntry) (es : List FuseEntry) (h : s.stack.pendingFuses = e :: es)
    (hv : s.on pgSpar STACK_FUSEMAP.VFUSE_OK = true) (hpf : s.pfBlocked = false) :
    ∃ t, exec .fuseBurn s = .next t ∧ t.fuses.map = s.fuses.map ++ [e] ∧ t.stack.pendingFuses = es ∧ t.regs = s.regs :=
  ⟨{ s with fuses := { s.fuses with map := s.fuses.map ++ [e] }, stack := { s.stack with pendingFuses := es } },
    by simp [exec, execFuseBurn, h, hv, hpf], rfl, rfl, rfl⟩

/-! ### The census (R33, R464) -/

theorem State.reachStage_census_on (s : State) : (s.reachStage READY_SUM.CENSUS).rd pgReady READY_SUM.CENSUS = 1 := by
  unfold State.reachStage
  split
  case isTrue h => simpa [State.on] using h
  case isFalse => rw [State.rd_wr_reg _ _ _ _ _ _ (by decide), State.rd_wr_same _ _ _ _ (by decide)]; rfl

/-- The stages of readiness stand on a page of their own. -/
theorem State.reachStage_census_state (s : State) :
    (s.reachStage READY_SUM.CENSUS).rd pgSpar STACK_CENSUS.STATE = s.rd pgSpar STACK_CENSUS.STATE := by
  unfold State.reachStage
  split
  · rfl
  · rw [State.rd_wr_reg _ _ _ _ _ _ (by decide), State.rd_wr_reg _ _ _ _ _ _ (by decide)]

/-- The census ends by setting its state and its stage of readiness, whatever it has found. -/
theorem State.census_result (s : State) (found : List (GroupId × Nat)) (copies : List (Nat × Nat × TriadBond)) :
    ∃ (u : State) (lost : Bool), s.census found copies = (u.wr pgSpar STACK_CENSUS.STATE (if lost then 3 else 2)).reachStage READY_SUM.CENSUS :=
  ⟨_, _, rfl⟩

theorem bondCensus_completes (s : State) (found : List (GroupId × Nat)) (copies : List (Nat × Nat × TriadBond))
    (hf : found.all (fun f => groupOk f.1 && f.2 < 68) = true) (hc : copies.all (fun x => x.1 < 288 && triadOk x.2.1 x.2.2) = true)
    (hr : s.on pgReady READY_SUM.REGULATORS = true) (h0 : s.rd pgSpar STACK_CENSUS.STATE = 0) :
    ∃ t, exec (.bondCensus found copies) s = .next t ∧ (t.rd pgSpar STACK_CENSUS.STATE = 2 ∨ t.rd pgSpar STACK_CENSUS.STATE = 3) ∧
      t.rd pgReady READY_SUM.CENSUS = 1 := by
  refine ⟨s.census found copies, ?_, ?_⟩
  · simp only [exec, execBondCensus, guardUnit, hf, hc, hr, h0, Bool.and_self, and_self, if_true]
  · obtain ⟨u, lost, h⟩ := s.census_result found copies
    rw [h, State.reachStage_census_state, State.rd_wr_same _ _ _ _ (by decide)]
    refine ⟨?_, State.reachStage_census_on _⟩
    cases lost
    · exact .inl rfl
    · exact .inr rfl

/-! ### Grounding a panel (R35, R125) -/

/-- A panel is a part of the panels' table. -/
theorem State.panel_congr {s t : State} (h : t.panels = s.panels) (p : Nat) : t.panel p = s.panel p := by
  simp [State.panel, h]

@[simp] theorem State.add_panels (s : State) (pg : Nat) (f : Fld) (n : Nat) : (s.add pg f n).panels = s.panels := rfl

@[simp] theorem State.catchKeepers_panels (t s : State) (c : Nat) : (t.catchKeepers s c).panels = t.panels := by
  simp only [State.catchKeepers, State.free, apply_ite State.panels, State.setColumn_panels, ite_self]

@[simp] theorem State.applyChoice_panels (s : State) (p r old new : Nat) : (s.applyChoice p r old new).panels = s.panels := by
  simp [State.applyChoice, apply_ite State.panels]

@[simp] theorem State.holdKeepers_panels (s : State) (p : Nat) : (s.holdKeepers p).panels = s.panels := by
  refine foldl_keeps State.panels _ (fun t e => ?_) _ s
  split
  · exact State.applyChoice_panels ..
  · rfl

theorem State.catchCascade_borderHold (t s : State) (p : Nat) : ((t.catchCascade s p).panel p).borderHold = (t.panel p).borderHold := by
  simp [State.catchCascade]

/-- Whether they had engaged before or not, the border holds of the panel are engaged (R125). -/
theorem State.engageHold_borderHold (s : State) (p : Nat) : ((s.engageHold p).panel p).borderHold = true := by
  unfold State.engageHold
  split
  case isTrue h => exact h
  case isFalse =>
    rw [State.panel_congr (State.holdKeepers_panels ..), State.panel_congr (State.catchKeepers_panels ..),
      State.catchCascade_borderHold, State.setPanel_panel_same]

@[simp] theorem State.recordLost_panels (s : State) (p q n : Nat) (slot : Option Nat) (full : Bool) :
    (s.recordLost p q n slot full).panels = s.panels := by
  cases slot with
  | none => simp [State.recordLost, State.raiseCtx]
  | some i => simp [State.recordLost, State.raiseCtx, apply_ite State.panels]

@[simp] theorem State.loseSaves_panels (s : State) (p : Nat) : (s.loseSaves p).panels = s.panels := by
  simp only [State.loseSaves]
  split
  · exact foldl_keeps State.panels _ (fun t x => State.recordLost_panels ..) _ s
  · exact foldl_keeps State.panels _ (fun t x => State.recordLost_panels ..) _ s

theorem State.unpend_borderHold (s : State) (p : Nat) (qs : List Nat) : ((s.unpend p qs).panel p).borderHold = (s.panel p).borderHold := by
  refine foldl_keeps (fun t => (State.panel t p).borderHold) _ (fun t q => ?_) qs s
  simp only [State.setQswap, State.setPanel_panel_same]
  split <;> rfl

theorem State.unholdPf_borderHold (s : State) (p : Nat) : ((s.unholdPf p).panel p).borderHold = (s.panel p).borderHold := by
  have h : (s.unholdPf p).panels = (s.setPanel p { s.panel p with heldPf := none }).panels := rfl
  rw [State.panel_congr h, State.setPanel_panel_same]

theorem State.dropSwaps_borderHold (s : State) (p : Nat) : ((s.dropSwaps p).panel p).borderHold = (s.panel p).borderHold := by
  simp only [State.dropSwaps, State.setPanel_panel_same]
  rw [← State.unpend_borderHold s p [0, 1, 2, 3]]
  generalize s.unpend p [0, 1, 2, 3] = u
  split
  · exact State.unholdPf_borderHold u p
  · rfl

@[simp] theorem State.losePort_panels (s : State) (b : Nat) : (s.losePort b).panels = s.panels := rfl
@[simp] theorem State.failPort_panels (s : State) (b : Nat) : (s.failPort b).panels = s.panels := rfl

@[simp] theorem State.releasePorts_panels (s : State) (p : Nat) : (s.releasePorts p).panels = s.panels :=
  foldl_keeps State.panels (fun s i => s.releaseTags (26 + i)) (fun _ _ => rfl) _ s

@[simp] theorem State.endSweep_panels (s : State) : s.endSweep.panels = s.panels := by
  simp [State.endSweep, State.raisePf, apply_ite State.panels]

@[simp] theorem State.beginSweep_panels (s : State) : s.beginSweep.panels = s.panels := rfl

@[simp] theorem State.judgeSweep_panels (s : State) : s.judgeSweep.panels = s.panels := by
  simp [State.judgeSweep, apply_ite State.panels]

/-- The state in which a panel that is being grounded stands behind its border holds, without a slice, saves or swaps. -/
def State.cutOff (s : State) (p : Nat) : State := (((s.abortSlice p pcPanelState false).engageHold p).loseSaves p).dropSwaps p

theorem State.cutOff_borderHold (s : State) (p : Nat) : ((s.cutOff p).panel p).borderHold = true := by
  rw [State.cutOff, State.dropSwaps_borderHold, State.panel_congr (State.loseSaves_panels ..), State.engageHold_borderHold]

/-- What is grounded beside the panel (its bank port, its initiator ports, the loader and the sweep) leaves the panel as it is. -/
theorem State.groundPanel_panel (s : State) (p reason : Nat) (h : (s.panel p).grounded = 0) :
    (s.groundPanel p reason).panel p =
      { (s.cutOff p).panel p with grounded := reason, cells := resetFlops ((s.cutOff p).panel p).cells } := by
  refine (State.panel_congr ?_ p).trans (State.setPanel_panel_same (s.cutOff p) p _)
  simp only [State.groundPanel, if_neg (not_not_intro h), State.judgeSweep_panels, State.releasePorts_panels, State.losePort_panels,
    State.failPort_panels, State.cutOff]

theorem exec_grounding (s : State) (task : GroundTask) (ts : List GroundTask) (h : s.stack.toGround = task :: ts) :
    exec .grounding s = .next ({ s with stack := { s.stack with toGround := ts } }.ground task) := by
  simp only [exec, execGrounding, h]

/-- A panel in service is grounded with its reason, behind its border holds (R34, R35). -/
theorem State.ground_panel (s : State) (p reason : Nat) (h : (s.panel p).grounded = 0) :
    ((s.ground (.panel p reason)).panel p).grounded = reason ∧ ((s.ground (.panel p reason)).panel p).borderHold = true := by
  have hhold := s.cutOff_borderHold p
  rw [State.ground, State.groundPanel_panel s p reason h]
  generalize (s.cutOff p).panel p = x at hhold ⊢
  exact ⟨rfl, hhold⟩

theorem grounding_groundsPanel (s : State) (p reason : Nat) (ts : List GroundTask) (ht : s.stack.toGround = .panel p reason :: ts)
    (h : (s.panel p).grounded = 0) :
    ∃ t, exec .grounding s = .next t ∧ (t.panel p).grounded = reason ∧ (t.panel p).borderHold = true :=
  ⟨_, exec_grounding s _ ts ht, State.ground_panel _ p reason h⟩

/-- Settles O10: each of its clauses is the lemma about its command. -/
theorem triadsFusesAndCensus : Obligations.TriadsFusesAndCensus :=
  ⟨clockCopyFailed_first, clockCopyFailed_second, fuseBurn_burns,
    fun s p reason ts ht _ _ h => grounding_groundsPanel s p reason ts ht h, bondCensus_completes⟩

end Sys2Proof.Machine

namespace Sys2Proof.Machine

open Sys2Proof

/-! ### Bits of a number -/

theorem bitOf_eq_testBit (m i : Nat) : bitOf m i = m.testBit i := by
  rw [Nat.testBit_eq_decide_div_mod_eq]; rfl

/-- A field of `w` bits holds the low bits of what was written to it. -/
theorem bitOf_mod_two_pow (m : Nat) {w i : Nat} (h : i < w) : bitOf (m % 2 ^ w) i = bitOf m i := by
  simp [bitOf_eq_testBit, Nat.testBit_mod_two_pow, h]

theorem bitOf_add_two_pow {m i : Nat} (h : bitOf m i = false) : bitOf (m + 2 ^ i) i = true := by
  rw [bitOf_eq_testBit] at h ⊢
  rw [Nat.add_comm, Nat.testBit_two_pow_add_eq, h]; rfl

/-- A number in which bit `i` has been set has it. -/
theorem bitOf_set (m i : Nat) : bitOf (if bitOf m i then m else m + 2 ^ i) i = true := by
  split
  case isTrue h => exact h
  case isFalse h => exact bitOf_add_two_pow (eq_false_of_ne_true h)

/-- A number with bit `i` set is `2 ^ i` more than one whose bits are the same but for a 0 there. -/
theorem bitOf_sub_two_pow {m i : Nat} (h : bitOf m i = true) (j : Nat) : bitOf (m - 2 ^ i) j = (bitOf m j && j != i) := by
  have hlow : m % 2 ^ i < 2 ^ i := Nat.mod_lt _ (Nat.two_pow_pos i)
  have hpow : 2 ^ (i + 1) = 2 ^ i + 2 ^ i := by rw [Nat.pow_succ, Nat.mul_two]
  have hm : m = 2 ^ (i + 1) * (m / 2 ^ (i + 1)) + (2 ^ i + m % 2 ^ i) := by
    have hbit : m / 2 ^ i % 2 = 1 := by simpa [bitOf] using h
    have hlast : m % 2 ^ (i + 1) = m % 2 ^ i + 2 ^ i * (m / 2 ^ i % 2) := Nat.mod_mul
    have hsum := Nat.div_add_mod m (2 ^ (i + 1))
    rw [hlast, hbit] at hsum
    omega
  generalize m / 2 ^ (i + 1) = q at hm
  generalize m % 2 ^ i = r at hm hlow
  have hsub : m - 2 ^ i = 2 ^ (i + 1) * q + r := by omega
  rw [bitOf_eq_testBit, bitOf_eq_testBit, hsub, hm, Nat.testBit_two_pow_mul_add _ (by omega), Nat.testBit_two_pow_mul_add _ (by omega)]
  rcases Nat.lt_trichotomy j i with hj | rfl | hj
  · simp [Nat.lt_succ_of_lt hj, Nat.testBit_two_pow_add_gt hj, Nat.ne_of_lt hj]
  · simp [Nat.testBit_lt_two_pow hlow]
  · simp [Nat.not_lt.mpr hj, Nat.ne_of_gt hj]

/-! ### A write that passes the checks (R11, R42) -/

/-- The hardware adds nothing to the field in the cycle of a write: it is no W1C field and no counter (R11). -/
def FieldRow.steady (r : FieldRow) : Bool :=
  match r.acc with
  | .w1c => false
  | .rw => r.rng != [(0, 0)]
  | _ => true

theorem FieldRow.steady_iff (r : FieldRow) : r.steady = true ↔ r.acc ≠ .w1c ∧ (r.acc = .rw → r.rng ≠ [(0, 0)]) := by
  unfold FieldRow.steady
  cases r.acc <;> simp

theorem keepSame_steady (rs : List FieldRow) (old same w : Word) (h : rs.all FieldRow.steady = true) : keepSame rs old same w = w := by
  refine List.foldlRecOn rs _ (motive := fun x => x = w) rfl fun x hx r hr => ?_
  obtain ⟨hflag, hcounter⟩ := r.steady_iff.mp (List.all_eq_true.mp h r hr)
  dsimp only
  split
  · exact absurd ‹_› hflag
  · rw [if_neg (hcounter ‹_›)]; exact hx
  · exact hx

/-- `u` is `t`, but for how its table lists the registers. -/
def SameRegs (t u : State) : Prop := (∃ r, u = { t with regs := r }) ∧ ∀ b, u.reg b = t.reg b

theorem SameRegs.rd {t u : State} (h : SameRegs t u) (pg : Nat) (f : Fld) : u.rd pg f = t.rd pg f := by
  simp [State.rd, h.2]

theorem SameRegs.resp {t u : State} (h : SameRegs t u) : u.resp = t.resp := by
  obtain ⟨⟨r, rfl⟩, -⟩ := h; rfl

theorem SameRegs.srcSel {t u : State} (h : SameRegs t u) : u.srcSel = t.srcSel := by
  obtain ⟨⟨r, rfl⟩, -⟩ := h; rfl

/-- In a register of steady fields nothing of the write's cycle is kept. -/
theorem State.withSame_steady (s : State) {pg off i : Nat} {k : PageKind} (home : Nat) (old same : Word)
    (hp : pageOf pg = some (k, i)) (h : (rowsAt k i off).all FieldRow.steady = true) : SameRegs s (s.withSame pg home off old same) := by
  unfold State.withSame
  split
  · exact ⟨⟨s.regs, rfl⟩, fun _ => rfl⟩
  · simp only [hp, keepSame_steady _ _ _ _ h]
    refine ⟨⟨_, rfl⟩, fun b => ?_⟩
    rw [State.setReg_reg]
    split
    case isTrue hb => rw [hb]
    case isFalse => rfl

/-- A write that passes the checks to a register of steady fields makes its own effect and nothing else. -/
theorem State.gatedWrite_steady {s t : State} {a : Access} {pg off i : Nat} {k : PageKind} {v : Word} {body : State → Option State}
    (hp : pageOf pg = some (k, i)) (h : (rowsAt k i off).all FieldRow.steady = true) (hg : s.writeGate a pg off v = .pass)
    (hb : body (s.respond .ok 0) = some t) : SameRegs t (s.gatedWrite a pg off v body) := by
  simp only [State.gatedWrite, hg, hb]
  exact State.withSame_steady t _ _ _ hp h

/-! ### The page header (R46) -/

/-- A command that names a unit of the device goes on (log entry 4). -/
theorem guardUnit_true {ok : Bool} (t : State) (h : ok = true) : guardUnit ok t = .next t := if_pos h

theorem headed_page {pg : Nat} (h : headed pg = true) : ∃ k i, pageOf pg = some (k, i) ∧ hasHeader k = true := by
  simp only [headed, Bool.and_eq_true] at h
  obtain ⟨-, h⟩ := h
  split at h
  · exact ⟨_, _, ‹_›, h⟩
  · contradiction

/-- The registers of the header are the same on every page that has one. -/
theorem rowsAt_header {k : PageKind} (i : Nat) {off : Nat} (hk : hasHeader k = true) (ho : off < 0x40) :
    rowsAt k i off = rowsHeader.filter (·.covers off) := by
  simp [rowsAt, hk, ho]

/-- A write to the header that passes the checks makes its own effect and nothing else. -/
theorem headerWrite_effect {s t : State} {a : Access} {pg off : Nat} {v : Word} {body : State → Option State} (hd : headed pg = true)
    (ho : off < 0x40) (h : (rowsHeader.filter (·.covers off)).all FieldRow.steady = true) (hg : s.writeGate a pg off v = .pass)
    (hb : body (s.respond .ok 0) = some t) :
    ∃ u, guardUnit (headerAt pg) (s.gatedWrite a pg off v body) = .next u ∧ SameRegs t u := by
  obtain ⟨k, i, hp, hk⟩ := headed_page hd
  have hat : headerAt pg = true := by rw [headerAt, hd, Bool.true_or]
  refine ⟨_, guardUnit_true _ hat, State.gatedWrite_steady hp ?_ hg hb⟩
  rwa [rowsAt_header i hk ho]

/-! ### Function reset of a page (R48, R332) -/

/-- One field, written on several pages, reads what was written on those pages and as before on the others. -/
theorem State.foldl_wr_rd (g : Nat → Nat) (f : Fld) (v pg : Nat) (hf : f.lo + f.len ≤ 32) (l : List Nat) (s : State) :
    (l.foldl (fun s i => s.wr (g i) f v) s).rd pg f = if pg ∈ l.map g then v % 2 ^ f.len else s.rd pg f := by
  induction l generalizing s with
  | nil => simp
  | cons i l ih =>
    rw [List.foldl_cons, ih]
    by_cases hl : pg ∈ l.map g
    · simp [hl]
    · by_cases hi : pg = g i
      · simp [hi, State.rd_wr_same _ _ _ _ hf]
      · rw [State.rd_wr_reg _ _ _ _ _ _ (by omega)]
        simp [hl, hi]

theorem ite_eq_some_iff {α : Type} {c : Prop} [Decidable c] {a b : Option α} {x : α} :
    (if c then a else b) = some x ↔ c ∧ a = some x ∨ ¬ c ∧ b = some x := by
  by_cases h : c
  · rw [if_pos h]; simp only [h, true_and, not_true, false_and, or_false]
  · rw [if_neg h]; simp only [h, false_and, not_false_eq_true, true_and, false_or]

/-- The pages of the interrupt controller are the four from 0x20 (R44). -/
theorem pageOf_intc {pg i : Nat} {k : PageKind} (hp : pageOf pg = some (k, i)) (hk : isIntc k = true) :
    pg ∈ (List.range 4).map pgIntc := by
  have hpages : pg = 0x20 ∨ pg = 0x21 ∨ pg = 0x22 ∨ pg = 0x23 := by
    simp only [isIntc, Bool.or_eq_true, decide_eq_true_eq] at hk
    rcases hk with (rfl | rfl) | rfl
    all_goals
      simp only [pageOf, ite_eq_some_iff, Option.some.injEq, Prod.mk.injEq, reduceCtorEq, false_and, and_false, or_false, false_or] at hp
      omega
  rcases hpages with rfl | rfl | rfl | rfl <;> decide

theorem State.setBusy_rd (s : State) {pg i : Nat} {k : PageKind} (v : Nat) (hp : pageOf pg = some (k, i)) :
    (s.setBusy pg v).rd pg PAGE_RESET.BUSY = v % 2 := by
  simp only [State.setBusy, hp]
  split
  case isTrue hk => rw [State.foldl_wr_rd pgIntc _ _ _ (by decide), if_pos (pageOf_intc hp hk)]; rfl
  case isFalse => exact State.rd_wr_same _ _ _ _ (by decide)

theorem pageResetBody_key {s : State} {pg i : Nat} {k : PageKind} (hp : pageOf pg = some (k, i)) (hk : capResettable k = true)
    (hb : s.on pg PAGE_RESET.BUSY = false) (hi : s.initialising pg = false) : pageResetBody pg 0x5A01 s = some (s.startReset pg) := by
  simp [pageResetBody, hp, hk, hb, hi]

theorem pageReset_setsBusy (s : State) (a : Access) (pg : Nat) (k : PageKind) (i : Nat) (hd : headed pg = true)
    (hp : pageOf pg = some (k, i)) (hk : capResettable k = true) (hg : s.writeGate a pg PAGE_RESET.KEY.off 0x5A01 = .pass)
    (hb : s.on pg PAGE_RESET.BUSY = false) (hi : s.initialising pg = false) :
    ∃ t, exec (.pageReset a pg) s = .next t ∧ t.rd pg PAGE_RESET.BUSY = 1 := by
  obtain ⟨u, hu, hsame⟩ := headerWrite_effect hd (by decide) (by decide) hg (pageResetBody_key (s := s.respond .ok 0) hp hk hb hi)
  exact ⟨u, hu, (hsame.rd ..).trans (State.setBusy_rd _ 1 hp)⟩

theorem exec_pageResetDone {s : State} {pg : Nat} (hd : headed pg = true) (hb : s.on pg PAGE_RESET.BUSY = true)
    (hpcie : pg ≠ pgPcie ∨ s.perstLow = false) : exec (.pageResetDone pg) s = .next (s.setBusy pg 0) := by
  have hends : ¬ (s.on pg PAGE_RESET.BUSY = false ∨ (pg = pgPcie ∧ s.perstLow = true)) := by
    rcases hpcie with h | h <;> simp [hb, h]
  exact (guardUnit_true _ hd).trans (congrArg Host.Outcome.next (if_neg hends))

theorem pageResetDone_clearsBusy (s : State) (pg : Nat) (hd : headed pg = true) (hb : s.on pg PAGE_RESET.BUSY = true)
    (hpcie : pg ≠ pgPcie ∨ s.perstLow = false) : ∃ t, exec (.pageResetDone pg) s = .next t ∧ t.rd pg PAGE_RESET.BUSY = 0 := by
  obtain ⟨k, i, hp, -⟩ := headed_page hd
  exact ⟨_, exec_pageResetDone hd hb hpcie, State.setBusy_rd s 0 hp⟩

/-! ### Expert registers (R50) -/

theorem expertBody_unlock {s : State} {pg i : Nat} {k : PageKind} (hp : pageOf pg = some (k, i)) (hk : capExpert k = true) :
    expertBody pg 0xE0E0 s = some (s.wr pg PAGE_EXPERT.UNLOCKED 1) := by
  simp [expertBody, hp, hk]

theorem expertBody_lock {s : State} {pg i : Nat} {k : PageKind} (hp : pageOf pg = some (k, i)) :
    expertBody pg 0 s = some (s.wr pg PAGE_EXPERT.UNLOCKED 0) := by
  simp [expertBody, hp]

/-- A write of PAGE_EXPERT that leaves `n` in UNLOCKED: what it completes with and what it leaves. -/
theorem expertWrite_sets {s : State} {a : Access} {pg n : Nat} {v : Word} (hn : n < 2) (hd : headed pg = true)
    (hg : s.writeGate a pg PAGE_EXPERT.KEY.off v = .pass)
    (hb : expertBody pg v (s.respond .ok 0) = some ((s.respond .ok 0).wr pg PAGE_EXPERT.UNLOCKED n)) :
    ∃ t, guardUnit (headerAt pg) (s.gatedWrite a pg PAGE_EXPERT.KEY.off v (expertBody pg v)) = .next t ∧
      t.rd pg PAGE_EXPERT.UNLOCKED = n ∧ t.resp = ⟨.ok, 0⟩ ∧ ∀ b, b ≠ pg * 4096 + PAGE_EXPERT.UNLOCKED.off → t.reg b = s.reg b := by
  obtain ⟨u, hu, hsame⟩ := headerWrite_effect hd (by decide) (by decide) hg hb
  refine ⟨u, hu, ?_, hsame.resp, fun b hne => (hsame.2 b).trans (State.wr_reg _ _ _ _ _ hne)⟩
  rw [hsame.rd, State.rd_wr_same _ _ _ _ (by decide)]
  exact Nat.mod_eq_of_lt hn

/-! ### The world of a page (R46, R47) -/

/-- The register PAGE_WORLD has the fields SECURE and LOCK. -/
theorem worldRows : rowsHeader.filter (·.covers PAGE_WORLD.SECURE.off) =
    [⟨PAGE_WORLD.SECURE, 1, .rwl, 1, clPC, []⟩, ⟨PAGE_WORLD.LOCK, 1, .w1s, 0, clPC, []⟩] := by decide

/-- SECURE takes the written value, and LOCK the written bit beside its own. -/
theorem State.storeReg_world (s : State) {pg i : Nat} {k : PageKind} (v : Word) (hp : pageOf pg = some (k, i)) (hk : hasHeader k = true) :
    s.storeReg pg PAGE_WORLD.SECURE.off v = s.setReg (pg * 4096 + PAGE_WORLD.SECURE.off)
      (setF (setF (s.reg (pg * 4096 + PAGE_WORLD.SECURE.off)) 0 1 (getF v 0 1)) 1 1 (s.rd pg PAGE_WORLD.LOCK ||| getF v 1 1)) := by
  simp only [State.storeReg, hp, rowsAt_header i hk (show PAGE_WORLD.SECURE.off < 0x40 by decide), worldRows]
  rfl

theorem pageWorldBody_admits {s : State} {pg i : Nat} {k : PageKind} {v : Word} (hp : pageOf pg = some (k, i))
    (h : capWorldSet k = true ∨ getF v 0 1 = s.rd pg PAGE_WORLD.SECURE) :
    pageWorldBody pg v s = some (s.storeReg pg PAGE_WORLD.SECURE.off v) := by
  have hadmits : ¬ (capWorldSet k = false ∧ getF v 0 1 ≠ s.rd pg PAGE_WORLD.SECURE) := by
    rcases h with h | h <;> simp [h]
  simp [pageWorldBody, hp, hadmits]

theorem pageWorldWrite_sets (s : State) (a : Access) (pg : Nat) (v : Word) (k : PageKind) (i : Nat) (hd : headed pg = true)
    (hp : pageOf pg = some (k, i)) (hg : s.writeGate a pg PAGE_WORLD.SECURE.off v = .pass)
    (h : capWorldSet k = true ∨ getF v 0 1 = s.rd pg PAGE_WORLD.SECURE) :
    ∃ t, exec (.pageWorldWrite a pg v) s = .next t ∧ t.rd pg PAGE_WORLD.SECURE = getF v 0 1 ∧
      t.rd pg PAGE_WORLD.LOCK = s.rd pg PAGE_WORLD.LOCK ||| getF v 1 1 ∧
      ∀ b, b ≠ pg * 4096 + PAGE_WORLD.SECURE.off → t.reg b = s.reg b := by
  obtain ⟨u, hu, hsame⟩ := headerWrite_effect hd (by decide) (by decide) hg (pageWorldBody_admits (s := s.respond .ok 0) hp h)
  obtain ⟨k', i', hp', hk⟩ := headed_page hd
  rw [State.storeReg_world _ v hp' hk] at hsame
  have hword := (hsame.2 _).trans (State.setReg_reg_same ..)
  refine ⟨u, hu, ?_, ?_, fun b hne => (hsame.2 b).trans ?_⟩
  · refine (congrArg (getF · 0 1) hword).trans ?_
    rw [getF_setF_ne _ _ _ _ _ _ (by decide), getF_setF_same _ _ _ _ (by decide)]
    exact Nat.mod_mod _ _
  · refine (congrArg (getF · 1 1) hword).trans ?_
    rw [getF_setF_same _ _ _ _ (by decide)]
    exact Nat.mod_eq_of_lt (Nat.or_lt_two_pow (State.rd_lt ..) (Nat.mod_lt _ (by decide)))
  · rw [State.setReg_reg, if_neg hne]; rfl

/-! ### LEGACY of the interrupt controller (R62, R63) -/

/-- The register of a source that has counted 15 events and lost others. -/
def fullSource (w : Word) : Word := setF (setF w SRC_STATE.COUNT.lo SRC_STATE.COUNT.len 15) SRC_STATE.OVF.lo 1 1

/-- What `State.clipCounters` makes of the register at BAR0 offset `a`. -/
def clipRegister (a : Nat) (w : Word) : Word :=
  match pageOf (a / 4096) with
  | some (.winSrc, _) =>
    if a % 4096 = SRC_STATE.COUNT.off ∧ 15 < getF w SRC_STATE.COUNT.lo SRC_STATE.COUNT.len then fullSource w else w
  | _ => w

theorem State.clipCounters_eq (s : State) : s.clipCounters = { s with regs := mmap regReset clipRegister s.regs } := rfl

/-- A register reads as it is clipped, where its reset value is not above the clip. -/
theorem State.clipCounters_reg (s : State) (a : Nat) (hs : sorted regReset s.regs = true) (h : clipRegister a (regReset a) = regReset a) :
    s.clipCounters.reg a = clipRegister a (s.reg a) := by
  rw [State.clipCounters_eq]
  exact mget_mmap _ _ _ _ hs h

theorem fullSource_count (w : Word) : getF (fullSource w) SRC_STATE.COUNT.lo SRC_STATE.COUNT.len = 15 := by
  rw [fullSource, getF_setF_ne _ _ _ _ _ _ (by decide), getF_setF_same _ _ _ _ (by decide)]
  rfl

/-- The windows of the interrupt sources, one page each (R351). -/
theorem pageOf_pgSrc {n : Nat} (h : n < 4096) : pageOf (pgSrc n) = some (.winSrc, n) := by
  have hlow : ¬ 0x10000 + n < 0x1000 := by omega
  have hmid : ¬ 0x10000 + n < 0x10000 := by omega
  have hwin : 0x10000 + n < 0x11000 := by omega
  rw [pgSrc, pageOf, if_neg hlow, if_neg hmid, if_pos hwin, Nat.add_sub_cancel_left]

theorem clipRegister_source {n : Nat} (h : n < 4096) (w : Word) : clipRegister (pgSrc n * 4096 + SRC_STATE.COUNT.off) w =
    if 15 < getF w SRC_STATE.COUNT.lo SRC_STATE.COUNT.len then fullSource w else w := by
  have hpage : (pgSrc n * 4096 + SRC_STATE.COUNT.off) / 4096 = pgSrc n := by
    rw [show SRC_STATE.COUNT.off = 0x50 from rfl]; omega
  have hoff : (pgSrc n * 4096 + SRC_STATE.COUNT.off) % 4096 = SRC_STATE.COUNT.off := by
    rw [show SRC_STATE.COUNT.off = 0x50 from rfl]; omega
  simp [clipRegister, hpage, hoff, pageOf_pgSrc h]

/-- A source has counted no event at reset. -/
theorem regReset_source {n : Nat} (h : n < 4096) : regReset (pgSrc n * 4096 + SRC_STATE.COUNT.off) = 0 := by
  rw [regReset_congr (pgSrc n) (pgSrc 0) SRC_STATE.COUNT.off n 0 .winSrc (pageOf_pgSrc h) (pageOf_pgSrc (by decide)) (by decide) (by decide)]
  decide

theorem State.clipCounters_count (s : State) {n : Nat} (h : n < 4096) (hs : sorted regReset s.regs = true) :
    s.clipCounters.rd (pgSrc n) SRC_STATE.COUNT = min 15 (s.rd (pgSrc n) SRC_STATE.COUNT) := by
  have hreset : clipRegister (pgSrc n * 4096 + SRC_STATE.COUNT.off) (regReset (pgSrc n * 4096 + SRC_STATE.COUNT.off)) =
      regReset (pgSrc n * 4096 + SRC_STATE.COUNT.off) := by
    rw [clipRegister_source h, regReset_source h]; decide
  rw [State.rd, State.clipCounters_reg _ _ hs hreset, clipRegister_source h]
  split
  case isTrue hover => exact (fullSource_count _).trans (Nat.min_eq_left (Nat.le_of_lt hover)).symm
  case isFalse hover => exact (Nat.min_eq_right (Nat.le_of_not_lt hover)).symm

theorem State.clipCounters_legacy (s : State) (hs : sorted regReset s.regs = true) :
    s.clipCounters.rd (pgIntc 0) PAGE_COMPAT.LEGACY = s.rd (pgIntc 0) PAGE_COMPAT.LEGACY :=
  congrArg (getF · 0 1) (State.clipCounters_reg s _ hs rfl)

/-- The state after an admitted write of LEGACY of the interrupt controller. -/
def State.withLegacy (s : State) (legacy : Bool) : State :=
  if bnat legacy = s.rd (pgIntc 0) PAGE_COMPAT.LEGACY then s
  else if legacy then (s.wr (pgIntc 0) PAGE_COMPAT.LEGACY 1).clipCounters
  else s.wr (pgIntc 0) PAGE_COMPAT.LEGACY 0

theorem pageCompatBody_intc {s : State} {legacy : Bool} (h : s.on (pgIntc 0) INTC_GLOBAL.DELIVER = false) :
    pageCompatBody (pgIntc 0) (BitVec.ofNat 32 (bnat legacy)) s = some (s.withLegacy legacy) := by
  have hp : pageOf (pgIntc 0) = some (.intc0, 0) := rfl
  have hv : getF (BitVec.ofNat 32 (bnat legacy)) 0 1 = bnat legacy := by cases legacy <;> decide
  have hadmitted : s.legacyAdmitted (pgIntc 0) = true := by simp [State.legacyAdmitted, hp, h]
  simp only [pageCompatBody, hp, hv, hadmitted, State.withLegacy]
  cases legacy
  · simp [bnat, apply_ite some]
  · simp [bnat, capLegacy, apply_ite some]

theorem State.withLegacy_legacy (s : State) (legacy : Bool) (hs : sorted regReset s.regs = true) :
    (s.withLegacy legacy).rd (pgIntc 0) PAGE_COMPAT.LEGACY = bnat legacy := by
  unfold State.withLegacy
  split
  case isTrue h => exact h.symm
  case isFalse =>
    cases legacy
    · exact State.rd_wr_same _ _ _ _ (by decide)
    · exact (State.clipCounters_legacy _ (State.setReg_sorted s _ _ hs)).trans (State.rd_wr_same _ _ _ _ (by decide))

/-- The counters are clipped where LEGACY changes from 0 to 1. -/
theorem State.withLegacy_count (s : State) (legacy : Bool) {n : Nat} (hn : n < 4096) (hs : sorted regReset s.regs = true) :
    (s.withLegacy legacy).rd (pgSrc n) SRC_STATE.COUNT =
      if legacy = true ∧ s.rd (pgIntc 0) PAGE_COMPAT.LEGACY = 0 then min 15 (s.rd (pgSrc n) SRC_STATE.COUNT)
      else s.rd (pgSrc n) SRC_STATE.COUNT := by
  have hkept (v : Nat) : (s.wr (pgIntc 0) PAGE_COMPAT.LEGACY v).rd (pgSrc n) SRC_STATE.COUNT = s.rd (pgSrc n) SRC_STATE.COUNT := by
    refine State.rd_wr_reg _ _ _ _ _ _ ?_
    simp only [pgSrc, pgIntc, SRC_STATE.COUNT, PAGE_COMPAT.LEGACY]
    omega
  have hbit : s.rd (pgIntc 0) PAGE_COMPAT.LEGACY < 2 := State.rd_lt ..
  unfold State.withLegacy
  cases legacy
  · simp [hkept, apply_ite (State.rd · (pgSrc n) SRC_STATE.COUNT)]
  · have hclip := State.clipCounters_count (s.wr (pgIntc 0) PAGE_COMPAT.LEGACY 1) hn (State.setReg_sorted s _ _ hs)
    by_cases h : s.rd (pgIntc 0) PAGE_COMPAT.LEGACY = 0
    · simp [h, bnat, hclip, hkept]
    · have h1 : s.rd (pgIntc 0) PAGE_COMPAT.LEGACY = 1 := by omega
      simp [h1, bnat]

theorem legacyChange_intc (s : State) (a : Access) (legacy : Bool) (hw : s.wf = true)
    (hg : s.writeGate a (pgIntc 0) PAGE_COMPAT.LEGACY.off (BitVec.ofNat 32 (bnat legacy)) = .pass)
    (hd : s.on (pgIntc 0) INTC_GLOBAL.DELIVER = false) :
    ∃ t, exec (.legacyChange a (pgIntc 0) legacy) s = .next t ∧ t.rd (pgIntc 0) PAGE_COMPAT.LEGACY = bnat legacy ∧
      ∀ n, 0 < n → n < 4096 → t.rd (pgSrc n) SRC_STATE.COUNT =
        if legacy = true ∧ s.rd (pgIntc 0) PAGE_COMPAT.LEGACY = 0 then min 15 (s.rd (pgSrc n) SRC_STATE.COUNT)
        else s.rd (pgSrc n) SRC_STATE.COUNT := by
  have hs : sorted regReset (s.respond .ok 0).regs = true := by
    simp only [State.wf, Bool.and_eq_true] at hw
    exact hw.1.2
  obtain ⟨u, hu, hsame⟩ := headerWrite_effect (pg := pgIntc 0) (by decide) (by decide) (by decide) hg
    (pageCompatBody_intc (s := s.respond .ok 0) hd)
  exact ⟨u, hu, (hsame.rd ..).trans (State.withLegacy_legacy _ _ hs),
    fun n _ hn => (hsame.rd ..).trans (State.withLegacy_count _ _ hn hs)⟩

/-- Settles O7: each of its clauses is the lemma about its command. -/
theorem pageHeaderCommands : Obligations.PageHeaderCommands :=
  ⟨pageReset_setsBusy, pageResetDone_clearsBusy,
    fun _ _ _ _ _ hd hp hk hg => expertWrite_sets (by decide) hd hg (expertBody_unlock hp hk),
    fun _ _ _ hd hg =>
      have ⟨_, _, hp, _⟩ := headed_page hd
      expertWrite_sets (by decide) hd hg (expertBody_lock hp),
    pageWorldWrite_sets, legacyChange_intc⟩

/-! ### Partition resets (R60, R470) -/

/-- Whatever the reset of a partition does before, its last step sets the partition's BUSY bit and clears the function's source
selection. -/
theorem State.startPartReset_result (s : State) (n : Nat) :
    ∃ (u : State) (sel : SMap Nat) (pages : SMap (List Nat)),
      s.startPartReset n =
        { u.wr pgReset PART_RESET.BUSY (if bitOf (u.rd pgReset PART_RESET.BUSY) n then u.rd pgReset PART_RESET.BUSY
            else u.rd pgReset PART_RESET.BUSY + 2 ^ n) with
          srcSel := nset sel (whoKey (.pf n)) 0, partPages := pages } :=
  ⟨_, _, _, rfl⟩

theorem State.startPartReset_starts (s : State) {n : Nat} (hn : n < 8) :
    bitOf ((s.startPartReset n).rd pgReset PART_RESET.BUSY) n = true ∧ nget (s.startPartReset n).srcSel (whoKey (.pf n)) = 0 := by
  obtain ⟨u, sel, pages, h⟩ := s.startPartReset_result n
  have hword : (s.startPartReset n).rd pgReset PART_RESET.BUSY =
      (if bitOf (u.rd pgReset PART_RESET.BUSY) n then u.rd pgReset PART_RESET.BUSY else u.rd pgReset PART_RESET.BUSY + 2 ^ n) % 2 ^ 8 := by
    rw [h]; exact State.rd_wr_same u pgReset PART_RESET.BUSY _ (by decide)
  constructor
  · rw [hword, bitOf_mod_two_pow _ hn, bitOf_set]
  · rw [h]; exact mget_mset_same ..

theorem partResetBody_key {s : State} {v : Word} (hk : getF v 16 16 = 0x5A02) (hn : getF v 0 3 ≠ 0)
    (hb : bitOf (s.rd pgReset PART_RESET.BUSY) (getF v 0 3) = false) : partResetBody v s = some (s.startPartReset (getF v 0 3)) := by
  simp [partResetBody, PART_RESET.KEY, PART_RESET.PART, hk, hn, hb]

theorem partReset_starts (s : State) (a : Access) (v : Word) (hg : s.writeGate a pgReset PART_RESET.KEY.off v = .pass)
    (hk : getF v 16 16 = 0x5A02) (hn : getF v 0 3 ≠ 0) (hb : bitOf (s.rd pgReset PART_RESET.BUSY) (getF v 0 3) = false) :
    ∃ t, exec (.partReset a v) s = .next t ∧ bitOf (t.rd pgReset PART_RESET.BUSY) (getF v 0 3) = true ∧
      nget t.srcSel (whoKey (.pf (getF v 0 3))) = 0 := by
  have hp : pageOf pgReset = some (.reset, 0) := rfl
  have hsame := State.gatedWrite_steady hp (by decide) hg (partResetBody_key (s := s.respond .ok 0) hk hn hb)
  refine ⟨_, rfl, ?_⟩
  rw [hsame.rd, hsame.srcSel]
  exact State.startPartReset_starts _ (Nat.mod_lt _ (by decide))

theorem functionLevelReset_starts (s : State) (n : Nat) (hn : n < 8) (hb : bitOf (s.rd pgReset PART_RESET.BUSY) n = false) :
    ∃ t, exec (.functionLevelReset n) s = .next t ∧ bitOf (t.rd pgReset PART_RESET.BUSY) n = true ∧ nget t.srcSel (whoKey (.pf n)) = 0 := by
  have hidle : ¬ bitOf (s.rd pgReset PART_RESET.BUSY) n = true := by rw [hb]; exact Bool.false_ne_true
  have hexec : exec (.functionLevelReset n) s = .next (s.startPartReset n) :=
    (guardUnit_true _ (decide_eq_true hn)).trans (congrArg Host.Outcome.next (if_neg hidle))
  exact ⟨_, hexec, State.startPartReset_starts s hn⟩

/-- The state in which the reset of partition `n` has ended: its pages and the partition are no longer BUSY. -/
def State.endPartReset (s : State) (n : Nat) : State :=
  { (((lget s.partPages n).getD []).foldl (fun s pg => s.wr pg PAGE_RESET.BUSY 0) s).wr pgReset PART_RESET.BUSY
      (s.rd pgReset PART_RESET.BUSY - 2 ^ n) with partPages := ldel s.partPages n }

theorem exec_partResetDone (s : State) {n : Nat} (hn : n < 8) (hb : bitOf (s.rd pgReset PART_RESET.BUSY) n = true) :
    exec (.partResetDone n) s = .next (s.endPartReset n) :=
  (guardUnit_true _ (decide_eq_true hn)).trans (congrArg Host.Outcome.next (if_pos hb))

theorem partResetDone_clearsBit (s : State) (n : Nat) (hn : n < 8) (hb : bitOf (s.rd pgReset PART_RESET.BUSY) n = true) :
    ∃ t, exec (.partResetDone n) s = .next t ∧
      ∀ m, m < 8 → bitOf (t.rd pgReset PART_RESET.BUSY) m = (bitOf (s.rd pgReset PART_RESET.BUSY) m && m != n) := by
  refine ⟨_, exec_partResetDone s hn hb, fun m hm => ?_⟩
  have hword : (s.endPartReset n).rd pgReset PART_RESET.BUSY = (s.rd pgReset PART_RESET.BUSY - 2 ^ n) % 2 ^ 8 :=
    State.rd_wr_same _ pgReset PART_RESET.BUSY _ (by decide)
  rw [hword, bitOf_mod_two_pow _ hm, bitOf_sub_two_pow hb]

/-- Settles O8: each of its clauses is the lemma about its command. -/
theorem partitionResets : Obligations.PartitionResets :=
  ⟨partReset_starts, functionLevelReset_starts, partResetDone_clearsBit⟩

end Sys2Proof.Machine

namespace Sys2Proof.Machine

open Sys2Proof

/-! ### The page of a panel (R44) -/

theorem pageOf_pgPanel {p : Nat} (h : p < 576) : pageOf (pgPanel p) = some (.panel, p) := by
  unfold pgPanel
  split
  case isTrue low => simp (disch := omega) [pageOf, if_pos, if_neg]
  case isFalse high => simp (disch := omega) [pageOf, if_pos, if_neg]

/-- The hardware adds nothing of its own to PRAM_HOST_DATA in the cycle of a write. -/
theorem pramHostData_steady (p : Nat) : (rowsAt .panel p PRAM_HOST_DATA.DATA.off).all FieldRow.steady = true := rfl

/-- A register read that the checks let through is what its body makes of the state. -/
theorem State.gatedRead_pass {s : State} {a : Access} {pg off : Nat} (body : State → State) (h : s.shows a.who pg off) :
    s.gatedRead a pg off body = body s := by
  obtain ⟨hgate, hbusy, hinit⟩ := h
  simp [State.gatedRead, hgate, hbusy, hinit]

theorem SameRegs.panel {t u : State} (h : SameRegs t u) (p : Nat) : u.panel p = t.panel p := by
  obtain ⟨⟨r, rfl⟩, -⟩ := h; rfl

/-! ### Words of the pocket RAMs (R81, R83) -/

@[simp] theorem pramWord_setPramWord_same (x : Panel) (a : Nat) (w : PramWord) : pramWord (setPramWord x a w) a = w :=
  mget_mset_same ..

/-- A word whose cells are intact has no error, whether or not it has check bits. -/
theorem pramCheck_intact {w : PramWord} (h : w.flips = 0) : pramCheck w = 0 := by
  simp [pramCheck, h]

theorem pramDelivered_intact {w : PramWord} (h : w.flips = 0) : pramDelivered w = w.data := by
  simp [pramDelivered, pramCheck_intact h, pramStored, h]

/-- A checked read of a word whose cells are intact records nothing. -/
theorem State.pramChecked_intact {s : State} {p m word : Nat} (h : (pramWord (s.panel p) (1024 * m + word)).flips = 0) :
    s.pramChecked p m word = s := by
  simp [State.pramChecked, State.pramRecord, pramCheck_intact h]

/-- A whole-word write that no armed injection meets stores the word with good check bits. -/
theorem State.pramStore_unarmed {s : State} {p : Nat} (m word : Nat) (v : Word) (h : s.on (pgPanel p) PRAM_ERR_INJECT.ARM = false) :
    s.pramStore p m word v = s.setPanel p (setPramWord (s.panel p) (1024 * m + word) { data := v }) := by
  simp [State.pramStore, h]

/-! ### The address of the host's accesses (R103) -/

@[simp] theorem State.pramAdvance_panels (s : State) (p : Nat) : (s.pramAdvance p).panels = s.panels := by
  simp only [State.pramAdvance]
  split
  · split <;> rfl
  · rfl

@[simp] theorem State.pramAdvance_resp (s : State) (p : Nat) : (s.pramAdvance p).resp = s.resp := by
  simp only [State.pramAdvance]
  split
  · split <;> rfl
  · rfl

/-- The place in panel `p`'s pocket RAMs that PRAM_HOST_ADDR names. -/
def State.pramHostPlace (s : State) (p : Nat) : Nat :=
  1024 * s.rd (pgPanel p) PRAM_HOST_ADDR.RAM + s.rd (pgPanel p) PRAM_HOST_ADDR.WORD

/-- AUTOINC counts WORD up to 1,023. -/
theorem State.pramAdvance_word {s : State} {p : Nat} (hi : s.on (pgPanel p) PRAM_HOST_ADDR.AUTOINC = true)
    (hw : s.rd (pgPanel p) PRAM_HOST_ADDR.WORD < 1023) :
    (s.pramAdvance p).rd (pgPanel p) PRAM_HOST_ADDR.WORD = s.rd (pgPanel p) PRAM_HOST_ADDR.WORD + 1 := by
  simp only [State.pramAdvance, hi, if_true, if_neg (Nat.ne_of_lt hw)]
  rw [State.rd_wr_same _ _ _ _ (by decide)]
  exact Nat.mod_eq_of_lt (show _ < 2 ^ 10 by omega)

/-! ### PRAM_HOST_WRITE and PRAM_HOST_READ (R83) -/

theorem State.pramWriteBody_open {s : State} {p : Nat} (v : Word) (ho : s.pramOpen p = true)
    (ha : s.on (pgPanel p) PRAM_ERR_INJECT.ARM = false) :
    s.pramWriteBody p v = some ((s.setPanel p (setPramWord (s.panel p) (s.pramHostPlace p) { data := v })).pramAdvance p) := by
  simp only [State.pramWriteBody, ho, if_true, State.pramStore_unarmed _ _ v ha, State.pramHostPlace]

/-- A read of a word whose cells are intact moves the address on and returns the word. -/
theorem State.pramReadBody_intact {s : State} {p : Nat} (ho : s.pramOpen p = true)
    (hf : (pramWord (s.panel p) (s.pramHostPlace p)).flips = 0) :
    s.pramReadBody p = (s.pramAdvance p).respond .ok (pramWord (s.panel p) (s.pramHostPlace p)).data.toNat := by
  rw [State.pramHostPlace] at hf ⊢
  simp only [State.pramReadBody, ho, if_true, State.pramChecked_intact hf, pramDelivered_intact hf]

/-- A write that the checks let through stores its word and leaves the other panels. -/
theorem pramHostWrite_stores (s : State) (a : Access) (p : Nat) (v : Word) (hp : p < 576)
    (hg : s.writeGate a (pgPanel p) PRAM_HOST_DATA.DATA.off v = .pass) (ho : s.pramOpen p = true)
    (ha : s.on (pgPanel p) PRAM_ERR_INJECT.ARM = false) :
    ∃ t, exec (.pramHostWrite a p v) s = .next t ∧
      pramWord (t.panel p) (s.pramHostPlace p) = { data := v } ∧
      (∀ q, q ≠ p → t.panel q = s.panel q) ∧ t.resp = ⟨.ok, 0⟩ := by
  have hsame := State.gatedWrite_steady (body := fun s => s.pramWriteBody p v) (pageOf_pgPanel hp) (pramHostData_steady p) hg
    (State.pramWriteBody_open (s := s.respond .ok 0) v ho ha)
  have hpanel (q : Nat) := (hsame.panel q).trans ((State.panel_congr (State.pramAdvance_panels ..) q).trans (State.setPanel_panel ..))
  refine ⟨_, guardUnit_true _ (decide_eq_true hp), ?_, fun q hq => ?_, ?_⟩
  · rw [hpanel, if_pos rfl]
    exact pramWord_setPramWord_same ..
  · rw [hpanel, if_neg hq]
    rfl
  · exact hsame.resp.trans (State.pramAdvance_resp ..)

/-- A read that the checks let through returns a word whose cells are intact. -/
theorem pramHostRead_returns (s : State) (a : Access) (p : Nat) (hp : p < 576)
    (hs : s.shows a.who (pgPanel p) PRAM_HOST_DATA.DATA.off) (ho : s.pramOpen p = true)
    (hf : (pramWord (s.panel p) (s.pramHostPlace p)).flips = 0) :
    ∃ t, exec (.pramHostRead a p) s = .next t ∧
      t.resp = ⟨.ok, (pramWord (s.panel p) (s.pramHostPlace p)).data.toNat⟩ ∧
      (s.on (pgPanel p) PRAM_HOST_ADDR.AUTOINC = true → s.rd (pgPanel p) PRAM_HOST_ADDR.WORD < 1023 →
        t.rd (pgPanel p) PRAM_HOST_ADDR.WORD = s.rd (pgPanel p) PRAM_HOST_ADDR.WORD + 1) := by
  have hbody := (State.gatedRead_pass (fun s => s.pramReadBody p) hs).trans (State.pramReadBody_intact ho hf)
  have hexec := (guardUnit_true _ (decide_eq_true hp)).trans (congrArg Host.Outcome.next hbody)
  exact ⟨_, hexec, rfl, State.pramAdvance_word⟩

/-- Settles O11: each of its clauses is the lemma about its command. -/
theorem pocketRamHostAccess : Obligations.PocketRamHostAccess := ⟨pramHostWrite_stores, pramHostRead_returns⟩

end Sys2Proof.Machine

namespace Sys2Proof.Machine

open Sys2Proof

/-! ### A held riser that the other end drives once it is released (R116, R120, R124)

The statement says "the other end cannot drive the riser" of the state before the write. There the riser is held, and no end may drive a
held riser, so this says nothing. The release frees both drivers: where the other end's plane drives the riser, the riser is no longer the
keeper's, and the keeper does not take the FORCE_1 choice. -/

theorem getLsbD_foldl_or {β : Type} {n : Nat} (f : β → BitVec n) (j : Nat) (l : List β) (m : BitVec n) :
    (l.foldl (fun m i => m ||| f i) m).getLsbD j = (m.getLsbD j || l.any fun i => (f i).getLsbD j) := by
  induction l generalizing m with
  | nil => simp
  | cons i l ih => rw [List.foldl_cons, ih, BitVec.getLsbD_or, List.any_cons, Bool.or_assoc]

theorem State.heldRisers_of_riserHeld {s : State} {c r : Nat} (hr : r < 1024) (h : s.riserHeld c r = true) :
    (s.heldRisers c).getLsbD r = true := by
  have hword : r - 32 * (r / 32) = r % 32 := by omega
  rw [State.heldRisers, getLsbD_foldl_or, Bool.or_eq_true, List.any_eq_true]
  refine .inr ⟨r / 32, List.mem_range.mpr (by omega), ?_⟩
  rw [State.riserHeld, bitOf_eq_testBit] at h
  simp [BitVec.getLsbD_ofNat, Nat.testBit_mul_two_pow, hr, hword, h, Nat.mul_div_le]

/-- Neither end may drive a held riser (R119, R120). -/
theorem State.canDrive_of_riserHeld {s : State} {p r : Nat} (hr : r < 1024) (h : s.riserHeld (colOf p) r = true) :
    s.canDrive p r = false := by
  unfold State.canDrive State.driveMask
  split
  · simp [State.heldRisers_of_riserHeld hr h]
  · simp

/-- Riser 0 of column 0 is held, its keeper 0. The border hold of panel 0 applies, with the choice FORCE_1 for the riser; panel 288 is in
service, and the plane that it has active drives the riser. -/
def heldBeforeDriver : State :=
  ((((State.reset.wr pgReady READY_SUM.CENSUS 1).wr pgReset (REGION_MAP.COMMITTED.at 0) 1).wr (pgSparBlk 0) (RISER_HELD.HELD.at 0) 1).setPanel 0
    { borderHold := true, border := [(8192, 3)] }).setPanel 288 { borderHold := false, region := some 0 }
    |>.setFrame (frameAddr 288 0 0) { data := 1 }

/-- The host's function 0 writes, and no conflict comes in the same cycle. -/
def hostWrite : Access := { who := .pf 0 }

theorem heldBeforeDriver_gate :
    heldBeforeDriver.writeGate hostWrite (pgSparBlk 0) (RISER_HELD.HELD.at 0).off 1 = .pass := by decide +kernel

theorem heldBeforeDriver_held : heldBeforeDriver.riserHeld 0 0 = true := by decide +kernel

/-- The one border hold of the column that applies is that of panel 0. -/
theorem heldBeforeDriver_holds : heldBeforeDriver.holdsTo 0 288 = true ∧ heldBeforeDriver.holdsTo 288 0 = false := by decide +kernel

theorem heldBeforeDriver_border : (heldBeforeDriver.panel 0).border = [(8192, 3)] := by decide +kernel

/-- The release lets panel 288 drive the riser, and its keeper stays 0. -/
theorem riserRelease_heldBeforeDriver :
    ∃ t, exec (.riserRelease hostWrite 0 0 1) heldBeforeDriver = .next t ∧ t.canDrive 288 0 = true ∧
      (t.column 0).keeper.getLsbD 0 = false :=
  ⟨_, rfl, by decide +kernel⟩

/-- Refutes O12: its clause on FORCE_1 fails where the other end drives the riser as soon as it is released. -/
theorem not_riserConflicts : ¬ Obligations.RiserConflicts := by
  rintro ⟨-, -, release, -⟩
  obtain ⟨t, ht, hheld, hforced, -⟩ := release heldBeforeDriver hostWrite 0 0 1 (by decide) (by decide) heldBeforeDriver_gate
  obtain ⟨hold, free⟩ := heldBeforeDriver_holds
  have hreleased : t.riserHeld 0 0 = false := (hheld 0 (by decide)).trans (by simp [hostWrite])
  have hundriven : heldBeforeDriver.canDrive 288 0 = false := State.canDrive_of_riserHeld (by decide) heldBeforeDriver_held
  have hkeeper := hforced 0 (by decide) heldBeforeDriver_held hreleased hold free hundriven (by simp [heldBeforeDriver_border])
    (by simp [heldBeforeDriver_border])
  obtain ⟨u, hu, -, hkept⟩ := riserRelease_heldBeforeDriver
  obtain rfl : u = t := Host.Outcome.next.inj (hu.symm.trans ht)
  exact absurd (hkept.symm.trans hkeeper) (by decide)

end Sys2Proof.Machine

namespace Sys2Proof.Machine

open Sys2Proof

/-! ### What an operation on one panel leaves of another -/

theorem pgPanel_injective {p q : Nat} (h : pgPanel p = pgPanel q) : p = q := by
  unfold pgPanel at h
  split at h <;> split at h <;> omega

/-- The pages of the panels lie from 0x1600 to 0x19FF, past every page that has one number (R44). -/
theorem pgPanel_range {p : Nat} (h : p < 576) : 0x1600 ≤ pgPanel p ∧ pgPanel p < 0x1A00 := by
  unfold pgPanel
  split <;> omega

theorem quiet_panel {p off : Nat} (hp : p < 576) (ho : off < 4096) (he : off ≠ 0x01C) : quiet (pgPanel p * 4096 + off) := by
  obtain ⟨hlo, hhi⟩ := pgPanel_range hp
  have hpage : (pgPanel p * 4096 + off) / 4096 = pgPanel p := by omega
  have hoff : (pgPanel p * 4096 + off) % 4096 = off := by omega
  rw [quiet, hpage, hoff, pgIntc, pgIntc, pgWorld]
  omega

/-- `t` has what `s` has of panel `q`: the registers of its page but PAGE_ERRSUM, and its state but for the pulses that its ports are due. -/
def PanelKept (q : Nat) (s t : State) : Prop :=
  (∀ off, off < 4096 → off ≠ 0x01C → t.reg (pgPanel q * 4096 + off) = s.reg (pgPanel q * 4096 + off)) ∧
    ∃ d, t.panel q = { s.panel q with due := d }

theorem PanelKept.refl (q : Nat) (s : State) : PanelKept q s s := ⟨fun _ _ _ => rfl, (s.panel q).due, rfl⟩

theorem PanelKept.trans {q : Nat} {s t u : State} (h : PanelKept q s t) (k : PanelKept q t u) : PanelKept q s u := by
  obtain ⟨hreg, d, hpanel⟩ := h
  obtain ⟨kreg, d', kpanel⟩ := k
  exact ⟨fun off ho he => (kreg off ho he).trans (hreg off ho he), d', by rw [kpanel, hpanel]⟩

theorem PanelKept.rd {q : Nat} {s t : State} (h : PanelKept q s t) {f : Fld} (ho : f.off < 4096) (he : f.off ≠ 0x01C) :
    t.rd (pgPanel q) f = s.rd (pgPanel q) f := by
  rw [State.rd, h.1 _ ho he, State.rd]

/-- REFUSED is a pulse on a port, be it that of the panel itself. -/
theorem PanelKept.refuse (q : Nat) (s : State) (src : PlaneSrc) : PanelKept q s (s.refuse src) := by
  cases src with
  | port p =>
    refine ⟨fun _ _ _ => rfl, ?_⟩
    rw [State.refuse, State.setPanel_panel]
    split
    case isTrue h => subst h; exact ⟨_, rfl⟩
    case isFalse => exact ⟨_, rfl⟩
  | governor => exact .refl q s
  | bridle => exact .refl q s
  | register => exact .refl q s

/-- `t` is `s` but for what is panel `p`'s own, beside registers of no panel: the other panels, the switches under way and the last
completion are those of `s`. -/
def OnlyPanel (p : Nat) (s t : State) : Prop :=
  (∀ q, q < 576 → q ≠ p → PanelKept q s t) ∧ t.switches = s.switches ∧ t.resp = s.resp

section
variable {p : Nat} {s t u : State}

theorem OnlyPanel.refl (p : Nat) (s : State) : OnlyPanel p s s := ⟨fun q _ _ => .refl q s, rfl, rfl⟩

theorem OnlyPanel.trans (h : OnlyPanel p s t) (k : OnlyPanel p t u) : OnlyPanel p s u := by
  obtain ⟨hkept, hswitches, hresp⟩ := h
  obtain ⟨kkept, kswitches, kresp⟩ := k
  exact ⟨fun q hq hne => (hkept q hq hne).trans (kkept q hq hne), kswitches.trans hswitches, kresp.trans hresp⟩

theorem OnlyPanel.kept (h : OnlyPanel p s t) {q : Nat} (hq : q < 576) (hne : q ≠ p) : PanelKept q s t := h.1 q hq hne

theorem OnlyPanel.switches (h : OnlyPanel p s t) : t.switches = s.switches := h.2.1

theorem OnlyPanel.resp (h : OnlyPanel p s t) : t.resp = s.resp := h.2.2

/-- The governor's account is no panel's. -/
theorem OnlyPanel.withGov (p : Nat) (s : State) (g : Gov) : OnlyPanel p s { s with gov := g } :=
  ⟨fun q _ _ => ⟨fun _ _ _ => rfl, (s.panel q).due, rfl⟩, rfl, rfl⟩

theorem OnlyPanel.setPanel (s : State) (x : Panel) : OnlyPanel p s (s.setPanel p x) :=
  ⟨fun q _ hne => ⟨fun _ _ _ => rfl, (s.panel q).due, by rw [State.setPanel_panel, if_neg hne]⟩, rfl, rfl⟩

theorem OnlyPanel.refuse (p : Nat) (s : State) (src : PlaneSrc) : OnlyPanel p s (s.refuse src) :=
  ⟨fun q _ _ => .refuse q s src, by cases src <;> rfl, by cases src <;> rfl⟩

/-- A page of another panel is neither that of panel `p` nor one below those of the panels. -/
theorem pgPanel_ne_of_other {pg q : Nat} (hpg : pg = pgPanel p ∨ pg < 0x1600) (hq : q < 576) (hne : q ≠ p) : pg ≠ pgPanel q := by
  obtain ⟨hlo, -⟩ := pgPanel_range hq
  rcases hpg with rfl | hlt
  · exact fun h => hne (pgPanel_injective h).symm
  · omega

/-- A register of the panel's page, or of a page below those of the panels, is written. -/
theorem OnlyPanel.wr (s : State) {pg : Nat} {f : Fld} (v : Nat) (hpg : pg = pgPanel p ∨ pg < 0x1600) (ho : f.off < 4096) :
    OnlyPanel p s (s.wr pg f v) := by
  refine ⟨fun q hq hne => ⟨fun off _ _ => State.wr_reg _ _ _ _ _ ?_, (s.panel q).due, rfl⟩, rfl, rfl⟩
  have := pgPanel_ne_of_other hpg hq hne
  omega

theorem OnlyPanel.noticed (p : Nat) (h : Noticed s t) : OnlyPanel p s t := by
  obtain ⟨⟨r, n, m, rfl⟩, hreg⟩ := h
  exact ⟨fun q hq _ => ⟨fun _ ho he => hreg _ (quiet_panel hq ho he), (s.panel q).due, rfl⟩, rfl, rfl⟩

theorem OnlyPanel.raise (s : State) {pg : Nat} {ev : Fld} (mask src : Fld) (hpg : pg = pgPanel p ∨ pg < 0x1600) (ho : ev.off < 4096) :
    OnlyPanel p s (s.raise pg ev mask src) := by
  rcases s.raise_noticed pg ev mask src with h | h
  · rw [h]; exact .refl p s
  · exact (OnlyPanel.wr s 1 hpg ho).trans (.noticed p h)

/-- A count in a plane counter of the panel, and its event bit. -/
theorem OnlyPanel.countPlane (s : State) {cnt ev : Fld} (hc : cnt.off < 4096) (he : ev.off < 4096) : OnlyPanel p s (s.countPlane p cnt ev) :=
  (OnlyPanel.wr s _ (.inl rfl) hc).trans (.raise _ _ _ (.inl rfl) he)

theorem OnlyPanel.pfDrop (s : State) : OnlyPanel p s (s.pfDrop p) := .countPlane s (by decide) (by decide)

theorem OnlyPanel.planeInvalid (s : State) : OnlyPanel p s (s.planeInvalid p) := .countPlane s (by decide) (by decide)

/-! ### Fills of one panel (R136 to R138) -/

theorem OnlyPanel.countFill (p : Nat) (s : State) (pinned : Bool) : OnlyPanel p s (s.countFill pinned) := by
  unfold State.countFill
  dsimp only
  split
  · exact ((OnlyPanel.withGov p s _).trans (.wr _ _ (.inr (by decide)) (by decide))).trans (.raise _ _ _ (.inr (by decide)) (by decide))
  · exact .withGov p s _

theorem OnlyPanel.startFill (s : State) (n : Nat) (explicit pinned : Bool) : OnlyPanel p s (s.startFill p n explicit pinned) :=
  (((OnlyPanel.countFill p s pinned).trans (.wr _ n (.inl rfl) (by decide))).trans (.wr _ shFilling (.inl rfl) (by decide))).trans
    (.setPanel _ _)

theorem OnlyPanel.replaceFill (s : State) (n : Nat) (explicit pinned : Bool) : OnlyPanel p s (s.replaceFill p n explicit pinned) := by
  unfold State.replaceFill
  split
  · exact (OnlyPanel.pfDrop s).trans (.startFill ..)
  · exact .startFill ..

theorem OnlyPanel.unholdPf (s : State) : OnlyPanel p s (s.unholdPf p) := (OnlyPanel.setPanel s _).trans (.withGov ..)

theorem OnlyPanel.dropHeldPf (s : State) (n : Nat) : OnlyPanel p s (s.dropHeldPf p n) := by
  unfold State.dropHeldPf
  split
  · split
    · exact .refl p s
    · exact (OnlyPanel.unholdPf s).trans (.pfDrop _)
  · exact .refl p s

/-- A prefetch is held, and counted as deferred. -/
theorem OnlyPanel.holdPf (s : State) (x : Panel) (g : Gov) : OnlyPanel p s (({ s.setPanel p x with gov := g } : State).planeDefer p) := by
  have hheld : OnlyPanel p s { s.setPanel p x with gov := g } := (OnlyPanel.setPanel s x).trans (.withGov ..)
  exact hheld.trans (.countPlane _ (by decide) (by decide))

theorem OnlyPanel.fillRequest (s : State) (n : Nat) (src : PlaneSrc) (explicit defer : Bool) (limit : Nat) :
    OnlyPanel p s (s.fillRequest p n src explicit defer limit) := by
  have hdropped : OnlyPanel p s ((s.pfDrop p).refuse src) := (OnlyPanel.pfDrop s).trans (.refuse p _ src)
  unfold State.fillRequest
  split
  · split
    · exact hdropped
    · exact .refl p s
  split
  · exact .refl p s
  split
  · split
    · exact .refl p s
    · exact (OnlyPanel.unholdPf s).trans (.replaceFill ..)
  split
  · exact (OnlyPanel.planeInvalid s).trans (.refuse p _ src)
  split
  · exact hdropped
  refine (OnlyPanel.dropHeldPf s n).trans ?_
  dsimp only
  split
  · exact .holdPf ..
  · exact .replaceFill ..

end

/-! ### Operations on each panel of a list -/

section
variable {f : State → Nat → State} (hf : ∀ s p, OnlyPanel p s (f s p))
include hf

theorem forPanels_switches (ps : List Nat) (s : State) : (forPanels ps f s).switches = s.switches :=
  foldl_keeps State.switches f (fun s p => (hf s p).switches) ps s

theorem forPanels_resp (ps : List Nat) (s : State) : (forPanels ps f s).resp = s.resp :=
  foldl_keeps State.resp f (fun s p => (hf s p).resp) ps s

/-- A panel that the list does not name is kept. -/
theorem forPanels_kept {q : Nat} (hq : q < 576) {ps : List Nat} (hmem : q ∉ ps) (s : State) : PanelKept q s (forPanels ps f s) :=
  List.foldlRecOn ps f (motive := PanelKept q s) (.refl q s) fun t ht p hp => ht.trans ((hf t p).kept hq fun e => hmem (e ▸ hp))

/-- A panel that the list names once is reached once. -/
theorem forPanels_once {q : Nat} (hq : q < 576) {ps : List Nat} (hps : ps.Nodup) (hmem : q ∈ ps) (s : State) :
    ∃ u, PanelKept q s u ∧ PanelKept q (f u q) (forPanels ps f s) := by
  obtain ⟨before, after, rfl⟩ := List.append_of_mem hmem
  obtain ⟨-, hafter, hbefore⟩ := List.nodup_append.mp hps
  have hsplit : forPanels (before ++ q :: after) f s = forPanels after f (f (forPanels before f s) q) := List.foldl_append
  refine ⟨forPanels before f s, forPanels_kept hf hq (fun h => hbefore q h q (List.mem_cons_self ..) rfl) s, ?_⟩
  rw [hsplit]
  exact forPanels_kept hf hq (List.nodup_cons.mp hafter).1 _

end

/-! ### Members of a group (R143) -/

theorem State.members_nodup (s : State) (g : Nat) : (s.members g).Nodup := List.nodup_range.filter _

theorem State.liveMembers_nodup (s : State) (g : Nat) : (s.liveMembers g).Nodup := (s.members_nodup g).filter _

theorem State.lt_of_mem_members {s : State} {g p : Nat} (h : p ∈ s.members g) : p < 576 :=
  List.mem_range.mp (List.mem_filter.mp h).1

theorem State.lt_of_mem_liveMembers {s : State} {g p : Nat} (h : p ∈ s.liveMembers g) : p < 576 :=
  State.lt_of_mem_members (List.mem_filter.mp h).1

/-! ### A fill that starts (R136, R138) -/

theorem State.startFill_fills (s : State) (p : Nat) {n : Nat} (explicit pinned : Bool) (hn : n < 8) :
    (s.startFill p n explicit pinned).shadowIs p shFilling n = true ∧ ((s.startFill p n explicit pinned).panel p).fillExplicit = explicit := by
  have hstate : (s.startFill p n explicit pinned).shadowState p = shFilling := State.rd_wr_same _ _ PANEL_PLANE_STATE.SHADOW_STATE _ (by decide)
  have hslot : (s.startFill p n explicit pinned).shadowSlot p = n := by
    refine (State.rd_wr_fld _ _ PANEL_PLANE_STATE.SHADOW_STATE PANEL_PLANE_STATE.SHADOW _ rfl (by decide)).trans ?_
    rw [State.rd_wr_same _ _ _ _ (by decide)]
    exact Nat.mod_eq_of_lt hn
  refine ⟨by rw [State.shadowIs, hstate, hslot, beq_self_eq_true, beq_self_eq_true]; rfl, ?_⟩
  rw [State.startFill, State.setPanel_panel_same, Panel.setShadowUpset]
  split <;> rfl

/-- A prefetch starts the fill of slot `n` in panel `p` (R138): the slot is valid, not active and not in the shadow, and no preflight, held
fill or pending switch is in the way. -/
def State.prefetchStarts (s : State) (p n : Nat) : Prop :=
  (s.panel p).underTest = false ∧ s.activeSlot p ≠ n ∧ s.shadowIs p shFilling n = false ∧ s.shadowIs p shReady n = false ∧
    (s.panel p).heldPf = none ∧ s.planePending p = false ∧ s.slotValid p n = true

theorem State.fillRequest_prefetch {s : State} {p n : Nat} (src : PlaneSrc) (limit : Nat) (h : s.prefetchStarts p n) :
    s.fillRequest p n src true false limit = s.replaceFill p n true true := by
  obtain ⟨htest, hactive, hfilling, hready, hheld, hpending, hvalid⟩ := h
  simp [State.fillRequest, State.dropHeldPf, htest, hactive, hfilling, hready, hheld, hpending, hvalid]

/-- What the start of a prefetch in panel `q` rests on is the panel's own. -/
theorem PanelKept.prefetchStarts {q n : Nat} {s t : State} (h : PanelKept q s t) (hn : n < 8) (hs : s.prefetchStarts q n) :
    t.prefetchStarts q n := by
  have hactive : t.activeSlot q = s.activeSlot q := h.rd (by decide) (by decide)
  have hstate : t.shadowState q = s.shadowState q := h.rd (by decide) (by decide)
  have hslot : t.shadowSlot q = s.shadowSlot q := h.rd (by decide) (by decide)
  have hpending : t.rd (pgPanel q) PANEL_PLANE_STATE.PENDING = s.rd (pgPanel q) PANEL_PLANE_STATE.PENDING := h.rd (by decide) (by decide)
  have hvalid : t.rd (pgPanel q) (PANEL_PLANE_SLOT.VALID.at n) = s.rd (pgPanel q) (PANEL_PLANE_SLOT.VALID.at n) := by
    refine h.rd ?_ ?_ <;> simp only [Fld.at, PANEL_PLANE_SLOT.VALID] <;> omega
  obtain ⟨-, d, hpanel⟩ := h
  simpa only [State.prefetchStarts, State.shadowIs, State.planePending, State.slotValid, State.on, hactive, hstate, hslot, hpending, hvalid,
    hpanel] using hs

/-- A prefetch that reaches a group starts the fill in each member that can take it. -/
theorem forPanels_fillRequest_starts {s : State} {ps : List Nat} {q n : Nat} (src : PlaneSrc) (limit : Nat) (hps : ps.Nodup) (hmem : q ∈ ps)
    (hq : q < 576) (hn : n < 8) (hs : s.prefetchStarts q n) :
    (forPanels ps (fun s p => s.fillRequest p n src true false limit) s).shadowIs q shFilling n = true ∧
      ((forPanels ps (fun s p => s.fillRequest p n src true false limit) s).panel q).fillExplicit = true := by
  obtain ⟨u, hbefore, hafter⟩ := forPanels_once (fun s p => OnlyPanel.fillRequest s n src true false limit) hq hps hmem s
  rw [State.fillRequest_prefetch src limit (hbefore.prefetchStarts hn hs)] at hafter
  obtain ⟨hshadow, hexplicit⟩ := State.startFill_fills (if u.shadowState q = shFilling ∧ (u.panel q).fillExplicit then u.pfDrop q else u)
    q true true hn
  have hstate : (forPanels ps _ s).shadowState q = _ := hafter.rd (by decide) (by decide)
  have hslot : (forPanels ps _ s).shadowSlot q = _ := hafter.rd (by decide) (by decide)
  obtain ⟨-, d, hpanel⟩ := hafter
  refine ⟨?_, by rw [hpanel]; exact hexplicit⟩
  rw [State.shadowIs, hstate, hslot]
  exact hshadow

/-! ### A request that meets no other (R145) -/

/-- Request `r` meets none of `l`: no request of `l` addresses the group or a panel that `r` addresses. -/
def State.meetsNone (s : State) (r : SwitchReq) (l : List SwitchReq) : Prop :=
  ∀ e ∈ l, sameTarget e r = false ∧ ∀ q ∈ s.reqPanels r, q ∉ s.reqPanels e

theorem State.sharedPanels_nil {s : State} {r e : SwitchReq} (h : ∀ q ∈ s.reqPanels r, q ∉ s.reqPanels e) : s.sharedPanels r e = [] := by
  refine List.filter_eq_nil_iff.mpr fun q hq => ?_
  have hnot : (s.reqPanels e).contains q = false := by simpa using h q (List.mem_filter.mp hq).1
  simp only [hnot, Bool.false_and, Bool.false_eq_true, not_false_eq_true]

theorem State.meetAllPending_of_meetsNone {s : State} {r : SwitchReq} (h : s.meetsNone r (s.switches.filter (·.pending))) :
    s.meetAllPending r = (s, true) := by
  refine List.foldlRecOn _ _ (motive := (· = (s, true))) rfl fun acc hacc e he => ?_
  obtain ⟨hmem, hflags⟩ := List.mem_filter.mp he
  obtain ⟨htarget, hshared⟩ := h e (List.mem_filter.mpr ⟨hmem, (Bool.and_eq_true_iff.mp hflags).1⟩)
  simp [hacc, State.meetPending, htarget, State.sharedPanels_nil hshared]

/-- The requests of the present instant. -/
def State.requestsNow (s : State) : List SwitchReq := s.planeNow.filter (fun e => e.at_ == s.ns)

/-- A prefetch meets the requests of its instant alone, a switch the pending switches too. -/
theorem State.meetPlane_of_meetsNone {s : State} {r : SwitchReq} (hnow : s.meetsNone r s.requestsNow)
    (hpending : r.prefetch = false → s.meetsNone r (s.switches.filter (·.pending))) : s.meetPlane r = (s, true) := by
  unfold State.meetPlane
  dsimp only
  rw [List.foldlRecOn (motive := (· = (s, true))) _ _ rfl]
  · cases hr : r.prefetch with
    | true => simp
    | false => simp [State.meetAllPending_of_meetsNone (hpending hr)]
  · intro acc hacc e he
    obtain ⟨htarget, hshared⟩ := hnow e he
    simp [hacc, htarget, State.sharedPanels_nil hshared]

/-! ### Injection (R141, R236) -/

theorem State.injectPlane_switch {s : State} {r : SwitchReq} (defer : Bool) (hp : r.prefetch = false)
    (ha : s.meetsNone r (s.requestsNow ++ s.switches.filter (·.pending)))
    (hhot : s.on pgPwr GOV_CTRL.MODE = false ∨ s.doubleHot (s.reqPanels r) r.slot = none) :
    s.injectPlane r defer = { s with switches := s.switches ++ [r], planeNow := s.planeNow ++ [r] } := by
  have hmeet : s.meetPlane r = (s, true) :=
    State.meetPlane_of_meetsNone (fun e he => ha e (List.mem_append_left _ he)) fun _ e he => ha e (List.mem_append_right _ he)
  have hadmitted : ¬ (s.on pgPwr GOV_CTRL.MODE = true ∧ r.forced = false ∧ (s.doubleHot (s.reqPanels r) r.slot).isSome = true) := by
    rcases hhot with h | h <;> simp [h]
  simp [State.injectPlane, hmeet, hp, hadmitted]

/-- The fills of a prefetch are all that it does but for its entry in the list of its instant. -/
theorem State.injectPlane_prefetch {s : State} {r : SwitchReq} (hp : r.prefetch = true) (h : s.meetsNone r s.requestsNow) :
    ∃ limit now, s.injectPlane r false =
      { forPanels (s.reqPanels r) (fun s p => s.fillRequest p r.slot r.src true false limit) s with planeNow := now } := by
  have hmeet : s.meetPlane r = (s, true) := State.meetPlane_of_meetsNone h fun hr => absurd (hp.symm.trans hr) (by decide)
  simp only [State.injectPlane, hmeet, hp, Bool.not_true, Bool.false_eq_true, if_false, if_true]
  exact ⟨_, _, rfl⟩

theorem State.injectPlane_prefetch_starts {s : State} {r : SwitchReq} {q : Nat} (hp : r.prefetch = true) (hforced : r.forced = false)
    (hn : r.slot < 8) (h : s.meetsNone r s.requestsNow) (hmem : q ∈ s.liveMembers r.group) (hs : s.prefetchStarts q r.slot) :
    (s.injectPlane r false).shadowIs q shFilling r.slot = true ∧ ((s.injectPlane r false).panel q).fillExplicit = true ∧
      (s.injectPlane r false).switches = s.switches ∧ (s.injectPlane r false).resp = s.resp := by
  have hpanels : s.reqPanels r = s.liveMembers r.group := by simp [State.reqPanels, hforced]
  obtain ⟨limit, now, hinject⟩ := State.injectPlane_prefetch hp h
  obtain ⟨hshadow, hexplicit⟩ := forPanels_fillRequest_starts r.src limit (s.liveMembers_nodup r.group) hmem
    (State.lt_of_mem_liveMembers hmem) hn hs
  rw [hinject, hpanels]
  have hfill (t : State) (p : Nat) := OnlyPanel.fillRequest (p := p) t r.slot r.src true false limit
  have hswitches := forPanels_switches hfill (s.liveMembers r.group) s
  have hresp := forPanels_resp hfill (s.liveMembers r.group) s
  generalize forPanels (s.liveMembers r.group) (fun s p => s.fillRequest p r.slot r.src true false limit) s = u at *
  exact ⟨hshadow, hexplicit, hswitches, hresp⟩

/-! ### Requests from ports (R142, R143, R407) -/

theorem exec_planeReq (s : State) {p g n : Nat} (prefetch defer : Bool) (hp : p < 576) (hg : g < 256) (hn : n < 8) :
    exec (.planeReq p g n prefetch defer) s =
      .next (if s.clkRun p then s.planeRequest (.port p) (some p) g n prefetch defer else s) :=
  guardUnit_true _ (by simp [hp, hg, hn])

/-- Request for slot `n` of group `g`, at the present instant. -/
def State.newRequest (s : State) (g n : Nat) (src : PlaneSrc) (prefetch : Bool) : SwitchReq :=
  { group := g, slot := n, src := src, at_ := s.ns, prefetch := prefetch }

theorem State.acceptPlane_waits {s : State} {g : Nat} (n : Nat) (src : PlaneSrc) (prefetch defer : Bool) (from_ : Option Nat)
    (h : s.clockChanges (s.liveMembers g) = true) :
    s.acceptPlane ⟨s.newRequest g n src prefetch, defer, from_⟩ =
      { s with planeWait := s.planeWait ++ [⟨s.newRequest g n src prefetch, defer, from_⟩] } := if_pos h

theorem State.acceptPlane_injects {s : State} {g : Nat} (n : Nat) (src : PlaneSrc) (prefetch defer : Bool) (from_ : Option Nat)
    (h : s.clockChanges (s.liveMembers g) = false) :
    s.acceptPlane ⟨s.newRequest g n src prefetch, defer, from_⟩ = s.injectPlane (s.newRequest g n src prefetch) defer :=
  if_neg (ne_true_of_eq_false h)

/-- A switch that R143 lets pass and that meets no other joins the switches (R141, R236). -/
theorem State.acceptPlane_switch {s : State} {g n : Nat} {src : PlaneSrc} (defer : Bool) (from_ : Option Nat)
    (hclk : s.clockChanges (s.liveMembers g) = false)
    (hmeet : s.meetsNone (s.newRequest g n src false) (s.requestsNow ++ s.switches.filter (·.pending)))
    (hhot : s.on pgPwr GOV_CTRL.MODE = false ∨ s.doubleHot (s.liveMembers g) n = none) :
    s.acceptPlane ⟨s.newRequest g n src false, defer, from_⟩ =
      { s with switches := s.switches ++ [s.newRequest g n src false], planeNow := s.planeNow ++ [s.newRequest g n src false] } := by
  rw [State.acceptPlane_injects n src false defer from_ hclk, State.injectPlane_switch defer rfl hmeet hhot]

/-- A prefetch that R143 lets pass and that meets no request of its instant fills the members that can take it (R138, R141). -/
theorem State.acceptPlane_prefetch {s : State} {g n q : Nat} {src : PlaneSrc} (from_ : Option Nat) (hn : n < 8)
    (hclk : s.clockChanges (s.liveMembers g) = false) (hmeet : s.meetsNone (s.newRequest g n src true) s.requestsNow)
    (hq : q ∈ s.liveMembers g) (hs : s.prefetchStarts q n) :
    (s.acceptPlane ⟨s.newRequest g n src true, false, from_⟩).shadowIs q shFilling n = true ∧
      ((s.acceptPlane ⟨s.newRequest g n src true, false, from_⟩).panel q).fillExplicit = true ∧
      (s.acceptPlane ⟨s.newRequest g n src true, false, from_⟩).switches = s.switches ∧
      (s.acceptPlane ⟨s.newRequest g n src true, false, from_⟩).resp = s.resp := by
  rw [State.acceptPlane_injects n src true false from_ hclk]
  exact State.injectPlane_prefetch_starts (r := s.newRequest g n src true) rfl rfl hn hmeet hq hs

theorem exec_planeReq_good {s : State} {p g n : Nat} (prefetch defer : Bool) (hp : p < 576) (hg : g < 256) (hn : n < 8)
    (hc : s.clkRun p = true) (hb : s.planeRequestBad g n (some p) = false) :
    exec (.planeReq p g n prefetch defer) s =
      .next (s.acceptPlane ⟨s.newRequest g n (.port p) prefetch, defer, some p⟩) := by
  rw [exec_planeReq s prefetch defer hp hg hn, if_pos hc, State.planeRequest, if_neg (ne_true_of_eq_false hb)]
  rfl

theorem planeReq_switch (s : State) (p g n : Nat) (defer : Bool) (hp : p < 576) (hg : g < 256) (hn : n < 8) (hc : s.clkRun p = true)
    (hb : s.planeRequestBad g n (some p) = false) (hclk : s.clockChanges (s.liveMembers g) = false)
    (hmeet : s.meetsNone (s.newRequest g n (.port p) false) (s.requestsNow ++ s.switches.filter (·.pending)))
    (hhot : s.on pgPwr GOV_CTRL.MODE = false ∨ s.doubleHot (s.liveMembers g) n = none) :
    ∃ t, exec (.planeReq p g n false defer) s = .next t ∧
      t.switches = s.switches ++ [s.newRequest g n (.port p) false] ∧ t.panels = s.panels ∧ t.regs = s.regs := by
  refine ⟨_, exec_planeReq_good false defer hp hg hn hc hb, ?_⟩
  rw [State.acceptPlane_switch defer (some p) hclk hmeet hhot]
  exact ⟨rfl, rfl, rfl⟩

theorem planeReq_waits (s : State) (p g n : Nat) (prefetch defer : Bool) (hp : p < 576) (hg : g < 256) (hn : n < 8)
    (hc : s.clkRun p = true) (hb : s.planeRequestBad g n (some p) = false) (hclk : s.clockChanges (s.liveMembers g) = true) :
    exec (.planeReq p g n prefetch defer) s = .next { s with
      planeWait := s.planeWait ++ [⟨s.newRequest g n (.port p) prefetch, defer, some p⟩] } := by
  rw [exec_planeReq_good prefetch defer hp hg hn hc hb, State.acceptPlane_waits n (.port p) prefetch defer (some p) hclk]

theorem planeReq_prefetch (s : State) (p g n q : Nat) (hp : p < 576) (hg : g < 256) (hn : n < 8) (hc : s.clkRun p = true)
    (hb : s.planeRequestBad g n (some p) = false) (hclk : s.clockChanges (s.liveMembers g) = false)
    (hmeet : s.meetsNone (s.newRequest g n (.port p) true) s.requestsNow) (hq : q ∈ s.liveMembers g) (hs : s.prefetchStarts q n) :
    ∃ t, exec (.planeReq p g n true false) s = .next t ∧ t.shadowIs q shFilling n = true ∧ (t.panel q).fillExplicit = true ∧
      t.switches = s.switches := by
  obtain ⟨hshadow, hexplicit, hswitches, -⟩ := State.acceptPlane_prefetch (some p) hn hclk hmeet hq hs
  exact ⟨_, exec_planeReq_good true false hp hg hn hc hb, hshadow, hexplicit, hswitches⟩

theorem State.planeInvalid_count (s : State) {q : Nat} (hq : q < 576) :
    (s.planeInvalid q).rd (pgPanel q) PLANE_INVALID.COUNT =
      satAdd (2 ^ PLANE_INVALID.COUNT.len - 1) (s.rd (pgPanel q) PLANE_INVALID.COUNT) 1 := by
  rw [← State.rd_inc _ _ _ (by decide), State.rd, State.rd]
  have hevent : pgPanel q * 4096 + PLANE_INVALID.COUNT.off ≠ pgPanel q * 4096 + PANEL_PLANE_EVENT.INVALID.off := by
    simp [PLANE_INVALID.COUNT, PANEL_PLANE_EVENT.INVALID]
  exact congrArg (getF · _ _) (State.raise_reg _ _ _ _ _ _ (quiet_panel hq (by decide) (by decide)) hevent)

/-- A request that R143 rules out is counted in each member, and refused on its port. -/
theorem State.rejectPlane_port (s : State) (r : SwitchReq) {p : Nat} (hsrc : r.src = .port p) :
    (s.rejectPlane r).switches = s.switches ∧ ((s.rejectPlane r).panel p).due.planeRefused = true ∧
      ∀ q ∈ s.members r.group, (s.rejectPlane r).rd (pgPanel q) PLANE_INVALID.COUNT =
        satAdd (2 ^ PLANE_INVALID.COUNT.len - 1) (s.rd (pgPanel q) PLANE_INVALID.COUNT) 1 := by
  have hinvalid (t : State) (p : Nat) := OnlyPanel.planeInvalid (p := p) t
  rw [State.rejectPlane, hsrc]
  refine ⟨(OnlyPanel.refuse p _ _).switches.trans (forPanels_switches hinvalid _ s), ?_, fun q hq => ?_⟩
  · rw [State.refuse, State.setPanel_panel_same]
  · have hlt := State.lt_of_mem_members hq
    obtain ⟨u, hbefore, hafter⟩ := forPanels_once (f := State.planeInvalid) hinvalid hlt (s.members_nodup r.group) hq s
    have hcount := (hafter.trans (.refuse q _ (.port p))).rd (f := PLANE_INVALID.COUNT) (by decide) (by decide)
    rw [hcount, State.planeInvalid_count u hlt, hbefore.rd (by decide) (by decide)]

theorem planeReq_refused (s : State) (p g n : Nat) (prefetch defer : Bool) (hp : p < 576) (hg : g < 256) (hn : n < 8)
    (hc : s.clkRun p = true) (hb : s.planeRequestBad g n (some p) = true) :
    ∃ t, exec (.planeReq p g n prefetch defer) s = .next t ∧ t.switches = s.switches ∧ (t.panel p).due.planeRefused = true ∧
      ∀ q ∈ s.members g, t.rd (pgPanel q) PLANE_INVALID.COUNT =
        satAdd (2 ^ PLANE_INVALID.COUNT.len - 1) (s.rd (pgPanel q) PLANE_INVALID.COUNT) 1 := by
  refine ⟨_, exec_planeReq s prefetch defer hp hg hn, ?_⟩
  rw [if_pos hc, State.planeRequest, if_pos hb]
  exact s.rejectPlane_port _ rfl

theorem planeReq_unclocked (s : State) (p g n : Nat) (prefetch defer : Bool) (hp : p < 576) (hg : g < 256) (hn : n < 8)
    (hc : s.clkRun p = false) : exec (.planeReq p g n prefetch defer) s = .next s := by
  rw [exec_planeReq s prefetch defer hp hg hn, hc]
  rfl

/-! ### Requests by PANEL_PLANE_CMD (R143, R150) -/

/-- The hardware adds nothing of its own to PANEL_PLANE_CMD in the cycle of a write. -/
theorem planeCmd_steady (p : Nat) : (rowsAt .panel p PANEL_PLANE_CMD.GROUP.off).all FieldRow.steady = true := rfl

theorem SameRegs.switches {t u : State} (h : SameRegs t u) : u.switches = t.switches := by
  obtain ⟨⟨r, rfl⟩, -⟩ := h; rfl

theorem SameRegs.panels {t u : State} (h : SameRegs t u) : u.panels = t.panels := by
  obtain ⟨⟨r, rfl⟩, -⟩ := h; rfl

section
variable (s : State) (st : BusStatus) (d : Nat)

/-! What a request is judged by has nothing to do with the last completion. -/

@[simp] theorem State.panel_respond (p : Nat) : (s.respond st d).panel p = s.panel p := rfl
@[simp] theorem State.isMember_respond (g p : Nat) : (s.respond st d).isMember g p = s.isMember g p := rfl
@[simp] theorem State.members_respond (g : Nat) : (s.respond st d).members g = s.members g := rfl
@[simp] theorem State.committed_respond (p : Nat) : (s.respond st d).committed p = s.committed p := rfl
@[simp] theorem State.slotValid_respond (p n : Nat) : (s.respond st d).slotValid p n = s.slotValid p n := rfl
@[simp] theorem State.oneClock_respond (ps : List Nat) : (s.respond st d).oneClock ps = s.oneClock ps := rfl
@[simp] theorem State.clockChanges_respond (ps : List Nat) : (s.respond st d).clockChanges ps = s.clockChanges ps := rfl

@[simp] theorem State.planeRequestBad_respond (g n : Nat) (from_ : Option Nat) :
    (s.respond st d).planeRequestBad g n from_ = s.planeRequestBad g n from_ := by
  simp only [State.planeRequestBad, State.panel_respond, State.isMember_respond, State.members_respond, State.committed_respond,
    State.slotValid_respond, State.oneClock_respond, State.clockChanges_respond]

end

section
variable {s : State} {a : Access} {p g n : Nat} {v : Word}

theorem State.planeCmdBody_bad (hg : getF v PANEL_PLANE_CMD.GROUP.lo PANEL_PLANE_CMD.GROUP.len = g)
    (hn : getF v PANEL_PLANE_CMD.PLANE.lo PANEL_PLANE_CMD.PLANE.len = n) (hb : s.planeRequestBad g n (some p) = true) :
    s.planeCmdBody p v = none := by
  simp only [State.planeCmdBody, hg, hn, hb, if_true]

/-- A PANEL_PLANE_CMD write that R143 does not rule out is a request from the register. -/
theorem State.planeCmdBody_good {prefetch defer : Bool} (hg : getF v PANEL_PLANE_CMD.GROUP.lo PANEL_PLANE_CMD.GROUP.len = g)
    (hn : getF v PANEL_PLANE_CMD.PLANE.lo PANEL_PLANE_CMD.PLANE.len = n)
    (hpf : (getF v PANEL_PLANE_CMD.PREFETCH.lo PANEL_PLANE_CMD.PREFETCH.len == 1) = prefetch)
    (hd : (getF v PANEL_PLANE_CMD.DEFER.lo PANEL_PLANE_CMD.DEFER.len == 1) = defer) (hb : s.planeRequestBad g n (some p) = false) :
    s.planeCmdBody p v = some (s.acceptPlane ⟨s.newRequest g n .register prefetch, defer, some p⟩) := by
  simp only [State.planeCmdBody, hg, hn, hpf, hd, hb, Bool.false_eq_true, if_false]
  rfl

/-- A PANEL_PLANE_CMD write past the checks, whose request R143 does not rule out, is that request and an OK completion. -/
theorem planeCmd_effect {prefetch defer : Bool} (hp : p < 576)
    (hgate : s.writeGate a (pgPanel p) PANEL_PLANE_CMD.GROUP.off v = .pass) (hg : getF v PANEL_PLANE_CMD.GROUP.lo PANEL_PLANE_CMD.GROUP.len = g)
    (hn : getF v PANEL_PLANE_CMD.PLANE.lo PANEL_PLANE_CMD.PLANE.len = n)
    (hpf : (getF v PANEL_PLANE_CMD.PREFETCH.lo PANEL_PLANE_CMD.PREFETCH.len == 1) = prefetch)
    (hd : (getF v PANEL_PLANE_CMD.DEFER.lo PANEL_PLANE_CMD.DEFER.len == 1) = defer) (hb : s.planeRequestBad g n (some p) = false) :
    ∃ t, exec (.planeCmd a p v) s = .next t ∧
      SameRegs ((s.respond .ok 0).acceptPlane ⟨(s.respond .ok 0).newRequest g n .register prefetch, defer, some p⟩) t := by
  have hbad : (s.respond .ok 0).planeRequestBad g n (some p) = false := (State.planeRequestBad_respond ..).trans hb
  exact ⟨_, guardUnit_true _ (decide_eq_true hp), State.gatedWrite_steady (body := fun s => s.planeCmdBody p v) (pageOf_pgPanel hp)
    (planeCmd_steady p) hgate (State.planeCmdBody_good hg hn hpf hd hbad)⟩

end

theorem planeCmd_switch (s : State) (a : Access) (p : Nat) (v : Word) {g n : Nat} (hp : p < 576)
    (hgate : s.writeGate a (pgPanel p) PANEL_PLANE_CMD.GROUP.off v = .pass) (hg : getF v PANEL_PLANE_CMD.GROUP.lo PANEL_PLANE_CMD.GROUP.len = g)
    (hn : getF v PANEL_PLANE_CMD.PLANE.lo PANEL_PLANE_CMD.PLANE.len = n) (hb : s.planeRequestBad g n (some p) = false)
    (hclk : s.clockChanges (s.liveMembers g) = false) (hpf : getF v PANEL_PLANE_CMD.PREFETCH.lo PANEL_PLANE_CMD.PREFETCH.len = 0)
    (hmeet : s.meetsNone (s.newRequest g n .register false) (s.requestsNow ++ s.switches.filter (·.pending)))
    (hhot : s.on pgPwr GOV_CTRL.MODE = false ∨ s.doubleHot (s.liveMembers g) n = none) :
    ∃ t, exec (.planeCmd a p v) s = .next t ∧ t.switches = s.switches ++ [s.newRequest g n .register false] ∧ t.panels = s.panels ∧
      (∀ b, b ≠ pgPanel p * 4096 + PANEL_PLANE_CMD.GROUP.off → t.reg b = s.reg b) ∧ t.resp = ⟨.ok, 0⟩ := by
  obtain ⟨t, ht, hsame⟩ := planeCmd_effect (prefetch := false) hp hgate hg hn (by rw [hpf]; rfl) rfl hb
  rw [State.acceptPlane_switch (s := s.respond .ok 0) _ _ hclk hmeet hhot] at hsame
  exact ⟨t, ht, hsame.switches, hsame.panels, fun b _ => hsame.2 b, hsame.resp⟩

theorem planeCmd_prefetch (s : State) (a : Access) (p q : Nat) (v : Word) {g n : Nat} (hp : p < 576)
    (hgate : s.writeGate a (pgPanel p) PANEL_PLANE_CMD.GROUP.off v = .pass) (hg : getF v PANEL_PLANE_CMD.GROUP.lo PANEL_PLANE_CMD.GROUP.len = g)
    (hn : getF v PANEL_PLANE_CMD.PLANE.lo PANEL_PLANE_CMD.PLANE.len = n) (hb : s.planeRequestBad g n (some p) = false)
    (hclk : s.clockChanges (s.liveMembers g) = false) (hpf : getF v PANEL_PLANE_CMD.PREFETCH.lo PANEL_PLANE_CMD.PREFETCH.len = 1)
    (hd : getF v PANEL_PLANE_CMD.DEFER.lo PANEL_PLANE_CMD.DEFER.len = 0)
    (hmeet : s.meetsNone (s.newRequest g n .register true) s.requestsNow) (hq : q ∈ s.liveMembers g) (hs : s.prefetchStarts q n) :
    ∃ t, exec (.planeCmd a p v) s = .next t ∧ t.shadowIs q shFilling n = true ∧ t.resp = ⟨.ok, 0⟩ := by
  obtain ⟨t, ht, hsame⟩ := planeCmd_effect (prefetch := true) (defer := false) hp hgate hg hn (by rw [hpf]; rfl) (by rw [hd]; rfl) hb
  have hslot : n < 8 := hn ▸ Nat.mod_lt _ (by decide)
  obtain ⟨hfills, -, -, hresp⟩ := State.acceptPlane_prefetch (s := s.respond .ok 0) (some p) hslot hclk hmeet hq hs
  refine ⟨t, ht, ?_, ?_⟩
  · rw [State.shadowIs, State.shadowState, State.shadowSlot, hsame.rd, hsame.rd]
    exact hfills
  · exact hsame.resp.trans hresp

/-- A rejected write on the page of a panel (R7). -/
theorem State.rejectWrite_panel (s : State) {p : Nat} (hp : p < 576) :
    s.rejectWrite (pgPanel p) = { s with regs := (s.rejectWrite (pgPanel p)).regs, resp := ⟨.rejected, 0⟩ } ∧
      (s.rejectWrite (pgPanel p)).rd (pgPanel p) PAGE_ERRSUM.REJECT = 1 := by
  have hhome : headerPage (pgPanel p) = pgPanel p := by
    have := pgPanel_range hp
    exact if_neg (by omega)
  refine ⟨rfl, ?_⟩
  rw [State.rejectWrite, hhome]
  refine (State.rd_wr_reg _ _ _ PAGE_REJCNT.COUNT PAGE_ERRSUM.REJECT _ (by simp [PAGE_REJCNT.COUNT, PAGE_ERRSUM.REJECT])).trans ?_
  exact State.rd_wr_same _ _ PAGE_ERRSUM.REJECT _ (by decide)

theorem planeCmd_rejected (s : State) (a : Access) (p : Nat) (v : Word) {g n : Nat} (hp : p < 576)
    (hgate : s.writeGate a (pgPanel p) PANEL_PLANE_CMD.GROUP.off v = .pass) (hg : getF v PANEL_PLANE_CMD.GROUP.lo PANEL_PLANE_CMD.GROUP.len = g)
    (hn : getF v PANEL_PLANE_CMD.PLANE.lo PANEL_PLANE_CMD.PLANE.len = n) (hb : s.planeRequestBad g n (some p) = true) :
    ∃ t, exec (.planeCmd a p v) s = .next t ∧ t = { s with regs := t.regs, resp := ⟨.rejected, 0⟩ } ∧
      t.rd (pgPanel p) PAGE_ERRSUM.REJECT = 1 := by
  have hbody : (s.respond .ok 0).planeCmdBody p v = none := State.planeCmdBody_bad hg hn ((State.planeRequestBad_respond ..).trans hb)
  have hwrite : s.gatedWrite a (pgPanel p) PANEL_PLANE_CMD.GROUP.off v (fun s => s.planeCmdBody p v) = s.rejectWrite (pgPanel p) := by
    simp only [State.gatedWrite, hgate, hbody]
  exact ⟨_, (guardUnit_true _ (decide_eq_true hp)).trans (congrArg Host.Outcome.next hwrite), s.rejectWrite_panel hp⟩

/-- Settles O13: each of its clauses is the lemma about its command. -/
theorem planeRequests : Obligations.PlaneRequests := by
  refine ⟨planeReq_switch, planeReq_waits, ?_, planeReq_refused, planeReq_unclocked, ?_, ?_, ?_⟩
  · intro s p g n q hp hg hn hc hb hclk hmeet hq htest hactive hfilling hready hheld hpending hvalid
    exact planeReq_prefetch s p g n q hp hg hn hc hb hclk hmeet hq ⟨htest, hactive, hfilling, hready, hheld, hpending, hvalid⟩
  · intro s a p v hp hgate hb hclk hpf hmeet hhot
    exact planeCmd_switch s a p v hp hgate rfl rfl hb hclk hpf hmeet hhot
  · intro s a p q v hp hgate hb hclk hpf hd hmeet hq htest hactive hfilling hready hheld hpending hvalid
    exact planeCmd_prefetch s a p q v hp hgate rfl rfl hb hclk hpf hd hmeet hq ⟨htest, hactive, hfilling, hready, hheld, hpending, hvalid⟩
  · intro s a p v hp hgate hb
    exact planeCmd_rejected s a p v hp hgate rfl rfl hb

end Sys2Proof.Machine

namespace Sys2Proof.Machine

open Sys2Proof

/-! ### A pending switch behind one that waits for its clock (R144, R407)

SWITCH_DEFER_TIMEOUT looks at the group's first switch that is pending or whose panels' clock gives no edge. The statement says nothing of
the order in which a state lists the switches. Where a switch that waits for its clock stands before the pending one, the command discards
that one, and the pending switch stays. -/

/-- A switch of group 0 on its way to its edge. -/
def onItsWay : SwitchReq := { group := 0, slot := 1, src := .register, at_ := 0 }

/-- A switch of group 0 that was found not ready at its edge. -/
def leftPending : SwitchReq := { group := 0, slot := 2, src := .register, at_ := 0, pending := true }

/-- 256 µs after reset panel 0 is the member of group 0, in no region, so that it receives no clock. -/
def queuedSwitches : State :=
  { State.reset.wr (pgPanel 0) (PANEL_GROUP.MEMBER.at 0) 1 with ns := 256000, switches := [onItsWay, leftPending] }

theorem queuedSwitches_member : 0 ∈ queuedSwitches.liveMembers 0 ∧ queuedSwitches.clkRun 0 = false := by
  simp only [State.liveMembers, State.members, List.mem_filter, List.mem_range]
  decide +kernel

theorem groupLimit_lt (s : State) (g : Nat) : s.groupLimit g < 256 := State.rd_lt ..

@[simp] theorem State.refuseAll_switches (s : State) (r : SwitchReq) : (s.refuseAll r).switches = s.switches :=
  (foldl_keeps State.switches _ (fun s src => (OnlyPanel.refuse 0 s src).switches) _ _).trans (OnlyPanel.refuse 0 s r.src).switches

@[simp] theorem State.removeSwitch_switches (s : State) (r : SwitchReq) : (s.removeSwitch r).switches = s.switches.filter (· != r) := by
  unfold State.removeSwitch
  dsimp only
  split
  · exact foldl_keeps State.switches State.clearPending (fun _ _ => rfl) _ _
  · rfl

@[simp] theorem State.discardSwitch_switches (s : State) (r : SwitchReq) : (s.discardSwitch r).switches = s.switches.filter (· != r) := by
  have hskip (t : State) (p : Nat) : OnlyPanel p t (t.planeSkip p) := .countPlane t (by decide) (by decide)
  rw [State.discardSwitch, State.refuseAll_switches, forPanels_switches hskip, State.removeSwitch_switches]

/-- The command discards the switch that waits for its clock. -/
theorem switchDeferTimeout_queuedSwitches :
    exec (.switchDeferTimeout 0) queuedSwitches = .next (queuedSwitches.discardSwitch onItsWay) := by
  obtain ⟨hmem, hclk⟩ := queuedSwitches_member
  have hstalled : (queuedSwitches.reqPanels onItsWay).any (fun p => !queuedSwitches.clkRun p) = true :=
    List.any_eq_true.mpr ⟨0, hmem, by rw [hclk]; rfl⟩
  have hfirst : queuedSwitches.switches.find? (fun r => !r.forced && r.group == 0 &&
      (r.pending || (queuedSwitches.reqPanels r).any (fun p => !queuedSwitches.clkRun p))) = some onItsWay :=
    List.find?_cons_of_pos (by rw [hstalled]; rfl)
  have hpassed : queuedSwitches.ns - onItsWay.at_ ≥ 1000 * queuedSwitches.groupLimit 0 := by
    have := groupLimit_lt queuedSwitches 0
    show 256000 - 0 ≥ _
    omega
  refine (guardUnit_true _ (decide_eq_true (show 0 < 256 by decide))).trans (congrArg Host.Outcome.next ?_)
  rw [hfirst]
  exact if_pos hpassed

/-- Refutes O14: its clause on DEFER_LIMIT fails where the pending switch stands behind one of its group that waits for its clock. -/
theorem not_planeFillsAndSwitches : ¬ Obligations.PlaneFillsAndSwitches := by
  rintro ⟨-, -, -, -, -, -, deferLimit, -⟩
  have hpassed : 1000 * queuedSwitches.groupLimit 0 ≤ queuedSwitches.ns - leftPending.at_ := by
    have := groupLimit_lt queuedSwitches 0
    show _ ≤ 256000 - 0
    omega
  obtain ⟨t, ht, hgone, -⟩ := deferLimit queuedSwitches 0 leftPending (by decide) rfl hpassed
  obtain rfl := Host.Outcome.next.inj (switchDeferTimeout_queuedSwitches.symm.trans ht)
  rw [State.discardSwitch_switches] at hgone
  exact hgone (by decide)

end Sys2Proof.Machine

namespace Sys2Proof.Machine

open Sys2Proof

/-! ### A valid slot whose frames were never written (R133, R147)

SCRUB_PASS goes over the frames that the state lists. The statement puts nothing on which frames those are. Where a slot is marked valid and
no frame of it is listed, its frames read as zeros with signature 0, which is not the CRC of zeros; the pass does not meet them. -/

/-- No frame has been written; slot 0 of panel 0 is marked valid. -/
def unwrittenSlot : State := State.reset.wr (pgPanel 0) (PANEL_PLANE_SLOT.VALID.at 0) 1

theorem bytesLE_zero (n : Nat) : bytesLE n 0 = List.replicate n 0 := by
  induction n with
  | zero => rfl
  | succ n ih => simp [bytesLE, List.replicate_succ, ih]

/-- `f` at `n`, which is a number before `f` gets it: the evaluation of a long iteration stays shallow. -/
def atNumber (f : Nat → Nat) : Nat → Nat
  | 0 => f 0
  | n + 1 => f (n + 1)

theorem atNumber_eq (f : Nat → Nat) (n : Nat) : atNumber f n = f n := by
  cases n <;> rfl

/-- What `n` zero bytes make of a CRC-32C register. -/
def crcOfZeros : Nat → Nat → Nat
  | 0, c => c
  | n + 1, c => atNumber (crcOfZeros n) (crcShiftR 0x82F63B78 8 c)

theorem crc32c_replicate_zero (n : Nat) : crc32c (List.replicate n 0) = Nat.xor (crcOfZeros n 0xFFFFFFFF) 0xFFFFFFFF := by
  rw [crc32c, crcReflected]
  congr 1
  generalize 0xFFFFFFFF = c
  induction n generalizing c with
  | zero => rfl
  | succ n ih =>
    have hzero : c.xor (BitVec.toNat (0 : Byte)) = c := Nat.xor_zero c
    rw [List.replicate_succ, List.foldl_cons, ih, crcOfZeros, atNumber_eq, hzero]

/-- The CRC of 576 zero bytes is not 0, so a frame that was never written does not match its signature. -/
theorem unwrittenFrame_mismatch : ({} : Frame).mismatch = true := by
  have hbytes : frameBytes ((0 : BitVec 4608) ^^^ 0) = List.replicate 576 0 := by
    rw [frameBytes, BitVec.xor_self, BitVec.toNat_zero, bytesLE_zero]
  have hcrc : Nat.xor (crcOfZeros 576 0xFFFFFFFF) 0xFFFFFFFF ≠ 0 := by decide +kernel
  show (false || crc32c (frameBytes ((0 : BitVec 4608) ^^^ 0)) != 0) = true
  rw [hbytes, crc32c_replicate_zero, Bool.false_or, bne_iff_ne]
  exact hcrc

theorem unwrittenSlot_valid : unwrittenSlot.slotValid (framePanel 0) (frameSlot 0) = true ∧ unwrittenSlot.sparOff 0 = false := by
  decide +kernel

theorem scrubPass_frames {s : State} (h : s.frames = []) (ms : Nat) : ∃ t, exec (.scrubPass [] ms) s = .next t ∧ t.frames = [] := by
  refine ⟨_, rfl, ?_⟩
  simp [State.upsetFrames, h, apply_ite State.frames, State.raiseScrub]

/-- Refutes O15: its clause on SCRUB_PASS fails for a frame of a valid slot that the state does not list. -/
theorem not_framesScrubbedAndRepaired : ¬ Obligations.FramesScrubbedAndRepaired := by
  rintro ⟨pass, -⟩
  obtain ⟨t, ht, -, -, -, hmarked, -⟩ := pass unwrittenSlot [] 0
  obtain ⟨hvalid, hoff⟩ := unwrittenSlot_valid
  obtain ⟨hbad, -⟩ := hmarked 0 unwrittenFrame_mismatch hvalid hoff
  obtain ⟨u, hu, hframes⟩ := scrubPass_frames (s := unwrittenSlot) rfl 0
  obtain rfl := Host.Outcome.next.inj (hu.symm.trans ht)
  rw [State.frame, hframes] at hbad
  exact absurd hbad (by decide)

end Sys2Proof.Machine

namespace Sys2Proof.Machine

open Sys2Proof

/-! ### A stored row with reserved bits (R93, R155, R167)

The host may store any row. Bits [127:123] of a slice are reserved and have no cells, so the shadow cells that the row is loaded into read 0
there. The statement puts nothing on the stored rows. Where a stored row has such a bit set, the shadow cells do not hold that row. -/

/-- What both branches have, the conditional has. -/
theorem ite_keeps {α σ : Type} (view : σ → α) {c : Prop} [Decidable c] {t u : σ} {x : α} (ht : view t = x) (hu : view u = x) :
    view (if c then t else u) = x := by
  split
  · exact ht
  · exact hu

theorem cellRow_setCellRow (m : SMap Row) (r r' : Nat) (x : Row) :
    cellRow (setCellRow m r x) r' = if r' = r then x &&& rowCells r else cellRow m r' := mget_mset ..

/-- The shadow cells of row `r` of panel `p` hold no bit that has no cell. -/
def State.ShadowCelled (s : State) (p r : Nat) : Prop :=
  cellRow (s.panel p).shadow r &&& rowCells r = cellRow (s.panel p).shadow r

theorem State.ShadowCelled.congr {s t : State} {p r : Nat} (h : (t.panel p).shadow = (s.panel p).shadow) (hs : s.ShadowCelled p r) :
    t.ShadowCelled p r := by rwa [State.ShadowCelled, h]

/-- Rows get into the shadow cells as their cells hold them. -/
theorem State.ShadowCelled.setShadowRows {s : State} {p r : Nat} (hs : s.ShadowCelled p r) (xs : List (Nat × Row)) :
    (s.setShadowRows p xs).ShadowCelled p r := by
  rw [State.ShadowCelled, State.setShadowRows, State.setPanel_panel_same]
  refine List.foldlRecOn xs _ (motive := fun m => cellRow m r &&& rowCells r = cellRow m r) hs fun m hm x _ => ?_
  rw [cellRow_setCellRow]
  split
  case isTrue h => rw [h, BitVec.and_assoc, BitVec.and_self]
  case isFalse => exact hm

/-! What the rest of a load leaves of the panels and of the shadow cells. -/

@[simp] theorem State.setQswap_shadow (s : State) (p q p' : Nat) (x : QSwap) :
    ((s.setQswap p q x).panel p').shadow = (s.panel p').shadow := by
  rw [State.setQswap, State.setPanel_panel]
  split
  case isTrue h => rw [h]
  case isFalse => rfl

@[simp] theorem State.countCtx_panels (s : State) (p : Nat) (cnt ev : Fld) : (s.countCtx p cnt ev).panels = s.panels :=
  State.raise_panels ..

@[simp] theorem State.storeRow_panels (s : State) (c i r : Nat) (x : Row) : (s.storeRow c i r x).panels = s.panels := by
  refine ite_keeps State.panels rfl (ite_keeps State.panels ?_ rfl)
  rfl

/-- A row is read, and perhaps rewritten in the store (R172). -/
theorem State.readRow_result (s : State) (c i r : Nat) (parity : Bool) :
    ∃ x k m, s.readRow c i r parity = (x, k, { s with ctx := m }) := by
  simp only [State.readRow]
  split
  · exact ⟨_, _, _, rfl⟩
  · split <;> exact ⟨_, _, _, rfl⟩

@[simp] theorem State.pastMismatch_panels (s : State) (p : Nat) : (s.pastMismatch p).panels = s.panels := by
  unfold State.pastMismatch
  split <;> rfl

@[simp] theorem State.countRows_panels (s : State) (n : Nat) (pinned : Bool) : (s.countRows n pinned).panels = s.panels := by
  exact ite_keeps State.panels (State.raise_panels ..) rfl

theorem State.fallbackRow_result (s : State) (p r : Nat) : ∃ x t, s.fallbackRow p r = (x, t) ∧ t.panels = s.panels := by
  obtain ⟨x, k, m, hread⟩ := (s.pastMismatch p).readRow_result (colOf p) (fallbackSlot p) r (s.rowMismatch p)
  rw [State.fallbackRow, hread]
  exact ⟨_, _, rfl, ite_keeps State.panels ((State.countCtx_panels ..).trans (s.pastMismatch_panels p)) (s.pastMismatch_panels p)⟩

theorem State.fallbackRows_result (s : State) (p : Nat) (rs : List Nat) :
    ∃ xs t, s.fallbackRows p rs = (xs, t) ∧ t.panels = s.panels := by
  induction rs generalizing s with
  | nil => exact ⟨_, _, rfl, rfl⟩
  | cons r rs ih =>
    obtain ⟨x, t, hrow, ht⟩ := s.fallbackRow_result p r
    obtain ⟨xs, u, hrows, hu⟩ := ih t
    rw [State.fallbackRows, hrow]
    dsimp only
    rw [hrows]
    exact ⟨_, _, rfl, hu.trans ht⟩

theorem State.readRows_result (s : State) (p i : Nat) (parity : List Nat) (rs : List Nat) :
    ∃ xs n bad t, s.readRows p i parity rs = (xs, n, bad, t) ∧ t.panels = s.panels := by
  induction rs generalizing s with
  | nil => exact ⟨_, _, _, _, rfl, rfl⟩
  | cons r rs ih =>
    rw [State.readRows]
    split
    · obtain ⟨xs, n, bad, u, hrows, hu⟩ := ih s
      rw [hrows]
      exact ⟨_, _, _, _, rfl, hu⟩
    · obtain ⟨x, k, m, hread⟩ := (s.pastMismatch p).readRow_result (colOf p) i r (parity.contains r || s.rowMismatch p)
      have hpast := s.pastMismatch_panels p
      rw [hread]
      dsimp only
      split
      · exact ⟨_, _, _, _, rfl, hpast⟩
      · obtain ⟨xs, n, bad, u, hrows, hu⟩ := ih (if k = .repaired then
          ({ s.pastMismatch p with ctx := m } : State).countCtx p CTX_REPAIR_CNT.COUNT PANEL_CTX_EVENT.REPAIRED
          else { s.pastMismatch p with ctx := m })
        rw [hrows]
        exact ⟨_, _, _, _, rfl, hu.trans (ite_keeps State.panels ((State.countCtx_panels ..).trans hpast) hpast)⟩

theorem State.saveQuarter_shadow (s : State) (p q : Nat) : ((s.saveQuarter p q).panel p).shadow = (s.panel p).shadow := by
  unfold State.saveQuarter
  split
  · rfl
  · simp [State.panel_congr (State.countRows_panels ..), State.panel_congr (State.storeRow_panels ..)]

theorem State.countWaits_shadow (s : State) (p m : Nat) : ((s.countWaits p m).panel p).shadow = (s.panel p).shadow := by
  refine foldl_keeps (fun t => (State.panel t p).shadow) _ (fun t g => ?_) _ s
  split
  · exact foldl_keeps (fun t => (State.panel t p).shadow) _ (fun u q => State.setQswap_shadow ..) _ t
  · rfl

theorem State.countSaveWaits_shadow (s : State) (p m : Nat) : ((s.countSaveWaits p m).panel p).shadow = (s.panel p).shadow := by
  refine foldl_keeps (fun t => (State.panel t p).shadow) _ (fun t q => ?_) _ s
  split
  · split
    · rfl
    · exact foldl_keeps (fun t => (State.panel t p).shadow) _ (fun u r => State.setQswap_shadow ..) _ t
  · rfl

theorem State.ShadowCelled.loadQuarters {s : State} {p r : Nat} (hs : s.ShadowCelled p r) (qs : List Nat) (a : QAcc) (parity : List Nat) :
    (s.loadQuarters p qs a parity).ShadowCelled p r := by
  obtain ⟨xs, n, bad, t, hread, ht⟩ := s.readRows_result p a.slot parity (rowsOfQuarters qs)
  have hcount : (t.countRows n a.pinned).ShadowCelled p r :=
    hs.congr (by rw [State.panel_congr (State.countRows_panels ..), State.panel_congr ht])
  have haccept : ∀ (u : State) (b : QAcc), u.ShadowCelled p r →
      (qs.foldl (fun s q => s.setQswap p q { s.qswap p q with acc := some b }) u).ShadowCelled p r := fun u b hu =>
    hu.congr (foldl_keeps (fun t => (State.panel t p).shadow) _ (fun u q => State.setQswap_shadow ..) qs u)
  rw [State.loadQuarters, hread]
  dsimp only
  split
  · obtain ⟨ys, u, hback, hu⟩ := (t.countRows n a.pinned).fallbackRows_result p (rowsOfQuarters qs)
    have hrows := (hcount.congr (congrArg Panel.shadow (State.panel_congr hu p))).setShadowRows ys
    rw [hback]
    refine haccept _ _ (hrows.congr ?_)
    rw [State.panel_congr (State.recordLost_panels ..), State.panel_congr (State.countRows_panels ..)]
  · exact haccept _ _ (hcount.setShadowRows xs)

theorem State.ShadowCelled.contextLoad {s : State} {p r : Nat} (hs : s.ShadowCelled p r) (parity : List Nat) :
    (s.contextLoad p parity).ShadowCelled p r := by
  refine List.foldlRecOn _ _ (motive := fun t => State.ShadowCelled t p r) hs fun t ht q _ => ?_
  split
  · exact ht
  · split
    · exact ht
    · exact (ht.congr (foldl_keeps (fun t => (State.panel t p).shadow) _ (fun u q => State.saveQuarter_shadow u p q) _ t)).loadQuarters ..

theorem exec_contextLoad (s : State) {p : Nat} (parity : List Nat) (waited : SwapWaits) (hp : p < 576) :
    exec (.contextLoad p [] parity waited) s =
      .next (((s.countSaveWaits p waited.save).countWaits p waited.load).contextLoad p parity) :=
  guardUnit_true _ (by simp [hp])

/-- A row with bit 123, a reserved bit of its slice 0 where the row is an odd one. -/
def reservedRow : Row := BitVec.ofNat 2048 (2 ^ 123)

theorem reservedRow_uncelled : reservedRow &&& rowCells 1 ≠ reservedRow := by decide +kernel

/-- A swap of quarter 0 to slot 0. -/
def reservedSwap : QAcc := { slot := 0, qmask := 1, full := false, pinned := true }

/-- Panel 0 has accepted the swap. -/
def reservedAccepted : State := State.reset.setPanel 0 { quarters := [(0, { acc := some reservedSwap })] }

/-- Row 1 of its slot 0 is stored with a reserved bit. -/
def reservedStored : State := (reservedAccepted.storeRow 0 0 0 1).storeRow 0 0 1 reservedRow

theorem reservedStored_accepts : (reservedStored.panel 0).underTest = false ∧ (reservedStored.qswap 0 0).acc = some reservedSwap ∧
    (reservedStored.qswap 0 0).saving = none ∧ (∀ r, r < 4 → r ≠ 0 → (reservedStored.qswap 0 r).acc.all (·.loaded) = true) ∧
    reservedStored.rowMismatch 0 = false ∧ reservedStored.quarterValid (colOf 0) 0 0 = true := by decide +kernel

/-- Both rows of the quarter are good. -/
theorem reservedStored_rows : reservedStored.ctxRow (colOf 0) reservedSwap.slot (2 * 0) = ⟨freshCopy 1, freshCopy 1⟩ ∧
    reservedStored.ctxRow (colOf 0) reservedSwap.slot (2 * 0 + 1) = ⟨freshCopy reservedRow, freshCopy reservedRow⟩ := by
  have hoff : (reservedAccepted.column 0).off = false ∧ ((reservedAccepted.storeRow 0 0 0 1).column 0).off = false := by decide +kernel
  obtain ⟨h0, h1⟩ := hoff
  constructor
  · simp [reservedStored, reservedSwap, colOf, ctxKey, h0]
  · simp only [reservedStored, State.ctxRow_storeRow]
    exact if_pos ⟨rfl, h1⟩

theorem reservedStored_celled : reservedStored.ShadowCelled 0 1 := by
  unfold State.ShadowCelled
  decide +kernel

/-- Refutes O17: its clause on the load of one quarter fails for a stored row that has a reserved bit set. -/
theorem not_contextSwaps : ¬ Obligations.ContextSwaps := by
  rintro ⟨load, -⟩
  obtain ⟨htest, hacc, hsaving, hothers, hmismatch, hvalid⟩ := reservedStored_accepts
  obtain ⟨hrow0, hrow1⟩ := reservedStored_rows
  obtain ⟨t, ht, -, -, hshadow, -⟩ := load reservedStored 0 0 0 0 reservedSwap (by decide) (by decide) htest hacc hsaving hothers rfl rfl
    (by decide) hmismatch hvalid ((congrArg (·.a.good) hrow0).trans (freshCopy_good _)) ((congrArg (·.a.good) hrow1).trans (freshCopy_good _))
  obtain rfl := Host.Outcome.next.inj ((exec_contextLoad reservedStored [] ⟨0, 0⟩ (by decide)).symm.trans ht)
  have hcelled := (reservedStored_celled.congr ((State.countWaits_shadow _ 0 0).trans (State.countSaveWaits_shadow _ 0 0))).contextLoad []
  rw [State.ShadowCelled, hshadow.trans (congrArg (·.a.row) hrow1)] at hcelled
  exact reservedRow_uncelled hcelled

end Sys2Proof.Machine

namespace Sys2Proof.Machine

open Sys2Proof

/-! ### Counts and refusals of swap requests (R164, R166) -/

theorem State.rd_congr {s t : State} (h : t.regs = s.regs) (pg : Nat) (f : Fld) : t.rd pg f = s.rd pg f := by
  simp [State.rd, State.reg, h]

theorem State.countCtx_event (s : State) {p : Nat} (cnt : Fld) {ev : Fld} (hp : p < 576) (ho : ev.off < 4096) (he : ev.off ≠ 0x01C)
    (hl : ev.len = 1) (hlo : ev.lo < 32) : (s.countCtx p cnt ev).rd (pgPanel p) ev = 1 :=
  State.raise_on _ _ _ _ _ (quiet_panel hp ho he) hl hlo

theorem State.countCtx_count (s : State) {p : Nat} {cnt ev : Fld} (hp : p < 576) (ho : cnt.off < 4096) (he : cnt.off ≠ 0x01C)
    (hl : cnt.lo + cnt.len ≤ 32) (hne : cnt.off ≠ ev.off) :
    (s.countCtx p cnt ev).rd (pgPanel p) cnt = satAdd (2 ^ cnt.len - 1) (s.rd (pgPanel p) cnt) 1 := by
  rw [← State.rd_inc _ _ _ hl, State.rd, State.rd]
  exact congrArg (getF · _ _) (State.raise_reg _ _ _ _ _ _ (quiet_panel hp ho he) (by omega))

@[simp] theorem State.ctxRefuse_regs (s : State) (p : Nat) (src : SwapSrc) : (s.ctxRefuse p src).regs = s.regs :=
  ite_keeps State.regs rfl rfl

@[simp] theorem State.ctxRefuse_ctx (s : State) (p : Nat) (src : SwapSrc) : (s.ctxRefuse p src).ctx = s.ctx :=
  ite_keeps State.ctx rfl rfl

@[simp] theorem State.ctxRefuse_ns (s : State) (p : Nat) (src : SwapSrc) : (s.ctxRefuse p src).ns = s.ns :=
  ite_keeps State.ns rfl rfl

theorem State.ctxRefuse_inbox (s : State) (p : Nat) (src : SwapSrc) : ((s.ctxRefuse p src).panel p).inbox = (s.panel p).inbox := by
  refine ite_keeps (fun t => (State.panel t p).inbox) ?_ rfl
  rw [State.setPanel_panel_same]

theorem State.ctxRefuse_quarters (s : State) (p : Nat) (src : SwapSrc) :
    ((s.ctxRefuse p src).panel p).quarters = (s.panel p).quarters := by
  refine ite_keeps (fun t => (State.panel t p).quarters) ?_ rfl
  rw [State.setPanel_panel_same]

/-! ### Requests by the port (R164, R535) -/

theorem exec_ctxPortReq (s : State) {p qmask index : Nat} (ring defer : Bool) (hp : p < 576) (hq : qmask < 16) (hi : index < 256) :
    exec (.ctxPortReq p qmask ring index defer) s =
      .next (if s.clkRun p then s.ctxRequest p ⟨qmask, ring, index, defer, .port, s.ns⟩ else s) :=
  guardUnit_true _ (by simp [hp, hq, hi])

theorem ctxPortReq_sends (s : State) (p qmask index : Nat) (ring defer : Bool) (hp : p < 576) (hq : qmask < 16) (hi : index < 256)
    (hc : s.clkRun p = true) (hb : s.ctxRequestBad p qmask ring index = false) :
    ∃ t, exec (.ctxPortReq p qmask ring index defer) s = .next t ∧
      t = s.setPanel p { s.panel p with inbox := (s.panel p).inbox ++ [⟨qmask, ring, index, defer, .port, s.ns⟩] } := by
  refine ⟨_, exec_ctxPortReq s ring defer hp hq hi, ?_⟩
  rw [if_pos hc, State.ctxRequest, if_neg (ne_true_of_eq_false hb)]
  rfl

theorem ctxPortReq_refused (s : State) (p qmask index : Nat) (ring defer : Bool) (hp : p < 576) (hq : qmask < 16) (hi : index < 256)
    (hc : s.clkRun p = true) (hb : s.ctxRequestBad p qmask ring index = true) :
    ∃ t, exec (.ctxPortReq p qmask ring index defer) s = .next t ∧ (t.panel p).inbox = (s.panel p).inbox ∧
      (t.panel p).due.ctxRefused = true ∧ t.rd (pgPanel p) PANEL_CTX_EVENT.INVALID = 1 ∧
      t.rd (pgPanel p) CTX_INVALID_CNT.COUNT =
        satAdd (2 ^ CTX_INVALID_CNT.COUNT.len - 1) (s.rd (pgPanel p) CTX_INVALID_CNT.COUNT) 1 := by
  refine ⟨_, exec_ctxPortReq s ring defer hp hq hi, ?_⟩
  rw [if_pos hc, State.ctxRequest, if_pos hb]
  refine ⟨?_, ?_, ?_, ?_⟩
  · rw [State.ctxRefuse_inbox, State.ctxInvalid, State.panel_congr (State.countCtx_panels ..)]
  · rw [State.ctxRefuse, if_pos rfl, State.setPanel_panel_same]
  · rw [State.rd_congr (State.ctxRefuse_regs ..)]
    exact s.countCtx_event _ hp (by decide) (by decide) rfl (by decide)
  · rw [State.rd_congr (State.ctxRefuse_regs ..)]
    exact s.countCtx_count hp (by decide) (by decide) (by decide) (by decide)

theorem ctxPortReq_unclocked (s : State) (p qmask index : Nat) (ring defer : Bool) (hp : p < 576) (hq : qmask < 16) (hi : index < 256)
    (hc : s.clkRun p = false) : exec (.ctxPortReq p qmask ring index defer) s = .next s := by
  rw [exec_ctxPortReq s ring defer hp hq hi, hc]
  rfl

/-! ### Requests by PANEL_CTX_CMD (R164, R177) -/

/-- The hardware adds nothing of its own to PANEL_CTX_CMD in the cycle of a write. -/
theorem ctxCmd_steady (p : Nat) : (rowsAt .panel p PANEL_CTX_CMD.INDEX.off).all FieldRow.steady = true := rfl

/-- The request that the word `v` of PANEL_CTX_CMD carries at the instant `ns`. -/
def ctxCmdReq (v : Word) (ns : Nat) : CtxReq :=
  ⟨getF v PANEL_CTX_CMD.QMASK.lo PANEL_CTX_CMD.QMASK.len, getF v PANEL_CTX_CMD.RING.lo PANEL_CTX_CMD.RING.len == 1,
    getF v PANEL_CTX_CMD.INDEX.lo PANEL_CTX_CMD.INDEX.len, getF v PANEL_CTX_CMD.DEFER.lo PANEL_CTX_CMD.DEFER.len == 1, .register, ns⟩

theorem State.ctxCmdBody_eq (s : State) (p : Nat) (v : Word) :
    s.ctxCmdBody p v = if s.ctxRequestBad p (ctxCmdReq v s.ns).qmask (ctxCmdReq v s.ns).ring (ctxCmdReq v s.ns).index then none
      else some (s.sendSwap p (ctxCmdReq v s.ns)) := rfl

@[simp] theorem State.ctxRequestBad_respond (s : State) (st : BusStatus) (d p qmask index : Nat) (ring : Bool) :
    (s.respond st d).ctxRequestBad p qmask ring index = s.ctxRequestBad p qmask ring index := rfl

theorem ctxCmd_sends (s : State) (a : Access) (p : Nat) (v : Word) (hp : p < 576)
    (hg : s.writeGate a (pgPanel p) PANEL_CTX_CMD.INDEX.off v = .pass)
    (hb : s.ctxRequestBad p (ctxCmdReq v s.ns).qmask (ctxCmdReq v s.ns).ring (ctxCmdReq v s.ns).index = false) :
    ∃ t, exec (.ctxCmd a p v) s = .next t ∧ (∀ b, b ≠ pgPanel p * 4096 + PANEL_CTX_CMD.INDEX.off → t.reg b = s.reg b) ∧
      t.resp = ⟨.ok, 0⟩ ∧ (t.panel p).inbox = (s.panel p).inbox ++ [ctxCmdReq v s.ns] := by
  have hbody : (s.respond .ok 0).ctxCmdBody p v = some ((s.respond .ok 0).sendSwap p (ctxCmdReq v s.ns)) := by
    rw [State.ctxCmdBody_eq, State.ctxRequestBad_respond]
    exact if_neg (ne_true_of_eq_false hb)
  have hsame := State.gatedWrite_steady (body := fun s => s.ctxCmdBody p v) (pageOf_pgPanel hp) (ctxCmd_steady p) hg hbody
  refine ⟨_, guardUnit_true _ (decide_eq_true hp), fun b _ => hsame.2 b, hsame.resp, ?_⟩
  rw [hsame.panel, State.sendSwap, State.setPanel_panel_same]
  rfl

theorem ctxCmd_rejected (s : State) (a : Access) (p : Nat) (v : Word) (hp : p < 576)
    (hg : s.writeGate a (pgPanel p) PANEL_CTX_CMD.INDEX.off v = .pass)
    (hb : s.ctxRequestBad p (ctxCmdReq v s.ns).qmask (ctxCmdReq v s.ns).ring (ctxCmdReq v s.ns).index = true) :
    ∃ t, exec (.ctxCmd a p v) s = .next t ∧ t = { s with regs := t.regs, resp := ⟨.rejected, 0⟩ } ∧
      t.rd (pgPanel p) PAGE_ERRSUM.REJECT = 1 := by
  have hbody : (s.respond .ok 0).ctxCmdBody p v = none := by
    rw [State.ctxCmdBody_eq, State.ctxRequestBad_respond]
    exact if_pos hb
  have hwrite : s.gatedWrite a (pgPanel p) PANEL_CTX_CMD.INDEX.off v (fun s => s.ctxCmdBody p v) = s.rejectWrite (pgPanel p) := by
    simp only [State.gatedWrite, hg, hbody]
  exact ⟨_, (guardUnit_true _ (decide_eq_true hp)).trans (congrArg Host.Outcome.next hwrite), s.rejectWrite_panel hp⟩

/-! ### Quarters and their swaps -/

theorem quartersOf_nodup (m : Nat) : (quartersOf m).Nodup := List.nodup_range.filter _

theorem lt_of_mem_quartersOf {m q : Nat} (h : q ∈ quartersOf m) : q < 4 := List.mem_range.mp (List.mem_filter.mp h).1

theorem quartersOf_mod (m : Nat) : quartersOf (m % 16) = quartersOf m :=
  List.filter_congr fun _ hq => bitOf_mod_two_pow m (w := 4) (List.mem_range.mp hq)

theorem quarterMask_quartersOf (m : Nat) : quarterMask (quartersOf m) = m % 16 := by
  have hsmall : ∀ k < 16, quarterMask (quartersOf k) = k := by decide
  rw [← quartersOf_mod]
  exact hsmall _ (Nat.mod_lt _ (by decide))

theorem quartersOf_ne_nil {m : Nat} (h : m % 16 ≠ 0) : quartersOf m ≠ [] := fun hnil => by
  rw [← quarterMask_quartersOf, hnil] at h
  exact h rfl

theorem State.qswap_congr {s t : State} (h : t.panels = s.panels) (p q : Nat) : t.qswap p q = s.qswap p q := by
  rw [State.qswap, State.panel_congr h, State.qswap]

theorem State.setQswap_qswap (s : State) (p q q' : Nat) (x : QSwap) :
    (s.setQswap p q x).qswap p q' = if q' = q then x else s.qswap p q' := by
  rw [State.qswap, State.setQswap, State.setPanel_panel_same]
  exact mget_mset ..

/-- The swaps of several quarters of a panel are changed, each by itself. -/
theorem State.foldl_setQswap_qswap (p : Nat) (f : Nat → QSwap → QSwap) {qs : List Nat} (h : qs.Nodup) (s : State) (q : Nat) :
    (qs.foldl (fun t q => t.setQswap p q (f q (t.qswap p q))) s).qswap p q = if q ∈ qs then f q (s.qswap p q) else s.qswap p q := by
  induction qs generalizing s with
  | nil => simp
  | cons q' qs ih =>
    obtain ⟨hq', hqs⟩ := List.nodup_cons.mp h
    rw [List.foldl_cons, ih hqs, State.setQswap_qswap]
    by_cases hq : q = q'
    · simp [hq, hq']
    · simp [hq]

theorem State.setQswap_inbox (s : State) (p q : Nat) (x : QSwap) : ((s.setQswap p q x).panel p).inbox = (s.panel p).inbox := by
  rw [State.setQswap, State.setPanel_panel_same]

/-- What the change of swaps leaves: the registers and the requests on their way. -/
theorem State.foldl_setQswap_frame (p : Nat) (f : State → Nat → QSwap) (qs : List Nat) (s : State) :
    (qs.foldl (fun t q => t.setQswap p q (f t q)) s).regs = s.regs ∧
      ((qs.foldl (fun t q => t.setQswap p q (f t q)) s).panel p).inbox = (s.panel p).inbox :=
  ⟨foldl_keeps State.regs (fun t q => t.setQswap p q (f t q)) (fun _ _ => rfl) qs s,
    foldl_keeps (fun t => (State.panel t p).inbox) _ (fun t q => t.setQswap_inbox p q (f t q)) qs s⟩

/-! ### The acceptance edge of a request (R164, R165, R170, R175) -/

theorem rankSwaps_singleton (r : CtxReq) : rankSwaps [r] = [r] := by
  cases h : r.src <;> simp [rankSwaps, h]

theorem State.acceptAll_singleton (s : State) (p : Nat) (r : CtxReq) :
    s.acceptAll p [r] = s.considerSwap p r (quartersOf r.qmask) false := by
  rw [State.acceptAll, rankSwaps_singleton]
  rfl

/-- The acceptance edge takes the only request on its way. -/
theorem exec_swapAccept_only {s : State} {p : Nat} {r : CtxReq} (hp : p < 576) (h : (s.panel p).inbox = [r]) :
    exec (.swapAccept p [0]) s =
      .next ((s.setPanel p { s.panel p with inbox := [] }).considerSwap p r (quartersOf r.qmask) false) := by
  rw [← State.acceptAll_singleton]
  refine (guardUnit_true _ (decide_eq_true hp)).trans ?_
  simp [h]

/-- Request `r` of a panel in service is not ruled out, and names another context than the live one in some quarter. -/
def State.swapConsidered (s : State) (p : Nat) (r : CtxReq) : Prop :=
  s.sailsOff = false ∧ s.ctxRequestBad p r.qmask r.ring r.index = false ∧ (s.panel p).underTest = false ∧
    s.alreadyLive p r (quartersOf r.qmask) = false

theorem State.ctxRequestBad_iff (s : State) (p qmask index : Nat) (ring : Bool) : s.ctxRequestBad p qmask ring index = false ↔
    qmask % 16 ≠ 0 ∧ (qmask % 16 = 15 ∨ s.quarterMode p = true) ∧ (ring = true ∨ index < s.share p) ∧ s.share p ≠ 0 ∧
      s.committed p = true ∧ (s.panel p).grounded = 0 := by
  simp only [State.ctxRequestBad, Bool.or_eq_false_iff, Bool.and_eq_false_iff, beq_eq_false_iff_ne, bne_eq_false_iff_eq,
    Bool.not_eq_false', decide_eq_false_iff_not, ge_iff_le, Nat.not_le, and_assoc]

theorem State.replacePending_none {s : State} {p m : Nat} (h : ∀ q ∈ quartersOf m, (s.qswap p q).pend = none) :
    s.replacePending p (quartersOf m) = s := by
  have hnone : s.pendings p (quarterMask (quartersOf m)) = [] := by
    rw [State.pendings, quarterMask_quartersOf, quartersOf_mod, List.filterMap_eq_nil_iff.mpr h]
    rfl
  rw [State.replacePending, hnone]
  rfl

section
variable {s : State} {p : Nat} {r : CtxReq} (hr : s.swapConsidered p r) (hpend : ∀ q ∈ quartersOf r.qmask, (s.qswap p q).pend = none)
include hr hpend

/-- Where no swap is pending in its quarters, a request becomes pending in those with an accepted swap, and the others take it. -/
theorem State.considerSwap_splits (admitted : Bool) : s.considerSwap p r (quartersOf r.qmask) admitted =
    (s.pend p ⟨r, false⟩ ((quartersOf r.qmask).filter fun q => (s.qswap p q).acc.isSome)).takeSwap p r
      ((quartersOf r.qmask).filter fun q => !(s.qswap p q).acc.isSome) admitted := by
  obtain ⟨hoff, hbad, htest, hlive⟩ := hr
  obtain ⟨-, -, -, -, -, hgrounded⟩ := (s.ctxRequestBad_iff ..).mp hbad
  have hqs : (quartersOf r.qmask).filter (fun q => !(s.qswap p q).pend.any (fun x => x.req.same r)) = quartersOf r.qmask :=
    List.filter_eq_self.mpr fun q hq => by simp [hpend q hq]
  simp only [State.considerSwap, hgrounded, hoff, hbad, hlive, hqs, State.replacePending_none hpend, htest, Bool.false_or, ne_eq,
    not_true_eq_false, Bool.false_eq_true, if_false]

theorem State.considerSwap_accepts (hacc : ∀ q ∈ quartersOf r.qmask, (s.qswap p q).acc = none)
    (hadmits : r.defer = false ∨ s.admitsSwap (admissionRows (!s.quarterMode p) (quartersOf r.qmask).length) = true) :
    s.considerSwap p r (quartersOf r.qmask) false =
      (if r.defer then s.reserveRows (admissionRows (!s.quarterMode p) (quartersOf r.qmask).length) else s).acceptSwap p r
        (quartersOf r.qmask) := by
  have hnonempty : (quartersOf r.qmask).isEmpty = false := by
    obtain ⟨-, hbad, -⟩ := hr
    rw [List.isEmpty_eq_false_iff]
    exact quartersOf_ne_nil ((s.ctxRequestBad_iff ..).mp hbad).1
  have hbusy : (quartersOf r.qmask).filter (fun q => (s.qswap p q).acc.isSome) = [] :=
    List.filter_eq_nil_iff.mpr fun q hq => by simp [hacc q hq]
  have hfree : (quartersOf r.qmask).filter (fun q => !(s.qswap p q).acc.isSome) = quartersOf r.qmask :=
    List.filter_eq_self.mpr fun q hq => by simp [hacc q hq]
  have hgranted : (r.defer && !false && !s.admitsSwap (admissionRows (!s.quarterMode p) (quartersOf r.qmask).length)) = false := by
    rcases hadmits with h | h <;> simp [h]
  rw [State.considerSwap_splits hr hpend, hbusy, hfree, show s.pend p ⟨r, false⟩ [] = s from rfl, State.takeSwap]
  simp only [hnonempty, hgranted, Bool.false_eq_true, if_false]

theorem State.considerSwap_pends (hacc : ∀ q ∈ quartersOf r.qmask, (s.qswap p q).acc.isSome = true) :
    s.considerSwap p r (quartersOf r.qmask) false = s.pend p ⟨r, false⟩ (quartersOf r.qmask) := by
  have hbusy : (quartersOf r.qmask).filter (fun q => (s.qswap p q).acc.isSome) = quartersOf r.qmask := List.filter_eq_self.mpr hacc
  have hfree : (quartersOf r.qmask).filter (fun q => !(s.qswap p q).acc.isSome) = [] :=
    List.filter_eq_nil_iff.mpr fun q hq => by simp [hacc q hq]
  rw [State.considerSwap_splits hr hpend, hbusy, hfree]
  rfl

end

/-- What a request is judged by is not what else is on its way. -/
theorem State.swapConsidered_setInbox {s : State} {p : Nat} {r : CtxReq} (l : List CtxReq) (h : s.swapConsidered p r) :
    (s.setPanel p { s.panel p with inbox := l }).swapConsidered p r := by
  obtain ⟨hoff, hbad, htest, hlive⟩ := h
  refine ⟨hoff, ?_, by rw [State.setPanel_panel_same]; exact htest, hlive⟩
  rw [State.ctxRequestBad_iff] at hbad ⊢
  simp only [State.committed, State.setPanel_panel_same] at hbad ⊢
  exact hbad

theorem State.setInbox_qswap (s : State) (p q : Nat) (l : List CtxReq) :
    (s.setPanel p { s.panel p with inbox := l }).qswap p q = s.qswap p q := by
  rw [State.qswap, State.setPanel_panel_same]
  rfl

theorem State.alreadyLive_of_other {s : State} {p : Nat} {r : CtxReq} {qs : List Nat}
    (h : qs.any (fun q => s.targetSlot p r q != s.slotOf p (s.live p q)) = true) : s.alreadyLive p r qs = false := by
  rw [State.alreadyLive, List.all_eq_false]
  obtain ⟨q, hq, hne⟩ := List.any_eq_true.mp h
  exact ⟨q, hq, by simpa using hne⟩

/-- The accepted swap of quarter `q` for request `r`, which asks for the quarters `qs` (R165, R167). -/
def State.acceptedSwap (s : State) (p : Nat) (r : CtxReq) (qs : List Nat) (q : Nat) : QAcc :=
  { slot := s.targetSlot p r q, qmask := quarterMask qs, full := !s.quarterMode p, pinned := !r.defer, src := r.src }

theorem State.acceptSwap_qswap (s : State) (p : Nat) (r : CtxReq) {qs : List Nat} (h : qs.Nodup) {q : Nat} (hq : q ∈ qs) :
    ((s.acceptSwap p r qs).qswap p q).acc = some (s.acceptedSwap p r qs q) := by
  have hfold := State.foldl_setQswap_qswap p (fun q x => { x with acc := some (s.acceptedSwap p r qs q) }) h s q
  rw [if_pos hq] at hfold
  exact congrArg QSwap.acc hfold

theorem State.acceptSwap_frame (s : State) (p : Nat) (r : CtxReq) (qs : List Nat) :
    (s.acceptSwap p r qs).regs = s.regs ∧ ((s.acceptSwap p r qs).panel p).inbox = (s.panel p).inbox :=
  State.foldl_setQswap_frame p (fun t q => { t.qswap p q with acc := some (s.acceptedSwap p r qs q) }) qs s

theorem State.pend_qswap (s : State) (p : Nat) (x : QPend) {qs : List Nat} (h : qs.Nodup) {q : Nat} (hq : q ∈ qs) :
    (s.pend p x qs).qswap p q = { s.qswap p q with pend := some x } :=
  (State.foldl_setQswap_qswap p (fun _ y => { y with pend := some x }) h s q).trans (if_pos hq)

theorem State.pend_frame (s : State) (p : Nat) (x : QPend) (qs : List Nat) :
    (s.pend p x qs).regs = s.regs ∧ ((s.pend p x qs).panel p).inbox = (s.panel p).inbox :=
  State.foldl_setQswap_frame p (fun t q => { t.qswap p q with pend := some x }) qs s

theorem swapAccept_accepts (s : State) (p : Nat) (r : CtxReq) (hp : p < 576) (hin : (s.panel p).inbox = [r])
    (hbad : s.ctxRequestBad p r.qmask r.ring r.index = false) (hoff : s.sailsOff = false) (htest : (s.panel p).underTest = false)
    (hfree : ∀ q ∈ quartersOf r.qmask, (s.qswap p q).acc = none ∧ (s.qswap p q).pend = none)
    (hadmits : r.defer = false ∨ s.admitsSwap (admissionRows (!s.quarterMode p) (quartersOf r.qmask).length) = true)
    (hlive : (quartersOf r.qmask).any (fun q => s.targetSlot p r q != s.slotOf p (s.live p q)) = true) :
    ∃ t, exec (.swapAccept p [0]) s = .next t ∧ (t.panel p).inbox = [] ∧ t.regs = s.regs ∧
      ∀ q, q ∈ quartersOf r.qmask → (t.qswap p q).acc = some (s.acceptedSwap p r (quartersOf r.qmask) q) := by
  refine ⟨_, exec_swapAccept_only hp hin, ?_⟩
  have hr := State.swapConsidered_setInbox [] ⟨hoff, hbad, htest, State.alreadyLive_of_other hlive⟩
  rw [State.considerSwap_accepts hr (fun q hq => by rw [State.setInbox_qswap]; exact (hfree q hq).2)
    (fun q hq => by rw [State.setInbox_qswap]; exact (hfree q hq).1) hadmits]
  have hemptied : ((s.setPanel p { s.panel p with inbox := [] }).panel p).inbox = [] := by rw [State.setPanel_panel_same]
  split
  all_goals
    obtain ⟨hregs, hinbox⟩ := State.acceptSwap_frame _ p r (quartersOf r.qmask)
    exact ⟨hinbox.trans hemptied, hregs, fun q hq => State.acceptSwap_qswap _ p r (quartersOf_nodup _) hq⟩

theorem swapAccept_pends (s : State) (p : Nat) (r : CtxReq) (hp : p < 576) (hin : (s.panel p).inbox = [r])
    (hbad : s.ctxRequestBad p r.qmask r.ring r.index = false) (hoff : s.sailsOff = false) (htest : (s.panel p).underTest = false)
    (hbusy : ∀ q ∈ quartersOf r.qmask, (s.qswap p q).acc.isSome = true ∧ (s.qswap p q).pend = none)
    (hlive : (quartersOf r.qmask).any (fun q => s.targetSlot p r q != s.slotOf p (s.live p q)) = true) :
    ∃ t, exec (.swapAccept p [0]) s = .next t ∧ (t.panel p).inbox = [] ∧ t.regs = s.regs ∧
      ∀ q, q ∈ quartersOf r.qmask → (t.qswap p q).acc = (s.qswap p q).acc ∧ (t.qswap p q).pend = some ⟨r, false⟩ := by
  refine ⟨_, exec_swapAccept_only hp hin, ?_⟩
  have hr := State.swapConsidered_setInbox [] ⟨hoff, hbad, htest, State.alreadyLive_of_other hlive⟩
  rw [State.considerSwap_pends hr (fun q hq => by rw [State.setInbox_qswap]; exact (hbusy q hq).2)
    (fun q hq => by rw [State.setInbox_qswap]; exact (hbusy q hq).1)]
  obtain ⟨hregs, hinbox⟩ := State.pend_frame (s.setPanel p { s.panel p with inbox := [] }) p ⟨r, false⟩ (quartersOf r.qmask)
  refine ⟨hinbox.trans (by rw [State.setPanel_panel_same]), hregs, fun q hq => ?_⟩
  rw [State.pend_qswap _ p _ (quartersOf_nodup _) hq, State.setInbox_qswap]
  exact ⟨rfl, rfl⟩

/-! ### Swaps held past DEFER_LIMIT (R175) -/

theorem State.unpend_qswap (s : State) (p : Nat) (qs : List Nat) (q : Nat) :
    (s.unpend p qs).qswap p q = if q ∈ qs then { s.qswap p q with pend := none } else s.qswap p q := by
  induction qs generalizing s with
  | nil => rfl
  | cons q' qs ih =>
    have hone : (s.unpend p [q']).qswap p q = if q = q' then { s.qswap p q with pend := none } else s.qswap p q := by
      rw [State.unpend, List.foldl_cons, List.foldl_nil, State.setQswap_qswap]
      split
      case isTrue h => rw [h]
      case isFalse => split <;> rfl
    rw [show s.unpend p (q' :: qs) = (s.unpend p [q']).unpend p qs from rfl, ih, hone]
    by_cases hq : q = q' <;> by_cases hqs : q ∈ qs <;> simp [hq, hqs]

/-- What is left where swaps are no longer pending: the registers, the store and the time. -/
theorem State.unpend_frame (s : State) (p : Nat) (qs : List Nat) :
    (s.unpend p qs).regs = s.regs ∧ (s.unpend p qs).ctx = s.ctx ∧ (s.unpend p qs).ns = s.ns := by
  have hstep {α : Type} (view : State → α) (hgov : ∀ t g, view { t with gov := g } = view t)
      (hset : ∀ t q x, view (State.setQswap t p q x) = view t) : view (s.unpend p qs) = view s :=
    foldl_keeps view _ (fun t q => (hset _ _ _).trans (ite_keeps view (hgov ..) rfl)) qs s
  exact ⟨hstep State.regs (fun _ _ => rfl) fun _ _ _ => rfl, hstep State.ctx (fun _ _ => rfl) fun _ _ _ => rfl,
    hstep State.ns (fun _ _ => rfl) fun _ _ _ => rfl⟩

theorem State.mem_pendingIn {s : State} {p q : Nat} {x : QPend} (hq : q < 4) :
    q ∈ s.pendingIn p x ↔ (s.qswap p q).pend = some x := by
  simp [State.pendingIn, hq]

theorem State.skipPending_qswap (s : State) (p : Nat) (x : QPend) {q : Nat} (hq : q < 4) :
    (s.skipPending p x (s.pendingIn p x)).qswap p q =
      if (s.qswap p q).pend = some x then { s.qswap p q with pend := none } else s.qswap p q := by
  rw [State.skipPending, State.qswap, State.ctxRefuse_quarters, ← State.qswap, State.ctxSkip,
    State.qswap_congr (State.countCtx_panels ..), State.unpend_qswap]
  simp only [State.mem_pendingIn hq]

/-- A skip is reported, and leaves the store and the time. -/
theorem State.skipPending_frame (s : State) {p : Nat} (x : QPend) (qs : List Nat) (hp : p < 576) :
    (s.skipPending p x qs).rd (pgPanel p) PANEL_CTX_EVENT.SKIP = 1 ∧ (s.skipPending p x qs).ctx = s.ctx ∧
      (s.skipPending p x qs).ns = s.ns := by
  obtain ⟨-, hctx, hns⟩ := s.unpend_frame p qs
  refine ⟨?_, ?_, ?_⟩
  · rw [State.skipPending, State.rd_congr (State.ctxRefuse_regs ..)]
    exact State.countCtx_event _ _ hp (by decide) (by decide) rfl (by decide)
  · exact (State.ctxRefuse_ctx ..).trans ((State.raise_ctx ..).trans hctx)
  · exact (State.ctxRefuse_ns ..).trans ((State.raise_ns ..).trans hns)

/-- What SWAP_DEFER_TIMEOUT does with one of the pending swaps of panel `p`, where the limit is `limit` ns. -/
def State.expirePending (p limit : Nat) (s : State) (x : QPend) : State :=
  if x.held && s.ns - x.req.at_ ≥ limit then s.skipPending p x (s.pendingIn p x) else s

theorem exec_swapDeferTimeout (s : State) {p : Nat} (hp : p < 576) : exec (.swapDeferTimeout p) s =
    .next ((s.pendings p 15).foldl (State.expirePending p (1000 * s.rd (pgPanel p) PANEL_CTX_CTRL.DEFER_LIMIT)) s) :=
  guardUnit_true _ (decide_eq_true hp)

theorem State.mem_pendings {s : State} {p q : Nat} {x : QPend} (hq : q < 4) (h : (s.qswap p q).pend = some x) : x ∈ s.pendings p 15 := by
  rw [State.pendings, List.mem_eraseDups, List.mem_filterMap]
  refine ⟨q, ?_, h⟩
  have hall : ∀ q < 4, q ∈ quartersOf 15 := by decide
  exact hall q hq

/-- The limit of a pending swap is over: it is held, and was requested `limit` ns ago or earlier. -/
def State.overdue (s : State) (limit : Nat) (x : QPend) : Prop := x.held = true ∧ limit ≤ s.ns - x.req.at_

section
variable {s : State} {p limit : Nat} {x : QPend}

theorem State.expirePending_overdue (h : s.overdue limit x) : s.expirePending p limit x = s.skipPending p x (s.pendingIn p x) := by
  obtain ⟨hheld, hlimit⟩ := h
  exact if_pos (by simp [hheld, hlimit])

theorem State.expirePending_kept (h : ¬ s.overdue limit x) : s.expirePending p limit x = s :=
  if_neg fun hover => h (by simpa [State.overdue] using hover)

/-- A swap that is looked at is skipped, or nothing changes. -/
theorem State.expirePending_cases (s : State) (p limit : Nat) (x : QPend) :
    s.expirePending p limit x = s.skipPending p x (s.pendingIn p x) ∨ s.expirePending p limit x = s := by
  by_cases h : s.overdue limit x
  · exact .inl (State.expirePending_overdue h)
  · exact .inr (State.expirePending_kept h)

theorem State.expirePending_frame (s : State) (limit : Nat) (x : QPend) (hp : p < 576) :
    (s.expirePending p limit x).ctx = s.ctx ∧ (s.expirePending p limit x).ns = s.ns ∧
      (s.rd (pgPanel p) PANEL_CTX_EVENT.SKIP = 1 → (s.expirePending p limit x).rd (pgPanel p) PANEL_CTX_EVENT.SKIP = 1) := by
  rcases s.expirePending_cases p limit x with h | h
  · obtain ⟨hskip, hctx, hns⟩ := s.skipPending_frame x (s.pendingIn p x) hp
    rw [h]
    exact ⟨hctx, hns, fun _ => hskip⟩
  · rw [h]
    exact ⟨rfl, rfl, id⟩

/-- The accepted swap of a quarter stays, and its pending one stays or is gone. -/
theorem State.expirePending_qswap (s : State) (p limit : Nat) (x : QPend) {q : Nat} (hq : q < 4) :
    ((s.expirePending p limit x).qswap p q).acc = (s.qswap p q).acc ∧
      (((s.expirePending p limit x).qswap p q).pend = (s.qswap p q).pend ∨ ((s.expirePending p limit x).qswap p q).pend = none) := by
  rcases s.expirePending_cases p limit x with h | h
  · rw [h, State.skipPending_qswap s p x hq]
    split
    · exact ⟨rfl, .inr rfl⟩
    · exact ⟨rfl, .inl rfl⟩
  · rw [h]
    exact ⟨rfl, .inl rfl⟩

/-- An overdue swap is no longer pending in a quarter where it was the pending one, and its skip is reported. -/
theorem State.expirePending_drops {q : Nat} (h : s.overdue limit x) (hp : p < 576) (hq : q < 4)
    (hpend : (s.qswap p q).pend = some x ∨ (s.qswap p q).pend = none) :
    ((s.expirePending p limit x).qswap p q).pend = none ∧ (s.expirePending p limit x).rd (pgPanel p) PANEL_CTX_EVENT.SKIP = 1 := by
  obtain ⟨hskip, -, -⟩ := s.skipPending_frame x (s.pendingIn p x) hp
  rw [State.expirePending_overdue h]
  refine ⟨?_, hskip⟩
  rw [State.skipPending_qswap s p x hq]
  rcases hpend with hpend | hpend <;> simp [hpend]

/-- Where the pending swap of a quarter is not overdue, no look at any swap changes it. -/
theorem State.expirePending_keeps {q : Nat} {y : QPend} (hq : q < 4) (hpend : (s.qswap p q).pend = some x) (h : ¬ s.overdue limit x) :
    ((s.expirePending p limit y).qswap p q).pend = some x := by
  by_cases hy : s.overdue limit y
  · have hne : (s.qswap p q).pend ≠ some y := fun e => h (Option.some.inj (hpend.symm.trans e) ▸ hy)
    rw [State.expirePending_overdue hy, State.skipPending_qswap s p y hq, if_neg hne]
    exact hpend
  · rw [State.expirePending_kept hy]
    exact hpend

end

/-- The look at the swaps `l` leaves the store, the time and the accepted swaps, and makes no swap pending. -/
theorem State.foldl_expirePending_frame (s : State) {p q : Nat} (limit : Nat) (l : List QPend) (hp : p < 576) (hq : q < 4) :
    (l.foldl (State.expirePending p limit) s).ctx = s.ctx ∧ (l.foldl (State.expirePending p limit) s).ns = s.ns ∧
      ((l.foldl (State.expirePending p limit) s).qswap p q).acc = (s.qswap p q).acc ∧
      (((l.foldl (State.expirePending p limit) s).qswap p q).pend = (s.qswap p q).pend ∨
        ((l.foldl (State.expirePending p limit) s).qswap p q).pend = none) := by
  refine ⟨foldl_keeps State.ctx _ (fun t x => (t.expirePending_frame limit x hp).1) l s,
    foldl_keeps State.ns _ (fun t x => (t.expirePending_frame limit x hp).2.1) l s,
    foldl_keeps (fun t => (State.qswap t p q).acc) _ (fun t x => (t.expirePending_qswap p limit x hq).1) l s, ?_⟩
  refine List.foldlRecOn l _ (motive := fun t => (State.qswap t p q).pend = (s.qswap p q).pend ∨ (State.qswap t p q).pend = none)
    (.inl rfl) fun t ht x _ => ?_
  rcases (t.expirePending_qswap p limit x hq).2 with h | h
  · rwa [h]
  · exact .inr h

/-- A skip stays reported. -/
theorem State.foldl_expirePending_skip {s : State} {p : Nat} (limit : Nat) (l : List QPend) (hp : p < 576)
    (h : s.rd (pgPanel p) PANEL_CTX_EVENT.SKIP = 1) :
    (l.foldl (State.expirePending p limit) s).rd (pgPanel p) PANEL_CTX_EVENT.SKIP = 1 :=
  List.foldlRecOn l _ (motive := fun t => State.rd t (pgPanel p) PANEL_CTX_EVENT.SKIP = 1) h
    fun t ht x _ => (t.expirePending_frame limit x hp).2.2 ht

/-- An overdue swap that is looked at is no longer pending afterwards. -/
theorem State.foldl_expirePending_drops {s : State} {p q limit : Nat} {x : QPend} {l : List QPend} (hp : p < 576) (hq : q < 4)
    (hpend : (s.qswap p q).pend = some x) (hover : s.overdue limit x) (hmem : x ∈ l) :
    ((l.foldl (State.expirePending p limit) s).qswap p q).pend = none ∧
      (l.foldl (State.expirePending p limit) s).rd (pgPanel p) PANEL_CTX_EVENT.SKIP = 1 := by
  obtain ⟨before, after, rfl⟩ := List.append_of_mem hmem
  rw [List.foldl_append, List.foldl_cons]
  obtain ⟨-, hns, -, hbefore⟩ := s.foldl_expirePending_frame limit before hp hq
  rw [hpend] at hbefore
  obtain ⟨hnone, hskip⟩ := State.expirePending_drops (by rwa [State.overdue, hns]) hp hq hbefore
  obtain ⟨-, -, -, hafter⟩ := State.foldl_expirePending_frame (State.expirePending p limit _ x) limit after hp hq
  rw [hnone, or_self] at hafter
  exact ⟨hafter, State.foldl_expirePending_skip limit after hp hskip⟩

theorem swapDeferTimeout_drops (s : State) (p q : Nat) (x : QPend) (hp : p < 576) (hq : q < 4) (hpend : (s.qswap p q).pend = some x)
    (hheld : x.held = true) (hlimit : 1000 * s.rd (pgPanel p) PANEL_CTX_CTRL.DEFER_LIMIT ≤ s.ns - x.req.at_) :
    ∃ t, exec (.swapDeferTimeout p) s = .next t ∧ (t.qswap p q).pend = none ∧ (t.qswap p q).acc = (s.qswap p q).acc ∧
      t.rd (pgPanel p) PANEL_CTX_EVENT.SKIP = 1 ∧ t.ctx = s.ctx := by
  obtain ⟨hnone, hskip⟩ := State.foldl_expirePending_drops hp hq hpend ⟨hheld, hlimit⟩ (State.mem_pendings hq hpend)
  obtain ⟨hctx, -, hacc, -⟩ := s.foldl_expirePending_frame _ (s.pendings p 15) hp hq
  exact ⟨_, exec_swapDeferTimeout s hp, hnone, hacc, hskip, hctx⟩

theorem swapDeferTimeout_keeps (s : State) (p q : Nat) (x : QPend) (hp : p < 576) (hq : q < 4) (hpend : (s.qswap p q).pend = some x)
    (h : x.held = false ∨ s.ns - x.req.at_ < 1000 * s.rd (pgPanel p) PANEL_CTX_CTRL.DEFER_LIMIT) :
    ∃ t, exec (.swapDeferTimeout p) s = .next t ∧ (t.qswap p q).pend = some x := by
  refine ⟨_, exec_swapDeferTimeout s hp, ?_⟩
  generalize 1000 * s.rd (pgPanel p) PANEL_CTX_CTRL.DEFER_LIMIT = limit at h ⊢
  have hkept : ¬ s.overdue limit x := by
    rintro ⟨hheld, hlimit⟩
    rcases h with h | h
    · exact absurd (hheld.symm.trans h) (by decide)
    · omega
  refine (List.foldlRecOn (s.pendings p 15) (State.expirePending p limit)
    (motive := fun t => (State.qswap t p q).pend = some x ∧ State.ns t = s.ns) ⟨hpend, rfl⟩ fun t ht y _ => ?_).1
  obtain ⟨htpend, htns⟩ := ht
  obtain ⟨-, hns, -⟩ := t.expirePending_frame limit y hp
  exact ⟨State.expirePending_keeps hq htpend (by rwa [State.overdue, htns]), hns.trans htns⟩

/-- Settles O16: each of its clauses is the lemma about its command. -/
theorem contextRequests : Obligations.ContextRequests :=
  ⟨ctxPortReq_sends, ctxPortReq_refused, ctxPortReq_unclocked, ctxCmd_sends, ctxCmd_rejected, swapAccept_accepts, swapAccept_pends,
    swapDeferTimeout_drops, swapDeferTimeout_keeps⟩

end Sys2Proof.Machine

namespace Sys2Proof.Machine

open Sys2Proof

/-! ### The tile page (R44, R178) -/

theorem pageOf_pgTile {c : Nat} (h : c < 288) : pageOf (pgTile c) = some (.tile, c) := by
  unfold pgTile
  simp (disch := omega) [pageOf, if_pos, if_neg]

/-! The hardware adds nothing of its own to these registers in the cycle of a write. -/

theorem ctxAccCmd_steady (c : Nat) : (rowsAt .tile c CTX_ACC_CMD.SLOT.off).all FieldRow.steady = true := rfl
theorem ctxBufData_steady (c : Nat) : (rowsAt .tile c CTX_BUF_DATA.DATA.off).all FieldRow.steady = true := rfl
theorem ctxSplit_steady (c : Nat) : (rowsAt .tile c CTX_SPLIT.LOWER.off).all FieldRow.steady = true := rfl

theorem SameRegs.ctx {t u : State} (h : SameRegs t u) : u.ctx = t.ctx := by
  obtain ⟨⟨r, rfl⟩, -⟩ := h; rfl

theorem SameRegs.ctxNext {t u : State} (h : SameRegs t u) : u.ctxNext = t.ctxNext := by
  obtain ⟨⟨r, rfl⟩, -⟩ := h; rfl

theorem SameRegs.column {t u : State} (h : SameRegs t u) (c : Nat) : u.column c = t.column c := by
  obtain ⟨⟨r, rfl⟩, -⟩ := h; rfl

/-- A column is a part of the columns' table. -/
theorem State.column_congr {s t : State} (h : t.columns = s.columns) (c : Nat) : t.column c = s.column c := by
  rw [State.column, h, State.column]

/-! ### Access commands (R41, R178, R179) -/

/-- The command that the word `v` of CTX_ACC_CMD gives, from `who`. -/
def accCmdOf (v : Word) (write : Bool) (who : Who) : AccCmd :=
  ⟨accSlot (getF v CTX_ACC_CMD.TARGET.lo CTX_ACC_CMD.TARGET.len) (getF v CTX_ACC_CMD.SLOT.lo CTX_ACC_CMD.SLOT.len),
    getF v CTX_ACC_CMD.ROW.lo CTX_ACC_CMD.ROW.len, getF v CTX_ACC_CMD.TARGET.lo CTX_ACC_CMD.TARGET.len, write, whoKey who⟩

/-- The operation `op` that a write of CTX_ACC_CMD carries: 1 reads a row, 2 writes one. -/
def accOp (write : Bool) : Nat := if write then 2 else 1

/-- The state in which the command `m` of column `c` is in progress. -/
def State.startAcc (s : State) (c : Nat) (m : AccCmd) : State :=
  (s.setColumn c { s.column c with accCmd := some m }).wr (pgTile c) CTX_ACC_STATUS.BUSY 1

theorem State.startAcc_busy (s : State) (c : Nat) (m : AccCmd) : (s.startAcc c m).rd (pgTile c) CTX_ACC_STATUS.BUSY = 1 :=
  State.rd_wr_same _ _ CTX_ACC_STATUS.BUSY _ (by decide)

theorem State.startAcc_accCmd (s : State) (c : Nat) (m : AccCmd) : ((s.startAcc c m).column c).accCmd = some m :=
  congrArg Column.accCmd (State.setColumn_column_same ..)

/-- The written operation stands beside the other fields of the word. -/
theorem State.ctxAccBody_starts {s : State} {a : Access} {c p : Nat} {v : Word} (write : Bool)
    (hp : s.accPanel c (getF v CTX_ACC_CMD.TARGET.lo CTX_ACC_CMD.TARGET.len) (getF v CTX_ACC_CMD.SLOT.lo CTX_ACC_CMD.SLOT.len) = some p)
    (hidle : s.on (pgTile c) CTX_ACC_STATUS.BUSY = false) (hown : s.pfOwns a.who p = true) :
    s.ctxAccBody a c (setF v CTX_ACC_CMD.OP.lo CTX_ACC_CMD.OP.len (accOp write)) = some (s.startAcc c (accCmdOf v write a.who)) := by
  have hop : getF (setF v CTX_ACC_CMD.OP.lo CTX_ACC_CMD.OP.len (accOp write)) CTX_ACC_CMD.OP.lo CTX_ACC_CMD.OP.len = accOp write := by
    rw [getF_setF_same _ _ _ _ (by decide)]
    cases write <;> rfl
  have hkept {f : Fld} (h : f.lo + f.len ≤ CTX_ACC_CMD.OP.lo) :
      getF (setF v CTX_ACC_CMD.OP.lo CTX_ACC_CMD.OP.len (accOp write)) f.lo f.len = getF v f.lo f.len :=
    getF_setF_ne _ _ _ _ _ _ (.inl h)
  have hadmitted : ¬ (s.on (pgTile c) CTX_ACC_STATUS.BUSY = true ∨ (accOp write ≠ 1 ∧ accOp write ≠ 2) ∨ s.pfOwns a.who p = false) := by
    cases write <;> simp [accOp, hidle, hown]
  have hwrite : (accOp write == 2) = write := by cases write <;> rfl
  simp only [State.ctxAccBody, hop, hkept (f := CTX_ACC_CMD.TARGET) (by decide), hkept (f := CTX_ACC_CMD.SLOT) (by decide),
    hkept (f := CTX_ACC_CMD.ROW) (by decide), hp, if_neg hadmitted, hwrite]
  rfl

/-- A write whose own world check is met goes through the other checks alone. -/
theorem State.gatedWriteW_admitted {s : State} {a : Access} {pg off : Nat} {v : Word} {deny body : State → Option State}
    (h : deny s = none) : s.gatedWriteW a pg off v deny body = s.gatedWrite a pg off v body := by
  unfold State.gatedWriteW
  rw [h]
  split
  · contradiction
  · rfl

@[simp] theorem State.accPanel_respond (s : State) (st : BusStatus) (d c target slot : Nat) :
    (s.respond st d).accPanel c target slot = s.accPanel c target slot := rfl

/-- An admitted access command of an idle tile is in progress. -/
theorem State.ctxAccWrite_starts {s : State} {a : Access} {c p : Nat} {v : Word} (write : Bool) (hc : c < 288)
    (hg : s.writeGate a (pgTile c) CTX_ACC_CMD.SLOT.off (setF v CTX_ACC_CMD.OP.lo CTX_ACC_CMD.OP.len (accOp write)) = .pass)
    (hdeny : s.ctxAccDeny a c (setF v CTX_ACC_CMD.OP.lo CTX_ACC_CMD.OP.len (accOp write)) = none)
    (hp : s.accPanel c (getF v CTX_ACC_CMD.TARGET.lo CTX_ACC_CMD.TARGET.len) (getF v CTX_ACC_CMD.SLOT.lo CTX_ACC_CMD.SLOT.len) = some p)
    (hidle : s.on (pgTile c) CTX_ACC_STATUS.BUSY = false) (hown : s.pfOwns a.who p = true) :
    ∃ t, guardUnit (c < 288) (s.ctxAccWrite a c (setF v CTX_ACC_CMD.OP.lo CTX_ACC_CMD.OP.len (accOp write))) = .next t ∧
      t.rd (pgTile c) CTX_ACC_STATUS.BUSY = 1 ∧ (t.column c).accCmd = some (accCmdOf v write a.who) ∧ t.ctx = s.ctx := by
  have hbody := State.ctxAccBody_starts (s := s.respond .ok 0) (a := a) write hp hidle hown
  have hsame := State.gatedWrite_steady (body := fun s => s.ctxAccBody a c _) (pageOf_pgTile hc) (ctxAccCmd_steady c) hg hbody
  refine ⟨_, guardUnit_true _ (decide_eq_true hc), ?_⟩
  rw [State.ctxAccWrite, State.gatedWriteW_admitted hdeny, hsame.rd, hsame.column, hsame.ctx]
  exact ⟨State.startAcc_busy .., State.startAcc_accCmd .., rfl⟩

/-! ### The end of an access command (R179) -/

/-- The state with other rows in the store. -/
def State.withCtx (s : State) (m : SMap CtxRow) : State := { s with ctx := m }

/-- Upsets change rows of the store alone. -/
theorem State.upsetRows_result (s : State) (c : Nat) (us : List RowUpset) : ∃ m, s.upsetRows c us = s.withCtx m := by
  refine List.foldlRecOn us _ (motive := fun t => ∃ m, t = State.withCtx s m) ⟨s.ctx, rfl⟩ fun t ht u _ => ?_
  obtain ⟨m, rfl⟩ := ht
  exact ⟨_, rfl⟩

theorem exec_ctxAccDone (s : State) {c : Nat} {us : List RowUpset} (hc : c < 288)
    (hus : us.all (fun u => u.slot < 259 && u.row < 8) = true) :
    exec (.ctxAccDone c us) s = .next ((s.upsetRows c us).accDone c) :=
  guardUnit_true _ (by rw [hus, decide_eq_true hc]; rfl)

theorem State.accResult_status (s : State) (c : Nat) {r : Nat} (hr : r < 16) :
    (s.accResult c r).rd (pgTile c) CTX_ACC_STATUS.BUSY = 0 ∧ (s.accResult c r).rd (pgTile c) CTX_ACC_STATUS.RESULT = r := by
  refine ⟨(State.rd_wr_fld _ _ CTX_ACC_STATUS.RESULT CTX_ACC_STATUS.BUSY _ rfl (by decide)).trans ?_, ?_⟩
  · exact State.rd_wr_same _ _ CTX_ACC_STATUS.BUSY _ (by decide)
  · exact (State.rd_wr_same _ _ CTX_ACC_STATUS.RESULT _ (by decide)).trans (Nat.mod_eq_of_lt hr)

theorem State.accResult_column (s : State) (c r : Nat) : (s.accResult c r).column c = { s.column c with accCmd := none } :=
  State.setColumn_column_same ..

theorem State.accResult_ctx (s : State) (c r : Nat) : (s.accResult c r).ctx = s.ctx := rfl

theorem State.readRow_good {s : State} {c i r : Nat} (h : (s.ctxRow c i r).a.good = true) :
    s.readRow c i r false = ((s.ctxRow c i r).a.row, .ok, s) := by
  simp [State.readRow, h]

section
variable {s : State} {c : Nat} {m : AccCmd} (hm : (s.column c).accCmd = some m) (hoff : (s.column c).off = false)
include hm hoff

/-- A read of a row that is not VALID. -/
theorem State.accDone_empty (hw : m.write = false) (hi : m.slot < 256) (hv : s.quarterValid c m.slot (m.row / 2) = false) :
    s.accDone c = (s.fillBuf c m.who 0).accResult c 3 := by
  simp [State.accDone, hm, hoff, hw, hi, hv]

theorem State.accDone_reads (hw : m.write = false) (hv : m.slot < 256 → s.quarterValid c m.slot (m.row / 2) = true)
    (hgood : (s.ctxRow c m.slot m.row).a.good = true) :
    s.accDone c = (s.fillBuf c m.who (s.ctxRow c m.slot m.row).a.row).accResult c 0 := by
  have hvalid : ¬ (m.slot < 256 ∧ s.quarterValid c m.slot (m.row / 2) = false) := fun h =>
    absurd ((hv h.1).symm.trans h.2) (by decide)
  rw [State.accDone, hm]
  refine (if_neg (ne_true_of_eq_false hoff)).trans ((if_neg (ne_true_of_eq_false hw)).trans ((if_neg hvalid).trans ?_))
  rw [State.readRow_good hgood]
  rfl

theorem State.accDone_live (hw : m.write = true) (hl : s.writeLive c m = true) : s.accDone c = s.accResult c 4 := by
  simp [State.accDone, hm, hoff, hw, hl]

theorem State.accDone_stores (hw : m.write = true) (hl : s.writeLive c m = false) :
    s.accDone c = (s.storeRow c m.slot m.row (rowOfBuf (s.column c).buf)).accResult c 0 := by
  simp [State.accDone, hm, hoff, hw, hl]

end

theorem ctxAccDone_reads (s : State) (c : Nat) (m : AccCmd) (us : List RowUpset) (hc : c < 288)
    (hus : us.all (fun u => u.slot < 259 && u.row < 8) = true) (hm : (s.column c).accCmd = some m) (hoff : (s.column c).off = false)
    (hw : m.write = false) (hv : m.slot < 256 → s.quarterValid c m.slot (m.row / 2) = true)
    (hgood : ((s.upsetRows c us).ctxRow c m.slot m.row).a.good = true) :
    ∃ t, exec (.ctxAccDone c us) s = .next t ∧ t.rd (pgTile c) CTX_ACC_STATUS.BUSY = 0 ∧ t.rd (pgTile c) CTX_ACC_STATUS.RESULT = 0 ∧
      (t.column c).holder = some m.who ∧ (t.column c).buf = bufOfRow ((s.upsetRows c us).ctxRow c m.slot m.row).a.row ∧
      (t.column c).accCmd = none ∧ t.ctx = (s.upsetRows c us).ctx := by
  refine ⟨_, exec_ctxAccDone s hc hus, ?_⟩
  obtain ⟨rows, hupset⟩ := s.upsetRows_result c us
  rw [hupset] at hgood ⊢
  rw [State.accDone_reads (s := s.withCtx rows) hm hoff hw hv hgood]
  obtain ⟨hbusy, hresult⟩ := ((s.withCtx rows).fillBuf c m.who ((s.withCtx rows).ctxRow c m.slot m.row).a.row).accResult_status c
    (r := 0) (by decide)
  refine ⟨hbusy, hresult, ?_, ?_, ?_, rfl⟩
  all_goals rw [State.accResult_column, State.fillBuf, State.setColumn_column_same]

theorem ctxAccDone_empty (s : State) (c : Nat) (m : AccCmd) (hc : c < 288) (hm : (s.column c).accCmd = some m)
    (hoff : (s.column c).off = false) (hw : m.write = false) (hi : m.slot < 256)
    (hv : s.quarterValid c m.slot (m.row / 2) = false) :
    ∃ t, exec (.ctxAccDone c []) s = .next t ∧ t.rd (pgTile c) CTX_ACC_STATUS.BUSY = 0 ∧ t.rd (pgTile c) CTX_ACC_STATUS.RESULT = 3 ∧
      t.ctx = s.ctx := by
  have hexec := (exec_ctxAccDone (us := []) s hc rfl).trans (congrArg Host.Outcome.next (State.accDone_empty hm hoff hw hi hv))
  obtain ⟨hbusy, hresult⟩ := State.accResult_status (s.fillBuf c m.who 0) c (r := 3) (by decide)
  exact ⟨_, hexec, hbusy, hresult, rfl⟩

theorem ctxAccDone_stores (s : State) (c : Nat) (m : AccCmd) (us : List RowUpset) (hc : c < 288)
    (hus : us.all (fun u => u.slot < 259 && u.row < 8) = true) (hm : (s.column c).accCmd = some m) (hoff : (s.column c).off = false)
    (hw : m.write = true) (hl : s.writeLive c m = false) :
    ∃ t, exec (.ctxAccDone c us) s = .next t ∧ t.rd (pgTile c) CTX_ACC_STATUS.BUSY = 0 ∧ t.rd (pgTile c) CTX_ACC_STATUS.RESULT = 0 ∧
      t.ctxRow c m.slot m.row = ⟨freshCopy (rowOfBuf (s.column c).buf), freshCopy (rowOfBuf (s.column c).buf)⟩ ∧
      (t.column c).accCmd = none := by
  refine ⟨_, exec_ctxAccDone s hc hus, ?_⟩
  obtain ⟨rows, hupset⟩ := s.upsetRows_result c us
  rw [hupset, State.accDone_stores (s := s.withCtx rows) hm hoff hw hl]
  obtain ⟨hbusy, hresult⟩ := ((s.withCtx rows).storeRow c m.slot m.row (rowOfBuf (s.column c).buf)).accResult_status c
    (r := 0) (by decide)
  refine ⟨hbusy, hresult, ?_, by rw [State.accResult_column]⟩
  exact (State.ctxRow_storeRow ..).trans (if_pos ⟨rfl, hoff⟩)

theorem ctxAccDone_live (s : State) (c : Nat) (m : AccCmd) (hc : c < 288) (hm : (s.column c).accCmd = some m)
    (hoff : (s.column c).off = false) (hw : m.write = true) (hl : s.writeLive c m = true) :
    ∃ t, exec (.ctxAccDone c []) s = .next t ∧ t.rd (pgTile c) CTX_ACC_STATUS.BUSY = 0 ∧ t.rd (pgTile c) CTX_ACC_STATUS.RESULT = 4 ∧
      t.ctx = s.ctx := by
  have hexec := (exec_ctxAccDone (us := []) s hc rfl).trans (congrArg Host.Outcome.next (State.accDone_live hm hoff hw hl))
  obtain ⟨hbusy, hresult⟩ := s.accResult_status c (r := 4) (by decide)
  exact ⟨_, hexec, hbusy, hresult, rfl⟩

/-! ### The row buffer (R41, R178) -/

/-- AUTOINC moves the index of the buffer alone. -/
theorem State.bufAdvance_frame (s : State) (c : Nat) :
    (s.bufAdvance c).columns = s.columns ∧ (s.bufAdvance c).ctx = s.ctx := by
  simp only [State.bufAdvance]
  split <;> exact ⟨rfl, rfl⟩

theorem ctxBufDataWrite_stores (s : State) (a : Access) (c : Nat) (v : Word) (hc : c < 288)
    (hg : s.writeGate a (pgTile c) CTX_BUF_DATA.DATA.off v = .pass) :
    ∃ t, exec (.ctxBufDataWrite a c v) s = .next t ∧ (t.column c).holder = some (whoKey a.who) ∧
      mget (fun _ => 0) (t.column c).buf (s.rd (pgTile c) CTX_BUF_INDEX.WORD) = v ∧ t.ctx = s.ctx := by
  have hsame := State.gatedWrite_steady (body := fun s => some (s.bufWriteBody a c v)) (pageOf_pgTile hc) (ctxBufData_steady c) hg rfl
  refine ⟨_, guardUnit_true _ (decide_eq_true hc), ?_⟩
  rw [hsame.column, hsame.ctx, State.bufWriteBody]
  obtain ⟨hcolumns, hctx⟩ := State.bufAdvance_frame ((s.respond .ok 0).setColumn c { s.column c with
    buf := mset (fun _ => 0) (if (s.column c).holder = some (whoKey a.who) then (s.column c).buf else [])
      (s.rd (pgTile c) CTX_BUF_INDEX.WORD) v
    holder := some (whoKey a.who) }) c
  have hcolumn := (State.column_congr hcolumns c).trans (State.setColumn_column_same ..)
  exact ⟨congrArg Column.holder hcolumn, (congrArg (fun x => mget _ (Column.buf x) _) hcolumn).trans (mget_mset_same ..), hctx⟩

theorem ctxBufDataRead_returns (s : State) (a : Access) (c : Nat) (hc : c < 288)
    (hs : s.shows a.who (pgTile c) CTX_BUF_DATA.DATA.off) :
    ∃ t, exec (.ctxBufDataRead a c) s = .next t ∧ t.columns = s.columns ∧
      t.resp = ⟨.ok, if (s.column c).holder = some (whoKey a.who) then
        (mget (fun _ => 0) (s.column c).buf (s.rd (pgTile c) CTX_BUF_INDEX.WORD)).toNat else 0⟩ := by
  have hexec := (guardUnit_true _ (decide_eq_true hc)).trans
    (congrArg Host.Outcome.next (State.gatedRead_pass (fun s => s.bufReadBody a c) hs))
  refine ⟨_, hexec, (s.bufAdvance_frame c).1, ?_⟩
  exact congrArg (Resp.mk .ok) (apply_ite BitVec.toNat _ _ _)

/-! ### CTX_SPLIT (R156, R163) -/

/-- The register has the field LOWER alone. -/
theorem ctxSplit_rows (c : Nat) : rowsAt .tile c CTX_SPLIT.LOWER.off = [⟨CTX_SPLIT.LOWER, 1, .rw, 0x80, clPC, [(0, 256)]⟩] := rfl

/-- CTX_SPLIT takes the written share. -/
theorem State.storeReg_split (s : State) {c : Nat} (v : Word) (hc : c < 288) :
    (s.storeReg (pgTile c) CTX_SPLIT.LOWER.off v).lowerShare c = getF v CTX_SPLIT.LOWER.lo CTX_SPLIT.LOWER.len := by
  have hstore : s.storeReg (pgTile c) CTX_SPLIT.LOWER.off v =
      s.wr (pgTile c) CTX_SPLIT.LOWER (getF v CTX_SPLIT.LOWER.lo CTX_SPLIT.LOWER.len) := by
    simp only [State.storeReg, pageOf_pgTile hc, ctxSplit_rows]
    rfl
  rw [hstore, State.lowerShare, State.rd_wr_same _ _ _ _ (by decide)]
  exact Nat.mod_mod _ _

theorem State.storeReg_frame (s : State) (pg off : Nat) (v : Word) : ∃ r, s.storeReg pg off v = { s with regs := r } := by
  unfold State.storeReg
  split <;> exact ⟨_, rfl⟩

/-- An entry that is not kept reads as unlisted. -/
theorem mget_mkeep_dropped {α : Type} (d : Nat → α) (keep : Nat → Bool) (m : SMap α) {k : Nat} (h : keep k = false) :
    mget d (mkeep keep m) k = d k := by
  refine mget_unlisted d _ k (List.all_eq_true.mpr fun e he => bne_iff_ne.mpr fun hk => ?_)
  rw [mkeep, List.mem_filter, hk, h] at he
  exact Bool.false_ne_true he.2

/-- The state with the NEXT entries of column `c` at their defaults. -/
def State.resetNext (s : State) (c : Nat) : State :=
  { s with ctxNext := mkeep (fun k => !(260 * c ≤ k && k < 260 * c + 260)) s.ctxNext }

theorem State.resetNext_default (s : State) (c : Nat) {i : Nat} (hi : i < 260) : nget (s.resetNext c).ctxNext (260 * c + i) = 0 :=
  mget_mkeep_dropped (fun _ => 0) (fun k => !(260 * c ≤ k && k < 260 * c + 260)) s.ctxNext (by simp [hi])

theorem State.splitBody_free {s : State} {a : Access} {c : Nat} {v : Word} (hlow : s.committed c = false)
    (hupp : s.committed (288 + c) = false) (hbusy : s.tileBusy c = false) (hown : s.pfOwns a.who c = true)
    (hown' : s.pfOwns a.who (288 + c) = true) :
    s.splitBody a c v = some (if (s.storeReg (pgTile c) CTX_SPLIT.LOWER.off v).lowerShare c = s.lowerShare c then
      s.storeReg (pgTile c) CTX_SPLIT.LOWER.off v else (s.storeReg (pgTile c) CTX_SPLIT.LOWER.off v).resetNext c) := by
  have hfree : ¬ (s.committed c = true ∨ s.committed (288 + c) = true ∨ s.tileBusy c = true ∨ s.pfOwns a.who c = false ∨
      s.pfOwns a.who (288 + c) = false) := by
    simp [hlow, hupp, hbusy, hown, hown']
  rw [State.splitBody, if_neg hfree, apply_ite some]
  rfl

theorem ctxSplitWrite_splits (s : State) (a : Access) (c : Nat) (v : Word) (hc : c < 288)
    (hg : s.writeGate a (pgTile c) CTX_SPLIT.LOWER.off v = .pass) (hlow : s.committed c = false)
    (hupp : s.committed (288 + c) = false) (hbusy : s.tileBusy c = false) (hown : s.pfOwns a.who c = true)
    (hown' : s.pfOwns a.who (288 + c) = true) :
    ∃ t, exec (.ctxSplitWrite a c v) s = .next t ∧ t.lowerShare c = getF v CTX_SPLIT.LOWER.lo CTX_SPLIT.LOWER.len ∧
      (getF v CTX_SPLIT.LOWER.lo CTX_SPLIT.LOWER.len ≠ s.lowerShare c → ∀ i, i < 260 → nget t.ctxNext (260 * c + i) = 0) ∧
      t.ctx = s.ctx := by
  have hbody := State.splitBody_free (s := s.respond .ok 0) (a := a) (v := v) hlow hupp hbusy hown hown'
  have hsame := State.gatedWrite_steady (body := fun s => s.splitBody a c v) (pageOf_pgTile hc) (ctxSplit_steady c) hg hbody
  refine ⟨_, guardUnit_true _ (decide_eq_true hc), ?_⟩
  have hshare := (s.respond .ok 0).storeReg_split v hc
  obtain ⟨r, hstore⟩ := (s.respond .ok 0).storeReg_frame (pgTile c) CTX_SPLIT.LOWER.off v
  rw [State.lowerShare, hsame.rd, hsame.ctxNext, hsame.ctx, hshare]
  split
  case isTrue h => exact ⟨hshare, fun hne => absurd h hne, by rw [hstore]; rfl⟩
  case isFalse => exact ⟨hshare, fun _ i hi => State.resetNext_default _ c hi, by rw [hstore]; rfl⟩

/-- Settles O18: each of its clauses is the lemma about its command. -/
theorem contextStoreAccess : Obligations.ContextStoreAccess :=
  ⟨fun _ _ _ _ _ => State.ctxAccWrite_starts false, fun _ _ _ _ _ => State.ctxAccWrite_starts true, ctxAccDone_reads, ctxAccDone_empty,
    ctxAccDone_stores, ctxAccDone_live, ctxBufDataWrite_stores, ctxBufDataRead_returns, ctxSplitWrite_splits⟩

end Sys2Proof.Machine

namespace Sys2Proof.Machine

open Sys2Proof

/-! ### A register listed at its reset value (R210, R221)

A staged word of an entry, and a write of BRIDLE_STAGE_DATA, change no register; the statements say so of the table that lists the registers.
A write in whose cycle the hardware acts on the register (`Access.same`) writes the register back (R11), and `mset` lists no register that
holds its reset value. A state may list one (`State.wf` excludes it): the write then leaves a shorter table, in which every register reads as
before. -/

/-- The device after reset, its Bridle ready, with a table that lists the register at `addr` although it holds its reset value. -/
def relisted (addr : Nat) : State :=
  { State.reset with regs := [(pgReady * 4096 + READY_SUM.BRIDLE.off, 2 ^ READY_SUM.BRIDLE.lo), (addr, regReset addr)] }

/-- A write of the supervisor in whose cycle the hardware acts on the register. -/
def metWrite : Access := { who := .supervisor, same := 1 }

/-- An entry at its reset value is not listed again. -/
theorem mset_reset_unlists {α : Type} [DecidableEq α] (d : Nat → α) {r a : Nat} (x : α) (h : r < a) :
    mset d [(r, x), (a, d a)] a (d a) = [(r, x)] := by
  simp [mset, mdrop, Nat.lt_asymm h, Nat.ne_of_gt h]

/-- The register holds the value at which it is listed. -/
theorem relisted_reg {addr : Nat} (h : pgReady * 4096 + READY_SUM.BRIDLE.off < addr) : (relisted addr).reg addr = regReset addr := by
  simp [relisted, State.reg, mget, Nat.lt_asymm h, Nat.ne_of_gt h]

/-- An admitted write whose own effect leaves the table of registers alone drops the register from it. -/
theorem relisted_gatedWrite {t : State} {pg off i : Nat} {k : PageKind} {v : Word} {body : State → Option State}
    (haddr : pgReady * 4096 + READY_SUM.BRIDLE.off < pg * 4096 + off) (hrig : pg ≠ pgRig) (hintc : pg ≠ pgIntc 1)
    (hp : pageOf pg = some (k, i)) (hsteady : (rowsAt k i off).all FieldRow.steady = true)
    (hg : (relisted (pg * 4096 + off)).writeGate metWrite pg off v = .pass)
    (hb : body ((relisted (pg * 4096 + off)).respond .ok 0) = some t) (ht : t.regs = (relisted (pg * 4096 + off)).regs) :
    ((relisted (pg * 4096 + off)).gatedWrite metWrite pg off v body).regs ≠ (relisted (pg * 4096 + off)).regs := by
  have hreg : t.reg (pg * 4096 + off) = regReset (pg * 4096 + off) := by
    rw [State.reg, ht]; exact relisted_reg haddr
  have hback : (relisted (pg * 4096 + off)).gatedWrite metWrite pg off v body =
      t.setReg (pg * 4096 + off) (regReset (pg * 4096 + off)) := by
    rw [State.gatedWrite, hg]
    simp [hb, State.withSame, metWrite, hrig, hp, State.homePage, hintc, keepSame_steady _ _ _ _ hsteady, hreg]
  have hregs : (t.setReg (pg * 4096 + off) (regReset (pg * 4096 + off))).regs =
      [(pgReady * 4096 + READY_SUM.BRIDLE.off, 2 ^ READY_SUM.BRIDLE.lo)] := by
    rw [State.setReg, ht]
    exact mset_reset_unlists regReset _ haddr
  rw [hback, hregs]
  simp [relisted]

theorem exec_markStage (s : State) (a : Access) {i w : Nat} (v : Word) (hi : i < 16384) (hw : 1 ≤ w) (hw' : w < 7) :
    exec (.markStage a i w v) s = .next
      (s.gatedWrite a (markAddr i w / 4096) (markAddr i w % 4096) v fun s => some (s.stageWord (stageKey a.who false) i w v)) :=
  guardUnit_true _ (by simp [hi, hw, hw'])

theorem relisted_markStage_admitted :
    (relisted (markAddr 0 1)).writeGate metWrite (markAddr 0 1 / 4096) (markAddr 0 1 % 4096) 0 = .pass := by decide +kernel

/-- Refutes O24: its clause on the staged word of a mark entry fails where the table lists the entry's register at its reset value. -/
theorem not_markAndActionEntries : ¬ Obligations.MarkAndActionEntries := by
  rintro ⟨stage, -⟩
  obtain ⟨t, ht, -, hregs, -⟩ := stage (relisted (markAddr 0 1)) metWrite 0 1 0 (by decide) (by decide) (by decide) relisted_markStage_admitted
  obtain rfl := Host.Outcome.next.inj ((exec_markStage _ metWrite 0 (by decide) (by decide) (by decide)).symm.trans ht)
  exact relisted_gatedWrite (pg := markAddr 0 1 / 4096) (off := markAddr 0 1 % 4096) (by decide) (by decide) (by decide) rfl (by decide)
    relisted_markStage_admitted rfl rfl hregs

theorem relisted_stageData_admitted :
    (relisted (pgBridle * 4096 + BRIDLE_STAGE_DATA.VALUE.off)).writeGate metWrite pgBridle BRIDLE_STAGE_DATA.VALUE.off 0 = .pass := by
  decide +kernel

/-- Refutes O26: its clause on BRIDLE_STAGE_DATA fails where the table lists that register at its reset value. -/
theorem not_actionsAndStageRegisters : ¬ Obligations.ActionsAndStageRegisters := by
  rintro ⟨-, -, stage, -⟩
  obtain ⟨t, ht, -, -, hregs⟩ := stage (relisted (pgBridle * 4096 + BRIDLE_STAGE_DATA.VALUE.off)) metWrite 0 relisted_stageData_admitted
  obtain rfl := Host.Outcome.next.inj ht
  exact relisted_gatedWrite (body := stageDataBody 0) (by decide) (by decide) (by decide) rfl (by decide) relisted_stageData_admitted rfl rfl
    hregs

/-! ### A trailing edge that names a mark (R225 to R227)

The statement puts nothing on the edges of the pins. A predictive edge is a leading one, a trailing edge is scheduled when its leading edge is
driven and names no mark (R220); a state may hold one that does. The cancellation of a firing leaves trailing edges (R229), so that one still
waits for the mark's lock afterwards. -/

/-- A predictive edge of a mark waits at a precision pin. -/
theorem State.mem_unlocked {s : State} {m k : Nat} {e : PinEdge} (hk : k < 64) (he : e ∈ (s.pin (precPin k)).edges)
    (hm : e.pred = some m) : (precPin k, e) ∈ s.unlocked m := by
  refine List.mem_flatMap.mpr ⟨k, List.mem_range.mpr hk, List.mem_map.mpr ⟨e, List.mem_filter.mpr ⟨he, ?_⟩, rfl⟩⟩
  rw [hm, beq_self_eq_true]

/-- A trailing edge is not cancelled at its pin. -/
theorem State.cancelPinEdges_keeps_trailing {s : State} {j : Nat} {e : PinEdge} (n : Nat) (p : PinEdge → Bool)
    (he : e ∈ (s.pin j).edges) (hop : e.op = 4) : e ∈ ((s.cancelPinEdges n p).1.pin j).edges := by
  rw [State.cancelPinEdges, State.setPin_pin]
  split
  case isTrue h => subst h; exact List.mem_filter.mpr ⟨he, by simp [hop]⟩
  case isFalse => exact he

theorem State.cancelEdges_keeps_trailing {s : State} {j : Nat} {e : PinEdge} (p : PinEdge → Bool) (he : e ∈ (s.pin j).edges)
    (hop : e.op = 4) : e ∈ ((s.cancelEdges p).1.pin j).edges :=
  List.foldlRecOn (List.range 64) _ (motive := fun a : State × Nat => e ∈ (a.1.pin j).edges) he fun _ ha k _ =>
    State.cancelPinEdges_keeps_trailing (precPin k) p ha hop

theorem State.pin_congr {s t : State} (h : t.pins = s.pins) (n : Nat) : t.pin n = s.pin n := by rw [State.pin, h, State.pin]

theorem State.putMarkBit_pins (s : State) (i b : Nat) (v : Bool) : (s.putMarkBit i b v).pins = s.pins := by
  simp only [State.putMarkBit]
  split <;> rfl

/-- The cancellation of a firing leaves trailing edges. -/
theorem State.cancelPred_keeps_trailing {s : State} {j : Nat} {e : PinEdge} (f : PredFire) (he : e ∈ (s.pin j).edges) (hop : e.op = 4) :
    e ∈ ((s.cancelPred f).pin j).edges := by
  rw [State.cancelPred, State.raiseBridle, State.pin_congr (State.raise_pins ..), State.pin_congr (State.inc_pins ..)]
  refine State.cancelEdges_keeps_trailing _ ?_ hop
  rwa [State.pin_congr (State.putMarkBit_pins ..), State.pin_congr (State.putMarkBit_pins ..)]

/-- A dispatched firing of mark 0 of track 0, which stands still. -/
def stillFiring : PredFire := { mark := 0, at_ := 0, track := 0, target := 0, fwd := true, dispatched := true }

/-- A trailing edge that names mark 0. -/
def namedTrailing : PinEdge := { at8 := 0, op := 4, track := 0, pred := some 0 }

/-- The state after reset, but for the firing and, at the first precision pin, the edge. -/
def trailingState : State := { State.reset with bridle := { preds := [stillFiring] } }.setPin (precPin 0) { edges := [namedTrailing] }

theorem trailingState_edge : namedTrailing ∈ (trailingState.pin (precPin 0)).edges := by
  rw [trailingState, State.setPin_pin_same]
  exact List.mem_singleton.mpr rfl

theorem exec_predictLock_broken {s : State} {k m : Nat} {f : PredFire} (hk : k < 64) (hm : m < 16384)
    (hf : s.bridle.preds.find? (fun t => t.mark == m && t.track == k && t.dispatched) = some f) (hb : s.predBroken f = true) :
    exec (.predictLock k m) s = .next (s.cancelPred f) := by
  refine (guardUnit_true _ (by simp [hk, hm])).trans (congrArg Host.Outcome.next ?_)
  simp [hf, hb]

/-- Refutes O25: its clause on a firing whose conditions have broken fails where a trailing edge names the mark. -/
theorem not_markFirings : ¬ Obligations.MarkFirings := by
  rintro ⟨-, -, -, cancel, -⟩
  have hfound : trailingState.bridle.preds.find? (fun t => t.mark == 0 && t.track == 0 && t.dispatched) = some stillFiring := rfl
  have hbroken : trailingState.predBroken stillFiring = true := by decide
  obtain ⟨t, ht, -, -, -, hnone, -⟩ := cancel trailingState 0 0 stillFiring (by decide) (by decide) hfound hbroken
  obtain rfl := Host.Outcome.next.inj ((exec_predictLock_broken (by decide) (by decide) hfound hbroken).symm.trans ht)
  have hwaits := State.mem_unlocked (m := 0) (by decide) (State.cancelPred_keeps_trailing stillFiring trailingState_edge rfl) rfl
  rw [hnone] at hwaits
  exact List.not_mem_nil hwaits

end Sys2Proof.Machine

namespace Sys2Proof.Machine

open Sys2Proof

/-! ### An injection that is armed for the twin's line (R269, R282)

The statement on an admitted write asks that no injection is armed in the tile of the written bank. The twin of a mirrored page lies in another
tile: an injection armed there for the twin's line, in mode STORED, inverts a bit of the copy that the mirror writes. -/

/-- Page 0 of bank 2, which is ready, is mirrored in bank 1, and an injection is armed for bit 0 of line 0 of bank 1. -/
def armedTwin : State :=
  (((((State.reset.setBank 2 { ready := true }).wr (pgMirror 0) BANK_MIRROR_CTRL.PARTNER 2).wr (pgMirror 0) BANK_MIRROR_CTRL.PAGES 1).wr
    (pgMirror 0) BANK_MIRROR_CTRL.ENABLE 1).wr (pgTile 0) BANK_ERR_INJECT.ARM 1).wr (pgTile 0) BANK_ERR_INJECT.BANK 1

/-- The number of line 0 of bank 2, of which line 0 of bank 1 is the twin. -/
def mirroredLine : Nat := 8192 * 2

/-- A line of zeros. -/
def zeroLine : List Byte := List.replicate 64 0

/-- The state after the supervisor has written a line of zeros there. -/
def armedTwinWritten : State := armedTwin.bankAccess .supervisor true (lineAddr mirroredLine) 64 zeroLine []

theorem exec_write_armedTwin :
    exec (.bankWrite (.rig .supervisor (lineAddr mirroredLine) 64) zeroLine []) armedTwin = .next armedTwinWritten := rfl

theorem linesOf_mirroredLine : linesOf (lineAddr mirroredLine) 64 = [mirroredLine] := by decide

/-- The bank admits the write, and no injection is armed in its tile. -/
theorem armedTwin_admits : armedTwin.bankHolds .supervisor true (lineAddr mirroredLine) 64 .fresh = false ∧
    (armedTwin.bank (lineAddr mirroredLine / 0x80000)).accessCode (pageAt (lineAddr mirroredLine)) (pageAt (lineAddr mirroredLine + (64 - 1))) = 0 ∧
    armedTwin.on (pgTile (lineAddr mirroredLine / 0x80000 / 2)) BANK_ERR_INJECT.ARM = false := by decide +kernel

theorem armedTwin_mirrored : armedTwin.mirrored (lineAddr mirroredLine / 0x80000) (linePage mirroredLine) = true := by decide +kernel

/-- The injection has inverted bit 0 of the twin's copy. -/
theorem armedTwinWritten_differs :
    armedTwinWritten.memBytes (lineAddr (twinLine mirroredLine)) 64 ≠ armedTwinWritten.memBytes (lineAddr mirroredLine) 64 := by
  decide +kernel

/-- Refutes O38: its clause on an admitted write fails where an injection is armed for the twin's line. -/
theorem not_bankReadsAndWrites : ¬ Obligations.BankReadsAndWrites := by
  rintro ⟨-, write, -⟩
  obtain ⟨hheld, hcode, harm⟩ := armedTwin_admits
  obtain ⟨t, ht, -, -, -, hlines, -⟩ := write armedTwin .supervisor (lineAddr mirroredLine) 64 zeroLine (by decide) rfl rfl hheld (by simp)
    (fun _ => rfl) hcode rfl harm (fun _ _ => rfl) (fun _ _ => List.not_mem_nil)
  obtain rfl := Host.Outcome.next.inj (exec_write_armedTwin.symm.trans ht)
  obtain ⟨-, htwin⟩ := hlines mirroredLine (linesOf_mirroredLine ▸ List.mem_singleton_self _)
  exact armedTwinWritten_differs (htwin armedTwin_mirrored)

/-! ### A supervisor's access that waits at a bank in a handover (R260, R261, R275)

The supervisor is no owner: an access of its own that waits for a block under test is none of the old owner's, and the timeout of a handover
leaves it waiting. -/

@[simp] theorem State.add_bank (s : State) (pg : Nat) (f : Fld) (n b : Nat) : (s.add pg f n).bank b = s.bank b := rfl
@[simp] theorem State.setPackets_bank (s : State) (ps : List Packet) (b : Nat) : (s.setPackets ps).bank b = s.bank b := rfl

@[simp] theorem State.foldl_respond_bank (qs : List HeldAccess) (s : State) (b : Nat) :
    (qs.foldl (fun s q => s.respond (bankStatus q.who 5) 0) s).bank b = s.bank b :=
  foldl_keeps (State.bank · b) (fun s q => s.respond (bankStatus q.who 5) 0) (fun _ _ => rfl) qs s

/-- The timeout leaves the accesses that wait at the bank and are not of the old owner. -/
theorem handoverTimeout_held {s t : State} {h : Handover} (hh : s.handover = some h) (hlate : 1000 ≤ s.ns - h.at_)
    (ht : exec .handoverTimeout s = .next t) : (t.bank h.bank).held = (s.bank h.bank).held.filter (fun q => !q.old) := by
  change execHandoverTimeout s = _ at ht
  simp only [execHandoverTimeout, hh, Nat.not_lt.mpr hlate, if_false] at ht
  obtain rfl := Host.Outcome.next.inj ht
  rw [State.add_bank, State.setPackets_bank, State.foldl_respond_bank, State.setBank_bank_same]

/-- The device 1 µs after the write of a handover of bank 0, at which an access of the supervisor waits for the block under test. -/
def supervisorWaits : State :=
  { State.reset with ns := 1000, handover := some { bank := 0, kind := 2, part := 1, engine := 0, at_ := 0 } }.setBank 0
    { ready := true, testing := some 0, held := [⟨.supervisor, false, 0, 1, [], .taken 0⟩] }

/-- Refutes O39: its clause on HANDOVER_TIMEOUT fails where an access of the supervisor waits at the bank. -/
theorem not_bankOwnersAndRetirement : ¬ Obligations.BankOwnersAndRetirement := by
  rintro ⟨-, timeout, -⟩
  obtain ⟨t, ht, hheld, -⟩ := timeout supervisorWaits _ rfl (by decide)
  have hstays := handoverTimeout_held (h := { bank := 0, kind := 2, part := 1, engine := 0, at_ := 0 }) rfl (by decide) ht
  rw [hheld] at hstays
  exact absurd hstays (by decide)

/-! ### A memory whose numbers do not rise (R276)

The statement puts nothing on the memory. `mset` keeps its numbers rising and `mget` stops at the first number above the one it looks for; a
state may list a byte behind one of a higher number (`State.wf` excludes it), where it reads 0. The initialisation of the bank of the higher
number drops that entry, and the byte behind it shows. -/

/-- Bank 1 is to be initialised, and byte 0 of bank 0 is listed behind byte 0 of bank 1. -/
def hiddenByte : State := { State.reset with initRunning := true, mem := [(0x80000, 1), (0, 1)] }

theorem State.reachStage_mem (s : State) (b : Fld) : (s.reachStage b).mem = s.mem := by
  rw [State.reachStage]
  split <;> rfl

/-- Initialisation drops the bytes of the bank's pages that are not retired. -/
theorem bankInitDone_mem {s t : State} {b : Nat} (hb : b < 576) (hr : s.initRunning = true) (hready : (s.bank b).ready = false)
    (hf : (s.bank b).failed = false) (ht : exec (.bankInitDone b) s = .next t) :
    t.mem = mkeep (fun a => a / 0x80000 != b || bitOf (s.bank b).retired (pageAt a)) s.mem := by
  obtain rfl := Host.Outcome.next.inj ((guardUnit_true _ (by simpa using hb)).symm.trans ht)
  simp only [hr, hready, hf, Bool.not_false, Bool.and_self, if_true]
  split
  · rw [State.reachStage_mem]; rfl
  · rfl

/-- Refutes O40: its clause on BANK_INIT_DONE fails where the memory lists a byte behind one of the bank. -/
theorem not_mirrorsTestsAndInitialisation : ¬ Obligations.MirrorsTestsAndInitialisation := by
  rintro ⟨-, -, -, -, -, -, -, -, -, init⟩
  obtain ⟨t, ht, -, -, hkept, -⟩ := init hiddenByte 1 (by decide) rfl rfl (by decide)
  have hmem : t.mem = [(0, 1)] := bankInitDone_mem (by decide) rfl rfl (by decide) ht
  have hbyte := hkept 0 (.inl (by decide))
  rw [State.memByte, hmem] at hbyte
  exact absurd hbyte (by decide)

/-! ### A Spool access that times out (R299, R325)

The list of rows that act on a Spool channel leaves out RIG_RESPONSE and RIG_TIMEOUT, which answer the channel's accesses: a TIMEOUT completion
halts the channel, and the access keeps its status. -/

/-- The read of a descriptor by channel 0, at the interface of Spool engine 0. -/
def fetchAccess : SpoolIo := { id := 0, phase := 1, write := false, host := false, addr := 0, bytes := 64 }

/-- The transaction that carries it. -/
def fetchTag : RigTag := { at_ := 0, dev := 0, target := 0, note := some (.spool 0 0), cls := 1, write := false, epoch := 0, bytes := 64 }

/-- Channel 0, ACTIVE, reads its descriptor, and the timeout of the transaction has passed. -/
def fetchOverdue : State :=
  (({ State.reset with ns := 1000 * 0xFFFF }.setRigInit 7 { tags := [(0, fetchTag)] }).setChan 0 { io := [fetchAccess] }).setChState 0 chActive

theorem exec_rigTimeout_due {s : State} {i tag : Nat} {t : RigTag} (hi : i < 90) (htag : tag < 64) (hl : lget (s.rigInit i).tags tag = some t)
    (hq : t.quarantined = false) (hdue : s.initTimeout i ≤ s.ns - t.at_) (hr : s.responseHere i tag = false) :
    exec (.rigTimeout i tag) s = .next (s.timeOut i tag) := by
  refine (guardUnit_true _ (by simp [hi, htag])).trans (congrArg Host.Outcome.next ?_)
  simp [hl, hq, hdue, hr]

theorem exec_fetchOverdue : exec (.rigTimeout 7 0) fetchOverdue = .next (fetchOverdue.timeOut 7 0) :=
  exec_rigTimeout_due (t := fetchTag) (by decide) (by decide) rfl rfl (by decide +kernel) rfl

/-- The access has been answered TIMEOUT. -/
theorem fetchOverdue_answered :
    ((fetchOverdue.timeOut 7 0).chan 0).io = [{ fetchAccess with out := false, answer := some rcTimeout }] := by decide +kernel

/-- Refutes O60: RIG_TIMEOUT is none of the rows listed for the Spool channels, and changes the channel whose access has timed out. -/
theorem not_keptByOtherCommands : ¬ Obligations.KeptByOtherCommands := by
  rintro ⟨kept, -⟩
  obtain ⟨-, -, -, -, channels, -⟩ := kept _ _ _ exec_fetchOverdue rfl
  have hio : ((fetchOverdue.timeOut 7 0).chan 0).io = [fetchAccess] := by rw [State.chan, channels rfl]; rfl
  rw [fetchOverdue_answered] at hio
  exact absurd hio (by decide)

end Sys2Proof.Machine
